-- ==== Sys2Proof/Word.lean ====
section
/-! DEFINITION. The word types of the register space (R466: registers are 64 bits wide) and of memory bytes. -/

namespace Sys2Proof

/-- A 64-bit register value (R466). -/
abbrev Word := BitVec 64

/-- A 32-bit value: a shuttle counter, an instruction, an FP32 bit pattern. -/
abbrev W32 := BitVec 32

/-- One byte of memory. -/
abbrev Byte := BitVec 8

end Sys2Proof
end

