-- ==== Sys2Proof/Syntax.lean ====
section
/-! DEFINITION. The commands of the block, one constructor for each row of the command table, and the types of what the outside
world supplies with them. -/

namespace Sys2Proof

/-- The requesters of the register space (R467, R468). -/
inductive Requester where
  | function (f : Fin 32)
  | tambour
  | debugPort
  deriving DecidableEq, Repr

/-- An update of a knot that may come from another device (R195, R352). -/
inductive RemoteOp where
  | set (v : W32)
  | add (v : W32)
  | fray
  /-- ARM with its threshold, target, return knot and the requesting device (R193). -/
  | arm (threshold : W32) (target : Nat) (returnKnot : Nat) (device : Nat)
  deriving DecidableEq, Repr

/-- A Bride transaction: the header of R346 and its payload. `address` is the 64-bit ADDRESS, `typ` the TYPE byte, `resFlags`
bits [7:6] of FLAGS, `cls` the ordering class its flits travel in. -/
structure Txn where
  dest : Nat
  src : Nat
  typ : Nat
  resync : Bool := false
  digest : Bool := false
  response : Bool := false
  resend : Bool := false
  poison : Bool := false
  abort : Bool := false
  resFlags : Nat := 0
  tag : Nat := 0
  seq : Nat := 0
  length : Nat := 0
  hops : Nat := 0
  tenant : Nat := 0
  address : Nat := 0
  arg : Nat := 0
  check : Nat := 0
  payload : List Byte := []
  cls : Nat := 0
  deriving DecidableEq, Repr

/-- A reply entry of a control flit (R328); `word` is bytes 8 to 10. -/
structure ReplyEntry where
  device : Nat
  tag : Nat
  count : Nat
  word : Nat
  flags : Nat
  deriving DecidableEq, Repr

/-- The tick block of a control flit (R325). -/
structure TickBlock where
  count : Nat := 0
  phase : Nat := 0
  len : Nat := 0
  flags : Nat := 0
  reserved : Nat := 0
  slip : Nat := 0
  eventBoundary : Nat := 0
  lenNext : Nat := 0
  lenChangeAt : Nat := 0
  deriving DecidableEq, Repr

/-- What a control flit carries in bytes 12 to 251 (R319). -/
structure ControlBody where
  credits : List Nat
  frame : Nat
  rxLanes : Nat
  txLanesNext : Nat
  switchFrame : Nat
  reserved : Nat := 0
  tick : TickBlock
  replies : List ReplyEntry
  replyCount : Nat
  deriving DecidableEq, Repr

/-- The body of a flit: 240 bytes of transport body, a control body, or nothing (R318). -/
inductive FlitBody where
  | idle
  | data (bytes : List Byte)
  | control (c : ControlBody)
  deriving DecidableEq, Repr

/-- A flit (R318): the link header's numbers as they stand in it, the body, and the link CRC. -/
structure Flit where
  kind : Nat
  cls : Nat := 0
  seq : Nat := 0
  tickKind : Nat := 0
  tickArg : Nat := 0
  ack : Nat := 0
  edgeBoundary : Nat := 0
  body : FlitBody
  crc : Nat
  deriving DecidableEq, Repr

/-- What the channel did to the stripe that a received flit is the first to touch (R314, R315): for each of the eight lanes, the
symbols of its codeword pair that arrived changed, by place 0 to 543 and by the value added. -/
structure FecInfo where
  changed : List (List (Nat × Nat)) := []
  deriving DecidableEq, Repr

/-- How the training of a port ended (R312, R313): the good lanes in each direction, the polarity and the physical place of
each receive lane, the round trip that the markers measured and the other end's turnaround in units of 0.25 ns, and the peer's
expected sequence number and credits. -/
structure Training where
  rxGood : BitVec 8
  txGood : BitVec 8
  inverted : BitVec 8 := 0
  physical : List Nat := [0, 1, 2, 3, 4, 5, 6, 7]
  roundTrip : W32 := 0
  turnaround : W32 := 0
  expected : BitVec 12 := 0
  credits : List Nat := [0, 0, 0, 0]
  deriving DecidableEq, Repr

/-- What a thermal round finds (R401, R402, R259): the 160 conversions, none for one that failed, the power of the 16 columns
in W, and the readouts of the 8 stacks in °C. -/
structure ThermalResults where
  readings : List (Option (BitVec 12))
  power : List Nat
  readouts : List Nat
  deriving DecidableEq, Repr

/-- A configuration write to a function (R410): power state, Bus Master Enable and Memory Space Enable, VF enable, the size of
BAR4 (of a physical function, or of all its virtual functions), Max Payload Size and Max Read Request Size by their codes, and
MSI-X enable, function mask and vector masks. -/
inductive ConfigWrite where
  | power (d3hot : Bool)
  | command (busMaster memSpace : Bool)
  | vfEnable (on : Bool)
  | bar4 (log : Fin 11)
  | vfBar4 (log : Fin 11)
  | deviceControl (payload read : Fin 8)
  | msixControl (enable maskAll : Bool)
  | msixMask (vector : Fin 2048) (masked : Bool)
  | msixEntry (vector : Fin 2048) (address : BitVec 64) (data : BitVec 32)
  | numVfs (n : Fin 16)
  | completionTimeout (range : Fin 16) (disable : Bool)
  | aerClear (bits : BitVec 32)
  deriving DecidableEq, Repr

/-- A checker that the self-test of stage 2 finds failing (R373): of a unit that can be absent, or another. -/
inductive Checker where
  | core (n : Fin 128)
  | cluster (c : Fin 8)
  | stack (k : Fin 8)
  | port (p : Fin 24)
  | updateUnit (u : Fin 40)
  | panel (i : Fin 128)
  | knotBank (c : Fin 8)
  | groundSram (die : Fin 2)
  deriving DecidableEq, Repr

/-- A sensor of platform monitoring (R443): layers as in R409, 0 ground, 1 and 2 tulle, 3 compute. -/
inductive Sensor where
  | inputVoltage | inputCurrent | averagePower | energy
  | layer (l : Fin 4)
  | stack (k : Fin 8)
  | warning | throttle | trip
  deriving DecidableEq, Repr

/-- A request on the debug port (R444): a 64-bit or a 32-bit access of the scan and trace logic to a register (R467), or a
request to Tambour. -/
inductive DebugRequest where
  | read (off : Nat)
  | readLow (off : Nat)
  | readHigh (off : Nat)
  | write (off : Nat) (v : Word)
  | writeLow (off : Nat) (v : W32)
  | writeHigh (off : Nat) (v : W32)
  | halt | resume | step | inspect
  deriving DecidableEq, Repr

/-- The commands of the block, one constructor for each row of the command table, with what the outside world supplies
with it (notes/assumptions/5). -/
inductive Instr where
  /-- POWER_GOOD (R395). -/
  | powerGood
  /-- POWER_GOOD_LOSS (R395). -/
  | powerGoodLoss
  /-- SENSE_FALLBACK (R476). -/
  | senseFallback
  /-- PLL_LOCK (R431). -/
  | pllLock (strap : BitVec 3)
  /-- BOOT_ROM_SELF_TEST (R373). -/
  | bootRomSelfTest (failed : List Checker) (wires : List (Fin 5120 × BitVec 69))
  /-- MEMORY_FILL (R375). -/
  | memoryFill
  /-- FIRMWARE_LOAD (R435). -/
  | firmwareLoad (readOk : Bool)
  /-- FAR_MEMORY_TRAINING (R234). -/
  | farMemoryTraining (ok : BitVec 8) (repairs : List Bool)
  /-- CORES_RELEASED (R431). -/
  | coresReleased
  /-- FEED_GO (R436). -/
  | feedGo (who : Requester) (v : Word)
  /-- PERST_ASSERT (R411). -/
  | perstAssert (e : Fin 2) (lost : List Nat)
  /-- PERST_DEASSERT (R40). -/
  | perstDeassert (e : Fin 2)
  /-- HOT_RESET (R411). -/
  | hotReset (e : Fin 2) (lost : List Nat)
  /-- PCIE_LINK_DOWN (R411). -/
  | pcieLinkDown (e : Fin 2) (lost : List Nat)
  /-- PCIE_LINK_UP (R40). -/
  | pcieLinkUp (e : Fin 2) (width : Fin 4) (speed : Fin 6) (flit : Bool)
  /-- FUNCTION_LEVEL_RESET (R425). -/
  | functionLevelReset (f : Fin 32) (lost : List Nat)
  /-- FLR_KNOT_RESET (R186). -/
  | flrKnotReset (t : Fin 32)
  /-- FLR_OBJECT_DELETE (R228). -/
  | flrObjectDelete (t : Fin 32)
  /-- APERTURE_READ (R417). -/
  | apertureRead (f : Fin 32) (o : BitVec 40) (len : Fin 4097)
  /-- APERTURE_WRITE (R417). -/
  | apertureWrite (f : Fin 32) (o : BitVec 40) (bytes : List Byte) (ep : Bool)
  /-- PCIE_COMPLETION (R420). -/
  | pcieCompletion (f : Fin 32) (tag : Fin 16384) (ok ep : Bool) (bytes : List Byte)
  /-- COMPLETION_TIMEOUT (R420). -/
  | completionTimeout (f : Fin 32) (tag : Fin 16384)
  /-- COMPLETION_READ_WRITE (R421). -/
  | completionReadWrite (who : Requester) (f : Fin 32) (v : Word)
  /-- MSIX_HOLDOFF (R423). -/
  | msixHoldoff (k : Fin 100)
  /-- MGMT_WRITE (R424). -/
  | mgmtWrite (f : Fin 32)
  /-- MGMT_READ (R424). -/
  | mgmtRead (f : Fin 32)
  /-- RETIRE (R424). -/
  | retire (f : Fin 32)
  /-- MGMT_RESERVED (R424). -/
  | mgmtReserved (f : Fin 32)
  /-- FW_FETCH (R437). -/
  | fwFetch (f : Fin 32)
  /-- FW_STAGING_COMPLETE (R437). -/
  | fwStagingComplete
  /-- FW_COMMIT (R437). -/
  | fwCommit (f : Fin 32)
  /-- FLASH_WRITE_COMPLETE (R437). -/
  | flashWriteComplete (ok : Bool)
  /-- FW_ACTIVATE (R438). -/
  | fwActivate (f : Fin 32)
  /-- TAMBOUR_START (R438). -/
  | tambourStart (readOk lost : Bool)
  /-- ACTIVATION_WINDOW_END (R438). -/
  | activationWindowEnd
  /-- SVN_ADVANCE (R439). -/
  | svnAdvance (f : Fin 32)
  /-- DEBUG_NONCE (R444). -/
  | debugNonce (f : Fin 32)
  /-- DEBUG_OPEN (R444). -/
  | debugOpen (f : Fin 32)
  /-- DEBUG_CLOSE (R444). -/
  | debugClose (f : Fin 32)
  /-- DEBUG_NONCE_EXPIRY (R444). -/
  | debugNonceExpiry
  /-- SET_ENDPOINT_ID (R428). -/
  | setEndpointId (b : Fin 3) (eid : Byte)
  /-- GET_VERSION (R442). -/
  | getVersion (b : Fin 3)
  /-- GET_CAPABILITIES (R442). -/
  | getCapabilities (b : Fin 3)
  /-- NEGOTIATE_ALGORITHMS (R442). -/
  | negotiateAlgorithms (b : Fin 3) (offered : Bool)
  /-- GET_DIGESTS (R442). -/
  | getDigests (b : Fin 3)
  /-- GET_CERTIFICATE (R442). -/
  | getCertificate (b : Fin 3) (slot : Fin 8) (off len : BitVec 16)
  /-- CHALLENGE (R442). -/
  | challenge (b : Fin 3) (slot : Fin 8) (nonce : List Byte)
  /-- GET_MEASUREMENTS (R442). -/
  | getMeasurements (b : Fin 3) (index : Byte) (nonce : Option (List Byte))
  /-- REQUEST_UPDATE (R443). -/
  | requestUpdate (b : Fin 3)
  /-- PASS_COMPONENT_TABLE (R443). -/
  | passComponentTable (b : Fin 3) (component : BitVec 16)
  /-- UPDATE_COMPONENT (R443). -/
  | updateComponent (b : Fin 3) (component : BitVec 16) (size : W32)
  /-- REQUEST_FIRMWARE_DATA (R443). -/
  | requestFirmwareData (b : Fin 3) (bytes : List Byte)
  /-- ACTIVATE_FIRMWARE (R443). -/
  | activateFirmware (b : Fin 3)
  /-- GET_STATUS (R443). -/
  | getStatus (b : Fin 3)
  /-- CANCEL_UPDATE (R437). -/
  | cancelUpdate (b : Fin 3)
  /-- GET_SENSOR_READING (R443). -/
  | getSensorReading (b : Fin 3) (x : Sensor)
  /-- SET_EVENT_RECEIVER (R460). -/
  | setEventReceiver (b : Fin 3) (eid : Byte)
  /-- POLL_FOR_PLATFORM_EVENT_MESSAGE (R460). -/
  | pollForPlatformEventMessage (b : Fin 3)
  /-- PLATFORM_EVENT_MESSAGE (R460). -/
  | platformEventMessage
  /-- ENTDAA (R482). -/
  | entdaa (address : BitVec 7)
  /-- SETDASA (R482). -/
  | setdasa (static dynamic : BitVec 7)
  /-- GETPID (R482). -/
  | getpid (address : BitVec 7)
  /-- GETBCR (R482). -/
  | getbcr (address : BitVec 7)
  /-- GETDCR (R482). -/
  | getdcr (address : BitVec 7)
  /-- GETSTATUS (R482). -/
  | getstatus (address : BitVec 7)
  /-- GETMWL (R482). -/
  | getmwl (address : BitVec 7)
  /-- GETMRL (R482). -/
  | getmrl (address : BitVec 7)
  /-- ALERT_RESPONSE (R461). -/
  | alertResponse
  /-- IDCODE (R484). -/
  | idcode
  /-- BYPASS (R484). -/
  | bypass
  /-- REGISTER_WRITE (R468). -/
  | registerWrite (who : Requester) (off : BitVec 27) (high : Bool) (v : Word)
  /-- LOW_HALF_WRITE (R467). -/
  | lowHalfWrite (who : Requester) (off : BitVec 27) (v : W32)
  /-- ACCESS_ERROR (R466). -/
  | accessError (who : Requester) (read : Option (Fin 4097))
  /-- STITCH_BOUNDARY (R46). -/
  | stitchBoundary
  /-- SLIP_LIMIT (R61). -/
  | slipLimit
  /-- TICK_HOLD (R59). -/
  | tickHold (p : Fin 24) (b : BitVec 16)
  /-- TICK_CLEAR (R59). -/
  | tickClear (p : Fin 24) (b : BitVec 16) (slip : W32)
  /-- TICK_DOMAIN_HOLD (R59). -/
  | tickDomainHold (b : BitVec 16)
  /-- TICK_ANNOUNCE (R59). -/
  | tickAnnounce (b : BitVec 16) (slip : W32)
  /-- HOLDOVER (R56). -/
  | holdover
  /-- TICK_IN_EDGE (R65). -/
  | tickInEdge (wide : Bool)
  /-- TICK_IN_LOSS (R65). -/
  | tickInLoss
  /-- LEN_CHANGE_SCHEDULE (R47). -/
  | lenChangeSchedule (who : Requester) (v : Word)
  /-- START_STITCH_WRITE (R45). -/
  | startStitchWrite (who : Requester) (t : Fin 32) (v : Word)
  /-- STATION_CONFIG_WRITE (R43). -/
  | stationConfigWrite (who : Requester) (n : Fin 128) (j : Fin 4) (v : Word)
  /-- NOP (R108). -/
  | nop (n : Fin 128)
  /-- HALT (R108). -/
  | halt (n : Fin 128)
  /-- JUMP (R108). -/
  | jump (n : Fin 128)
  /-- LOOP (R77). -/
  | loop (n : Fin 128)
  /-- BRANCH_COUNTER (R110). -/
  | branchCounter (n : Fin 128)
  /-- BRANCH_IMMEDIATE (R110). -/
  | branchImmediate (n : Fin 128)
  /-- BRANCH_KNOT (R112). -/
  | branchKnot (n : Fin 128)
  /-- COUNTER (R109). -/
  | counter (n : Fin 128)
  /-- ADD_IMMEDIATE (R109). -/
  | addImmediate (n : Fin 128)
  /-- AND_IMMEDIATE (R109). -/
  | andImmediate (n : Fin 128)
  /-- OR_IMMEDIATE (R109). -/
  | orImmediate (n : Fin 128)
  /-- XOR_IMMEDIATE (R109). -/
  | xorImmediate (n : Fin 128)
  /-- SHIFT_LEFT_IMMEDIATE (R109). -/
  | shiftLeftImmediate (n : Fin 128)
  /-- SHIFT_RIGHT_IMMEDIATE (R109). -/
  | shiftRightImmediate (n : Fin 128)
  /-- LOAD_IMMEDIATE (R109). -/
  | loadImmediate (n : Fin 128)
  /-- LOAD_UPPER (R109). -/
  | loadUpper (n : Fin 128)
  /-- READ_SYSTEM (R111). -/
  | readSystem (n : Fin 128)
  /-- KNOT_WAIT (R188). -/
  | knotWait (n : Fin 128)
  /-- KNOT_WAIT_INDIRECT (R188). -/
  | knotWaitIndirect (n : Fin 128)
  /-- SHUTTLE_WAIT_WAKE (R188). -/
  | shuttleWaitWake (n : Fin 128)
  /-- KNOT_OP (R113). -/
  | knotOp (n : Fin 128)
  /-- KNOT_OP_INDIRECT (R113). -/
  | knotOpIndirect (n : Fin 128)
  /-- GENERATOR (R114). -/
  | generator (n : Fin 128)
  /-- GENERATOR_IMMEDIATE (R114). -/
  | generatorImmediate (n : Fin 128)
  /-- TEMPLATE_LOAD (R81). -/
  | templateLoad (n : Fin 128)
  /-- FILL (R115). -/
  | fill (n : Fin 128)
  /-- FILL_IMMEDIATE (R115). -/
  | fillImmediate (n : Fin 128)
  /-- FILL_GENERATOR (R115). -/
  | fillGenerator (n : Fin 128)
  /-- ISSUE (R128). -/
  | issue (n : Fin 128)
  /-- ISSUE_RESUME (R85). -/
  | issueResume (n : Fin 128)
  /-- ACT_BEGIN (R84). -/
  | actBegin (n : Fin 128)
  /-- ACT_END (R84). -/
  | actEnd (n : Fin 128)
  /-- TILE_SET (R117). -/
  | tileSet (n : Fin 128)
  /-- TILE_SET_IMMEDIATE (R117). -/
  | tileSetImmediate (n : Fin 128)
  /-- TILE_COPY (R117). -/
  | tileCopy (n : Fin 128)
  /-- RESERVED_OPCODE (R106). -/
  | reservedOpcode (n : Fin 128)
  /-- LAUNCH_DOORBELL (R94). -/
  | launchDoorbell (who : Requester) (n : Fin 128) (ptr : BitVec 5)
  /-- START (R94). -/
  | start (n : Fin 128)
  /-- STOP (R95). -/
  | stop (n : Fin 128)
  /-- LAUNCH_RESERVED (R94). -/
  | launchReserved (n : Fin 128)
  /-- STOP_REQ (R105). -/
  | stopReq (who : Requester) (n : Fin 128)
  /-- QUEUE_DRAIN_REQ (R103). -/
  | queueDrainReq (who : Requester) (n : Fin 128) (e : Fin 4)
  /-- QUEUE_ENABLE_REQ (R98). -/
  | queueEnableReq (who : Requester) (n : Fin 128) (e : Fin 4)
  /-- CORE_DRAIN_REQ (R101). -/
  | coreDrainReq (who : Requester) (n : Fin 128)
  /-- CORE_ENABLE_REQ (R98). -/
  | coreEnableReq (who : Requester) (n : Fin 128)
  /-- CLUSTER_DRAIN_REQ (R102). -/
  | clusterDrainReq (who : Requester) (c : Fin 8)
  /-- CLUSTER_ENABLE_REQ (R98). -/
  | clusterEnableReq (who : Requester) (c : Fin 8)
  /-- DRAIN_LIMIT (R98). -/
  | drainLimit (n : Fin 128) (sub : Fin 5)
  /-- ENGINE_NOP (R121). -/
  | engineNop (n : Fin 128) (e : Fin 4)
  /-- MATRIX_PASS (R134). -/
  | matrixPass (n : Fin 128) (steps : Nat)
  /-- SPILL (R147). -/
  | spill (n : Fin 128)
  /-- MATRIX_DRAIN (R143). -/
  | matrixDrain (n : Fin 128)
  /-- MATRIX_SAVE (R145). -/
  | matrixSave (n : Fin 128)
  /-- MATRIX_LOAD (R145). -/
  | matrixLoad (n : Fin 128)
  /-- VECTOR_CHAIN (R166). -/
  | vectorChain (n : Fin 128) (blocks : Nat)
  /-- VECTOR_ELEMENT (R170). -/
  | vectorElement (n : Fin 128) (blocks : Nat)
  /-- VECTOR_SET_LENGTH (R160). -/
  | vectorSetLength (n : Fin 128)
  /-- VECTOR_BLOCK (R176). -/
  | vectorBlock (n : Fin 128) (held : Nat)
  /-- MOVE_READ (R125). -/
  | moveRead (n : Fin 128) (m : Fin 2) (steps : Nat)
  /-- MOVE_WRITE (R125). -/
  | moveWrite (n : Fin 128) (m : Fin 2) (steps : Nat)
  /-- MOVE_COPY (R125). -/
  | moveCopy (n : Fin 128) (m : Fin 2) (steps : Nat)
  /-- MOVE_REDUCE (R243). -/
  | moveReduce (n : Fin 128) (m : Fin 2) (steps : Nat)
  /-- QUEUE_FRONT_FRAYED (R91). -/
  | queueFrontFrayed (n : Fin 128) (e : Fin 4)
  /-- COMMAND_COMPLETE (R119). -/
  | commandComplete (n : Fin 128) (e : Fin 4)
  /-- SLOT_VALIDATE (R171). -/
  | slotValidate (who : Requester) (n : Fin 128) (program : Bool) (slot : Fin 16) (v : Word)
  /-- SLOT_WORD_WRITE (R172). -/
  | slotWordWrite (who : Requester) (n : Fin 128) (program constant : Bool) (slot : Fin 16) (k : Fin 32) (v : Word)
  /-- CHECK_RUNNING_WRITE (R385). -/
  | checkRunningWrite (who : Requester) (n : Fin 128) (m : Fin 2) (v : Word)
  /-- CHECK_CONTROL_WRITE (R385). -/
  | checkControlWrite (who : Requester) (n : Fin 128) (m : Fin 2) (v : Word)
  /-- GEN_INDEX_WRITE (R105). -/
  | genIndexWrite (who : Requester) (n : Fin 128) (g : Fin 8) (hi : Bool) (v : Word)
  /-- KNOT_STATE_WRITE (R205). -/
  | knotStateWrite (who : Requester) (k : Fin 131072) (v : Word)
  /-- KNOT_ARM_WRITE (R205). -/
  | knotArmWrite (who : Requester) (k : Fin 131072) (v : Word)
  /-- KNOT_DISARM_WRITE (R205). -/
  | knotDisarmWrite (who : Requester) (k : Fin 131072) (v : Word)
  /-- KNOT_SET (R195). -/
  | knotSet
  /-- KNOT_ADD (R195). -/
  | knotAdd
  /-- KNOT_FRAY (R195). -/
  | knotFray
  /-- KNOT_TEST (R196). -/
  | knotTest
  /-- KNOT_ARM (R193). -/
  | knotArm
  /-- REMOTE_UPDATE_APPLY (R195). -/
  | remoteUpdateApply
  /-- NOTIFY_PENDING_DELIVER (R192). -/
  | notifyPendingDeliver (t : Fin 32)
  /-- TANGLE_SCAN (R199). -/
  | tangleScan
  /-- WAIT_LIMIT (R189). -/
  | waitLimit (n : Fin 128) (sub : Fin 5)
  /-- TIER_DOORBELL (R217). -/
  | tierDoorbell (who : Requester) (q : Fin 32) (ptr : BitVec 16)
  /-- TIER_NOP (R218). -/
  | tierNop (q : Fin 32)
  /-- PROMOTE (R225). -/
  | promote (q : Fin 32)
  /-- EVICT (R224). -/
  | evict (q : Fin 32)
  /-- PLACE (R218). -/
  | place (q : Fin 32)
  /-- DISCARD (R225). -/
  | discard (q : Fin 32)
  /-- PIN (R225). -/
  | pin (q : Fin 32)
  /-- UNPIN (R225). -/
  | unpin (q : Fin 32)
  /-- SWATCH_MOVE (R220). -/
  | swatchMove (half : Fin 2)
  /-- TIER_TRIGGER_WAIT_LIMIT (R219). -/
  | tierTriggerWaitLimit (q : Fin 32)
  /-- TIER_QUEUE_DRAIN_REQ (R221). -/
  | tierQueueDrainReq (who : Requester) (q : Fin 32)
  /-- TIER_QUEUE_ENABLE_REQ (R221). -/
  | tierQueueEnableReq (who : Requester) (q : Fin 32)
  /-- TIER_DRAIN_LIMIT (R221). -/
  | tierDrainLimit (q : Fin 32)
  /-- OBJECT_CREATE (R215). -/
  | objectCreate (who : Requester) (o : Fin 16384) (v : Word)
  /-- OBJECT_DELETE (R215). -/
  | objectDelete (who : Requester) (o : Fin 16384) (v : Word)
  /-- WCB_WRITE_BACK (R238). -/
  | wcbWriteBack (line : Nat)
  /-- WRITE_BATCH (R242). -/
  | writeBatch (k : Fin 8) (pc : Fin 64)
  /-- PER_BANK_REFRESH (R259). -/
  | perBankRefresh
  /-- UNWRITE_START (R250). -/
  | unwriteStart (who : Requester) (k : Fin 8) (v : Word)
  /-- UNWRITE_COMPLETE (R250). -/
  | unwriteComplete (k : Fin 8)
  /-- FAR_ROW_SELF_TEST (R253). -/
  | farRowSelfTest (k : Fin 8) (pc : Fin 64) (failed : Bool)
  /-- RETIRE_ACK (R256). -/
  | retireAck (who : Requester) (k : Fin 8) (r : Fin 256) (v : Word)
  /-- GROUP_CREATE (R266). -/
  | groupCreate (who : Requester) (g : Fin 4096) (v : Word)
  /-- GROUP_DELETE (R266). -/
  | groupDelete (who : Requester) (g : Fin 4096) (v : Word)
  /-- UPDATE_RETRY (R286). -/
  | updateRetry (who : Requester) (u : Fin 40) (v : Word)
  /-- UPDATE_UNIT_DRAIN_REQ (R281). -/
  | updateUnitDrainReq (who : Requester) (u : Fin 40)
  /-- UPDATE_UNIT_ENABLE_REQ (R280). -/
  | updateUnitEnableReq (who : Requester) (u : Fin 40) (lost : BitVec 256)
  /-- UPDATE_DRAIN_LIMIT (R281). -/
  | updateDrainLimit (u : Fin 40)
  /-- TILE_DONE (R279). -/
  | tileDone (u : Fin 40) (take : Nat)
  /-- STATE_NOT_RESIDENT (R283). -/
  | stateNotResident (g : Fin 4096)
  /-- SCHEDULE_PROBE (R286). -/
  | scheduleProbe (who : Requester) (k : Fin 64) (v : Word)
  /-- GATE_ARM (R289). -/
  | gateArm (who : Requester) (t : Fin 32) (v : Word)
  /-- GATE_DISARM (R289). -/
  | gateDisarm (who : Requester) (t : Fin 32) (v : Word)
  /-- GATE_ABANDON (R299). -/
  | gateAbandon (who : Requester) (t : Fin 32) (v : Word)
  /-- GATE_TRIGGER (R290). -/
  | gateTrigger (t : Fin 32)
  /-- GATE_SCAN_COMPLETE (R291). -/
  | gateScanComplete (t : Fin 32)
  /-- STEP_KNOT_ADD (R297). -/
  | stepKnotAdd (t : Fin 32)
  /-- GATE_WAIT_LIMIT (R299). -/
  | gateWaitLimit (t : Fin 32)
  /-- LINK_TRAINED (R312). -/
  | linkTrained (p : Fin 24) (t : Training)
  /-- AUTO_RETRAIN (R313). -/
  | autoRetrain (p : Fin 24)
  /-- LINK_FRAME (R317). -/
  | linkFrame (p : Fin 24) (phase : W32)
  /-- IDLE_FLIT (R322). -/
  | idleFlit (p : Fin 24) (f : Flit) (fec : FecInfo)
  /-- DATA_FLIT (R322). -/
  | dataFlit (p : Fin 24) (f : Flit) (fec : FecInfo)
  /-- CONTROL_FLIT (R319). -/
  | controlFlit (p : Fin 24) (f : Flit) (fec : FecInfo)
  /-- SHED_WINDOW (R329). -/
  | shedWindow (p : Fin 24) (l : Fin 8)
  /-- LANE_LOCK_LOSS (R329). -/
  | laneLockLoss (p : Fin 24) (l : Fin 8) (alignment : Bool)
  /-- LANE_SHED_REQ (R329). -/
  | laneShedReq (who : Requester) (p : Fin 24) (v : Word)
  /-- WIDTH_SWITCH (R330). -/
  | widthSwitch (p : Fin 24) (rx : Bool)
  /-- LANE_RESTORE (R332). -/
  | laneRestore (who : Requester) (p : Fin 24) (v : Word)
  /-- LANE_RETRAINED (R332). -/
  | laneRetrained (p : Fin 24) (l : Fin 8) (ok : Bool)
  /-- BRIDE_PORT_DRAIN_REQ (R334). -/
  | bridePortDrainReq (who : Requester) (p : Fin 24) (v : Word)
  /-- BRIDE_PORT_ENABLE_REQ (R334). -/
  | bridePortEnableReq (who : Requester) (p : Fin 24) (v : Word)
  /-- PORT_DRAIN_LIMIT (R334). -/
  | portDrainLimit (p : Fin 24)
  /-- TILE_WRITE (R489). -/
  | tileWrite
  /-- TILE_READ (R352). -/
  | tileRead
  /-- READ_RESPONSE (R352). -/
  | readResponse
  /-- REDUCE (R352). -/
  | reduce
  /-- MAILBOX (R422). -/
  | mailbox
  /-- COLLECTIVE (R361). -/
  | collective
  /-- ACK (R350). -/
  | ack
  /-- NAK (R350). -/
  | nak
  /-- UNDELIVERABLE (R350). -/
  | undeliverable
  /-- BEACON (R366). -/
  | beacon
  /-- DIRECTED (R340). -/
  | directed
  /-- NEIGHBOUR (R339). -/
  | neighbour
  /-- TRANSPORT_TIMEOUT (R350). -/
  | transportTimeout (tag : BitVec 16)
  /-- REORDER_TIMEOUT (R349). -/
  | reorderTimeout (src dest : BitVec 16) (c : Fin 4) (seq : W32)
  /-- FLOW_IDLE (R351). -/
  | flowIdle (dest : BitVec 16) (c : Fin 4)
  /-- ROUTE_WAIT (R344). -/
  | routeWait
  /-- BEACON_PERIOD (R366). -/
  | beaconPeriod
  /-- DEVICE_ID_WRITE (R339). -/
  | deviceIdWrite (who : Requester) (v : Word)
  /-- DIGEST_REFRESH (R365). -/
  | digestRefresh (t : Fin 33)
  /-- COLLECTIVE_DOORBELL (R359). -/
  | collectiveDoorbell (who : Requester) (e : Fin 16) (ptr : BitVec 16)
  /-- REDUCE_SCATTER (R361). -/
  | reduceScatter (e : Fin 16)
  /-- ALL_GATHER (R361). -/
  | allGather (e : Fin 16)
  /-- ALL_REDUCE (R361). -/
  | allReduce (e : Fin 16)
  /-- COLLECTIVE_WAIT_LIMIT (R368). -/
  | collectiveWaitLimit (e : Fin 16)
  /-- COLLECTIVE_DRAIN_REQ (R359). -/
  | collectiveDrainReq (who : Requester) (e : Fin 16)
  /-- COLLECTIVE_ENABLE_REQ (R359). -/
  | collectiveEnableReq (who : Requester) (e : Fin 16)
  /-- COLLECTIVE_DRAIN_LIMIT (R359). -/
  | collectiveDrainLimit (e : Fin 16)
  /-- TARGETED_SELF_TEST (R377). -/
  | targetedSelfTest (unit : Fin 258) (failed : Bool)
  /-- BOND_RESEND (R386). -/
  | bondResend (b : Fin 5120)
  /-- WIRE_TEST (R387). -/
  | wireTest (b : Fin 5120) (mask : BitVec 69)
  /-- THERMAL_ROUND (R401). -/
  | thermalRound (x : ThermalResults)
  /-- SENSOR_DEMAND (R401). -/
  | sensorDemand (who : Requester) (v : Word)
  /-- SENSOR_CONVERSION (R400). -/
  | sensorConversion (n : Fin 160) (r : Option (BitVec 12))
  /-- POWER_SAMPLE (R397). -/
  | powerSample (voltage current : BitVec 16) (temp : BitVec 8)
  /-- CAP_WINDOW (R397). -/
  | capWindow
  /-- SENSOR_SUSPECT_CLEAR (R403). -/
  | sensorSuspectClear (who : Requester) (n : Fin 160) (v : Word)
  /-- RIBBON_ACK (R458). -/
  | ribbonAck (who : Requester) (r : Fin 4) (v : Word)
  /-- STICKY_CLEAR (R449). -/
  | stickyClear (who : Requester) (x : Fin 34) (v : Word)
  /-- FOLD_WINDOW_CLOSE (R456). -/
  | foldWindowClose
  /-- CONFIGURATION_WRITE (R410). -/
  | configurationWrite (f : Fin 32) (w : ConfigWrite)
  /-- LOSS_OF_CLOCK_LOCK (R386). -/
  | lossOfClockLock (b : Fin 5120)
  /-- DEBUG_PORT_ACCESS (R444). -/
  | debugPortAccess (r : DebugRequest)
  deriving DecidableEq, Repr

end Sys2Proof
end

