-- ==== Sys2Proof/Decode.lean ====
section
/-! DEFINITION. The commands that words spell: the command table gives no row any bits, so no word spells a command. -/

namespace Sys2Proof

/-- The command of a table word: none, as no row of the table has bits (notes/assumptions/8). -/
def decodeTableWord (_nbits _w : Nat) : Option Instr := none

end Sys2Proof
end

