-- ==== Sys2Proof/Machine/Sparse.lean ====
section
/-! DEFINITION. Sparse tables: plain lists of key and value in one canonical form (keys strictly rising, no entry equal to
what an unlisted key reads as), so that equal tables are equal data; and sorted sets of numbers. -/

namespace Sys2Proof.Machine

/-- A sparse table: key and value, keys strictly rising. -/
abbrev Sparse (α : Type) := List (Nat × α)

/-- What a key reads as; `d` gives what an unlisted key reads as. -/
def Sparse.get {α : Type} (d : Nat → α) : Sparse α → Nat → α
  | [], k => d k
  | (a, v) :: rest, k => if k = a then v else Sparse.get d rest k

/-- Puts an entry into its place. -/
def Sparse.insert {α : Type} : Sparse α → Nat → α → Sparse α
  | [], k, v => [(k, v)]
  | (a, w) :: rest, k, v =>
    if k < a then (k, v) :: (a, w) :: rest
    else if k = a then (a, v) :: rest
    else (a, w) :: Sparse.insert rest k v

/-- Removes every key that satisfies a test. -/
def Sparse.drop {α : Type} (p : Nat → Bool) : Sparse α → Sparse α
  | [] => []
  | (a, v) :: rest => if p a then Sparse.drop p rest else (a, v) :: Sparse.drop p rest

/-- Writes a key; writing what an unlisted key reads as removes the entry. -/
def Sparse.set {α : Type} [DecidableEq α] (d : Nat → α) (m : Sparse α) (k : Nat) (v : α) : Sparse α :=
  if v = d k then Sparse.drop (fun a => a == k) m else Sparse.insert m k v

/-- The canonical form. -/
def Sparse.wf {α : Type} [DecidableEq α] (d : Nat → α) : Sparse α → Bool
  | [] => true
  | [(a, v)] => decide (v ≠ d a)
  | (a, v) :: (b, w) :: rest => decide (v ≠ d a) && decide (a < b) && Sparse.wf d ((b, w) :: rest)

/-- A set of numbers: a strictly rising list. -/
abbrev NatSet := List Nat

/-- Membership. -/
def NatSet.has : NatSet → Nat → Bool
  | [], _ => false
  | a :: rest, k => if k = a then true else NatSet.has rest k

/-- Adds a number. -/
def NatSet.add : NatSet → Nat → NatSet
  | [], k => [k]
  | a :: rest, k => if k < a then k :: a :: rest else if k = a then a :: rest else a :: NatSet.add rest k

/-- Removes a number. -/
def NatSet.del (m : NatSet) (k : Nat) : NatSet := m.filter (fun a => a != k)

/-- Strictly rising. -/
def NatSet.wf : NatSet → Bool
  | [] => true
  | [_] => true
  | a :: b :: rest => decide (a < b) && NatSet.wf (b :: rest)

/-- Little-endian bytes of a number (R17). -/
def bytesLE : (n : Nat) → Nat → List Byte
  | 0, _ => []
  | n + 1, x => BitVec.ofNat 8 x :: bytesLE n (x / 256)

/-- The number of little-endian bytes (R17). -/
def natLE : List Byte → Nat
  | [] => 0
  | b :: rest => b.toNat + 256 * natLE rest

/-- The list of `len` values f base, f (base + step), …. -/
def mapRange {α : Type} (f : Nat → α) (step : Nat) : (len base : Nat) → List α
  | 0, _ => []
  | n + 1, base => f base :: mapRange f step n (base + step)

/-- Applies `f i` for i = base, base + 1, …, n times, left to right. -/
def iterate {σ : Type} (f : Nat → σ → σ) : (n base : Nat) → σ → σ
  | 0, _, s => s
  | n + 1, base, s => iterate f n (base + 1) (f base s)

/-- Bits [lo + width − 1 : lo] of a number. -/
def bitsOf (x lo width : Nat) : Nat := x / 2 ^ lo % 2 ^ width

/-- The signed value of the low `w` bits (two's complement). -/
def signedOf (w x : Nat) : Int :=
  let y := x % 2 ^ w
  if y < 2 ^ (w - 1) then (y : Int) else (y : Int) - (2 : Int) ^ w

/-- The low `w` bits of an integer (two's complement). -/
def unsignedOf (w : Nat) (x : Int) : Nat := (x % ((2 : Int) ^ w)).toNat

end Sys2Proof.Machine
end

