-- ==== Sys2Proof/Machine/Codes.lean ====
section
/-! DEFINITION. The error codes and checks: DEC-TED of the SRAMs (R370), the byte-wise code of the register arrays (R371),
the Reed–Solomon code of far memory (R251), and CRC-32C (R212). A code is linear, so what a decoder answers depends only
on the error pattern; each function takes the pattern. -/

namespace Sys2Proof.Machine

/-- What a decoder answers. `residual` is the error pattern still in the returned data, zero unless the errors exceed what
the code detects; a correction names the place of the first corrected bit or symbol, and the pattern that it takes out of the
stored word. -/
inductive CodeOutcome where
  | clean (residual : Nat)
  | corrected (residual : Nat) (place : Nat) (fix : Nat)
  | uncorrectable
  | poisoned
  deriving DecidableEq, Repr

/-- Whether the data comes back marked poisoned. -/
def CodeOutcome.lost : CodeOutcome → Bool
  | .uncorrectable => true
  | .poisoned => true
  | _ => false

/-- Carry-less product of two polynomials over GF(2), the second of at most n bits. -/
def polyMul (a : Nat) : (n b : Nat) → Nat
  | 0, _ => 0
  | n + 1, b => (if b % 2 = 1 then a else 0) ^^^ 2 * polyMul a n (b / 2)

/-! ### DEC-TED (R370) -/

/-- g(x) = (x + 1) m1(x) m3(x), with m1 = x^7 + x^3 + 1 the minimal polynomial of α and m3 = x^7 + x^3 + x^2 + x + 1 that of
α^3. -/
def decTedGen : Nat := polyMul (polyMul 0b11 8 0b10001001) 8 0b10001111

/-- x^n mod g(x). -/
def xPowModGen : Nat → Nat
  | 0 => 1
  | n + 1 => let y := 2 * xPowModGen n; if y < 2 ^ 15 then y else y ^^^ decTedGen

/-- The contribution of bit i of a code word, 0 to 78, to the 15-bit syndrome. -/
def decTedColumn (i : Nat) : Nat := if i < 64 then xPowModGen (15 + i) else 2 ^ (i - 64)

/-- The columns of bits i, …, 78. -/
def decTedColumns : List Nat := (List.range 79).map decTedColumn

/-- Sum of the columns of the bits set in a pattern. -/
def syndromeOf : List Nat → Nat → Nat
  | [], _ => 0
  | c :: cs, e => (if e % 2 = 1 then c else 0) ^^^ syndromeOf cs (e / 2)

/-- The 15-bit syndrome of bits [78:0] of an error pattern. -/
def decTedSyndrome (e : Nat) : Nat := syndromeOf decTedColumns e

/-- The first bit whose column is a syndrome, counting from i. -/
def findColumn (syn : Nat) : List Nat → Nat → Option Nat
  | [], _ => none
  | c :: cs, i => if c = syn then some i else findColumn syn cs (i + 1)

/-- The first pair of bits whose columns sum to a syndrome, counting from i. -/
def findPair (syn : Nat) : List Nat → Nat → Option (Nat × Nat)
  | [], _ => none
  | c :: cs, i =>
    match findColumn (syn ^^^ c) cs (i + 1) with
    | some j => some (i, j)
    | none => findPair syn cs (i + 1)

/-- The parity of n bits. -/
def parity : (n x : Nat) → Nat
  | 0, _ => 0
  | n + 1, x => (x + parity n (x / 2)) % 2

/-- Whether bit 79 checks against bits [78:64] of a pattern. -/
def bit79Holds (e : Nat) : Bool := parity 16 (e / 2 ^ 64) == 0

/-- What the DEC-TED decoder answers for an 80-bit error pattern, by the order of R370's table: poison first, which is the
syndrome of bits [79:64] all complemented. -/
def decTedOutcome (e : Nat) : CodeOutcome :=
  let syn := decTedSyndrome e
  if syn = 0x7FFF ∧ bit79Holds e = true then .poisoned
  else if syn = 0 then
    if bit79Holds e then .clean (e % 2 ^ 64) else .corrected (e % 2 ^ 64) 79 (2 ^ 79)
  else
    match findColumn syn decTedColumns 0 with
    | some i =>
      let c := e ^^^ 2 ^ i
      .corrected (c % 2 ^ 64) i (if bit79Holds c then 2 ^ i else 2 ^ i ^^^ 2 ^ 79)
    | none =>
      match findPair syn decTedColumns 0 with
      | some (i, j) =>
        let c := e ^^^ 2 ^ i ^^^ 2 ^ j
        if bit79Holds c then .corrected (c % 2 ^ 64) i (2 ^ i ^^^ 2 ^ j) else .uncorrectable
      | none => .uncorrectable

/-- The pattern of a poisoned word: bits [79:64] complemented (R370, R372). -/
def wordPoison : Nat := 0xFFFF * 2 ^ 64

/-! ### The byte-wise code (R371) -/

/-- The exclusive-or of the positions, counted from p, of the set bits of an error pattern. -/
def positionSum : (n p e : Nat) → Nat
  | 0, _, _ => 0
  | n + 1, p, e => (if e % 2 = 1 then p else 0) ^^^ positionSum n (p + 1) (e / 2)

/-- The data byte at positions 3, 5, 6, 7, 9, 10, 11 and 12 of a pattern. -/
def byteData (e : Nat) : Nat :=
  bitsOf e 2 1 + 2 * bitsOf e 4 3 + 16 * bitsOf e 8 4

/-- What the byte-wise decoder answers for a 13-bit error pattern: position p in bit p − 1, p4 in bit 12 (R371). -/
def byteOutcome (e : Nat) : CodeOutcome :=
  let syn := positionSum 12 1 e
  let q := parity 13 e
  if syn = 15 ∧ q = 1 then .poisoned
  else if q = 0 then (if syn = 0 then .clean (byteData e) else .uncorrectable)
  else if syn = 0 then .corrected (byteData e) 12 (2 ^ 12)
  else if syn ≤ 12 then .corrected (byteData (e ^^^ 2 ^ (syn - 1))) (syn - 1) (2 ^ (syn - 1))
  else .uncorrectable

/-! ### The far-memory code (R251) -/

/-- Product in GF(2^8) with field polynomial x^8 + x^4 + x^3 + x^2 + 1. -/
def gfMul (a : Nat) : (n b : Nat) → Nat
  | 0, _ => 0
  | n + 1, b =>
    let r := 2 * gfMul a n (b / 2)
    (if b % 2 = 1 then a else 0) ^^^ (if r < 256 then r else r ^^^ 0x11D)

/-- α^n, α = 0x02. -/
def gfPow : Nat → Nat
  | 0 => 1
  | n + 1 => let r := 2 * gfPow n; if r < 256 then r else r ^^^ 0x11D

/-- S_k = Σ e_L α^(kL) over the symbols from x^L up, n of them. -/
def farSyndrome (k : Nat) : (n l e : Nat) → Nat
  | 0, _, _ => 0
  | n + 1, l, e => gfMul (gfPow (k * l % 255)) 8 (e % 256) ^^^ farSyndrome k n (l + 1) (e / 256)

/-- The symbol L from l up at which a single error explains the syndromes. -/
def farLocate (s0 s1 s2 s3 : Nat) : (n l : Nat) → Option Nat
  | 0, _ => none
  | n + 1, l =>
    if s1 = gfMul (gfPow l) 8 s0 ∧ s2 = gfMul (gfPow l) 8 s1 ∧ s3 = gfMul (gfPow l) 8 s2 then some l
    else farLocate s0 s1 s2 s3 n (l + 1)

/-- The 32 data bytes of a pattern of 36 symbols in address order as one number, d_0 lowest: d_i stands at x^(35 − i). -/
def farData (e : Nat) : Nat := (List.range 32).foldl (fun acc i => acc + bitsOf e (8 * (35 - i)) 8 * 2 ^ (8 * i)) 0

/-- What the far-memory decoder answers for a pattern of 36 symbols, symbol of x^L in bits [8L + 7 : 8L] (R251). -/
def farOutcome (e : Nat) : CodeOutcome :=
  let s := fun k => farSyndrome k 36 0 e
  let p := fun k => farSyndrome k 4 0 0xFFFFFFFF
  if s 0 = 0 ∧ s 1 = 0 ∧ s 2 = 0 ∧ s 3 = 0 then .clean (farData e)
  else if s 0 = p 0 ∧ s 1 = p 1 ∧ s 2 = p 2 ∧ s 3 = p 3 then .poisoned
  else if s 0 = 0 then .uncorrectable
  else
    match farLocate (s 0) (s 1) (s 2) (s 3) 36 0 with
    | some l => .corrected (farData (e ^^^ s 0 * 2 ^ (8 * l))) l (s 0 * 2 ^ (8 * l))
    | none => .uncorrectable

/-! ### CRC-32C (R212) -/

/-- One bit step of the reflected CRC with polynomial 0x1EDC6F41 (reflected 0x82F63B78). -/
def crcBit (c : Nat) : Nat := if c % 2 = 1 then c / 2 ^^^ 0x82F63B78 else c / 2

/-- Feeds one byte. -/
def crcByte (c : Nat) (b : Byte) : Nat :=
  crcBit (crcBit (crcBit (crcBit (crcBit (crcBit (crcBit (crcBit (c ^^^ b.toNat))))))))

/-- Feeds bytes in order. -/
def crcFeed : Nat → List Byte → Nat
  | c, [] => c
  | c, b :: rest => crcFeed (crcByte c b) rest

/-- The CRC-32C of bytes: initial value and final exclusive-or 0xFFFF_FFFF. -/
def crc32c (bytes : List Byte) : Nat := crcFeed 0xFFFFFFFF bytes ^^^ 0xFFFFFFFF

/-- The check value of a swatch image at an address (R212). -/
def swatchCheck (address : Nat) (image : List Byte) : Nat :=
  crcFeed (crcFeed (crcFeed (crcFeed 0xFFFFFFFF (bytesLE 8 (address % 2 ^ 48))) ((image.drop 16).take 8))
    (image.take 60)) ((image.drop 64).take 4032) ^^^ 0xFFFFFFFF

end Sys2Proof.Machine
end

