-- ==== Sys2Proof/Config.lean ====
section
/-! DEFINITION. What the spec leaves open: free values (opaque constants with no body, so that a statement holds for every
value of them) and the few numbers of the part that the spec says a fuse or a firmware image gives. -/

namespace Sys2Proof.Config

/-- Free value number k: an undefined or unstated value of the spec, taken fresh with the counter `State.free`
(notes/assumptions/1). -/
opaque freeValue : Nat → Nat

/-- The signature the identity key makes over a message (R442; notes/assumptions/2). -/
opaque sign : (message : List Byte) → List Byte

/-- The number of the byte-coded array that holds a BAR0 byte offset (R394, R454), and the array row of the offset (R369):
the spec numbers neither (notes/assumptions/11). -/
opaque arrayNumber : (offset : Nat) → Nat

/-- The array row of a BAR0 byte offset (R369; notes/assumptions/11). -/
opaque arrayRow : (offset : Nat) → Nat

/-- The offset in its ground die's SRAM of a word of a write-combining buffer or of firmware staging (R230, R369): the spec
allots sizes and no places (notes/assumptions/105). -/
opaque groundOffset : (word : Nat) → Nat

/-- The fused hash of the image signing key (R435; notes/assumptions/2). -/
opaque keyHash : List Byte

/-- The debug authority's public key, whose hash is fused (R444; notes/assumptions/2). -/
opaque debugKey : List Byte

/-- The SHA-512 of the West boot ROM (R442; notes/assumptions/2). -/
opaque romDigest : List Byte

/-- The I3C provisioned ID, the bus and device characteristics, and the maximum write and read lengths (R482), to which the
spec gives no values (notes/assumptions/42). -/
opaque i3cPid : List Byte

/-- BCR of R482 (notes/assumptions/42). -/
opaque i3cBcr : Byte

/-- DCR of R482 (notes/assumptions/42). -/
opaque i3cDcr : Byte

/-- MWL of R482 (notes/assumptions/42). -/
opaque i3cMwl : List Byte

/-- MRL of R482 (notes/assumptions/42). -/
opaque i3cMrl : List Byte

end Sys2Proof.Config
end

