-- ==== Sys2Proof/Machine/RegMap.lean ====
section
/-! DEFINITION. The register map of BAR0: the offset of every register the spec's chapters lay out, the place of every
field, and the table of registers (base, array dimensions, fields with access and reset value). Offsets follow the
layout rules R70, R104, R129, R154, R178, R204, R231, R260, R265, R285, R308, R335, R367, R393, R408, R429, R446, R463,
R471 and R473; fields follow R71, R87, R105, R129, R155, R179, R205, R232, R261, R265, R286, R309, R336, R368, R394,
R409, R430, R447, R464, R472 and R473. -/

namespace Sys2Proof.Machine

/-- Where a field stands in its 64-bit register: lowest bit and width. -/
structure Fld where
  lo : Nat
  width : Nat
  deriving DecidableEq, Repr

/-- The access codes of R19. -/
inductive Access where
  | ro | rw | wo | w1c | w1s | sat
  deriving DecidableEq, Repr

/-- One field of the register table: place, access (R19) and reset value. -/
structure FieldSpec where
  lo : Nat
  width : Nat
  access : Access
  reset : Nat
  deriving DecidableEq, Repr

/-- One register or array of registers: first offset, dimensions (count, stride) from the widest stride to the
narrowest, and its fields; bits in no field are reserved (R20). -/
structure RegClass where
  base : Nat
  dims : List (Nat × Nat)
  fields : List FieldSpec
  deriving DecidableEq, Repr

namespace Reg

/-- Core block of core n = 16c + i: cluster block + i × 0x1_0000 (R104, R465). -/
def coreBase (n : Nat) : Nat := 0x1000000 + (n / 16) * 0x200000 + (n % 16) * 0x10000

/-- Cluster block of cluster c (R465). -/
def clusterBase (c : Nat) : Nat := 0x1000000 + c * 0x200000

/-- `TICK_CONTROL` (R70). -/
def TICK_CONTROL : Nat := 0x100000
/-- `TICK_STATUS` (R70). -/
def TICK_STATUS : Nat := 0x100008
/-- `TICK_STITCH_COUNT` (R70). -/
def TICK_STITCH_COUNT : Nat := 0x100010
/-- `TICK_STITCH_LEN` (R70). -/
def TICK_STITCH_LEN : Nat := 0x100018
/-- `TICK_LEN_NEXT` (R70). -/
def TICK_LEN_NEXT : Nat := 0x100020
/-- `TICK_LEN_CHANGE_AT` (R70). -/
def TICK_LEN_CHANGE_AT : Nat := 0x100028
/-- `TICK_DOMAIN_REACH` (R70). -/
def TICK_DOMAIN_REACH : Nat := 0x100030
/-- `TICK_SLIP_LIMIT` (R70). -/
def TICK_SLIP_LIMIT : Nat := 0x100038
/-- `TICK_SLIP_CYCLES` (R70). -/
def TICK_SLIP_CYCLES : Nat := 0x100040
/-- `TICK_DROPPED_STITCH` (R70). -/
def TICK_DROPPED_STITCH : Nat := 0x100048
/-- `TICK_IN_DELAY` (R70). -/
def TICK_IN_DELAY : Nat := 0x100050
/-- `TICK_IN_SKIPPED` (R70). -/
def TICK_IN_SKIPPED : Nat := 0x100058
/-- `TICK_TENANT_POLICY` (R70). -/
def TICK_TENANT_POLICY (t : Nat) : Nat := 0x100100 + t * 0x10
/-- `TICK_TENANT_START_STITCH` (R70). -/
def TICK_TENANT_START_STITCH (t : Nat) : Nat := 0x100108 + t * 0x10
/-- `STATION_CONFIG` (R70). -/
def STATION_CONFIG (n : Nat) (j : Nat) : Nat := coreBase n + 0x800 + j * 0x10
/-- `STATION_DROPPED` (R70). -/
def STATION_DROPPED (n : Nat) (j : Nat) : Nat := coreBase n + 0x808 + j * 0x10
/-- `SHUTTLE_CONTROL` (R104). -/
def SHUTTLE_CONTROL (n : Nat) : Nat := coreBase n + 0x0
/-- `SHUTTLE_STATUS` (R104). -/
def SHUTTLE_STATUS (n : Nat) : Nat := coreBase n + 0x8
/-- `SHUTTLE_STALL_CYCLES` (R104). -/
def SHUTTLE_STALL_CYCLES (n : Nat) : Nat := coreBase n + 0x10
/-- `COUNTER` (R104). -/
def COUNTER (n : Nat) (nx : Nat) : Nat := coreBase n + 0x100 + nx * 0x8
/-- `GEN_BASE` (R104). -/
def GEN_BASE (n : Nat) (g : Nat) : Nat := coreBase n + 0x200 + g * 0x80
/-- `GEN_CONFIG` (R104). -/
def GEN_CONFIG (n : Nat) (g : Nat) : Nat := coreBase n + 0x208 + g * 0x80
/-- `GEN_DIM` (R104). -/
def GEN_DIM (n : Nat) (g : Nat) (d : Nat) : Nat := coreBase n + 0x210 + g * 0x80 + d * 0x8
/-- `GEN_INDEX` (R104). -/
def GEN_INDEX (n : Nat) (g : Nat) : Nat := coreBase n + 0x240 + g * 0x80
/-- `GEN_INDEX_HI` (R104). -/
def GEN_INDEX_HI (n : Nat) (g : Nat) : Nat := coreBase n + 0x248 + g * 0x80
/-- `QUEUE_CONTROL` (R104). -/
def QUEUE_CONTROL (n : Nat) (e : Nat) : Nat := coreBase n + 0x600 + e * 0x20
/-- `QUEUE_STATUS` (R104). -/
def QUEUE_STATUS (n : Nat) (e : Nat) : Nat := coreBase n + 0x608 + e * 0x20
/-- `QUEUE_CANCELLED` (R104). -/
def QUEUE_CANCELLED (n : Nat) (e : Nat) : Nat := coreBase n + 0x610 + e * 0x20
/-- `QUEUE_ABORTED` (R104). -/
def QUEUE_ABORTED (n : Nat) (e : Nat) : Nat := coreBase n + 0x618 + e * 0x20
/-- `CORE_UNIT_CONTROL` (R104). -/
def CORE_UNIT_CONTROL (n : Nat) : Nat := coreBase n + 0x700
/-- `CORE_UNIT_STATUS` (R104). -/
def CORE_UNIT_STATUS (n : Nat) : Nat := coreBase n + 0x708
/-- `CORE_DRAIN_LIMIT` (R104). -/
def CORE_DRAIN_LIMIT (n : Nat) : Nat := coreBase n + 0x710
/-- `CORE_ABSENT_UNIT` (R104). -/
def CORE_ABSENT_UNIT (n : Nat) : Nat := coreBase n + 0x718
/-- `CORE_DRAIN_TIMEOUT` (R104). -/
def CORE_DRAIN_TIMEOUT (n : Nat) : Nat := coreBase n + 0x720
/-- `TILE_LO` (R104). -/
def TILE_LO (n : Nat) (t : Nat) : Nat := coreBase n + 0x1000 + t * 0x10
/-- `TILE_HI` (R104). -/
def TILE_HI (n : Nat) (t : Nat) : Nat := coreBase n + 0x1008 + t * 0x10
/-- `TEMPLATE_LO` (R104). -/
def TEMPLATE_LO (n : Nat) (m : Nat) : Nat := coreBase n + 0x2000 + m * 0x10
/-- `TEMPLATE_HI` (R104). -/
def TEMPLATE_HI (n : Nat) (m : Nat) : Nat := coreBase n + 0x2008 + m * 0x10
/-- `PEER` (R129). -/
def PEER (n : Nat) (k : Nat) : Nat := coreBase n + 0x780 + k * 0x8
/-- `INSTRUCTION` (R104). -/
def INSTRUCTION (n : Nat) (w : Nat) : Nat := coreBase n + 0x8000 + w * 0x8
/-- `CLUSTER_UNIT_CONTROL` (R104). -/
def CLUSTER_UNIT_CONTROL (c : Nat) : Nat := clusterBase c + 0x180000
/-- `CLUSTER_UNIT_STATUS` (R104). -/
def CLUSTER_UNIT_STATUS (c : Nat) : Nat := clusterBase c + 0x180008
/-- `MX_PROMOTE` (R154). -/
def MX_PROMOTE (n : Nat) : Nat := coreBase n + 0x900
/-- `MX_SPILL` (R154). -/
def MX_SPILL (n : Nat) : Nat := coreBase n + 0x908
/-- `MX_SPILL_RECORD` (R154). -/
def MX_SPILL_RECORD (n : Nat) : Nat := coreBase n + 0x910
/-- `MX_DRAIN_SCALE` (R154). -/
def MX_DRAIN_SCALE (n : Nat) : Nat := coreBase n + 0x918
/-- `MX_FLAGS` (R154). -/
def MX_FLAGS (n : Nat) : Nat := coreBase n + 0x920
/-- `MX_GROUP_CYCLES` (R154). -/
def MX_GROUP_CYCLES (n : Nat) : Nat := coreBase n + 0x928
/-- `MX_STALL_CYCLES` (R154). -/
def MX_STALL_CYCLES (n : Nat) : Nat := coreBase n + 0x930
/-- `VX_VLEN` (R178). -/
def VX_VLEN (n : Nat) : Nat := coreBase n + 0xa00
/-- `VX_STATUS` (R178). -/
def VX_STATUS (n : Nat) : Nat := coreBase n + 0xa08
/-- `VX_FLAGS` (R178). -/
def VX_FLAGS (n : Nat) : Nat := coreBase n + 0xa10
/-- `VX_BLOCK_CYCLES` (R178). -/
def VX_BLOCK_CYCLES (n : Nat) : Nat := coreBase n + 0xa18
/-- `VX_HAZARD_CYCLES` (R178). -/
def VX_HAZARD_CYCLES (n : Nat) : Nat := coreBase n + 0xa20
/-- `VX_CHAIN_HEAD` (R178). -/
def VX_CHAIN_HEAD (n : Nat) (nx : Nat) : Nat := coreBase n + 0x4000 + nx * 0x100
/-- `VX_CHAIN_STAGE` (R178). -/
def VX_CHAIN_STAGE (n : Nat) (nx : Nat) (s : Nat) : Nat := coreBase n + 0x4040 + nx * 0x100 + s * 0x8
/-- `VX_CHAIN_CONSTANT` (R178). -/
def VX_CHAIN_CONSTANT (n : Nat) (nx : Nat) (s : Nat) : Nat := coreBase n + 0x4080 + nx * 0x100 + s * 0x8
/-- `VX_PROGRAM_HEAD` (R178). -/
def VX_PROGRAM_HEAD (n : Nat) (nx : Nat) : Nat := coreBase n + 0x5000 + nx * 0x200
/-- `VX_PROGRAM_CONSTANT` (R178). -/
def VX_PROGRAM_CONSTANT (n : Nat) (nx : Nat) (k : Nat) : Nat := coreBase n + 0x5040 + nx * 0x200 + k * 0x8
/-- `VX_PROGRAM_OP` (R178). -/
def VX_PROGRAM_OP (n : Nat) (nx : Nat) (w : Nat) : Nat := coreBase n + 0x5100 + nx * 0x200 + w * 0x8
/-- `KNOT_STATE` (R204). -/
def KNOT_STATE (c : Nat) (k : Nat) : Nat := clusterBase c + 0x100000 + k * 0x10
/-- `KNOT_ARM` (R204). -/
def KNOT_ARM (c : Nat) (k : Nat) : Nat := clusterBase c + 0x100008 + k * 0x10
/-- `KNOT_OWNER` (R204). -/
def KNOT_OWNER (c : Nat) (s : Nat) : Nat := clusterBase c + 0x140000 + s * 0x8
/-- `KNOT_WAIT_LIMIT_STITCHES` (R204). -/
def KNOT_WAIT_LIMIT_STITCHES (c : Nat) : Nat := clusterBase c + 0x140200
/-- `KNOT_TANGLE_CONTROL` (R204). -/
def KNOT_TANGLE_CONTROL (c : Nat) : Nat := clusterBase c + 0x140208
/-- `KNOT_TANGLE_STATUS` (R204). -/
def KNOT_TANGLE_STATUS (c : Nat) : Nat := clusterBase c + 0x140210
/-- `KNOT_TANGLE_EDGE` (R204). -/
def KNOT_TANGLE_EDGE (c : Nat) (e : Nat) : Nat := clusterBase c + 0x140220 + e * 0x8
/-- `KNOT_FRAYED_KNOT` (R204). -/
def KNOT_FRAYED_KNOT (c : Nat) : Nat := clusterBase c + 0x140260
/-- `KNOT_WAIT_LIMIT` (R204). -/
def KNOT_WAIT_LIMIT (c : Nat) : Nat := clusterBase c + 0x140268
/-- `KNOT_TANGLE` (R204). -/
def KNOT_TANGLE (c : Nat) : Nat := clusterBase c + 0x140270
/-- `KNOT_REMOTE_REFUSED` (R204). -/
def KNOT_REMOTE_REFUSED (c : Nat) : Nat := clusterBase c + 0x140278
/-- `KNOT_NOTIFY_DROPPED` (R204). -/
def KNOT_NOTIFY_DROPPED (c : Nat) : Nat := clusterBase c + 0x140280
/-- `TIER_DRAIN_LIMIT` (R231). -/
def TIER_DRAIN_LIMIT : Nat := 0x2c00000
/-- `TIER_WAIT_LIMIT_STITCHES` (R231). -/
def TIER_WAIT_LIMIT_STITCHES : Nat := 0x2c00008
/-- `TIER_QUEUE_LIST_BASE` (R231). -/
def TIER_QUEUE_LIST_BASE (q : Nat) : Nat := 0x2c01000 + q * 0x40
/-- `TIER_QUEUE_LIST_SIZE` (R231). -/
def TIER_QUEUE_LIST_SIZE (q : Nat) : Nat := 0x2c01008 + q * 0x40
/-- `TIER_QUEUE_DOORBELL` (R231). -/
def TIER_QUEUE_DOORBELL (q : Nat) : Nat := 0x2c01010 + q * 0x40
/-- `TIER_QUEUE_STATUS` (R231). -/
def TIER_QUEUE_STATUS (q : Nat) : Nat := 0x2c01018 + q * 0x40
/-- `TIER_QUEUE_CONTROL` (R231). -/
def TIER_QUEUE_CONTROL (q : Nat) : Nat := 0x2c01020 + q * 0x40
/-- `TIER_QUEUE_OWNER` (R231). -/
def TIER_QUEUE_OWNER (q : Nat) : Nat := 0x2c01028 + q * 0x40
/-- `TIER_QUEUE_ERROR` (R231). -/
def TIER_QUEUE_ERROR (q : Nat) : Nat := 0x2c01030 + q * 0x40
/-- `TIER_TENANT_QUOTA` (R231). -/
def TIER_TENANT_QUOTA (t : Nat) (r : Nat) : Nat := 0x2c02000 + t * 0x80 + r * 0x8
/-- `TIER_TENANT_BORROW_LIMIT` (R231). -/
def TIER_TENANT_BORROW_LIMIT (t : Nat) (r : Nat) : Nat := 0x2c02018 + t * 0x80 + r * 0x8
/-- `TIER_TENANT_CHARGED` (R231). -/
def TIER_TENANT_CHARGED (t : Nat) (r : Nat) : Nat := 0x2c02030 + t * 0x80 + r * 0x8
/-- `TIER_TENANT_BORROWED` (R231). -/
def TIER_TENANT_BORROWED (t : Nat) (r : Nat) : Nat := 0x2c02048 + t * 0x80 + r * 0x8
/-- `TIER_TENANT_QUOTA_EXCEEDED` (R231). -/
def TIER_TENANT_QUOTA_EXCEEDED (t : Nat) : Nat := 0x2c02060 + t * 0x80
/-- `TIER_TENANT_EVICTION_DEFERRED` (R231). -/
def TIER_TENANT_EVICTION_DEFERRED (t : Nat) : Nat := 0x2c02068 + t * 0x80
/-- `TIER_REGION_FAR` (R231). -/
def TIER_REGION_FAR (i : Nat) : Nat := 0x2c04000 + i * 0x8
/-- `TIER_REGION_NEAR` (R231). -/
def TIER_REGION_NEAR (i : Nat) : Nat := 0x2c06000 + i * 0x8
/-- `TIER_OBJECT_OWNER` (R231). -/
def TIER_OBJECT_OWNER (s : Nat) : Nat := 0x2c0a000 + s * 0x8
/-- `TIER_OBJECT_CONTROL` (R231). -/
def TIER_OBJECT_CONTROL (o : Nat) : Nat := 0x2e00000 + o * 0x80
/-- `TIER_OBJECT_HOME_BASE` (R231). -/
def TIER_OBJECT_HOME_BASE (o : Nat) : Nat := 0x2e00008 + o * 0x80
/-- `TIER_OBJECT_UP_BASE` (R231). -/
def TIER_OBJECT_UP_BASE (o : Nat) : Nat := 0x2e00010 + o * 0x80
/-- `TIER_OBJECT_SHARE` (R231). -/
def TIER_OBJECT_SHARE (o : Nat) : Nat := 0x2e00018 + o * 0x80
/-- `TIER_OBJECT_STATUS` (R231). -/
def TIER_OBJECT_STATUS (o : Nat) : Nat := 0x2e00020 + o * 0x80
/-- `FAR_CONTROL` (R260). -/
def FAR_CONTROL (s : Nat) : Nat := 0x2400000 + s * 0x20000
/-- `FAR_STATUS` (R260). -/
def FAR_STATUS (s : Nat) : Nat := 0x2400008 + s * 0x20000
/-- `FAR_IDENTITY` (R260). -/
def FAR_IDENTITY (s : Nat) : Nat := 0x2400010 + s * 0x20000
/-- `FAR_RETIRED_PAGES` (R260). -/
def FAR_RETIRED_PAGES (s : Nat) : Nat := 0x2400018 + s * 0x20000
/-- `FAR_UNWRITE_BASE` (R260). -/
def FAR_UNWRITE_BASE (s : Nat) : Nat := 0x2400020 + s * 0x20000
/-- `FAR_UNWRITE_CONTROL` (R260). -/
def FAR_UNWRITE_CONTROL (s : Nat) : Nat := 0x2400028 + s * 0x20000
/-- `FAR_UNWRITE_STATUS` (R260). -/
def FAR_UNWRITE_STATUS (s : Nat) : Nat := 0x2400030 + s * 0x20000
/-- `FAR_LAST_ERROR` (R260). -/
def FAR_LAST_ERROR (s : Nat) : Nat := 0x2400038 + s * 0x20000
/-- `FAR_CORRECTED` (R260). -/
def FAR_CORRECTED (s : Nat) : Nat := 0x2400040 + s * 0x20000
/-- `FAR_UNCORRECTABLE_FAR` (R260). -/
def FAR_UNCORRECTABLE_FAR (s : Nat) : Nat := 0x2400048 + s * 0x20000
/-- `FAR_TRANSIENT` (R260). -/
def FAR_TRANSIENT (s : Nat) : Nat := 0x2400050 + s * 0x20000
/-- `FAR_ROW_DARNED` (R260). -/
def FAR_ROW_DARNED (s : Nat) : Nat := 0x2400058 + s * 0x20000
/-- `FAR_ROW_RETIRED` (R260). -/
def FAR_ROW_RETIRED (s : Nat) : Nat := 0x2400060 + s * 0x20000
/-- `FAR_TEST_DROPPED` (R260). -/
def FAR_TEST_DROPPED (s : Nat) : Nat := 0x2400068 + s * 0x20000
/-- `FAR_LONG_OVERFLOW` (R260). -/
def FAR_LONG_OVERFLOW (s : Nat) : Nat := 0x2400070 + s * 0x20000
/-- `FAR_GRANTS` (R260). -/
def FAR_GRANTS (s : Nat) (x : Nat) : Nat := 0x2400080 + s * 0x20000 + x * 0x8
/-- `FAR_WRITES` (R260). -/
def FAR_WRITES (s : Nat) : Nat := 0x2400098 + s * 0x20000
/-- `FAR_WCB_STATUS` (R260). -/
def FAR_WCB_STATUS (s : Nat) : Nat := 0x24000a0 + s * 0x20000
/-- `FAR_DARN` (R260). -/
def FAR_DARN (s : Nat) (i : Nat) : Nat := 0x2401000 + s * 0x20000 + i * 0x8
/-- `FAR_RETIRE` (R260). -/
def FAR_RETIRE (s : Nat) (r : Nat) : Nat := 0x2409000 + s * 0x20000 + r * 0x8
/-- `UPDATE_PROMOTE_LIMIT` (R285). -/
def UPDATE_PROMOTE_LIMIT : Nat := 0x2800000
/-- `UPDATE_DRAIN_LIMIT` (R285). -/
def UPDATE_DRAIN_LIMIT : Nat := 0x2800008
/-- `UPDATE_GROUP_OWNER` (R285). -/
def UPDATE_GROUP_OWNER (s : Nat) : Nat := 0x2800100 + s * 0x8
/-- `UNIT_CONTROL` (R285). -/
def UNIT_CONTROL (u : Nat) : Nat := 0x2801000 + u * 0x80
/-- `UNIT_STATUS` (R285). -/
def UNIT_STATUS (u : Nat) : Nat := 0x2801008 + u * 0x80
/-- `UNIT_APPLIED_TILES` (R285). -/
def UNIT_APPLIED_TILES (u : Nat) : Nat := 0x2801010 + u * 0x80
/-- `UNIT_REPLAYED` (R285). -/
def UNIT_REPLAYED (u : Nat) : Nat := 0x2801018 + u * 0x80
/-- `UNIT_FROZEN_WRITE` (R285). -/
def UNIT_FROZEN_WRITE (u : Nat) : Nat := 0x2801020 + u * 0x80
/-- `UNIT_STATE_NOT_RESIDENT` (R285). -/
def UNIT_STATE_NOT_RESIDENT (u : Nat) : Nat := 0x2801028 + u * 0x80
/-- `UNIT_SATURATED` (R285). -/
def UNIT_SATURATED (u : Nat) : Nat := 0x2801030 + u * 0x80
/-- `UNIT_CANCELLED` (R285). -/
def UNIT_CANCELLED (u : Nat) : Nat := 0x2801038 + u * 0x80
/-- `UNIT_ABORTED` (R285). -/
def UNIT_ABORTED (u : Nat) : Nat := 0x2801040 + u * 0x80
/-- `UNIT_DRAIN_TIMEOUT` (R285). -/
def UNIT_DRAIN_TIMEOUT (u : Nat) : Nat := 0x2801048 + u * 0x80
/-- `UNIT_RETRY` (R285). -/
def UNIT_RETRY (u : Nat) : Nat := 0x2801050 + u * 0x80
/-- `UNIT_LONG_OVERFLOW` (R285). -/
def UNIT_LONG_OVERFLOW (u : Nat) : Nat := 0x2801058 + u * 0x80
/-- `SCHEDULE_CONFIG` (R285). -/
def SCHEDULE_CONFIG (k : Nat) : Nat := 0x2804000 + k * 0x20
/-- `SCHEDULE_LENGTHS` (R285). -/
def SCHEDULE_LENGTHS (k : Nat) : Nat := 0x2804008 + k * 0x20
/-- `SCHEDULE_RESTART` (R285). -/
def SCHEDULE_RESTART (k : Nat) : Nat := 0x2804010 + k * 0x20
/-- `SCHEDULE_PROBE` (R285). -/
def SCHEDULE_PROBE (k : Nat) : Nat := 0x2804018 + k * 0x20
/-- `GROUP_CONTROL` (R265). -/
def GROUP_CONTROL (g : Nat) : Nat := 0x2900000 + g * 0x80
/-- `GROUP_ELEMENTS` (R265). -/
def GROUP_ELEMENTS (g : Nat) : Nat := 0x2900008 + g * 0x80
/-- `GROUP_ACC_BASE` (R265). -/
def GROUP_ACC_BASE (g : Nat) : Nat := 0x2900010 + g * 0x80
/-- `GROUP_MASTER_BASE` (R265). -/
def GROUP_MASTER_BASE (g : Nat) : Nat := 0x2900018 + g * 0x80
/-- `GROUP_STATE_BASE` (R265). -/
def GROUP_STATE_BASE (g : Nat) : Nat := 0x2900020 + g * 0x80
/-- `GROUP_WC_BF16_BASE` (R265). -/
def GROUP_WC_BF16_BASE (g : Nat) : Nat := 0x2900028 + g * 0x80
/-- `GROUP_WC_FP8_BASE` (R265). -/
def GROUP_WC_FP8_BASE (g : Nat) : Nat := 0x2900030 + g * 0x80
/-- `GROUP_PENDING_BASE` (R265). -/
def GROUP_PENDING_BASE (g : Nat) : Nat := 0x2900038 + g * 0x80
/-- `GROUP_HYPER` (R265). -/
def GROUP_HYPER (g : Nat) : Nat := 0x2900040 + g * 0x80
/-- `GROUP_BETAS` (R265). -/
def GROUP_BETAS (g : Nat) : Nat := 0x2900048 + g * 0x80
/-- `GROUP_EPSILON` (R265). -/
def GROUP_EPSILON (g : Nat) : Nat := 0x2900050 + g * 0x80
/-- `GROUP_WINDOW` (R265). -/
def GROUP_WINDOW (g : Nat) : Nat := 0x2900058 + g * 0x80
/-- `GROUP_TELLTALE` (R265). -/
def GROUP_TELLTALE (g : Nat) : Nat := 0x2900060 + g * 0x80
/-- `GROUP_STEP` (R265). -/
def GROUP_STEP (g : Nat) : Nat := 0x2900068 + g * 0x80
/-- `GROUP_POWERS` (R265). -/
def GROUP_POWERS (g : Nat) : Nat := 0x2900070 + g * 0x80
/-- `GROUP_STATUS` (R265). -/
def GROUP_STATUS (g : Nat) : Nat := 0x2900078 + g * 0x80
/-- `GATE_CONTROL` (R308). -/
def GATE_CONTROL (t : Nat) : Nat := 0x2806000 + t * 0x100
/-- `GATE_TRIGGER` (R308). -/
def GATE_TRIGGER (t : Nat) : Nat := 0x2806008 + t * 0x100
/-- `GATE_STEP` (R308). -/
def GATE_STEP (t : Nat) : Nat := 0x2806010 + t * 0x100
/-- `GATE_STATE` (R308). -/
def GATE_STATE (t : Nat) : Nat := 0x2806018 + t * 0x100
/-- `GATE_WINDOW` (R308). -/
def GATE_WINDOW (t : Nat) : Nat := 0x2806020 + t * 0x100
/-- `GATE_LIMITS` (R308). -/
def GATE_LIMITS (t : Nat) : Nat := 0x2806028 + t * 0x100
/-- `LOSS_SCALE` (R308). -/
def LOSS_SCALE (t : Nat) : Nat := 0x2806030 + t * 0x100
/-- `CLEAN_STEPS` (R308). -/
def CLEAN_STEPS (t : Nat) : Nat := 0x2806038 + t * 0x100
/-- `SCALE_ADDR` (R308). -/
def SCALE_ADDR (t : Nat) : Nat := 0x2806040 + t * 0x100
/-- `GATE_LAST` (R308). -/
def GATE_LAST (t : Nat) : Nat := 0x2806048 + t * 0x100
/-- `GATE_NORM` (R308). -/
def GATE_NORM (t : Nat) : Nat := 0x2806050 + t * 0x100
/-- `GATE_SUM_LOW` (R308). -/
def GATE_SUM_LOW (t : Nat) : Nat := 0x2806058 + t * 0x100
/-- `GATE_SUM_HIGH` (R308). -/
def GATE_SUM_HIGH (t : Nat) : Nat := 0x2806060 + t * 0x100
/-- `GATE_WAIT_LIMIT` (R308). -/
def GATE_WAIT_LIMIT (t : Nat) : Nat := 0x2806068 + t * 0x100
/-- `GATE_NONFINITE_GRADIENT` (R308). -/
def GATE_NONFINITE_GRADIENT (t : Nat) : Nat := 0x2806070 + t * 0x100
/-- `GATE_LONG_OVERFLOW` (R308). -/
def GATE_LONG_OVERFLOW (t : Nat) : Nat := 0x2806078 + t * 0x100
/-- `GATE_NORM_LIMIT` (R308). -/
def GATE_NORM_LIMIT (t : Nat) : Nat := 0x2806080 + t * 0x100
/-- `GATE_STEP_SKEW` (R308). -/
def GATE_STEP_SKEW (t : Nat) : Nat := 0x2806088 + t * 0x100
/-- `GATE_SILENT_LAYER` (R308). -/
def GATE_SILENT_LAYER (t : Nat) : Nat := 0x2806090 + t * 0x100
/-- `GATE_SAMPLER_MISMATCH` (R308). -/
def GATE_SAMPLER_MISMATCH (t : Nat) : Nat := 0x2806098 + t * 0x100
/-- `GATE_FROZEN_WRITE` (R308). -/
def GATE_FROZEN_WRITE (t : Nat) : Nat := 0x28060a0 + t * 0x100
/-- `GATE_ABANDONED` (R308). -/
def GATE_ABANDONED (t : Nat) : Nat := 0x28060a8 + t * 0x100
/-- `TELLTALE_NORMS` (R308). -/
def TELLTALE_NORMS (g : Nat) : Nat := 0x2a00000 + g * 0x20
/-- `TELLTALE_ZERO` (R308). -/
def TELLTALE_ZERO (g : Nat) : Nat := 0x2a00008 + g * 0x20
/-- `TELLTALE_STATUS` (R308). -/
def TELLTALE_STATUS (g : Nat) : Nat := 0x2a00010 + g * 0x20
/-- `TELLTALE_CONTROL` (R308). -/
def TELLTALE_CONTROL (g : Nat) : Nat := 0x2a00018 + g * 0x20
/-- `BRIDE_PORT_CONTROL` (R335). -/
def BRIDE_PORT_CONTROL (p : Nat) : Nat := 0x3000000 + p * 0x10000
/-- `BRIDE_PORT_STATUS` (R335). -/
def BRIDE_PORT_STATUS (p : Nat) : Nat := 0x3000008 + p * 0x10000
/-- `BRIDE_PORT_LANES` (R335). -/
def BRIDE_PORT_LANES (p : Nat) : Nat := 0x3000010 + p * 0x10000
/-- `BRIDE_PORT_DELAY` (R335). -/
def BRIDE_PORT_DELAY (p : Nat) : Nat := 0x3000018 + p * 0x10000
/-- `BRIDE_PORT_SHED_LIMITS` (R335). -/
def BRIDE_PORT_SHED_LIMITS (p : Nat) : Nat := 0x3000020 + p * 0x10000
/-- `BRIDE_PORT_DRAIN_LIMIT` (R335). -/
def BRIDE_PORT_DRAIN_LIMIT (p : Nat) : Nat := 0x3000028 + p * 0x10000
/-- `BRIDE_PORT_FEC_CORRECTED` (R335). -/
def BRIDE_PORT_FEC_CORRECTED (p : Nat) : Nat := 0x3000030 + p * 0x10000
/-- `BRIDE_PORT_FEC_UNCORRECTABLE` (R335). -/
def BRIDE_PORT_FEC_UNCORRECTABLE (p : Nat) : Nat := 0x3000038 + p * 0x10000
/-- `BRIDE_PORT_FLIT_ERROR` (R335). -/
def BRIDE_PORT_FLIT_ERROR (p : Nat) : Nat := 0x3000040 + p * 0x10000
/-- `BRIDE_PORT_RETRY` (R335). -/
def BRIDE_PORT_RETRY (p : Nat) : Nat := 0x3000048 + p * 0x10000
/-- `BRIDE_PORT_LINK_SHED` (R335). -/
def BRIDE_PORT_LINK_SHED (p : Nat) : Nat := 0x3000050 + p * 0x10000
/-- `BRIDE_PORT_REPLY_DEFERRED` (R335). -/
def BRIDE_PORT_REPLY_DEFERRED (p : Nat) : Nat := 0x3000058 + p * 0x10000
/-- `BRIDE_PORT_LANE_STATUS` (R335). -/
def BRIDE_PORT_LANE_STATUS (p : Nat) (l : Nat) : Nat := 0x3000100 + p * 0x10000 + l * 0x8
/-- `BRIDE_ROUTE_CONTROL` (R367). -/
def BRIDE_ROUTE_CONTROL : Nat := 0x3400000
/-- `BRIDE_ROUTE_STATUS` (R367). -/
def BRIDE_ROUTE_STATUS : Nat := 0x3400008
/-- `BRIDE_ROUTE_GENERATION` (R367). -/
def BRIDE_ROUTE_GENERATION : Nat := 0x3400010
/-- `BRIDE_ROUTE_TRANSPORT` (R367). -/
def BRIDE_ROUTE_TRANSPORT : Nat := 0x3400018
/-- `BRIDE_ROUTE_BEACON` (R367). -/
def BRIDE_ROUTE_BEACON : Nat := 0x3400020
/-- `ROUTE_UNDELIVERABLE` (R367). -/
def ROUTE_UNDELIVERABLE : Nat := 0x3400040
/-- `ROUTE_E2E_MISMATCH` (R367). -/
def ROUTE_E2E_MISMATCH : Nat := 0x3400048
/-- `ROUTE_MALFORMED` (R367). -/
def ROUTE_MALFORMED : Nat := 0x3400050
/-- `ROUTE_RESENT` (R367). -/
def ROUTE_RESENT : Nat := 0x3400058
/-- `ROUTE_SAMPLER_MISMATCH` (R367). -/
def ROUTE_SAMPLER_MISMATCH : Nat := 0x3400060
/-- `ROUTE_REORDER_DROP` (R367). -/
def ROUTE_REORDER_DROP : Nat := 0x3400068
/-- `NEIGHBOUR` (R367). -/
def NEIGHBOUR (p : Nat) : Nat := 0x3400100 + p * 0x8
/-- `MCAST` (R367). -/
def MCAST (g : Nat) : Nat := 0x3400200 + g * 0x8
/-- `DIGEST` (R367). -/
def DIGEST (t : Nat) (w : Nat) : Nat := 0x3401000 + t * 0x100 + w * 0x8
/-- `DIGEST_REF` (R367). -/
def DIGEST_REF (t : Nat) (w : Nat) : Nat := 0x3401040 + t * 0x100 + w * 0x8
/-- `PRICKING` (R367). -/
def PRICKING (t : Nat) : Nat := 0x3401080 + t * 0x100
/-- `DIGEST_STATUS` (R367). -/
def DIGEST_STATUS (t : Nat) : Nat := 0x3401088 + t * 0x100
/-- `DEVICE_DIGEST` (R367). -/
def DEVICE_DIGEST (w : Nat) : Nat := 0x3403000 + w * 0x8
/-- `DEVICE_REF` (R367). -/
def DEVICE_REF (w : Nat) : Nat := 0x3403040 + w * 0x8
/-- `DEVICE_DIGEST_STATUS` (R367). -/
def DEVICE_DIGEST_STATUS : Nat := 0x3403080
/-- `COLLECTIVE_LIST_BASE` (R367). -/
def COLLECTIVE_LIST_BASE (e : Nat) : Nat := 0x3404000 + e * 0x40
/-- `COLLECTIVE_LIST_SIZE` (R367). -/
def COLLECTIVE_LIST_SIZE (e : Nat) : Nat := 0x3404008 + e * 0x40
/-- `COLLECTIVE_DOORBELL` (R367). -/
def COLLECTIVE_DOORBELL (e : Nat) : Nat := 0x3404010 + e * 0x40
/-- `COLLECTIVE_STATUS` (R367). -/
def COLLECTIVE_STATUS (e : Nat) : Nat := 0x3404018 + e * 0x40
/-- `COLLECTIVE_CONTROL` (R367). -/
def COLLECTIVE_CONTROL (e : Nat) : Nat := 0x3404020 + e * 0x40
/-- `COLLECTIVE_OWNER` (R367). -/
def COLLECTIVE_OWNER (e : Nat) : Nat := 0x3404028 + e * 0x40
/-- `COLLECTIVE_LIMITS` (R367). -/
def COLLECTIVE_LIMITS (e : Nat) : Nat := 0x3404030 + e * 0x40
/-- `ROUTE` (R367). -/
def ROUTE (i : Nat) : Nat := 0x3408000 + i * 0x8
/-- `INTEGRITY_SELFTEST` (R393). -/
def INTEGRITY_SELFTEST : Nat := 0x3e00000
/-- `INTEGRITY_LAST_ERROR` (R393). -/
def INTEGRITY_LAST_ERROR : Nat := 0x3e00010
/-- `INTEGRITY_LAST_ADDRESS` (R393). -/
def INTEGRITY_LAST_ADDRESS : Nat := 0x3e00018
/-- `INTEGRITY_CORRECTED` (R393). -/
def INTEGRITY_CORRECTED (x : Nat) : Nat := 0x3e00020 + x * 0x8
/-- `INTEGRITY_UNCORRECTABLE_NEAR` (R393). -/
def INTEGRITY_UNCORRECTABLE_NEAR : Nat := 0x3e00048
/-- `INTEGRITY_TRANSIENT` (R393). -/
def INTEGRITY_TRANSIENT : Nat := 0x3e00050
/-- `INTEGRITY_ROW_DARNED` (R393). -/
def INTEGRITY_ROW_DARNED : Nat := 0x3e00058
/-- `INTEGRITY_NO_SPARE` (R393). -/
def INTEGRITY_NO_SPARE : Nat := 0x3e00060
/-- `INTEGRITY_TEST_DROPPED` (R393). -/
def INTEGRITY_TEST_DROPPED : Nat := 0x3e00068
/-- `INTEGRITY_CHECK_MISMATCH` (R393). -/
def INTEGRITY_CHECK_MISMATCH : Nat := 0x3e00070
/-- `INTEGRITY_BOND_REPAIRED` (R393). -/
def INTEGRITY_BOND_REPAIRED : Nat := 0x3e00078
/-- `INTEGRITY_BOND_DEGRADED` (R393). -/
def INTEGRITY_BOND_DEGRADED : Nat := 0x3e00080
/-- `INTEGRITY_BOND_RESEND` (R393). -/
def INTEGRITY_BOND_RESEND : Nat := 0x3e00088
/-- `INTEGRITY_SPARES` (R393). -/
def INTEGRITY_SPARES (i : Nat) : Nat := 0x3e01000 + i * 0x8
/-- `INTEGRITY_BUNDLE` (R393). -/
def INTEGRITY_BUNDLE (b : Nat) : Nat := 0x3e10000 + b * 0x8
/-- `MV_CHECK_CONTROL` (R393). -/
def MV_CHECK_CONTROL (n : Nat) (m : Nat) : Nat := coreBase n + 0xb00 + m * 0x40
/-- `MV_CHECK_RUNNING` (R393). -/
def MV_CHECK_RUNNING (n : Nat) (m : Nat) : Nat := coreBase n + 0xb08 + m * 0x40
/-- `MV_REPORT_BASE` (R393). -/
def MV_REPORT_BASE (n : Nat) (m : Nat) : Nat := coreBase n + 0xb10 + m * 0x40
/-- `MV_REPORT_RING` (R393). -/
def MV_REPORT_RING (n : Nat) (m : Nat) : Nat := coreBase n + 0xb18 + m * 0x40
/-- `THERMAL_CONTROL` (R408). -/
def THERMAL_CONTROL : Nat := 0x800000
/-- `THERMAL_STATUS` (R408). -/
def THERMAL_STATUS : Nat := 0x800008
/-- `THERMAL_INPUT` (R408). -/
def THERMAL_INPUT : Nat := 0x800010
/-- `THERMAL_ENERGY` (R408). -/
def THERMAL_ENERGY : Nat := 0x800018
/-- `THERMAL_POWER_LIMIT` (R408). -/
def THERMAL_POWER_LIMIT : Nat := 0x800020
/-- `THERMAL_ESTIMATE` (R408). -/
def THERMAL_ESTIMATE : Nat := 0x800028
/-- `THERMAL_DEMAND` (R408). -/
def THERMAL_DEMAND : Nat := 0x800030
/-- `THERMAL_TRIP` (R408). -/
def THERMAL_TRIP : Nat := 0x800038
/-- `THERMAL_WARNING` (R408). -/
def THERMAL_WARNING : Nat := 0x800040
/-- `THERMAL_THROTTLE` (R408). -/
def THERMAL_THROTTLE : Nat := 0x800048
/-- `THERMAL_SENSOR_SUSPECT` (R408). -/
def THERMAL_SENSOR_SUSPECT : Nat := 0x800050
/-- `THERMAL_CAP_STEPS` (R408). -/
def THERMAL_CAP_STEPS : Nat := 0x800058
/-- `THERMAL_COMPENSATION` (R408). -/
def THERMAL_COMPENSATION : Nat := 0x800060
/-- `THERMAL_CLUSTER_DUTY` (R408). -/
def THERMAL_CLUSTER_DUTY (c : Nat) : Nat := 0x800100 + c * 0x8
/-- `THERMAL_SENSOR` (R408). -/
def THERMAL_SENSOR (s : Nat) : Nat := 0x801000 + s * 0x8
/-- `ENDPOINT_STATUS` (R429). -/
def ENDPOINT_STATUS (e : Nat) : Nat := 0x3800000 + e * 0x100
/-- `ENDPOINT_DMA_ERROR` (R429). -/
def ENDPOINT_DMA_ERROR (e : Nat) : Nat := 0x3800008 + e * 0x100
/-- `ENDPOINT_POISONED` (R429). -/
def ENDPOINT_POISONED (e : Nat) : Nat := 0x3800010 + e * 0x100
/-- `CORE_OWNER` (R429). -/
def CORE_OWNER (n : Nat) : Nat := 0x3800400 + n * 0x8
/-- `FUNCTION_BINDING` (R429). -/
def FUNCTION_BINDING (f : Nat) : Nat := 0x3801000 + f * 0x200
/-- `FUNCTION_APERTURE` (R429). -/
def FUNCTION_APERTURE (f : Nat) : Nat := 0x3801008 + f * 0x200
/-- `FUNCTION_COMPLETION_BASE` (R429). -/
def FUNCTION_COMPLETION_BASE (f : Nat) : Nat := 0x3801010 + f * 0x200
/-- `FUNCTION_COMPLETION_RING` (R429). -/
def FUNCTION_COMPLETION_RING (f : Nat) : Nat := 0x3801018 + f * 0x200
/-- `FUNCTION_COMPLETION_READ` (R429). -/
def FUNCTION_COMPLETION_READ (f : Nat) : Nat := 0x3801020 + f * 0x200
/-- `FUNCTION_MAILBOX_BASE` (R429). -/
def FUNCTION_MAILBOX_BASE (f : Nat) : Nat := 0x3801028 + f * 0x200
/-- `FUNCTION_MAILBOX_RING` (R429). -/
def FUNCTION_MAILBOX_RING (f : Nat) : Nat := 0x3801030 + f * 0x200
/-- `FUNCTION_MAILBOX_READ` (R429). -/
def FUNCTION_MAILBOX_READ (f : Nat) : Nat := 0x3801038 + f * 0x200
/-- `FUNCTION_DENIED` (R429). -/
def FUNCTION_DENIED (f : Nat) : Nat := 0x3801040 + f * 0x200
/-- `FUNCTION_WINDOW_HOST_ADDR` (R429). -/
def FUNCTION_WINDOW_HOST_ADDR (f : Nat) (w : Nat) : Nat := 0x3801100 + f * 0x200 + w * 0x10
/-- `FUNCTION_WINDOW_CONTROL` (R429). -/
def FUNCTION_WINDOW_CONTROL (f : Nat) (w : Nat) : Nat := 0x3801108 + f * 0x200 + w * 0x10
/-- `MGMT_REQUEST` (R429). -/
def MGMT_REQUEST (f : Nat) (w : Nat) : Nat := 0x200000 + f * 0x400 + w * 0x8
/-- `MGMT_RESPONSE` (R429). -/
def MGMT_RESPONSE (f : Nat) (w : Nat) : Nat := 0x200100 + f * 0x400 + w * 0x8
/-- `MGMT_DOORBELL` (R429). -/
def MGMT_DOORBELL (f : Nat) : Nat := 0x200200 + f * 0x400
/-- `MGMT_STATUS` (R429). -/
def MGMT_STATUS (f : Nat) : Nat := 0x200208 + f * 0x400
/-- `SECURITY_BOOT_STATUS` (R446). -/
def SECURITY_BOOT_STATUS : Nat := 0x3c00000
/-- `SECURITY_UPTIME_NS` (R446). -/
def SECURITY_UPTIME_NS : Nat := 0x3c00008
/-- `SECURITY_FIRMWARE` (R446). -/
def SECURITY_FIRMWARE : Nat := 0x3c00010
/-- `SECURITY_UPDATE_STATUS` (R446). -/
def SECURITY_UPDATE_STATUS : Nat := 0x3c00018
/-- `SECURITY_ACTIVATE_AT` (R446). -/
def SECURITY_ACTIVATE_AT : Nat := 0x3c00020
/-- `SECURITY_DEBUG` (R446). -/
def SECURITY_DEBUG : Nat := 0x3c00028
/-- `SECURITY_FEED_CONTROL` (R446). -/
def SECURITY_FEED_CONTROL : Nat := 0x3c00030
/-- `SECURITY_MEASUREMENT` (R446). -/
def SECURITY_MEASUREMENT (w : Nat) : Nat := 0x3c00040 + w * 0x8
/-- `SECURITY_FEED_WINDOW` (R446). -/
def SECURITY_FEED_WINDOW (w : Nat) : Nat := 0x3d00000 + w * 0x8
/-- `EVENT_CONTROL` (R463). -/
def EVENT_CONTROL : Nat := 0x400000
/-- `EVENT_STICKY` (R463). -/
def EVENT_STICKY : Nat := 0x400008
/-- `EVENT_ALERT_MASK` (R463). -/
def EVENT_ALERT_MASK : Nat := 0x400010
/-- `EVENT_ALERT` (R463). -/
def EVENT_ALERT : Nat := 0x400018
/-- `EVENT_TRACE_MASK` (R463). -/
def EVENT_TRACE_MASK : Nat := 0x400020
/-- `EVENT_MCTP_SKIPPED` (R463). -/
def EVENT_MCTP_SKIPPED : Nat := 0x400028
/-- `EVENT_CONDITION` (R463). -/
def EVENT_CONDITION (n : Nat) : Nat := 0x400100 + n * 0x8
/-- `RIBBON_HOST_BASE` (R463). -/
def RIBBON_HOST_BASE (r : Nat) : Nat := 0x401000 + r * 0x40
/-- `RIBBON_CONTROL` (R463). -/
def RIBBON_CONTROL (r : Nat) : Nat := 0x401008 + r * 0x40
/-- `RIBBON_POINTERS` (R463). -/
def RIBBON_POINTERS (r : Nat) : Nat := 0x401010 + r * 0x40
/-- `RIBBON_STATUS` (R463). -/
def RIBBON_STATUS (r : Nat) : Nat := 0x401018 + r * 0x40
/-- `RIBBON_DROPPED` (R463). -/
def RIBBON_DROPPED (r : Nat) : Nat := 0x401020 + r * 0x40
/-- `RIBBON_FOLDED` (R463). -/
def RIBBON_FOLDED (r : Nat) : Nat := 0x401028 + r * 0x40
/-- `EVTENANT_STICKY` (R463). -/
def EVTENANT_STICKY (t : Nat) : Nat := 0x402000 + t * 0x40
/-- `EVTENANT_RING_BASE` (R463). -/
def EVTENANT_RING_BASE (t : Nat) : Nat := 0x402008 + t * 0x40
/-- `EVTENANT_RING_CONTROL` (R463). -/
def EVTENANT_RING_CONTROL (t : Nat) : Nat := 0x402010 + t * 0x40
/-- `EVTENANT_RING_POINTERS` (R463). -/
def EVTENANT_RING_POINTERS (t : Nat) : Nat := 0x402018 + t * 0x40
/-- `EVTENANT_RING_DROPPED` (R463). -/
def EVTENANT_RING_DROPPED (t : Nat) : Nat := 0x402020 + t * 0x40
/-- `RIBBON_ENTRY` (R463). -/
def RIBBON_ENTRY (r : Nat) (i : Nat) (k : Nat) : Nat := 0x410000 + r * 0x20000 + i * 0x20 + k * 0x8
/-- `DEVICE_IDENTITY` (R471). -/
def DEVICE_IDENTITY : Nat := 0x0
/-- `DEVICE_SERIAL` (R471). -/
def DEVICE_SERIAL : Nat := 0x8
/-- `DEVICE_CAPABILITY` (R471). -/
def DEVICE_CAPABILITY : Nat := 0x10
/-- `DEVICE_ACCESS_ERROR` (R471). -/
def DEVICE_ACCESS_ERROR : Nat := 0x18
/-- `DEVICE_FUSE_MAP` (R471). -/
def DEVICE_FUSE_MAP : Nat := 0x20
/-- `DEVICE_RETIRE_UNITS` (R471). -/
def DEVICE_RETIRE_UNITS : Nat := 0x28
/-- `DEVICE_RETIRE_UPDATE` (R471). -/
def DEVICE_RETIRE_UPDATE : Nat := 0x30
/-- `DEVICE_RETIRE_QUEUES` (R471). -/
def DEVICE_RETIRE_QUEUES : Nat := 0x38
/-- `DEVICE_RETIRE_CORES` (R471). -/
def DEVICE_RETIRE_CORES (w : Nat) : Nat := 0x40 + w * 0x8
/-- `DEVICE_RETIRE_ENGINES` (R471). -/
def DEVICE_RETIRE_ENGINES (w : Nat) : Nat := 0x50 + w * 0x8
/-- `NEAR_PANEL_STATUS` (R473). -/
def NEAR_PANEL_STATUS (i : Nat) : Nat := 0x2000000 + i * 0x20
/-- `NEAR_PANEL_READS` (R473). -/
def NEAR_PANEL_READS (i : Nat) : Nat := 0x2000008 + i * 0x20
/-- `NEAR_PANEL_WRITES` (R473). -/
def NEAR_PANEL_WRITES (i : Nat) : Nat := 0x2000010 + i * 0x20
/-- `NEAR_PANEL_MESH_WAIT` (R473). -/
def NEAR_PANEL_MESH_WAIT (i : Nat) : Nat := 0x2000018 + i * 0x20

end Reg

namespace Fl

def TICK_CONTROL_ROLE : Fld := ⟨0, 2⟩
def TICK_CONTROL_TICK_OUT_EN : Fld := ⟨2, 1⟩
def TICK_CONTROL_UPSTREAM_PORT : Fld := ⟨8, 5⟩
def TICK_STATUS_HOLDING : Fld := ⟨0, 1⟩
def TICK_STATUS_DOMAIN_HOLD : Fld := ⟨1, 1⟩
def TICK_STATUS_HOLDOVER : Fld := ⟨2, 1⟩
def TICK_STATUS_COUNT_MISMATCH : Fld := ⟨3, 1⟩
def TICK_STATUS_LEN_PENDING : Fld := ⟨4, 1⟩
def TICK_STATUS_EXTERNAL_ALIGNED : Fld := ⟨5, 1⟩
def TICK_STATUS_ALIGN_OFFSET : Fld := ⟨8, 8⟩
def TICK_STATUS_HOPS : Fld := ⟨16, 8⟩
def TICK_STITCH_COUNT_COUNT : Fld := ⟨0, 64⟩
def TICK_STITCH_LEN_LEN : Fld := ⟨0, 17⟩
def TICK_LEN_NEXT_LEN : Fld := ⟨0, 17⟩
def TICK_LEN_CHANGE_AT_STITCH : Fld := ⟨0, 64⟩
def TICK_DOMAIN_REACH_CYCLES : Fld := ⟨0, 16⟩
def TICK_SLIP_LIMIT_STITCHES : Fld := ⟨0, 16⟩
def TICK_SLIP_CYCLES_CYCLES : Fld := ⟨0, 64⟩
def TICK_DROPPED_STITCH_COUNT : Fld := ⟨0, 32⟩
def TICK_IN_DELAY_NS : Fld := ⟨0, 10⟩
def TICK_IN_SKIPPED_COUNT : Fld := ⟨0, 32⟩
def TICK_TENANT_POLICY_DROP_POLICY : Fld := ⟨0, 1⟩
def TICK_TENANT_START_STITCH_STITCH : Fld := ⟨0, 64⟩
def STATION_CONFIG_ENABLE : Fld := ⟨0, 1⟩
def STATION_CONFIG_CONFIG_ERR : Fld := ⟨1, 1⟩
def STATION_CONFIG_CADENCE : Fld := ⟨8, 4⟩
def STATION_CONFIG_PHASE : Fld := ⟨16, 4⟩
def STATION_DROPPED_COUNT : Fld := ⟨0, 32⟩
def SHUTTLE_CONTROL_STOP_REQ : Fld := ⟨0, 1⟩
def SHUTTLE_STATUS_STATE : Fld := ⟨0, 3⟩
def SHUTTLE_STATUS_STALL_CAUSE : Fld := ⟨4, 2⟩
def SHUTTLE_STATUS_STALL_ENGINE : Fld := ⟨6, 2⟩
def SHUTTLE_STATUS_STOP_REASON : Fld := ⟨8, 4⟩
def SHUTTLE_STATUS_PC : Fld := ⟨16, 13⟩
def SHUTTLE_STATUS_WRITE_IGNORED : Fld := ⟨32, 1⟩
def SHUTTLE_STALL_CYCLES_CYCLES : Fld := ⟨0, 64⟩
def COUNTER_VALUE : Fld := ⟨0, 32⟩
def GEN_BASE_ADDR : Fld := ⟨0, 48⟩
def GEN_CONFIG_DIMS : Fld := ⟨0, 3⟩
def GEN_CONFIG_END : Fld := ⟨8, 1⟩
def GEN_DIM_COUNT : Fld := ⟨0, 16⟩
def GEN_DIM_STRIDE : Fld := ⟨32, 32⟩
def GEN_INDEX_IDX : Fld := ⟨0, 64⟩
def GEN_INDEX_HI_IDX : Fld := ⟨0, 32⟩
def QUEUE_CONTROL_REQ : Fld := ⟨0, 2⟩
def QUEUE_STATUS_STATE : Fld := ⟨0, 2⟩
def QUEUE_STATUS_DEPTH : Fld := ⟨2, 10⟩
def QUEUE_STATUS_IN_FLIGHT : Fld := ⟨12, 5⟩
def QUEUE_STATUS_LAST_STATUS : Fld := ⟨20, 3⟩
def QUEUE_STATUS_REQ_ERR : Fld := ⟨24, 1⟩
def QUEUE_CANCELLED_COUNT : Fld := ⟨0, 32⟩
def QUEUE_ABORTED_COUNT : Fld := ⟨0, 32⟩
def CORE_UNIT_CONTROL_REQ : Fld := ⟨0, 2⟩
def CORE_UNIT_STATUS_STATE : Fld := ⟨0, 2⟩
def CORE_UNIT_STATUS_REQ_ERR : Fld := ⟨8, 1⟩
def CORE_DRAIN_LIMIT_STITCHES : Fld := ⟨0, 16⟩
def CORE_ABSENT_UNIT_COUNT : Fld := ⟨0, 32⟩
def CORE_DRAIN_TIMEOUT_COUNT : Fld := ⟨0, 32⟩
def TILE_LO_BASE : Fld := ⟨0, 16⟩
def TILE_LO_ROWS : Fld := ⟨16, 8⟩
def TILE_LO_COLS : Fld := ⟨24, 10⟩
def TILE_LO_FORMAT : Fld := ⟨36, 4⟩
def TILE_HI_ROW_STRIDE : Fld := ⟨0, 22⟩
def TILE_HI_SCALE_BASE : Fld := ⟨32, 16⟩
def TEMPLATE_LO_VALUE : Fld := ⟨0, 64⟩
def TEMPLATE_HI_VALUE : Fld := ⟨0, 64⟩
def PEER_DEVICE : Fld := ⟨0, 16⟩
def PEER_VALID : Fld := ⟨31, 1⟩
def INSTRUCTION_VALUE : Fld := ⟨0, 64⟩
def CLUSTER_UNIT_CONTROL_REQ : Fld := ⟨0, 2⟩
def CLUSTER_UNIT_STATUS_STATE : Fld := ⟨0, 2⟩
def CLUSTER_UNIT_STATUS_REQ_ERR : Fld := ⟨8, 1⟩
def MX_PROMOTE_HALF : Fld := ⟨0, 6⟩
def MX_PROMOTE_BYTE : Fld := ⟨8, 6⟩
def MX_PROMOTE_MXFP4 : Fld := ⟨16, 6⟩
def MX_PROMOTE_THREE_PASS : Fld := ⟨24, 6⟩
def MX_SPILL_STITCHES : Fld := ⟨0, 8⟩
def MX_SPILL_RECORD_STEPS : Fld := ⟨0, 16⟩
def MX_SPILL_RECORD_VALID : Fld := ⟨16, 1⟩
def MX_SPILL_RECORD_STITCH : Fld := ⟨32, 32⟩
def MX_DRAIN_SCALE_SCALE : Fld := ⟨0, 32⟩
def MX_FLAGS_NAN_INPUT : Fld := ⟨0, 1⟩
def MX_FLAGS_INVALID : Fld := ⟨1, 1⟩
def MX_FLAGS_INFINITY : Fld := ⟨2, 1⟩
def MX_FLAGS_OVERFLOW : Fld := ⟨3, 1⟩
def MX_FLAGS_FLUSHED : Fld := ⟨4, 1⟩
def MX_GROUP_CYCLES_CYCLES : Fld := ⟨0, 64⟩
def MX_STALL_CYCLES_CYCLES : Fld := ⟨0, 64⟩
def VX_VLEN_ROWS : Fld := ⟨0, 4⟩
def VX_VLEN_COLUMNS : Fld := ⟨8, 4⟩
def VX_STATUS_SLOT_ERR : Fld := ⟨0, 1⟩
def VX_STATUS_ERR_PROGRAM : Fld := ⟨1, 1⟩
def VX_STATUS_ERR_SLOT : Fld := ⟨4, 4⟩
def VX_STATUS_ERR_POSITION : Fld := ⟨8, 7⟩
def VX_STATUS_WRITE_IGNORED : Fld := ⟨16, 1⟩
def VX_FLAGS_NAN_INPUT : Fld := ⟨0, 1⟩
def VX_FLAGS_INVALID : Fld := ⟨1, 1⟩
def VX_FLAGS_DIVIDE_BY_ZERO : Fld := ⟨2, 1⟩
def VX_FLAGS_OVERFLOW : Fld := ⟨3, 1⟩
def VX_FLAGS_FLUSHED : Fld := ⟨4, 1⟩
def VX_BLOCK_CYCLES_CYCLES : Fld := ⟨0, 64⟩
def VX_HAZARD_CYCLES_CYCLES : Fld := ⟨0, 64⟩
def VX_CHAIN_HEAD_STAGES : Fld := ⟨0, 4⟩
def VX_CHAIN_HEAD_INITIAL : Fld := ⟨4, 2⟩
def VX_CHAIN_HEAD_INITIAL_VREG : Fld := ⟨6, 5⟩
def VX_CHAIN_HEAD_B_MODE : Fld := ⟨11, 2⟩
def VX_CHAIN_HEAD_B_INDEX : Fld := ⟨13, 4⟩
def VX_CHAIN_HEAD_OUTPUT : Fld := ⟨17, 1⟩
def VX_CHAIN_HEAD_VALID : Fld := ⟨24, 1⟩
def VX_CHAIN_HEAD_INITIAL_CONSTANT : Fld := ⟨32, 32⟩
def VX_CHAIN_STAGE_VALUE : Fld := ⟨0, 64⟩
def VX_CHAIN_CONSTANT_VALUE : Fld := ⟨0, 64⟩
def VX_PROGRAM_HEAD_LENGTH : Fld := ⟨0, 6⟩
def VX_PROGRAM_HEAD_B_MODE : Fld := ⟨11, 2⟩
def VX_PROGRAM_HEAD_B_INDEX : Fld := ⟨13, 4⟩
def VX_PROGRAM_HEAD_OUTPUT : Fld := ⟨17, 1⟩
def VX_PROGRAM_HEAD_VALID : Fld := ⟨24, 1⟩
def VX_PROGRAM_CONSTANT_VALUE : Fld := ⟨0, 64⟩
def VX_PROGRAM_OP_VALUE : Fld := ⟨0, 64⟩
def KNOT_STATE_COUNT : Fld := ⟨0, 32⟩
def KNOT_STATE_FRAYED : Fld := ⟨32, 1⟩
def KNOT_STATE_ARMED : Fld := ⟨33, 1⟩
def KNOT_STATE_PENDING : Fld := ⟨34, 1⟩
def KNOT_STATE_RETURN_DEVICE : Fld := ⟨48, 16⟩
def KNOT_ARM_THRESHOLD : Fld := ⟨0, 32⟩
def KNOT_ARM_RETURN_KNOT : Fld := ⟨32, 17⟩
def KNOT_ARM_TARGET : Fld := ⟨49, 2⟩
def KNOT_ARM_ARM : Fld := ⟨63, 1⟩
def KNOT_OWNER_TENANT : Fld := ⟨0, 5⟩
def KNOT_OWNER_VALID : Fld := ⟨8, 1⟩
def KNOT_OWNER_REMOTE_OK : Fld := ⟨9, 1⟩
def KNOT_WAIT_LIMIT_STITCHES_STITCHES : Fld := ⟨0, 32⟩
def KNOT_TANGLE_CONTROL_ENABLE : Fld := ⟨0, 1⟩
def KNOT_TANGLE_CONTROL_PERSIST : Fld := ⟨1, 3⟩
def KNOT_TANGLE_STATUS_VALID : Fld := ⟨0, 1⟩
def KNOT_TANGLE_STATUS_TRUNCATED : Fld := ⟨1, 1⟩
def KNOT_TANGLE_STATUS_SIZE : Fld := ⟨8, 10⟩
def KNOT_TANGLE_EDGE_QUEUE : Fld := ⟨0, 9⟩
def KNOT_TANGLE_EDGE_KNOT : Fld := ⟨9, 17⟩
def KNOT_TANGLE_EDGE_SETTER_POSITION : Fld := ⟨26, 9⟩
def KNOT_TANGLE_EDGE_SETTER_QUEUE : Fld := ⟨35, 9⟩
def KNOT_FRAYED_KNOT_COUNT : Fld := ⟨0, 32⟩
def KNOT_WAIT_LIMIT_COUNT : Fld := ⟨0, 32⟩
def KNOT_TANGLE_COUNT : Fld := ⟨0, 32⟩
def KNOT_REMOTE_REFUSED_COUNT : Fld := ⟨0, 32⟩
def KNOT_NOTIFY_DROPPED_COUNT : Fld := ⟨0, 32⟩
def TIER_DRAIN_LIMIT_STITCHES : Fld := ⟨0, 16⟩
def TIER_WAIT_LIMIT_STITCHES_STITCHES : Fld := ⟨0, 32⟩
def TIER_QUEUE_LIST_BASE_ADDR : Fld := ⟨0, 48⟩
def TIER_QUEUE_LIST_SIZE_SIZE : Fld := ⟨0, 5⟩
def TIER_QUEUE_DOORBELL_WRITE_PTR : Fld := ⟨0, 16⟩
def TIER_QUEUE_STATUS_STATE : Fld := ⟨0, 2⟩
def TIER_QUEUE_STATUS_READ_PTR : Fld := ⟨2, 16⟩
def TIER_QUEUE_STATUS_IN_FLIGHT : Fld := ⟨18, 5⟩
def TIER_QUEUE_STATUS_LAST_STATUS : Fld := ⟨24, 3⟩
def TIER_QUEUE_CONTROL_REQ : Fld := ⟨0, 2⟩
def TIER_QUEUE_OWNER_TENANT : Fld := ⟨0, 5⟩
def TIER_QUEUE_OWNER_VALID : Fld := ⟨8, 1⟩
def TIER_QUEUE_ERROR_ENTRY : Fld := ⟨0, 16⟩
def TIER_QUEUE_ERROR_STATUS : Fld := ⟨16, 3⟩
def TIER_TENANT_QUOTA_SWATCHES : Fld := ⟨0, 32⟩
def TIER_TENANT_BORROW_LIMIT_SWATCHES : Fld := ⟨0, 32⟩
def TIER_TENANT_CHARGED_SWATCHES : Fld := ⟨0, 32⟩
def TIER_TENANT_BORROWED_SWATCHES : Fld := ⟨0, 32⟩
def TIER_TENANT_QUOTA_EXCEEDED_COUNT : Fld := ⟨0, 32⟩
def TIER_TENANT_EVICTION_DEFERRED_COUNT : Fld := ⟨0, 32⟩
def TIER_REGION_FAR_OWNER : Fld := ⟨0, 5⟩
def TIER_REGION_FAR_VALID : Fld := ⟨8, 1⟩
def TIER_REGION_FAR_READERS : Fld := ⟨32, 32⟩
def TIER_REGION_NEAR_OWNER : Fld := ⟨0, 5⟩
def TIER_REGION_NEAR_VALID : Fld := ⟨8, 1⟩
def TIER_REGION_NEAR_READERS : Fld := ⟨32, 32⟩
def TIER_OBJECT_OWNER_TENANT : Fld := ⟨0, 5⟩
def TIER_OBJECT_OWNER_VALID : Fld := ⟨8, 1⟩
def TIER_OBJECT_CONTROL_VALID : Fld := ⟨0, 1⟩
def TIER_OBJECT_CONTROL_WRITABLE : Fld := ⟨1, 1⟩
def TIER_OBJECT_CONTROL_HOME_TIER : Fld := ⟨2, 2⟩
def TIER_OBJECT_CONTROL_UP_TIER : Fld := ⟨4, 2⟩
def TIER_OBJECT_CONTROL_SWATCHES : Fld := ⟨8, 20⟩
def TIER_OBJECT_CONTROL_FORMAT : Fld := ⟨32, 4⟩
def TIER_OBJECT_CONTROL_ROWS : Fld := ⟨36, 8⟩
def TIER_OBJECT_CONTROL_COLS : Fld := ⟨44, 10⟩
def TIER_OBJECT_HOME_BASE_ADDR : Fld := ⟨0, 48⟩
def TIER_OBJECT_UP_BASE_ADDR : Fld := ⟨0, 48⟩
def TIER_OBJECT_SHARE_MASK : Fld := ⟨0, 32⟩
def TIER_OBJECT_SHARE_RELEASE_KNOT : Fld := ⟨32, 17⟩
def TIER_OBJECT_SHARE_RELEASE_EN : Fld := ⟨63, 1⟩
def TIER_OBJECT_STATUS_STATE : Fld := ⟨0, 3⟩
def TIER_OBJECT_STATUS_EVICT_PENDING : Fld := ⟨3, 1⟩
def TIER_OBJECT_STATUS_CHARGE_HOLDER : Fld := ⟨8, 5⟩
def TIER_OBJECT_STATUS_BORROW_CHARGED : Fld := ⟨13, 1⟩
def TIER_OBJECT_STATUS_CREATE_ERR : Fld := ⟨16, 3⟩
def TIER_OBJECT_STATUS_PINS : Fld := ⟨32, 32⟩
def FAR_CONTROL_URGENT_CAP : Fld := ⟨0, 11⟩
def FAR_CONTROL_STREAM_WEIGHT : Fld := ⟨16, 8⟩
def FAR_CONTROL_BULK_WEIGHT : Fld := ⟨24, 8⟩
def FAR_STATUS_STATE : Fld := ⟨0, 2⟩
def FAR_STATUS_REFRESH_DOUBLE : Fld := ⟨2, 1⟩
def FAR_STATUS_WARNING : Fld := ⟨3, 1⟩
def FAR_STATUS_TEMPERATURE : Fld := ⟨8, 8⟩
def FAR_IDENTITY_DIE_GBIT : Fld := ⟨0, 8⟩
def FAR_IDENTITY_HEIGHT : Fld := ⟨8, 8⟩
def FAR_IDENTITY_QUALIFIED : Fld := ⟨16, 1⟩
def FAR_RETIRED_PAGES_PAGES : Fld := ⟨0, 32⟩
def FAR_UNWRITE_BASE_ADDR : Fld := ⟨12, 36⟩
def FAR_UNWRITE_CONTROL_PAGES : Fld := ⟨0, 25⟩
def FAR_UNWRITE_CONTROL_DONE_KNOT : Fld := ⟨32, 17⟩
def FAR_UNWRITE_CONTROL_DONE_EN : Fld := ⟨63, 1⟩
def FAR_UNWRITE_STATUS_BUSY : Fld := ⟨0, 1⟩
def FAR_UNWRITE_STATUS_ERR : Fld := ⟨1, 3⟩
def FAR_LAST_ERROR_KIND : Fld := ⟨0, 2⟩
def FAR_LAST_ERROR_PC : Fld := ⟨8, 6⟩
def FAR_LAST_ERROR_BANK : Fld := ⟨16, 6⟩
def FAR_LAST_ERROR_ROW : Fld := ⟨22, 15⟩
def FAR_LAST_ERROR_LINE : Fld := ⟨40, 4⟩
def FAR_LAST_ERROR_BEAT : Fld := ⟨44, 1⟩
def FAR_LAST_ERROR_SYMBOL : Fld := ⟨45, 6⟩
def FAR_CORRECTED_COUNT : Fld := ⟨0, 32⟩
def FAR_UNCORRECTABLE_FAR_COUNT : Fld := ⟨0, 32⟩
def FAR_TRANSIENT_COUNT : Fld := ⟨0, 32⟩
def FAR_ROW_DARNED_COUNT : Fld := ⟨0, 32⟩
def FAR_ROW_RETIRED_COUNT : Fld := ⟨0, 32⟩
def FAR_TEST_DROPPED_COUNT : Fld := ⟨0, 32⟩
def FAR_LONG_OVERFLOW_COUNT : Fld := ⟨0, 32⟩
def FAR_GRANTS_COUNT : Fld := ⟨0, 64⟩
def FAR_WRITES_COUNT : Fld := ⟨0, 64⟩
def FAR_WCB_STATUS_LINES : Fld := ⟨0, 18⟩
def FAR_DARN_VALID : Fld := ⟨0, 1⟩
def FAR_DARN_DARNS : Fld := ⟨1, 2⟩
def FAR_DARN_PC : Fld := ⟨8, 6⟩
def FAR_DARN_BANK : Fld := ⟨16, 6⟩
def FAR_DARN_ROW : Fld := ⟨22, 15⟩
def FAR_DARN_SPARE : Fld := ⟨40, 5⟩
def FAR_RETIRE_VALID : Fld := ⟨0, 1⟩
def FAR_RETIRE_RETIRED : Fld := ⟨1, 1⟩
def FAR_RETIRE_PC : Fld := ⟨8, 6⟩
def FAR_RETIRE_BANK : Fld := ⟨16, 6⟩
def FAR_RETIRE_REGION : Fld := ⟨24, 9⟩
def FAR_RETIRE_CAUSE : Fld := ⟨34, 2⟩
def FAR_RETIRE_ACK : Fld := ⟨63, 1⟩
def UPDATE_PROMOTE_LIMIT_STITCHES : Fld := ⟨0, 32⟩
def UPDATE_DRAIN_LIMIT_STITCHES : Fld := ⟨0, 16⟩
def UPDATE_GROUP_OWNER_TENANT : Fld := ⟨0, 5⟩
def UPDATE_GROUP_OWNER_VALID : Fld := ⟨8, 1⟩
def UNIT_CONTROL_REQ : Fld := ⟨0, 2⟩
def UNIT_STATUS_STATE : Fld := ⟨0, 2⟩
def UNIT_STATUS_OVERFLOW : Fld := ⟨8, 1⟩
def UNIT_STATUS_FLUSHED : Fld := ⟨9, 1⟩
def UNIT_STATUS_GROUPS : Fld := ⟨16, 9⟩
def UNIT_STATUS_LOGGED : Fld := ⟨32, 9⟩
def UNIT_APPLIED_TILES_COUNT : Fld := ⟨0, 64⟩
def UNIT_REPLAYED_COUNT : Fld := ⟨0, 32⟩
def UNIT_FROZEN_WRITE_COUNT : Fld := ⟨0, 32⟩
def UNIT_STATE_NOT_RESIDENT_COUNT : Fld := ⟨0, 32⟩
def UNIT_SATURATED_COUNT : Fld := ⟨0, 32⟩
def UNIT_CANCELLED_COUNT : Fld := ⟨0, 32⟩
def UNIT_ABORTED_COUNT : Fld := ⟨0, 32⟩
def UNIT_DRAIN_TIMEOUT_COUNT : Fld := ⟨0, 32⟩
def UNIT_RETRY_GROUP : Fld := ⟨0, 12⟩
def UNIT_LONG_OVERFLOW_COUNT : Fld := ⟨0, 32⟩
def SCHEDULE_CONFIG_KIND : Fld := ⟨0, 3⟩
def SCHEDULE_CONFIG_OWNER : Fld := ⟨8, 5⟩
def SCHEDULE_CONFIG_FLOOR : Fld := ⟨32, 32⟩
def SCHEDULE_LENGTHS_WARMUP : Fld := ⟨0, 32⟩
def SCHEDULE_LENGTHS_DECAY_LEN : Fld := ⟨32, 32⟩
def SCHEDULE_RESTART_PERIOD : Fld := ⟨0, 32⟩
def SCHEDULE_PROBE_STEP : Fld := ⟨0, 32⟩
def SCHEDULE_PROBE_VALUE : Fld := ⟨32, 32⟩
def GROUP_CONTROL_VALID : Fld := ⟨0, 1⟩
def GROUP_CONTROL_RULE : Fld := ⟨1, 3⟩
def GROUP_CONTROL_FROZEN_POLICY : Fld := ⟨4, 1⟩
def GROUP_CONTROL_CLIP_POLICY : Fld := ⟨5, 2⟩
def GROUP_CONTROL_EMIT_BF16 : Fld := ⟨7, 1⟩
def GROUP_CONTROL_EMIT_FP8 : Fld := ⟨8, 1⟩
def GROUP_CONTROL_FP8_FORMAT : Fld := ⟨9, 1⟩
def GROUP_CONTROL_STATE_IN_OBJECT : Fld := ⟨10, 1⟩
def GROUP_CONTROL_UNIT : Fld := ⟨16, 6⟩
def GROUP_CONTROL_SCHEDULE : Fld := ⟨24, 6⟩
def GROUP_CONTROL_TENANT : Fld := ⟨32, 5⟩
def GROUP_ELEMENTS_COUNT : Fld := ⟨0, 28⟩
def GROUP_ELEMENTS_STATE_OBJECT : Fld := ⟨32, 14⟩
def GROUP_ACC_BASE_ADDR : Fld := ⟨0, 48⟩
def GROUP_MASTER_BASE_ADDR : Fld := ⟨0, 48⟩
def GROUP_STATE_BASE_ADDR : Fld := ⟨0, 48⟩
def GROUP_WC_BF16_BASE_ADDR : Fld := ⟨0, 48⟩
def GROUP_WC_FP8_BASE_ADDR : Fld := ⟨0, 48⟩
def GROUP_PENDING_BASE_ADDR : Fld := ⟨0, 48⟩
def GROUP_HYPER_LR_BASE : Fld := ⟨0, 32⟩
def GROUP_HYPER_DECAY : Fld := ⟨32, 32⟩
def GROUP_BETAS_BETA1 : Fld := ⟨0, 32⟩
def GROUP_BETAS_BETA2 : Fld := ⟨32, 32⟩
def GROUP_EPSILON_EPSILON : Fld := ⟨0, 32⟩
def GROUP_EPSILON_FP8_SCALE : Fld := ⟨32, 32⟩
def GROUP_WINDOW_W : Fld := ⟨0, 16⟩
def GROUP_WINDOW_SILENT_STEPS : Fld := ⟨16, 8⟩
def GROUP_WINDOW_DONE_KNOT : Fld := ⟨32, 17⟩
def GROUP_WINDOW_DONE_EN : Fld := ⟨63, 1⟩
def GROUP_TELLTALE_RATIO_LOW : Fld := ⟨0, 32⟩
def GROUP_TELLTALE_RATIO_HIGH : Fld := ⟨32, 32⟩
def GROUP_STEP_STEP : Fld := ⟨0, 32⟩
def GROUP_STEP_APPLIED : Fld := ⟨32, 32⟩
def GROUP_POWERS_POW1 : Fld := ⟨0, 32⟩
def GROUP_POWERS_POW2 : Fld := ⟨32, 32⟩
def GROUP_STATUS_PHASE : Fld := ⟨0, 3⟩
def GROUP_STATUS_POISONED : Fld := ⟨3, 1⟩
def GROUP_STATUS_STRICT_FAIL : Fld := ⟨4, 1⟩
def GROUP_STATUS_STATE_LATE : Fld := ⟨5, 1⟩
def GROUP_STATUS_CREATE_ERR : Fld := ⟨8, 3⟩
def GROUP_STATUS_TILES_DONE : Fld := ⟨32, 32⟩
def GATE_CONTROL_REQ : Fld := ⟨0, 2⟩
def GATE_CONTROL_TRIGGER_KNOT : Fld := ⟨8, 17⟩
def GATE_CONTROL_STEP_KNOT : Fld := ⟨40, 17⟩
def GATE_CONTROL_STEP_KNOT_EN : Fld := ⟨63, 1⟩
def GATE_TRIGGER_PER_STEP : Fld := ⟨0, 32⟩
def GATE_STEP_STEP : Fld := ⟨0, 32⟩
def GATE_STATE_STATE : Fld := ⟨0, 3⟩
def GATE_STATE_WRITE_IGNORED : Fld := ⟨3, 1⟩
def GATE_WINDOW_GW : Fld := ⟨0, 16⟩
def GATE_WINDOW_GROUP : Fld := ⟨16, 16⟩
def GATE_WINDOW_GROUP_VALID : Fld := ⟨32, 1⟩
def GATE_LIMITS_CLIP_NORM : Fld := ⟨0, 32⟩
def GATE_LIMITS_NORM_LIMIT : Fld := ⟨32, 32⟩
def LOSS_SCALE_EXP : Fld := ⟨0, 8⟩
def LOSS_SCALE_MIN : Fld := ⟨8, 8⟩
def LOSS_SCALE_MAX : Fld := ⟨16, 8⟩
def LOSS_SCALE_GROWTH_STEPS : Fld := ⟨32, 16⟩
def CLEAN_STEPS_COUNT : Fld := ⟨0, 32⟩
def SCALE_ADDR_ADDR : Fld := ⟨0, 48⟩
def SCALE_ADDR_EN : Fld := ⟨63, 1⟩
def GATE_LAST_STEP : Fld := ⟨0, 32⟩
def GATE_LAST_DECISION : Fld := ⟨32, 2⟩
def GATE_LAST_CLIPPED : Fld := ⟨34, 1⟩
def GATE_LAST_CAUSES : Fld := ⟨40, 8⟩
def GATE_NORM_NORM : Fld := ⟨0, 32⟩
def GATE_NORM_GAMMA : Fld := ⟨32, 32⟩
def GATE_SUM_LOW_BITS : Fld := ⟨0, 64⟩
def GATE_SUM_HIGH_BITS : Fld := ⟨0, 64⟩
def GATE_WAIT_LIMIT_STITCHES : Fld := ⟨0, 32⟩
def GATE_NONFINITE_GRADIENT_COUNT : Fld := ⟨0, 32⟩
def GATE_LONG_OVERFLOW_COUNT : Fld := ⟨0, 32⟩
def GATE_NORM_LIMIT_COUNT : Fld := ⟨0, 32⟩
def GATE_STEP_SKEW_COUNT : Fld := ⟨0, 32⟩
def GATE_SILENT_LAYER_COUNT : Fld := ⟨0, 32⟩
def GATE_SAMPLER_MISMATCH_COUNT : Fld := ⟨0, 32⟩
def GATE_FROZEN_WRITE_COUNT : Fld := ⟨0, 32⟩
def GATE_ABANDONED_COUNT : Fld := ⟨0, 32⟩
def TELLTALE_NORMS_U : Fld := ⟨0, 32⟩
def TELLTALE_NORMS_V : Fld := ⟨32, 32⟩
def TELLTALE_ZERO_COUNT : Fld := ⟨0, 32⟩
def TELLTALE_ZERO_LIMIT : Fld := ⟨32, 32⟩
def TELLTALE_STATUS_RATIO_LOW_HIT : Fld := ⟨0, 1⟩
def TELLTALE_STATUS_RATIO_HIGH_HIT : Fld := ⟨1, 1⟩
def TELLTALE_STATUS_ZERO_HIT : Fld := ⟨2, 1⟩
def TELLTALE_STATUS_SILENT : Fld := ⟨3, 1⟩
def TELLTALE_STATUS_ZERO_STEPS : Fld := ⟨16, 16⟩
def TELLTALE_CONTROL_KNOT : Fld := ⟨0, 17⟩
def TELLTALE_CONTROL_EN : Fld := ⟨63, 1⟩
def BRIDE_PORT_CONTROL_REQ : Fld := ⟨0, 2⟩
def BRIDE_PORT_CONTROL_AUTO_RETRAIN : Fld := ⟨4, 1⟩
def BRIDE_PORT_CONTROL_SHED : Fld := ⟨8, 8⟩
def BRIDE_PORT_CONTROL_RESTORE : Fld := ⟨16, 8⟩
def BRIDE_PORT_STATUS_UNIT_STATE : Fld := ⟨0, 2⟩
def BRIDE_PORT_STATUS_LINK : Fld := ⟨2, 2⟩
def BRIDE_PORT_STATUS_TX_WIDTH : Fld := ⟨4, 4⟩
def BRIDE_PORT_STATUS_RX_WIDTH : Fld := ⟨8, 4⟩
def BRIDE_PORT_STATUS_RETRYING : Fld := ⟨12, 1⟩
def BRIDE_PORT_STATUS_SWITCH_PENDING : Fld := ⟨13, 1⟩
def BRIDE_PORT_LANES_TX_MAP : Fld := ⟨0, 8⟩
def BRIDE_PORT_LANES_RX_MAP : Fld := ⟨8, 8⟩
def BRIDE_PORT_LANES_RX_SHED : Fld := ⟨16, 8⟩
def BRIDE_PORT_DELAY_ONE_WAY : Fld := ⟨0, 16⟩
def BRIDE_PORT_SHED_LIMITS_SYMBOLS : Fld := ⟨0, 32⟩
def BRIDE_PORT_SHED_LIMITS_UNCORRECTABLE : Fld := ⟨32, 8⟩
def BRIDE_PORT_DRAIN_LIMIT_STITCHES : Fld := ⟨0, 16⟩
def BRIDE_PORT_FEC_CORRECTED_COUNT : Fld := ⟨0, 32⟩
def BRIDE_PORT_FEC_UNCORRECTABLE_COUNT : Fld := ⟨0, 32⟩
def BRIDE_PORT_FLIT_ERROR_COUNT : Fld := ⟨0, 32⟩
def BRIDE_PORT_RETRY_COUNT : Fld := ⟨0, 32⟩
def BRIDE_PORT_LINK_SHED_COUNT : Fld := ⟨0, 32⟩
def BRIDE_PORT_REPLY_DEFERRED_COUNT : Fld := ⟨0, 32⟩
def BRIDE_PORT_LANE_STATUS_LOCKED : Fld := ⟨0, 1⟩
def BRIDE_PORT_LANE_STATUS_IN_USE : Fld := ⟨1, 1⟩
def BRIDE_PORT_LANE_STATUS_SHED : Fld := ⟨2, 1⟩
def BRIDE_PORT_LANE_STATUS_INVERTED : Fld := ⟨3, 1⟩
def BRIDE_PORT_LANE_STATUS_PHYSICAL : Fld := ⟨4, 3⟩
def BRIDE_PORT_LANE_STATUS_WINDOW_UNCORRECTABLE : Fld := ⟨8, 8⟩
def BRIDE_PORT_LANE_STATUS_WINDOW_SYMBOLS : Fld := ⟨32, 32⟩
def BRIDE_ROUTE_CONTROL_DEVICE_ID : Fld := ⟨0, 16⟩
def BRIDE_ROUTE_CONTROL_ID_VALID : Fld := ⟨16, 1⟩
def BRIDE_ROUTE_CONTROL_HOP_LIMIT : Fld := ⟨24, 6⟩
def BRIDE_ROUTE_CONTROL_DIGEST_POLICY : Fld := ⟨32, 1⟩
def BRIDE_ROUTE_STATUS_FLOWS : Fld := ⟨0, 15⟩
def BRIDE_ROUTE_STATUS_HELD : Fld := ⟨32, 16⟩
def BRIDE_ROUTE_GENERATION_ID : Fld := ⟨0, 64⟩
def BRIDE_ROUTE_TRANSPORT_TIMEOUT_US : Fld := ⟨0, 16⟩
def BRIDE_ROUTE_TRANSPORT_RETRY_LIMIT : Fld := ⟨16, 4⟩
def BRIDE_ROUTE_TRANSPORT_WINDOW : Fld := ⟨24, 8⟩
def BRIDE_ROUTE_TRANSPORT_ROUTE_WAIT : Fld := ⟨32, 16⟩
def BRIDE_ROUTE_BEACON_PERIOD : Fld := ⟨0, 32⟩
def ROUTE_UNDELIVERABLE_COUNT : Fld := ⟨0, 32⟩
def ROUTE_E2E_MISMATCH_COUNT : Fld := ⟨0, 32⟩
def ROUTE_MALFORMED_COUNT : Fld := ⟨0, 32⟩
def ROUTE_RESENT_COUNT : Fld := ⟨0, 32⟩
def ROUTE_SAMPLER_MISMATCH_COUNT : Fld := ⟨0, 32⟩
def ROUTE_REORDER_DROP_COUNT : Fld := ⟨0, 32⟩
def NEIGHBOUR_DEVICE : Fld := ⟨0, 16⟩
def NEIGHBOUR_VALID : Fld := ⟨16, 1⟩
def NEIGHBOUR_ID_VALID : Fld := ⟨17, 1⟩
def NEIGHBOUR_PORT : Fld := ⟨18, 5⟩
def NEIGHBOUR_GRADE : Fld := ⟨23, 1⟩
def NEIGHBOUR_SERIAL : Fld := ⟨32, 32⟩
def MCAST_MEMBER : Fld := ⟨0, 1⟩
def MCAST_INDEX : Fld := ⟨8, 8⟩
def MCAST_MEMBERS : Fld := ⟨16, 8⟩
def MCAST_NEXT : Fld := ⟨32, 16⟩
def DIGEST_WORD : Fld := ⟨0, 64⟩
def DIGEST_REF_WORD : Fld := ⟨0, 64⟩
def PRICKING_ID : Fld := ⟨0, 64⟩
def DIGEST_STATUS_CURRENT : Fld := ⟨0, 1⟩
def DIGEST_STATUS_REF_VALID : Fld := ⟨1, 1⟩
def DIGEST_STATUS_REF_MATCH : Fld := ⟨2, 1⟩
def DEVICE_DIGEST_WORD : Fld := ⟨0, 64⟩
def DEVICE_REF_WORD : Fld := ⟨0, 64⟩
def DEVICE_DIGEST_STATUS_CURRENT : Fld := ⟨0, 1⟩
def DEVICE_DIGEST_STATUS_REF_VALID : Fld := ⟨1, 1⟩
def DEVICE_DIGEST_STATUS_REF_MATCH : Fld := ⟨2, 1⟩
def COLLECTIVE_LIST_BASE_ADDR : Fld := ⟨0, 48⟩
def COLLECTIVE_LIST_SIZE_SIZE : Fld := ⟨0, 5⟩
def COLLECTIVE_DOORBELL_WRITE_PTR : Fld := ⟨0, 16⟩
def COLLECTIVE_STATUS_STATE : Fld := ⟨0, 2⟩
def COLLECTIVE_STATUS_READ_PTR : Fld := ⟨2, 16⟩
def COLLECTIVE_STATUS_LAST_STATUS : Fld := ⟨24, 3⟩
def COLLECTIVE_CONTROL_REQ : Fld := ⟨0, 2⟩
def COLLECTIVE_OWNER_TENANT : Fld := ⟨0, 5⟩
def COLLECTIVE_OWNER_VALID : Fld := ⟨8, 1⟩
def COLLECTIVE_LIMITS_DRAIN_LIMIT : Fld := ⟨0, 16⟩
def COLLECTIVE_LIMITS_WAIT_LIMIT : Fld := ⟨32, 32⟩
def ROUTE_MASK : Fld := ⟨0, 24⟩
def INTEGRITY_SELFTEST_DONE : Fld := ⟨0, 1⟩
def INTEGRITY_SELFTEST_FATAL : Fld := ⟨1, 1⟩
def INTEGRITY_SELFTEST_RETIRED : Fld := ⟨8, 8⟩
def INTEGRITY_LAST_ERROR_LOCATION : Fld := ⟨0, 3⟩
def INTEGRITY_LAST_ERROR_KIND : Fld := ⟨4, 2⟩
def INTEGRITY_LAST_ERROR_UNIT : Fld := ⟨8, 16⟩
def INTEGRITY_LAST_ERROR_BIT : Fld := ⟨24, 7⟩
def INTEGRITY_LAST_ADDRESS_ADDR : Fld := ⟨0, 48⟩
def INTEGRITY_CORRECTED_COUNT : Fld := ⟨0, 32⟩
def INTEGRITY_UNCORRECTABLE_NEAR_COUNT : Fld := ⟨0, 32⟩
def INTEGRITY_TRANSIENT_COUNT : Fld := ⟨0, 32⟩
def INTEGRITY_ROW_DARNED_COUNT : Fld := ⟨0, 32⟩
def INTEGRITY_NO_SPARE_COUNT : Fld := ⟨0, 32⟩
def INTEGRITY_TEST_DROPPED_COUNT : Fld := ⟨0, 32⟩
def INTEGRITY_CHECK_MISMATCH_COUNT : Fld := ⟨0, 32⟩
def INTEGRITY_BOND_REPAIRED_COUNT : Fld := ⟨0, 32⟩
def INTEGRITY_BOND_DEGRADED_COUNT : Fld := ⟨0, 32⟩
def INTEGRITY_BOND_RESEND_COUNT : Fld := ⟨0, 32⟩
def INTEGRITY_SPARES_USED : Fld := ⟨0, 8⟩
def INTEGRITY_SPARES_TOTAL : Fld := ⟨8, 8⟩
def INTEGRITY_BUNDLE_STATE : Fld := ⟨0, 2⟩
def INTEGRITY_BUNDLE_INTACT_HALF : Fld := ⟨2, 1⟩
def INTEGRITY_BUNDLE_SPARE0 : Fld := ⟨8, 7⟩
def INTEGRITY_BUNDLE_SPARE1 : Fld := ⟨16, 7⟩
def INTEGRITY_BUNDLE_SPARE2 : Fld := ⟨24, 7⟩
def INTEGRITY_BUNDLE_FUSED : Fld := ⟨32, 3⟩
def INTEGRITY_BUNDLE_DETOUR_CORE : Fld := ⟨40, 8⟩
def MV_CHECK_CONTROL_CHAIN : Fld := ⟨0, 1⟩
def MV_CHECK_CONTROL_RECORD_EN : Fld := ⟨1, 1⟩
def MV_CHECK_CONTROL_REPORT_LOST : Fld := ⟨8, 1⟩
def MV_CHECK_CONTROL_WRITE_IGNORED : Fld := ⟨9, 1⟩
def MV_CHECK_RUNNING_CRC : Fld := ⟨0, 32⟩
def MV_REPORT_BASE_ADDR : Fld := ⟨0, 48⟩
def MV_REPORT_RING_SIZE : Fld := ⟨0, 5⟩
def MV_REPORT_RING_WRITE_PTR : Fld := ⟨32, 16⟩
def THERMAL_CONTROL_PERIOD_US : Fld := ⟨0, 16⟩
def THERMAL_CONTROL_CAP_EN : Fld := ⟨16, 1⟩
def THERMAL_STATUS_WARNING : Fld := ⟨0, 4⟩
def THERMAL_STATUS_THROTTLE : Fld := ⟨4, 4⟩
def THERMAL_STATUS_INPUT_LOW : Fld := ⟨8, 1⟩
def THERMAL_STATUS_INPUT_HIGH : Fld := ⟨9, 1⟩
def THERMAL_STATUS_CAPPING : Fld := ⟨10, 1⟩
def THERMAL_STATUS_TRIPPED : Fld := ⟨11, 1⟩
def THERMAL_STATUS_CAP_DUTY : Fld := ⟨12, 4⟩
def THERMAL_INPUT_VOLTAGE : Fld := ⟨0, 16⟩
def THERMAL_INPUT_CURRENT : Fld := ⟨16, 16⟩
def THERMAL_INPUT_POWER : Fld := ⟨32, 16⟩
def THERMAL_INPUT_REGULATOR_TEMP : Fld := ⟨48, 8⟩
def THERMAL_ENERGY_MICROJOULES : Fld := ⟨0, 64⟩
def THERMAL_POWER_LIMIT_LIMIT_W : Fld := ⟨0, 16⟩
def THERMAL_POWER_LIMIT_PEAK_W : Fld := ⟨16, 16⟩
def THERMAL_POWER_LIMIT_WINDOW_US : Fld := ⟨32, 16⟩
def THERMAL_POWER_LIMIT_MARGIN_W : Fld := ⟨48, 16⟩
def THERMAL_ESTIMATE_WEIGHT1 : Fld := ⟨0, 8⟩
def THERMAL_ESTIMATE_WEIGHT2 : Fld := ⟨8, 8⟩
def THERMAL_ESTIMATE_K1 : Fld := ⟨16, 16⟩
def THERMAL_ESTIMATE_K2 : Fld := ⟨32, 16⟩
def THERMAL_ESTIMATE_TOL : Fld := ⟨48, 8⟩
def THERMAL_ESTIMATE_ROUNDS : Fld := ⟨56, 4⟩
def THERMAL_DEMAND_SENSOR : Fld := ⟨0, 8⟩
def THERMAL_TRIP_LATCHED : Fld := ⟨0, 1⟩
def THERMAL_TRIP_SOURCE : Fld := ⟨1, 1⟩
def THERMAL_TRIP_INDEX : Fld := ⟨8, 8⟩
def THERMAL_TRIP_VALUE : Fld := ⟨16, 12⟩
def THERMAL_WARNING_COUNT : Fld := ⟨0, 32⟩
def THERMAL_THROTTLE_COUNT : Fld := ⟨0, 32⟩
def THERMAL_SENSOR_SUSPECT_COUNT : Fld := ⟨0, 32⟩
def THERMAL_CAP_STEPS_COUNT : Fld := ⟨0, 32⟩
def THERMAL_COMPENSATION_SYSTEM_TRIM : Fld := ⟨0, 16⟩
def THERMAL_COMPENSATION_SERDES_TRIM : Fld := ⟨16, 16⟩
def THERMAL_CLUSTER_DUTY_EFFECTIVE : Fld := ⟨0, 4⟩
def THERMAL_CLUSTER_DUTY_THERMAL : Fld := ⟨4, 4⟩
def THERMAL_CLUSTER_DUTY_FAR_LIMITED : Fld := ⟨8, 1⟩
def THERMAL_SENSOR_READING : Fld := ⟨0, 12⟩
def THERMAL_SENSOR_GOVERNING : Fld := ⟨16, 12⟩
def THERMAL_SENSOR_SUSPECT : Fld := ⟨28, 1⟩
def THERMAL_SENSOR_FAILED : Fld := ⟨29, 1⟩
def THERMAL_SENSOR_VALID : Fld := ⟨30, 1⟩
def THERMAL_SENSOR_ESTIMATE : Fld := ⟨32, 12⟩
def ENDPOINT_STATUS_LINK : Fld := ⟨0, 2⟩
def ENDPOINT_STATUS_WIDTH : Fld := ⟨4, 4⟩
def ENDPOINT_STATUS_SPEED : Fld := ⟨8, 3⟩
def ENDPOINT_STATUS_FLIT : Fld := ⟨11, 1⟩
def ENDPOINT_DMA_ERROR_COUNT : Fld := ⟨0, 32⟩
def ENDPOINT_POISONED_COUNT : Fld := ⟨0, 32⟩
def CORE_OWNER_TENANT : Fld := ⟨0, 5⟩
def CORE_OWNER_VALID : Fld := ⟨8, 1⟩
def FUNCTION_BINDING_TENANT : Fld := ⟨0, 5⟩
def FUNCTION_BINDING_VALID : Fld := ⟨8, 1⟩
def FUNCTION_BINDING_PRIVILEGED : Fld := ⟨9, 1⟩
def FUNCTION_BINDING_BIND_ERR : Fld := ⟨10, 1⟩
def FUNCTION_APERTURE_BASE : Fld := ⟨30, 10⟩
def FUNCTION_COMPLETION_BASE_ADDR : Fld := ⟨12, 52⟩
def FUNCTION_COMPLETION_RING_SIZE : Fld := ⟨0, 5⟩
def FUNCTION_COMPLETION_RING_EN : Fld := ⟨8, 1⟩
def FUNCTION_COMPLETION_RING_INT_EN : Fld := ⟨9, 1⟩
def FUNCTION_COMPLETION_RING_VECTOR : Fld := ⟨16, 11⟩
def FUNCTION_COMPLETION_RING_WRITE_PTR : Fld := ⟨32, 16⟩
def FUNCTION_COMPLETION_RING_HOLDOFF_US : Fld := ⟨48, 8⟩
def FUNCTION_COMPLETION_READ_READ_PTR : Fld := ⟨0, 16⟩
def FUNCTION_MAILBOX_BASE_ADDR : Fld := ⟨12, 52⟩
def FUNCTION_MAILBOX_RING_SIZE : Fld := ⟨0, 5⟩
def FUNCTION_MAILBOX_RING_EN : Fld := ⟨8, 1⟩
def FUNCTION_MAILBOX_RING_INT_EN : Fld := ⟨9, 1⟩
def FUNCTION_MAILBOX_RING_VECTOR : Fld := ⟨16, 11⟩
def FUNCTION_MAILBOX_RING_WRITE_PTR : Fld := ⟨32, 16⟩
def FUNCTION_MAILBOX_RING_HOLDOFF_US : Fld := ⟨48, 8⟩
def FUNCTION_MAILBOX_READ_READ_PTR : Fld := ⟨0, 16⟩
def FUNCTION_DENIED_COUNT : Fld := ⟨0, 32⟩
def FUNCTION_WINDOW_HOST_ADDR_ADDR : Fld := ⟨12, 52⟩
def FUNCTION_WINDOW_CONTROL_PAGES : Fld := ⟨0, 21⟩
def FUNCTION_WINDOW_CONTROL_READ : Fld := ⟨32, 1⟩
def FUNCTION_WINDOW_CONTROL_WRITE : Fld := ⟨33, 1⟩
def MGMT_REQUEST_VALUE : Fld := ⟨0, 64⟩
def MGMT_RESPONSE_VALUE : Fld := ⟨0, 64⟩
def MGMT_DOORBELL_START : Fld := ⟨0, 1⟩
def MGMT_STATUS_BUSY : Fld := ⟨0, 1⟩
def MGMT_STATUS_RESULT : Fld := ⟨1, 3⟩
def MGMT_STATUS_REQ_ERR : Fld := ⟨4, 1⟩
def MGMT_STATUS_RESPONSE_LENGTH : Fld := ⟨16, 16⟩
def SECURITY_BOOT_STATUS_STAGE : Fld := ⟨0, 3⟩
def SECURITY_BOOT_STATUS_READY : Fld := ⟨3, 1⟩
def SECURITY_BOOT_STATUS_HOST_FEED_WAIT : Fld := ⟨4, 1⟩
def SECURITY_BOOT_STATUS_HOST_FED : Fld := ⟨5, 1⟩
def SECURITY_BOOT_STATUS_FATAL : Fld := ⟨6, 1⟩
def SECURITY_BOOT_STATUS_FLASH_RESULT : Fld := ⟨8, 3⟩
def SECURITY_BOOT_STATUS_FEED_RESULT : Fld := ⟨12, 3⟩
def SECURITY_BOOT_STATUS_READY_MS : Fld := ⟨32, 32⟩
def SECURITY_UPTIME_NS_NS : Fld := ⟨0, 64⟩
def SECURITY_FIRMWARE_SVN : Fld := ⟨0, 6⟩
def SECURITY_FIRMWARE_MIN_SVN : Fld := ⟨8, 6⟩
def SECURITY_FIRMWARE_BUILD_ID : Fld := ⟨32, 32⟩
def SECURITY_UPDATE_STATUS_STATE : Fld := ⟨0, 3⟩
def SECURITY_UPDATE_STATUS_ERR : Fld := ⟨4, 3⟩
def SECURITY_UPDATE_STATUS_STAGED_SVN : Fld := ⟨8, 6⟩
def SECURITY_ACTIVATE_AT_STITCH : Fld := ⟨0, 64⟩
def SECURITY_DEBUG_SCOPE : Fld := ⟨0, 3⟩
def SECURITY_DEBUG_FAILURES : Fld := ⟨8, 4⟩
def SECURITY_DEBUG_LOCKED_OUT : Fld := ⟨12, 1⟩
def SECURITY_FEED_CONTROL_CHUNK : Fld := ⟨0, 4⟩
def SECURITY_FEED_CONTROL_LENGTH : Fld := ⟨32, 25⟩
def SECURITY_FEED_CONTROL_GO : Fld := ⟨63, 1⟩
def SECURITY_MEASUREMENT_WORD : Fld := ⟨0, 64⟩
def SECURITY_FEED_WINDOW_VALUE : Fld := ⟨0, 64⟩
def EVENT_CONTROL_COALESCE_WINDOW_US : Fld := ⟨0, 16⟩
def EVENT_CONTROL_DELIVERY_FUNCTION : Fld := ⟨16, 5⟩
def EVENT_CONTROL_DELIVER_EN : Fld := ⟨24, 1⟩
def EVENT_STICKY_BITS : Fld := ⟨1, 63⟩
def EVENT_ALERT_MASK_MASK : Fld := ⟨0, 64⟩
def EVENT_ALERT_ASSERTED : Fld := ⟨0, 1⟩
def EVENT_ALERT_CRITICAL : Fld := ⟨1, 1⟩
def EVENT_ALERT_LATCHED : Fld := ⟨2, 1⟩
def EVENT_TRACE_MASK_MASK : Fld := ⟨0, 64⟩
def EVENT_MCTP_SKIPPED_COUNT : Fld := ⟨0, 32⟩
def EVENT_CONDITION_COUNT : Fld := ⟨0, 32⟩
def RIBBON_HOST_BASE_ADDR : Fld := ⟨12, 52⟩
def RIBBON_CONTROL_EN : Fld := ⟨0, 1⟩
def RIBBON_CONTROL_INT_EN : Fld := ⟨1, 1⟩
def RIBBON_CONTROL_VECTOR : Fld := ⟨16, 11⟩
def RIBBON_CONTROL_HOLDOFF_US : Fld := ⟨48, 8⟩
def RIBBON_POINTERS_WRITE_PTR : Fld := ⟨0, 16⟩
def RIBBON_POINTERS_ACK_PTR : Fld := ⟨32, 16⟩
def RIBBON_STATUS_FLOOD : Fld := ⟨0, 1⟩
def RIBBON_STATUS_UNACKED : Fld := ⟨16, 13⟩
def RIBBON_DROPPED_COUNT : Fld := ⟨0, 32⟩
def RIBBON_FOLDED_COUNT : Fld := ⟨0, 32⟩
def EVTENANT_STICKY_BITS : Fld := ⟨1, 63⟩
def EVTENANT_RING_BASE_ADDR : Fld := ⟨12, 52⟩
def EVTENANT_RING_CONTROL_SIZE : Fld := ⟨0, 5⟩
def EVTENANT_RING_CONTROL_EN : Fld := ⟨8, 1⟩
def EVTENANT_RING_CONTROL_INT_EN : Fld := ⟨9, 1⟩
def EVTENANT_RING_CONTROL_VECTOR : Fld := ⟨16, 11⟩
def EVTENANT_RING_CONTROL_HOLDOFF_US : Fld := ⟨48, 8⟩
def EVTENANT_RING_POINTERS_WRITE_PTR : Fld := ⟨0, 16⟩
def EVTENANT_RING_POINTERS_READ_PTR : Fld := ⟨32, 16⟩
def EVTENANT_RING_DROPPED_COUNT : Fld := ⟨0, 32⟩
def RIBBON_ENTRY_WORD : Fld := ⟨0, 64⟩
def DEVICE_IDENTITY_VENDOR_ID : Fld := ⟨0, 16⟩
def DEVICE_IDENTITY_DEVICE_ID : Fld := ⟨16, 16⟩
def DEVICE_IDENTITY_REVISION : Fld := ⟨32, 8⟩
def DEVICE_IDENTITY_GRADE : Fld := ⟨40, 1⟩
def DEVICE_SERIAL_NUMBER : Fld := ⟨0, 64⟩
def DEVICE_CAPABILITY_CLUSTERS : Fld := ⟨0, 4⟩
def DEVICE_CAPABILITY_CORES : Fld := ⟨8, 8⟩
def DEVICE_CAPABILITY_PORTS : Fld := ⟨16, 5⟩
def DEVICE_CAPABILITY_MXFP4 : Fld := ⟨24, 1⟩
def DEVICE_CAPABILITY_STACKS : Fld := ⟨32, 4⟩
def DEVICE_CAPABILITY_TENANTS : Fld := ⟨40, 6⟩
def DEVICE_ACCESS_ERROR_COUNT : Fld := ⟨0, 32⟩
def DEVICE_FUSE_MAP_CLUSTER : Fld := ⟨0, 8⟩
def DEVICE_FUSE_MAP_PORT : Fld := ⟨8, 24⟩
def DEVICE_FUSE_MAP_MXFP4_OFF : Fld := ⟨32, 1⟩
def DEVICE_RETIRE_UNITS_CLUSTER : Fld := ⟨0, 8⟩
def DEVICE_RETIRE_UNITS_STACK : Fld := ⟨8, 8⟩
def DEVICE_RETIRE_UNITS_PORT : Fld := ⟨16, 24⟩
def DEVICE_RETIRE_UNITS_TAMBOUR_WEST : Fld := ⟨40, 1⟩
def DEVICE_RETIRE_UPDATE_UNIT : Fld := ⟨0, 40⟩
def DEVICE_RETIRE_QUEUES_TIER : Fld := ⟨0, 32⟩
def DEVICE_RETIRE_QUEUES_COLLECTIVE : Fld := ⟨32, 16⟩
def DEVICE_RETIRE_CORES_CORE : Fld := ⟨0, 64⟩
def DEVICE_RETIRE_ENGINES_ENGINE : Fld := ⟨0, 64⟩
def NEAR_PANEL_STATUS_ACTIVE : Fld := ⟨0, 1⟩
def NEAR_PANEL_STATUS_TESTING : Fld := ⟨1, 1⟩
def NEAR_PANEL_STATUS_TESTS_QUEUED : Fld := ⟨8, 3⟩
def NEAR_PANEL_READS_LINES : Fld := ⟨0, 64⟩
def NEAR_PANEL_WRITES_LINES : Fld := ⟨0, 64⟩
def NEAR_PANEL_MESH_WAIT_CYCLES : Fld := ⟨0, 64⟩

end Fl

namespace RegTable

def part0 : List RegClass := [
  ⟨0x100000, [], [⟨0, 2, .rw, 0⟩, ⟨2, 1, .rw, 0⟩, ⟨8, 5, .rw, 0⟩]⟩,
  ⟨0x100008, [], [⟨0, 1, .ro, 0⟩, ⟨1, 1, .ro, 0⟩, ⟨2, 1, .ro, 0⟩, ⟨3, 1, .w1c, 0⟩, ⟨4, 1, .ro, 0⟩, ⟨5, 1, .ro, 0⟩, ⟨8, 8, .ro, 0⟩, ⟨16, 8, .ro, 0⟩]⟩,
  ⟨0x100010, [], [⟨0, 64, .ro, 0⟩]⟩,
  ⟨0x100018, [], [⟨0, 17, .ro, 0x400⟩]⟩,
  ⟨0x100020, [], [⟨0, 17, .rw, 0x400⟩]⟩,
  ⟨0x100028, [], [⟨0, 64, .rw, 0⟩]⟩,
  ⟨0x100030, [], [⟨0, 16, .rw, 0⟩]⟩,
  ⟨0x100038, [], [⟨0, 16, .rw, 64⟩]⟩,
  ⟨0x100040, [], [⟨0, 64, .ro, 0⟩]⟩,
  ⟨0x100048, [], [⟨0, 32, .sat, 0⟩]⟩,
  ⟨0x100050, [], [⟨0, 10, .rw, 0⟩]⟩,
  ⟨0x100058, [], [⟨0, 32, .sat, 0⟩]⟩,
  ⟨0x100100, [(32, 0x10)], [⟨0, 1, .rw, 0⟩]⟩,
  ⟨0x100108, [(32, 0x10)], [⟨0, 64, .rw, 0⟩]⟩,
  ⟨0x1000800, [(8, 0x200000), (16, 0x10000), (4, 0x10)], [⟨0, 1, .rw, 0⟩, ⟨1, 1, .ro, 0⟩, ⟨8, 4, .rw, 0⟩, ⟨16, 4, .rw, 0⟩]⟩,
  ⟨0x1000808, [(8, 0x200000), (16, 0x10000), (4, 0x10)], [⟨0, 32, .sat, 0⟩]⟩,
  ⟨0x1000000, [(8, 0x200000), (16, 0x10000)], [⟨0, 1, .w1s, 0⟩]⟩,
  ⟨0x1000008, [(8, 0x200000), (16, 0x10000)], [⟨0, 3, .ro, 0⟩, ⟨4, 2, .ro, 0⟩, ⟨6, 2, .ro, 0⟩, ⟨8, 4, .ro, 0⟩, ⟨16, 13, .ro, 0⟩, ⟨32, 1, .w1c, 0⟩]⟩,
  ⟨0x1000010, [(8, 0x200000), (16, 0x10000)], [⟨0, 64, .ro, 0⟩]⟩,
  ⟨0x1000100, [(8, 0x200000), (16, 0x10000), (32, 0x8)], [⟨0, 32, .rw, 0⟩]⟩,
  ⟨0x1000200, [(8, 0x200000), (16, 0x10000), (8, 0x80)], [⟨0, 48, .rw, 0⟩]⟩,
  ⟨0x1000208, [(8, 0x200000), (16, 0x10000), (8, 0x80)], [⟨0, 3, .rw, 1⟩, ⟨8, 1, .ro, 0⟩]⟩,
  ⟨0x1000210, [(8, 0x200000), (16, 0x10000), (8, 0x80), (6, 0x8)], [⟨0, 16, .rw, 0⟩, ⟨32, 32, .rw, 0⟩]⟩,
  ⟨0x1000240, [(8, 0x200000), (16, 0x10000), (8, 0x80)], [⟨0, 64, .rw, 0⟩]⟩,
  ⟨0x1000248, [(8, 0x200000), (16, 0x10000), (8, 0x80)], [⟨0, 32, .rw, 0⟩]⟩,
  ⟨0x1000600, [(8, 0x200000), (16, 0x10000), (4, 0x20)], [⟨0, 2, .wo, 0⟩]⟩,
  ⟨0x1000608, [(8, 0x200000), (16, 0x10000), (4, 0x20)], [⟨0, 2, .ro, 0⟩, ⟨2, 10, .ro, 0⟩, ⟨12, 5, .ro, 0⟩, ⟨20, 3, .ro, 0⟩, ⟨24, 1, .w1c, 0⟩]⟩,
  ⟨0x1000610, [(8, 0x200000), (16, 0x10000), (4, 0x20)], [⟨0, 32, .sat, 0⟩]⟩,
  ⟨0x1000618, [(8, 0x200000), (16, 0x10000), (4, 0x20)], [⟨0, 32, .sat, 0⟩]⟩,
  ⟨0x1000700, [(8, 0x200000), (16, 0x10000)], [⟨0, 2, .wo, 0⟩]⟩  -- CORE_UNIT_CONTROL
]

def part1 : List RegClass := [
  ⟨0x1000708, [(8, 0x200000), (16, 0x10000)], [⟨0, 2, .ro, 0⟩, ⟨8, 1, .w1c, 0⟩]⟩,
  ⟨0x1000710, [(8, 0x200000), (16, 0x10000)], [⟨0, 16, .rw, 16⟩]⟩,
  ⟨0x1000718, [(8, 0x200000), (16, 0x10000)], [⟨0, 32, .sat, 0⟩]⟩,
  ⟨0x1000720, [(8, 0x200000), (16, 0x10000)], [⟨0, 32, .sat, 0⟩]⟩,
  ⟨0x1001000, [(8, 0x200000), (16, 0x10000), (64, 0x10)], [⟨0, 16, .rw, 0⟩, ⟨16, 8, .rw, 0⟩, ⟨24, 10, .rw, 0⟩, ⟨36, 4, .rw, 0⟩]⟩,
  ⟨0x1001008, [(8, 0x200000), (16, 0x10000), (64, 0x10)], [⟨0, 22, .rw, 0⟩, ⟨32, 16, .rw, 0⟩]⟩,
  ⟨0x1002000, [(8, 0x200000), (16, 0x10000), (512, 0x10)], [⟨0, 64, .rw, 0⟩]⟩,
  ⟨0x1002008, [(8, 0x200000), (16, 0x10000), (512, 0x10)], [⟨0, 64, .rw, 0⟩]⟩,
  ⟨0x1000788, [(8, 0x200000), (16, 0x10000), (14, 0x8)], [⟨0, 16, .rw, 0⟩, ⟨31, 1, .rw, 0⟩]⟩,
  ⟨0x1008000, [(8, 0x200000), (16, 0x10000), (4096, 0x8)], [⟨0, 64, .rw, 0⟩]⟩,
  ⟨0x1180000, [(8, 0x200000)], [⟨0, 2, .wo, 0⟩]⟩,
  ⟨0x1180008, [(8, 0x200000)], [⟨0, 2, .ro, 0⟩, ⟨8, 1, .w1c, 0⟩]⟩,
  ⟨0x1000900, [(8, 0x200000), (16, 0x10000)], [⟨0, 6, .rw, 3⟩, ⟨8, 6, .rw, 6⟩, ⟨16, 6, .rw, 27⟩, ⟨24, 6, .rw, 3⟩]⟩,
  ⟨0x1000908, [(8, 0x200000), (16, 0x10000)], [⟨0, 8, .rw, 0⟩]⟩,
  ⟨0x1000910, [(8, 0x200000), (16, 0x10000)], [⟨0, 16, .ro, 0⟩, ⟨16, 1, .ro, 0⟩, ⟨32, 32, .ro, 0⟩]⟩,
  ⟨0x1000918, [(8, 0x200000), (16, 0x10000)], [⟨0, 32, .rw, 0x3f800000⟩]⟩,
  ⟨0x1000920, [(8, 0x200000), (16, 0x10000)], [⟨0, 1, .w1c, 0⟩, ⟨1, 1, .w1c, 0⟩, ⟨2, 1, .w1c, 0⟩, ⟨3, 1, .w1c, 0⟩, ⟨4, 1, .w1c, 0⟩]⟩,
  ⟨0x1000928, [(8, 0x200000), (16, 0x10000)], [⟨0, 64, .ro, 0⟩]⟩,
  ⟨0x1000930, [(8, 0x200000), (16, 0x10000)], [⟨0, 64, .ro, 0⟩]⟩,
  ⟨0x1000a00, [(8, 0x200000), (16, 0x10000)], [⟨0, 4, .ro, 15⟩, ⟨8, 4, .ro, 15⟩]⟩,
  ⟨0x1000a08, [(8, 0x200000), (16, 0x10000)], [⟨0, 1, .w1c, 0⟩, ⟨1, 1, .ro, 0⟩, ⟨4, 4, .ro, 0⟩, ⟨8, 7, .ro, 0⟩, ⟨16, 1, .w1c, 0⟩]⟩,
  ⟨0x1000a10, [(8, 0x200000), (16, 0x10000)], [⟨0, 1, .w1c, 0⟩, ⟨1, 1, .w1c, 0⟩, ⟨2, 1, .w1c, 0⟩, ⟨3, 1, .w1c, 0⟩, ⟨4, 1, .w1c, 0⟩]⟩,
  ⟨0x1000a18, [(8, 0x200000), (16, 0x10000)], [⟨0, 64, .ro, 0⟩]⟩,
  ⟨0x1000a20, [(8, 0x200000), (16, 0x10000)], [⟨0, 64, .ro, 0⟩]⟩,
  ⟨0x1004000, [(8, 0x200000), (16, 0x10000), (16, 0x100)], [⟨0, 4, .rw, 0⟩, ⟨4, 2, .rw, 0⟩, ⟨6, 5, .rw, 0⟩, ⟨11, 2, .rw, 0⟩, ⟨13, 4, .rw, 0⟩, ⟨17, 1, .rw, 0⟩, ⟨24, 1, .rw, 0⟩, ⟨32, 32, .rw, 0⟩]⟩,
  ⟨0x1004040, [(8, 0x200000), (16, 0x10000), (16, 0x100), (8, 0x8)], [⟨0, 64, .rw, 0⟩]⟩,
  ⟨0x1004080, [(8, 0x200000), (16, 0x10000), (16, 0x100), (8, 0x8)], [⟨0, 64, .rw, 0⟩]⟩,
  ⟨0x1005000, [(8, 0x200000), (16, 0x10000), (16, 0x200)], [⟨0, 6, .rw, 0⟩, ⟨11, 2, .rw, 0⟩, ⟨13, 4, .rw, 0⟩, ⟨17, 1, .rw, 0⟩, ⟨24, 1, .rw, 0⟩]⟩,
  ⟨0x1005040, [(8, 0x200000), (16, 0x10000), (16, 0x200), (8, 0x8)], [⟨0, 64, .rw, 0⟩]⟩,
  ⟨0x1005100, [(8, 0x200000), (16, 0x10000), (16, 0x200), (32, 0x8)], [⟨0, 64, .rw, 0⟩]⟩  -- VX_PROGRAM_OP
]

def part2 : List RegClass := [
  ⟨0x1100000, [(8, 0x200000), (16384, 0x10)], [⟨0, 32, .rw, 0⟩, ⟨32, 1, .rw, 0⟩, ⟨33, 1, .ro, 0⟩, ⟨34, 1, .ro, 0⟩, ⟨48, 16, .ro, 0⟩]⟩,
  ⟨0x1100008, [(8, 0x200000), (16384, 0x10)], [⟨0, 32, .rw, 0⟩, ⟨32, 17, .rw, 0⟩, ⟨49, 2, .rw, 0⟩, ⟨63, 1, .wo, 0⟩]⟩,
  ⟨0x1140000, [(8, 0x200000), (64, 0x8)], [⟨0, 5, .rw, 0⟩, ⟨8, 1, .rw, 0⟩, ⟨9, 1, .rw, 0⟩]⟩,
  ⟨0x1140200, [(8, 0x200000)], [⟨0, 32, .rw, 0x40000⟩]⟩,
  ⟨0x1140208, [(8, 0x200000)], [⟨0, 1, .rw, 1⟩, ⟨1, 3, .rw, 2⟩]⟩,
  ⟨0x1140210, [(8, 0x200000)], [⟨0, 1, .w1c, 0⟩, ⟨1, 1, .ro, 0⟩, ⟨8, 10, .ro, 0⟩]⟩,
  ⟨0x1140220, [(8, 0x200000), (8, 0x8)], [⟨0, 9, .ro, 0⟩, ⟨9, 17, .ro, 0⟩, ⟨26, 9, .ro, 0⟩, ⟨35, 9, .ro, 0⟩]⟩,
  ⟨0x1140260, [(8, 0x200000)], [⟨0, 32, .sat, 0⟩]⟩,
  ⟨0x1140268, [(8, 0x200000)], [⟨0, 32, .sat, 0⟩]⟩,
  ⟨0x1140270, [(8, 0x200000)], [⟨0, 32, .sat, 0⟩]⟩,
  ⟨0x1140278, [(8, 0x200000)], [⟨0, 32, .sat, 0⟩]⟩,
  ⟨0x1140280, [(8, 0x200000)], [⟨0, 32, .sat, 0⟩]⟩,
  ⟨0x2c00000, [], [⟨0, 16, .rw, 16⟩]⟩,
  ⟨0x2c00008, [], [⟨0, 32, .rw, 0x40000⟩]⟩,
  ⟨0x2c01000, [(32, 0x40)], [⟨0, 48, .rw, 0⟩]⟩,
  ⟨0x2c01008, [(32, 0x40)], [⟨0, 5, .rw, 4⟩]⟩,
  ⟨0x2c01010, [(32, 0x40)], [⟨0, 16, .rw, 0⟩]⟩,
  ⟨0x2c01018, [(32, 0x40)], [⟨0, 2, .ro, 2⟩, ⟨2, 16, .ro, 0⟩, ⟨18, 5, .ro, 0⟩, ⟨24, 3, .ro, 0⟩]⟩,
  ⟨0x2c01020, [(32, 0x40)], [⟨0, 2, .wo, 0⟩]⟩,
  ⟨0x2c01028, [(32, 0x40)], [⟨0, 5, .rw, 0⟩, ⟨8, 1, .rw, 0⟩]⟩,
  ⟨0x2c01030, [(32, 0x40)], [⟨0, 16, .ro, 0⟩, ⟨16, 3, .ro, 0⟩]⟩,
  ⟨0x2c02000, [(32, 0x80), (3, 0x8)], [⟨0, 32, .rw, 0⟩]⟩,
  ⟨0x2c02018, [(32, 0x80), (3, 0x8)], [⟨0, 32, .rw, 0⟩]⟩,
  ⟨0x2c02030, [(32, 0x80), (3, 0x8)], [⟨0, 32, .ro, 0⟩]⟩,
  ⟨0x2c02048, [(32, 0x80), (3, 0x8)], [⟨0, 32, .ro, 0⟩]⟩,
  ⟨0x2c02060, [(32, 0x80)], [⟨0, 32, .sat, 0⟩]⟩,
  ⟨0x2c02068, [(32, 0x80)], [⟨0, 32, .sat, 0⟩]⟩,
  ⟨0x2c04000, [(1024, 0x8)], [⟨0, 5, .rw, 0⟩, ⟨8, 1, .rw, 0⟩, ⟨32, 32, .rw, 0⟩]⟩,
  ⟨0x2c06000, [(2048, 0x8)], [⟨0, 5, .rw, 0⟩, ⟨8, 1, .rw, 0⟩, ⟨32, 32, .rw, 0⟩]⟩,
  ⟨0x2c0a000, [(64, 0x8)], [⟨0, 5, .rw, 0⟩, ⟨8, 1, .rw, 0⟩]⟩  -- TIER_OBJECT_OWNER
]

def part3 : List RegClass := [
  ⟨0x2e00000, [(16384, 0x80)], [⟨0, 1, .rw, 0⟩, ⟨1, 1, .rw, 0⟩, ⟨2, 2, .rw, 0⟩, ⟨4, 2, .rw, 0⟩, ⟨8, 20, .rw, 0⟩, ⟨32, 4, .rw, 0⟩, ⟨36, 8, .rw, 0⟩, ⟨44, 10, .rw, 0⟩]⟩,
  ⟨0x2e00008, [(16384, 0x80)], [⟨0, 48, .rw, 0⟩]⟩,
  ⟨0x2e00010, [(16384, 0x80)], [⟨0, 48, .rw, 0⟩]⟩,
  ⟨0x2e00018, [(16384, 0x80)], [⟨0, 32, .rw, 0⟩, ⟨32, 17, .rw, 0⟩, ⟨63, 1, .rw, 0⟩]⟩,
  ⟨0x2e00020, [(16384, 0x80)], [⟨0, 3, .ro, 0⟩, ⟨3, 1, .ro, 0⟩, ⟨8, 5, .ro, 0⟩, ⟨13, 1, .ro, 0⟩, ⟨16, 3, .w1c, 0⟩, ⟨32, 32, .ro, 0⟩]⟩,
  ⟨0x2400000, [(8, 0x20000)], [⟨0, 11, .rw, 256⟩, ⟨16, 8, .rw, 12⟩, ⟨24, 8, .rw, 4⟩]⟩,
  ⟨0x2400008, [(8, 0x20000)], [⟨0, 2, .ro, 3⟩, ⟨2, 1, .ro, 0⟩, ⟨3, 1, .ro, 0⟩, ⟨8, 8, .ro, 0⟩]⟩,
  ⟨0x2400010, [(8, 0x20000)], [⟨0, 8, .ro, 0⟩, ⟨8, 8, .ro, 0⟩, ⟨16, 1, .ro, 0⟩]⟩,
  ⟨0x2400018, [(8, 0x20000)], [⟨0, 32, .ro, 0⟩]⟩,
  ⟨0x2400020, [(8, 0x20000)], [⟨12, 36, .rw, 0⟩]⟩,
  ⟨0x2400028, [(8, 0x20000)], [⟨0, 25, .rw, 0⟩, ⟨32, 17, .rw, 0⟩, ⟨63, 1, .rw, 0⟩]⟩,
  ⟨0x2400030, [(8, 0x20000)], [⟨0, 1, .ro, 0⟩, ⟨1, 3, .w1c, 0⟩]⟩,
  ⟨0x2400038, [(8, 0x20000)], [⟨0, 2, .ro, 0⟩, ⟨8, 6, .ro, 0⟩, ⟨16, 6, .ro, 0⟩, ⟨22, 15, .ro, 0⟩, ⟨40, 4, .ro, 0⟩, ⟨44, 1, .ro, 0⟩, ⟨45, 6, .ro, 0⟩]⟩,
  ⟨0x2400040, [(8, 0x20000)], [⟨0, 32, .sat, 0⟩]⟩,
  ⟨0x2400048, [(8, 0x20000)], [⟨0, 32, .sat, 0⟩]⟩,
  ⟨0x2400050, [(8, 0x20000)], [⟨0, 32, .sat, 0⟩]⟩,
  ⟨0x2400058, [(8, 0x20000)], [⟨0, 32, .sat, 0⟩]⟩,
  ⟨0x2400060, [(8, 0x20000)], [⟨0, 32, .sat, 0⟩]⟩,
  ⟨0x2400068, [(8, 0x20000)], [⟨0, 32, .sat, 0⟩]⟩,
  ⟨0x2400070, [(8, 0x20000)], [⟨0, 32, .sat, 0⟩]⟩,
  ⟨0x2400080, [(8, 0x20000), (3, 0x8)], [⟨0, 64, .ro, 0⟩]⟩,
  ⟨0x2400098, [(8, 0x20000)], [⟨0, 64, .ro, 0⟩]⟩,
  ⟨0x24000a0, [(8, 0x20000)], [⟨0, 18, .ro, 0⟩]⟩,
  ⟨0x2401000, [(8, 0x20000), (4096, 0x8)], [⟨0, 1, .ro, 0⟩, ⟨1, 2, .ro, 0⟩, ⟨8, 6, .ro, 0⟩, ⟨16, 6, .ro, 0⟩, ⟨22, 15, .ro, 0⟩, ⟨40, 5, .ro, 0⟩]⟩,
  ⟨0x2409000, [(8, 0x20000), (256, 0x8)], [⟨0, 1, .ro, 0⟩, ⟨1, 1, .ro, 0⟩, ⟨8, 6, .ro, 0⟩, ⟨16, 6, .ro, 0⟩, ⟨24, 9, .ro, 0⟩, ⟨34, 2, .ro, 0⟩, ⟨63, 1, .wo, 0⟩]⟩,
  ⟨0x2800000, [], [⟨0, 32, .rw, 0x4000⟩]⟩,
  ⟨0x2800008, [], [⟨0, 16, .rw, 16⟩]⟩,
  ⟨0x2800100, [(64, 0x8)], [⟨0, 5, .rw, 0⟩, ⟨8, 1, .rw, 0⟩]⟩,
  ⟨0x2801000, [(40, 0x80)], [⟨0, 2, .wo, 0⟩]⟩,
  ⟨0x2801008, [(40, 0x80)], [⟨0, 2, .ro, 0⟩, ⟨8, 1, .w1c, 0⟩, ⟨9, 1, .w1c, 0⟩, ⟨16, 9, .ro, 0⟩, ⟨32, 9, .ro, 0⟩]⟩  -- UNIT_STATUS
]

def part4 : List RegClass := [
  ⟨0x2801010, [(40, 0x80)], [⟨0, 64, .ro, 0⟩]⟩,
  ⟨0x2801018, [(40, 0x80)], [⟨0, 32, .sat, 0⟩]⟩,
  ⟨0x2801020, [(40, 0x80)], [⟨0, 32, .sat, 0⟩]⟩,
  ⟨0x2801028, [(40, 0x80)], [⟨0, 32, .sat, 0⟩]⟩,
  ⟨0x2801030, [(40, 0x80)], [⟨0, 32, .sat, 0⟩]⟩,
  ⟨0x2801038, [(40, 0x80)], [⟨0, 32, .sat, 0⟩]⟩,
  ⟨0x2801040, [(40, 0x80)], [⟨0, 32, .sat, 0⟩]⟩,
  ⟨0x2801048, [(40, 0x80)], [⟨0, 32, .sat, 0⟩]⟩,
  ⟨0x2801050, [(40, 0x80)], [⟨0, 12, .wo, 0⟩]⟩,
  ⟨0x2801058, [(40, 0x80)], [⟨0, 32, .sat, 0⟩]⟩,
  ⟨0x2804000, [(64, 0x20)], [⟨0, 3, .rw, 0⟩, ⟨8, 5, .rw, 0⟩, ⟨32, 32, .rw, 0⟩]⟩,
  ⟨0x2804008, [(64, 0x20)], [⟨0, 32, .rw, 0⟩, ⟨32, 32, .rw, 0⟩]⟩,
  ⟨0x2804010, [(64, 0x20)], [⟨0, 32, .rw, 0⟩]⟩,
  ⟨0x2804018, [(64, 0x20)], [⟨0, 32, .rw, 0⟩, ⟨32, 32, .ro, 0⟩]⟩,
  ⟨0x2900000, [(4096, 0x80)], [⟨0, 1, .rw, 0⟩, ⟨1, 3, .rw, 0⟩, ⟨4, 1, .rw, 0⟩, ⟨5, 2, .rw, 0⟩, ⟨7, 1, .rw, 0⟩, ⟨8, 1, .rw, 0⟩, ⟨9, 1, .rw, 0⟩, ⟨10, 1, .rw, 0⟩, ⟨16, 6, .rw, 0⟩, ⟨24, 6, .rw, 0⟩, ⟨32, 5, .ro, 0⟩]⟩,
  ⟨0x2900008, [(4096, 0x80)], [⟨0, 28, .rw, 0⟩, ⟨32, 14, .rw, 0⟩]⟩,
  ⟨0x2900010, [(4096, 0x80)], [⟨0, 48, .rw, 0⟩]⟩,
  ⟨0x2900018, [(4096, 0x80)], [⟨0, 48, .rw, 0⟩]⟩,
  ⟨0x2900020, [(4096, 0x80)], [⟨0, 48, .rw, 0⟩]⟩,
  ⟨0x2900028, [(4096, 0x80)], [⟨0, 48, .rw, 0⟩]⟩,
  ⟨0x2900030, [(4096, 0x80)], [⟨0, 48, .rw, 0⟩]⟩,
  ⟨0x2900038, [(4096, 0x80)], [⟨0, 48, .rw, 0⟩]⟩,
  ⟨0x2900040, [(4096, 0x80)], [⟨0, 32, .rw, 0⟩, ⟨32, 32, .rw, 0⟩]⟩,
  ⟨0x2900048, [(4096, 0x80)], [⟨0, 32, .rw, 0⟩, ⟨32, 32, .rw, 0⟩]⟩,
  ⟨0x2900050, [(4096, 0x80)], [⟨0, 32, .rw, 0⟩, ⟨32, 32, .rw, 0x3f800000⟩]⟩,
  ⟨0x2900058, [(4096, 0x80)], [⟨0, 16, .rw, 0⟩, ⟨16, 8, .rw, 16⟩, ⟨32, 17, .rw, 0⟩, ⟨63, 1, .rw, 0⟩]⟩,
  ⟨0x2900060, [(4096, 0x80)], [⟨0, 32, .rw, 0⟩, ⟨32, 32, .rw, 0⟩]⟩,
  ⟨0x2900068, [(4096, 0x80)], [⟨0, 32, .rw, 0⟩, ⟨32, 32, .rw, 0⟩]⟩,
  ⟨0x2900070, [(4096, 0x80)], [⟨0, 32, .rw, 0x3f800000⟩, ⟨32, 32, .rw, 0x3f800000⟩]⟩,
  ⟨0x2900078, [(4096, 0x80)], [⟨0, 3, .ro, 0⟩, ⟨3, 1, .w1c, 0⟩, ⟨4, 1, .ro, 0⟩, ⟨5, 1, .ro, 0⟩, ⟨8, 3, .w1c, 0⟩, ⟨32, 32, .ro, 0⟩]⟩  -- GROUP_STATUS
]

def part5 : List RegClass := [
  ⟨0x2806000, [(32, 0x100)], [⟨0, 2, .wo, 0⟩, ⟨8, 17, .rw, 0⟩, ⟨40, 17, .rw, 0⟩, ⟨63, 1, .rw, 0⟩]⟩,
  ⟨0x2806008, [(32, 0x100)], [⟨0, 32, .rw, 1⟩]⟩,
  ⟨0x2806010, [(32, 0x100)], [⟨0, 32, .rw, 0⟩]⟩,
  ⟨0x2806018, [(32, 0x100)], [⟨0, 3, .ro, 0⟩, ⟨3, 1, .w1c, 0⟩]⟩,
  ⟨0x2806020, [(32, 0x100)], [⟨0, 16, .rw, 0⟩, ⟨16, 16, .rw, 0⟩, ⟨32, 1, .rw, 0⟩]⟩,
  ⟨0x2806028, [(32, 0x100)], [⟨0, 32, .rw, 0x7f800000⟩, ⟨32, 32, .rw, 0x7f800000⟩]⟩,
  ⟨0x2806030, [(32, 0x100)], [⟨0, 8, .rw, 16⟩, ⟨8, 8, .rw, 0⟩, ⟨16, 8, .rw, 32⟩, ⟨32, 16, .rw, 0x7d0⟩]⟩,
  ⟨0x2806038, [(32, 0x100)], [⟨0, 32, .ro, 0⟩]⟩,
  ⟨0x2806040, [(32, 0x100)], [⟨0, 48, .rw, 0⟩, ⟨63, 1, .rw, 0⟩]⟩,
  ⟨0x2806048, [(32, 0x100)], [⟨0, 32, .ro, 0⟩, ⟨32, 2, .ro, 0⟩, ⟨34, 1, .ro, 0⟩, ⟨40, 8, .ro, 0⟩]⟩,
  ⟨0x2806050, [(32, 0x100)], [⟨0, 32, .ro, 0⟩, ⟨32, 32, .ro, 0⟩]⟩,
  ⟨0x2806058, [(32, 0x100)], [⟨0, 64, .ro, 0⟩]⟩,
  ⟨0x2806060, [(32, 0x100)], [⟨0, 64, .ro, 0⟩]⟩,
  ⟨0x2806068, [(32, 0x100)], [⟨0, 32, .rw, 0x10000⟩]⟩,
  ⟨0x2806070, [(32, 0x100)], [⟨0, 32, .sat, 0⟩]⟩,
  ⟨0x2806078, [(32, 0x100)], [⟨0, 32, .sat, 0⟩]⟩,
  ⟨0x2806080, [(32, 0x100)], [⟨0, 32, .sat, 0⟩]⟩,
  ⟨0x2806088, [(32, 0x100)], [⟨0, 32, .sat, 0⟩]⟩,
  ⟨0x2806090, [(32, 0x100)], [⟨0, 32, .sat, 0⟩]⟩,
  ⟨0x2806098, [(32, 0x100)], [⟨0, 32, .sat, 0⟩]⟩,
  ⟨0x28060a0, [(32, 0x100)], [⟨0, 32, .sat, 0⟩]⟩,
  ⟨0x28060a8, [(32, 0x100)], [⟨0, 32, .sat, 0⟩]⟩,
  ⟨0x2a00000, [(4096, 0x20)], [⟨0, 32, .ro, 0⟩, ⟨32, 32, .ro, 0⟩]⟩,
  ⟨0x2a00008, [(4096, 0x20)], [⟨0, 32, .ro, 0⟩, ⟨32, 32, .rw, 0⟩]⟩,
  ⟨0x2a00010, [(4096, 0x20)], [⟨0, 1, .w1c, 0⟩, ⟨1, 1, .w1c, 0⟩, ⟨2, 1, .w1c, 0⟩, ⟨3, 1, .ro, 0⟩, ⟨16, 16, .ro, 0⟩]⟩,
  ⟨0x2a00018, [(4096, 0x20)], [⟨0, 17, .rw, 0⟩, ⟨63, 1, .rw, 0⟩]⟩,
  ⟨0x3000000, [(24, 0x10000)], [⟨0, 2, .wo, 0⟩, ⟨4, 1, .rw, 1⟩, ⟨8, 8, .w1s, 0⟩, ⟨16, 8, .w1s, 0⟩]⟩,
  ⟨0x3000008, [(24, 0x10000)], [⟨0, 2, .ro, 0⟩, ⟨2, 2, .ro, 0⟩, ⟨4, 4, .ro, 0⟩, ⟨8, 4, .ro, 0⟩, ⟨12, 1, .ro, 0⟩, ⟨13, 1, .ro, 0⟩]⟩,
  ⟨0x3000010, [(24, 0x10000)], [⟨0, 8, .ro, 0⟩, ⟨8, 8, .ro, 0⟩, ⟨16, 8, .ro, 0⟩]⟩,
  ⟨0x3000018, [(24, 0x10000)], [⟨0, 16, .ro, 0⟩]⟩  -- BRIDE_PORT_DELAY
]

def part6 : List RegClass := [
  ⟨0x3000020, [(24, 0x10000)], [⟨0, 32, .rw, 0x1000⟩, ⟨32, 8, .rw, 4⟩]⟩,
  ⟨0x3000028, [(24, 0x10000)], [⟨0, 16, .rw, 16⟩]⟩,
  ⟨0x3000030, [(24, 0x10000)], [⟨0, 32, .sat, 0⟩]⟩,
  ⟨0x3000038, [(24, 0x10000)], [⟨0, 32, .sat, 0⟩]⟩,
  ⟨0x3000040, [(24, 0x10000)], [⟨0, 32, .sat, 0⟩]⟩,
  ⟨0x3000048, [(24, 0x10000)], [⟨0, 32, .sat, 0⟩]⟩,
  ⟨0x3000050, [(24, 0x10000)], [⟨0, 32, .sat, 0⟩]⟩,
  ⟨0x3000058, [(24, 0x10000)], [⟨0, 32, .sat, 0⟩]⟩,
  ⟨0x3000100, [(24, 0x10000), (8, 0x8)], [⟨0, 1, .ro, 0⟩, ⟨1, 1, .ro, 0⟩, ⟨2, 1, .ro, 0⟩, ⟨3, 1, .ro, 0⟩, ⟨4, 3, .ro, 0⟩, ⟨8, 8, .ro, 0⟩, ⟨32, 32, .ro, 0⟩]⟩,
  ⟨0x3400000, [], [⟨0, 16, .rw, 0⟩, ⟨16, 1, .rw, 0⟩, ⟨24, 6, .rw, 16⟩, ⟨32, 1, .rw, 0⟩]⟩,
  ⟨0x3400008, [], [⟨0, 15, .ro, 0⟩, ⟨32, 16, .ro, 0⟩]⟩,
  ⟨0x3400010, [], [⟨0, 64, .rw, 0⟩]⟩,
  ⟨0x3400018, [], [⟨0, 16, .rw, 64⟩, ⟨16, 4, .rw, 3⟩, ⟨24, 8, .rw, 63⟩, ⟨32, 16, .rw, 16⟩]⟩,
  ⟨0x3400020, [], [⟨0, 32, .rw, 0x10000⟩]⟩,
  ⟨0x3400040, [], [⟨0, 32, .sat, 0⟩]⟩,
  ⟨0x3400048, [], [⟨0, 32, .sat, 0⟩]⟩,
  ⟨0x3400050, [], [⟨0, 32, .sat, 0⟩]⟩,
  ⟨0x3400058, [], [⟨0, 32, .sat, 0⟩]⟩,
  ⟨0x3400060, [], [⟨0, 32, .sat, 0⟩]⟩,
  ⟨0x3400068, [], [⟨0, 32, .sat, 0⟩]⟩,
  ⟨0x3400100, [(24, 0x8)], [⟨0, 16, .ro, 0⟩, ⟨16, 1, .ro, 0⟩, ⟨17, 1, .ro, 0⟩, ⟨18, 5, .ro, 0⟩, ⟨23, 1, .ro, 0⟩, ⟨32, 32, .ro, 0⟩]⟩,
  ⟨0x3400200, [(256, 0x8)], [⟨0, 1, .rw, 0⟩, ⟨8, 8, .rw, 0⟩, ⟨16, 8, .rw, 0⟩, ⟨32, 16, .rw, 0⟩]⟩,
  ⟨0x3401000, [(32, 0x100), (8, 0x8)], [⟨0, 64, .ro, 0⟩]⟩,
  ⟨0x3401040, [(32, 0x100), (8, 0x8)], [⟨0, 64, .rw, 0⟩]⟩,
  ⟨0x3401080, [(32, 0x100)], [⟨0, 64, .rw, 0⟩]⟩,
  ⟨0x3401088, [(32, 0x100)], [⟨0, 1, .ro, 0⟩, ⟨1, 1, .rw, 0⟩, ⟨2, 1, .ro, 0⟩]⟩,
  ⟨0x3403000, [(8, 0x8)], [⟨0, 64, .ro, 0⟩]⟩,
  ⟨0x3403040, [(8, 0x8)], [⟨0, 64, .rw, 0⟩]⟩,
  ⟨0x3403080, [], [⟨0, 1, .ro, 0⟩, ⟨1, 1, .rw, 0⟩, ⟨2, 1, .ro, 0⟩]⟩,
  ⟨0x3404000, [(16, 0x40)], [⟨0, 48, .rw, 0⟩]⟩  -- COLLECTIVE_LIST_BASE
]

def part7 : List RegClass := [
  ⟨0x3404008, [(16, 0x40)], [⟨0, 5, .rw, 4⟩]⟩,
  ⟨0x3404010, [(16, 0x40)], [⟨0, 16, .rw, 0⟩]⟩,
  ⟨0x3404018, [(16, 0x40)], [⟨0, 2, .ro, 2⟩, ⟨2, 16, .ro, 0⟩, ⟨24, 3, .ro, 0⟩]⟩,
  ⟨0x3404020, [(16, 0x40)], [⟨0, 2, .wo, 0⟩]⟩,
  ⟨0x3404028, [(16, 0x40)], [⟨0, 5, .rw, 0⟩, ⟨8, 1, .rw, 0⟩]⟩,
  ⟨0x3404030, [(16, 0x40)], [⟨0, 16, .rw, 16⟩, ⟨32, 32, .rw, 0x10000⟩]⟩,
  ⟨0x3408000, [(65536, 0x8)], [⟨0, 24, .rw, 0⟩]⟩,
  ⟨0x3e00000, [], [⟨0, 1, .ro, 0⟩, ⟨1, 1, .ro, 0⟩, ⟨8, 8, .ro, 0⟩]⟩,
  ⟨0x3e00010, [], [⟨0, 3, .ro, 0⟩, ⟨4, 2, .ro, 0⟩, ⟨8, 16, .ro, 0⟩, ⟨24, 7, .ro, 0⟩]⟩,
  ⟨0x3e00018, [], [⟨0, 48, .ro, 0⟩]⟩,
  ⟨0x3e00020, [(5, 0x8)], [⟨0, 32, .sat, 0⟩]⟩,
  ⟨0x3e00048, [], [⟨0, 32, .sat, 0⟩]⟩,
  ⟨0x3e00050, [], [⟨0, 32, .sat, 0⟩]⟩,
  ⟨0x3e00058, [], [⟨0, 32, .sat, 0⟩]⟩,
  ⟨0x3e00060, [], [⟨0, 32, .sat, 0⟩]⟩,
  ⟨0x3e00068, [], [⟨0, 32, .sat, 0⟩]⟩,
  ⟨0x3e00070, [], [⟨0, 32, .sat, 0⟩]⟩,
  ⟨0x3e00078, [], [⟨0, 32, .sat, 0⟩]⟩,
  ⟨0x3e00080, [], [⟨0, 32, .sat, 0⟩]⟩,
  ⟨0x3e00088, [], [⟨0, 32, .sat, 0⟩]⟩,
  ⟨0x3e01000, [(258, 0x8)], [⟨0, 8, .ro, 0⟩, ⟨8, 8, .ro, 0⟩]⟩,
  ⟨0x3e10000, [(5120, 0x8)], [⟨0, 2, .ro, 0⟩, ⟨2, 1, .ro, 0⟩, ⟨8, 7, .ro, 127⟩, ⟨16, 7, .ro, 127⟩, ⟨24, 7, .ro, 127⟩, ⟨32, 3, .ro, 0⟩, ⟨40, 8, .ro, 0⟩]⟩,
  ⟨0x1000b00, [(8, 0x200000), (16, 0x10000), (2, 0x40)], [⟨0, 1, .rw, 0⟩, ⟨1, 1, .rw, 0⟩, ⟨8, 1, .w1c, 0⟩, ⟨9, 1, .w1c, 0⟩]⟩,
  ⟨0x1000b08, [(8, 0x200000), (16, 0x10000), (2, 0x40)], [⟨0, 32, .rw, 0xffffffff⟩]⟩,
  ⟨0x1000b10, [(8, 0x200000), (16, 0x10000), (2, 0x40)], [⟨0, 48, .rw, 0⟩]⟩,
  ⟨0x1000b18, [(8, 0x200000), (16, 0x10000), (2, 0x40)], [⟨0, 5, .rw, 4⟩, ⟨32, 16, .ro, 0⟩]⟩,
  ⟨0x800000, [], [⟨0, 16, .rw, 100⟩, ⟨16, 1, .rw, 1⟩]⟩,
  ⟨0x800008, [], [⟨0, 4, .ro, 0⟩, ⟨4, 4, .ro, 0⟩, ⟨8, 1, .ro, 0⟩, ⟨9, 1, .ro, 0⟩, ⟨10, 1, .ro, 0⟩, ⟨11, 1, .ro, 0⟩, ⟨12, 4, .ro, 8⟩]⟩,
  ⟨0x800010, [], [⟨0, 16, .ro, 0⟩, ⟨16, 16, .ro, 0⟩, ⟨32, 16, .ro, 0⟩, ⟨48, 8, .ro, 0⟩]⟩,
  ⟨0x800018, [], [⟨0, 64, .ro, 0⟩]⟩  -- THERMAL_ENERGY
]

def part8 : List RegClass := [
  ⟨0x800020, [], [⟨0, 16, .rw, 0x960⟩, ⟨16, 16, .rw, 0xbb8⟩, ⟨32, 16, .rw, 0x3e8⟩, ⟨48, 16, .rw, 100⟩]⟩,
  ⟨0x800028, [], [⟨0, 8, .rw, 85⟩, ⟨8, 8, .rw, 171⟩, ⟨16, 16, .rw, 50⟩, ⟨32, 16, .rw, 50⟩, ⟨48, 8, .rw, 16⟩, ⟨56, 4, .rw, 3⟩]⟩,
  ⟨0x800030, [], [⟨0, 8, .wo, 0⟩]⟩,
  ⟨0x800038, [], [⟨0, 1, .ro, 0⟩, ⟨1, 1, .ro, 0⟩, ⟨8, 8, .ro, 0⟩, ⟨16, 12, .ro, 0⟩]⟩,
  ⟨0x800040, [], [⟨0, 32, .sat, 0⟩]⟩,
  ⟨0x800048, [], [⟨0, 32, .sat, 0⟩]⟩,
  ⟨0x800050, [], [⟨0, 32, .sat, 0⟩]⟩,
  ⟨0x800058, [], [⟨0, 32, .sat, 0⟩]⟩,
  ⟨0x800060, [], [⟨0, 16, .ro, 0⟩, ⟨16, 16, .ro, 0⟩]⟩,
  ⟨0x800100, [(8, 0x8)], [⟨0, 4, .ro, 8⟩, ⟨4, 4, .ro, 8⟩, ⟨8, 1, .ro, 0⟩]⟩,
  ⟨0x801000, [(160, 0x8)], [⟨0, 12, .ro, 0⟩, ⟨16, 12, .ro, 0⟩, ⟨28, 1, .w1c, 0⟩, ⟨29, 1, .ro, 0⟩, ⟨30, 1, .ro, 0⟩, ⟨32, 12, .ro, 0⟩]⟩,
  ⟨0x3800000, [(2, 0x100)], [⟨0, 2, .ro, 0⟩, ⟨4, 4, .ro, 0⟩, ⟨8, 3, .ro, 0⟩, ⟨11, 1, .ro, 0⟩]⟩,
  ⟨0x3800008, [(2, 0x100)], [⟨0, 32, .sat, 0⟩]⟩,
  ⟨0x3800010, [(2, 0x100)], [⟨0, 32, .sat, 0⟩]⟩,
  ⟨0x3800400, [(128, 0x8)], [⟨0, 5, .rw, 0⟩, ⟨8, 1, .rw, 0⟩]⟩,
  ⟨0x3801000, [(32, 0x200)], [⟨0, 5, .rw, 0⟩, ⟨8, 1, .rw, 0⟩, ⟨9, 1, .rw, 0⟩, ⟨10, 1, .w1c, 0⟩]⟩,
  ⟨0x3801008, [(32, 0x200)], [⟨30, 10, .rw, 0⟩]⟩,
  ⟨0x3801010, [(32, 0x200)], [⟨12, 52, .rw, 0⟩]⟩,
  ⟨0x3801018, [(32, 0x200)], [⟨0, 5, .rw, 4⟩, ⟨8, 1, .rw, 0⟩, ⟨9, 1, .rw, 0⟩, ⟨16, 11, .rw, 0⟩, ⟨32, 16, .ro, 0⟩, ⟨48, 8, .rw, 0⟩]⟩,
  ⟨0x3801020, [(32, 0x200)], [⟨0, 16, .rw, 0⟩]⟩,
  ⟨0x3801028, [(32, 0x200)], [⟨12, 52, .rw, 0⟩]⟩,
  ⟨0x3801030, [(32, 0x200)], [⟨0, 5, .rw, 2⟩, ⟨8, 1, .rw, 0⟩, ⟨9, 1, .rw, 0⟩, ⟨16, 11, .rw, 0⟩, ⟨32, 16, .ro, 0⟩, ⟨48, 8, .rw, 0⟩]⟩,
  ⟨0x3801038, [(32, 0x200)], [⟨0, 16, .rw, 0⟩]⟩,
  ⟨0x3801040, [(32, 0x200)], [⟨0, 32, .sat, 0⟩]⟩,
  ⟨0x3801100, [(32, 0x200), (16, 0x10)], [⟨12, 52, .rw, 0⟩]⟩,
  ⟨0x3801108, [(32, 0x200), (16, 0x10)], [⟨0, 21, .rw, 0⟩, ⟨32, 1, .rw, 0⟩, ⟨33, 1, .rw, 0⟩]⟩,
  ⟨0x200000, [(32, 0x400), (32, 0x8)], [⟨0, 64, .rw, 0⟩]⟩,
  ⟨0x200100, [(32, 0x400), (32, 0x8)], [⟨0, 64, .ro, 0⟩]⟩,
  ⟨0x200200, [(32, 0x400)], [⟨0, 1, .wo, 0⟩]⟩,
  ⟨0x200208, [(32, 0x400)], [⟨0, 1, .ro, 0⟩, ⟨1, 3, .ro, 0⟩, ⟨4, 1, .w1c, 0⟩, ⟨16, 16, .ro, 0⟩]⟩  -- MGMT_STATUS
]

def part9 : List RegClass := [
  ⟨0x3c00000, [], [⟨0, 3, .ro, 1⟩, ⟨3, 1, .ro, 0⟩, ⟨4, 1, .ro, 0⟩, ⟨5, 1, .ro, 0⟩, ⟨6, 1, .ro, 0⟩, ⟨8, 3, .ro, 0⟩, ⟨12, 3, .ro, 0⟩, ⟨32, 32, .ro, 0⟩]⟩,
  ⟨0x3c00008, [], [⟨0, 64, .ro, 0⟩]⟩,
  ⟨0x3c00010, [], [⟨0, 6, .ro, 0⟩, ⟨8, 6, .ro, 0⟩, ⟨32, 32, .ro, 0⟩]⟩,
  ⟨0x3c00018, [], [⟨0, 3, .ro, 0⟩, ⟨4, 3, .w1c, 0⟩, ⟨8, 6, .ro, 0⟩]⟩,
  ⟨0x3c00020, [], [⟨0, 64, .ro, 0⟩]⟩,
  ⟨0x3c00028, [], [⟨0, 3, .ro, 0⟩, ⟨8, 4, .ro, 0⟩, ⟨12, 1, .ro, 0⟩]⟩,
  ⟨0x3c00030, [], [⟨0, 4, .rw, 0⟩, ⟨32, 25, .rw, 0⟩, ⟨63, 1, .wo, 0⟩]⟩,
  ⟨0x3c00040, [(8, 0x8)], [⟨0, 64, .ro, 0⟩]⟩,
  ⟨0x3d00000, [(131072, 0x8)], [⟨0, 64, .rw, 0⟩]⟩,
  ⟨0x400000, [], [⟨0, 16, .rw, 0x3e8⟩, ⟨16, 5, .rw, 0⟩, ⟨24, 1, .rw, 0⟩]⟩,
  ⟨0x400008, [], [⟨1, 63, .w1c, 0⟩]⟩,
  ⟨0x400010, [], [⟨0, 64, .rw, 0x10080000⟩]⟩,
  ⟨0x400018, [], [⟨0, 1, .ro, 0⟩, ⟨1, 1, .w1c, 0⟩, ⟨2, 1, .ro, 0⟩]⟩,
  ⟨0x400020, [], [⟨0, 64, .rw, 0⟩]⟩,
  ⟨0x400028, [], [⟨0, 32, .sat, 0⟩]⟩,
  ⟨0x400100, [(64, 0x8)], [⟨0, 32, .sat, 0⟩]⟩,
  ⟨0x401000, [(4, 0x40)], [⟨12, 52, .rw, 0⟩]⟩,
  ⟨0x401008, [(4, 0x40)], [⟨0, 1, .rw, 0⟩, ⟨1, 1, .rw, 0⟩, ⟨16, 11, .rw, 0⟩, ⟨48, 8, .rw, 0⟩]⟩,
  ⟨0x401010, [(4, 0x40)], [⟨0, 16, .ro, 0⟩, ⟨32, 16, .rw, 0⟩]⟩,
  ⟨0x401018, [(4, 0x40)], [⟨0, 1, .ro, 0⟩, ⟨16, 13, .ro, 0⟩]⟩,
  ⟨0x401020, [(4, 0x40)], [⟨0, 32, .sat, 0⟩]⟩,
  ⟨0x401028, [(4, 0x40)], [⟨0, 32, .sat, 0⟩]⟩,
  ⟨0x402000, [(32, 0x40)], [⟨1, 63, .w1c, 0⟩]⟩,
  ⟨0x402008, [(32, 0x40)], [⟨12, 52, .rw, 0⟩]⟩,
  ⟨0x402010, [(32, 0x40)], [⟨0, 5, .rw, 4⟩, ⟨8, 1, .rw, 0⟩, ⟨9, 1, .rw, 0⟩, ⟨16, 11, .rw, 0⟩, ⟨48, 8, .rw, 0⟩]⟩,
  ⟨0x402018, [(32, 0x40)], [⟨0, 16, .ro, 0⟩, ⟨32, 16, .rw, 0⟩]⟩,
  ⟨0x402020, [(32, 0x40)], [⟨0, 32, .sat, 0⟩]⟩,
  ⟨0x410000, [(4, 0x20000), (4096, 0x20), (4, 0x8)], [⟨0, 64, .ro, 0⟩]⟩,
  ⟨0x0, [], [⟨0, 16, .ro, 0x1f6e⟩, ⟨16, 16, .ro, 0x7200⟩, ⟨32, 8, .ro, 0⟩, ⟨40, 1, .ro, 0⟩]⟩,
  ⟨0x8, [], [⟨0, 64, .ro, 0⟩]⟩  -- DEVICE_SERIAL
]

def part10 : List RegClass := [
  ⟨0x10, [], [⟨0, 4, .ro, 8⟩, ⟨8, 8, .ro, 128⟩, ⟨16, 5, .ro, 24⟩, ⟨24, 1, .ro, 1⟩, ⟨32, 4, .ro, 0⟩, ⟨40, 6, .ro, 32⟩]⟩,
  ⟨0x18, [], [⟨0, 32, .sat, 0⟩]⟩,
  ⟨0x20, [], [⟨0, 8, .ro, 0⟩, ⟨8, 24, .ro, 0⟩, ⟨32, 1, .ro, 0⟩]⟩,
  ⟨0x28, [], [⟨0, 8, .ro, 0⟩, ⟨8, 8, .ro, 0⟩, ⟨16, 24, .ro, 0⟩, ⟨40, 1, .ro, 0⟩]⟩,
  ⟨0x30, [], [⟨0, 40, .ro, 0⟩]⟩,
  ⟨0x38, [], [⟨0, 32, .ro, 0⟩, ⟨32, 16, .ro, 0⟩]⟩,
  ⟨0x40, [(2, 0x8)], [⟨0, 64, .ro, 0⟩]⟩,
  ⟨0x50, [(8, 0x8)], [⟨0, 64, .ro, 0⟩]⟩,
  ⟨0x2000000, [(128, 0x20)], [⟨0, 1, .ro, 0⟩, ⟨1, 1, .ro, 0⟩, ⟨8, 3, .ro, 0⟩]⟩,
  ⟨0x2000008, [(128, 0x20)], [⟨0, 64, .ro, 0⟩]⟩,
  ⟨0x2000010, [(128, 0x20)], [⟨0, 64, .ro, 0⟩]⟩,
  ⟨0x2000018, [(128, 0x20)], [⟨0, 64, .ro, 0⟩]⟩  -- NEAR_PANEL_MESH_WAIT
]

/-- Every register of the spec. -/
def all : List RegClass :=
  part0 ++ part1 ++ part2 ++ part3 ++ part4 ++ part5 ++ part6 ++ part7 ++ part8 ++ part9 ++ part10

/-- The registers whose reset value is not zero: offset, dimensions, value; every other register resets to zero. -/
def nonzeroA : List (Nat × List (Nat × Nat) × Nat) := [
  (0x100018, [], 0x400),  -- TICK_STITCH_LEN
  (0x100020, [], 0x400),  -- TICK_LEN_NEXT
  (0x100038, [], 0x40),  -- TICK_SLIP_LIMIT
  (0x1000208, [(8, 0x200000), (16, 0x10000), (8, 0x80)], 0x1),  -- GEN_CONFIG
  (0x1000710, [(8, 0x200000), (16, 0x10000)], 0x10),  -- CORE_DRAIN_LIMIT
  (0x1000900, [(8, 0x200000), (16, 0x10000)], 0x31b0603),  -- MX_PROMOTE
  (0x1000918, [(8, 0x200000), (16, 0x10000)], 0x3f800000),  -- MX_DRAIN_SCALE
  (0x1000a00, [(8, 0x200000), (16, 0x10000)], 0xf0f),  -- VX_VLEN
  (0x1140200, [(8, 0x200000)], 0x40000),  -- KNOT_WAIT_LIMIT_STITCHES
  (0x1140208, [(8, 0x200000)], 0x5),  -- KNOT_TANGLE_CONTROL
  (0x2c00000, [], 0x10),  -- TIER_DRAIN_LIMIT
  (0x2c00008, [], 0x40000),  -- TIER_WAIT_LIMIT_STITCHES
  (0x2c01008, [(32, 0x40)], 0x4),  -- TIER_QUEUE_LIST_SIZE
  (0x2c01018, [(32, 0x40)], 0x2),  -- TIER_QUEUE_STATUS
  (0x2400000, [(8, 0x20000)], 0x40c0100),  -- FAR_CONTROL
  (0x2400008, [(8, 0x20000)], 0x3),  -- FAR_STATUS
  (0x2800000, [], 0x4000),  -- UPDATE_PROMOTE_LIMIT
  (0x2800008, [], 0x10),  -- UPDATE_DRAIN_LIMIT
  (0x2900050, [(4096, 0x80)], 0x3f80000000000000),  -- GROUP_EPSILON
  (0x2900058, [(4096, 0x80)], 0x100000),  -- GROUP_WINDOW
  (0x2900070, [(4096, 0x80)], 0x3f8000003f800000),  -- GROUP_POWERS
  (0x2806008, [(32, 0x100)], 0x1),  -- GATE_TRIGGER
  (0x2806028, [(32, 0x100)], 0x7f8000007f800000),  -- GATE_LIMITS
  (0x2806030, [(32, 0x100)], 0x7d000200010),  -- LOSS_SCALE
  (0x2806068, [(32, 0x100)], 0x10000),  -- GATE_WAIT_LIMIT
  (0x3000000, [(24, 0x10000)], 0x10),  -- BRIDE_PORT_CONTROL
  (0x3000020, [(24, 0x10000)], 0x400001000)  -- BRIDE_PORT_SHED_LIMITS
]

@[inherit_doc nonzeroA]
def nonzeroB : List (Nat × List (Nat × Nat) × Nat) := [
  (0x3000028, [(24, 0x10000)], 0x10),  -- BRIDE_PORT_DRAIN_LIMIT
  (0x3400000, [], 0x10000000),  -- BRIDE_ROUTE_CONTROL
  (0x3400018, [], 0x103f030040),  -- BRIDE_ROUTE_TRANSPORT
  (0x3400020, [], 0x10000),  -- BRIDE_ROUTE_BEACON
  (0x3404008, [(16, 0x40)], 0x4),  -- COLLECTIVE_LIST_SIZE
  (0x3404018, [(16, 0x40)], 0x2),  -- COLLECTIVE_STATUS
  (0x3404030, [(16, 0x40)], 0x1000000000010),  -- COLLECTIVE_LIMITS
  (0x3e10000, [(5120, 0x8)], 0x7f7f7f00),  -- INTEGRITY_BUNDLE
  (0x1000b08, [(8, 0x200000), (16, 0x10000), (2, 0x40)], 0xffffffff),  -- MV_CHECK_RUNNING
  (0x1000b18, [(8, 0x200000), (16, 0x10000), (2, 0x40)], 0x4),  -- MV_REPORT_RING
  (0x800000, [], 0x10064),  -- THERMAL_CONTROL
  (0x800008, [], 0x8000),  -- THERMAL_STATUS
  (0x800020, [], 0x6403e80bb80960),  -- THERMAL_POWER_LIMIT
  (0x800028, [], 0x31000320032ab55),  -- THERMAL_ESTIMATE
  (0x800100, [(8, 0x8)], 0x88),  -- THERMAL_CLUSTER_DUTY
  (0x3801018, [(32, 0x200)], 0x4),  -- FUNCTION_COMPLETION_RING
  (0x3801030, [(32, 0x200)], 0x2),  -- FUNCTION_MAILBOX_RING
  (0x3c00000, [], 0x1),  -- SECURITY_BOOT_STATUS
  (0x400000, [], 0x3e8),  -- EVENT_CONTROL
  (0x400010, [], 0x10080000),  -- EVENT_ALERT_MASK
  (0x402010, [(32, 0x40)], 0x4),  -- EVTENANT_RING_CONTROL
  (0x0, [], 0x72001f6e),  -- DEVICE_IDENTITY
  (0x10, [], 0x200001188008),  -- DEVICE_CAPABILITY
  (0x3801000, [], 0x300),  -- FUNCTION_BINDING[0]: TENANT 0, VALID, PRIVILEGED (R430)
  (0x3803000, [], 0x310),  -- FUNCTION_BINDING[16]: TENANT 16, VALID, PRIVILEGED (R430)
  (0x3e01000, [(128, 0x8)], 0x4000),  -- SPARES of the panels: 64 (R394, R378)
  (0x3e01400, [(128, 0x8)], 0x1000),  -- SPARES of the hoops: 16
  (0x3e01800, [(2, 0x8)], 0x8000)  -- SPARES of the ground dies: 128
]

/-- Whether a distance from an array's base is a whole number of strides in every dimension. -/
def inDims : List (Nat × Nat) → Nat → Bool
  | [], d => d == 0
  | (n, st) :: rest, d =>
    let q := d / st
    if q < n then inDims rest (d - q * st) else inDims rest (d - (n - 1) * st)

/-- Whether an offset is a register of the class. -/
def RegClass.holds (c : RegClass) (off : Nat) : Bool := c.base ≤ off && inDims c.dims (off - c.base)

/-- The class of the register at an offset; none where no block defines one (R465). -/
def find (off : Nat) : Option RegClass := all.find? (fun c => RegClass.holds c off)

/-- The reset value of the register at an offset. -/
def resetNat (off : Nat) : Nat :=
  match (nonzeroA ++ nonzeroB).find? (fun e => e.1 ≤ off && inDims e.2.1 (off - e.1)) with
  | some e => e.2.2
  | none => 0

end RegTable

/-- The value a register holds at reset (the Reset columns of the field rules). -/
def resetValue (off : Nat) : Word := BitVec.ofNat 64 (RegTable.resetNat off)

end Sys2Proof.Machine
end

