-- ==== Sys2Proof/Machine/State.lean ====
section
/-! DEFINITION. The state of the Nalmen module as plain data: the register file of BAR0, the memories, and every queue,
buffer and mode the spec gives the block beside its registers; the reasons a step can stop; the state after reset. -/

namespace Sys2Proof.Machine

/-! ### Events (R448 to R462) -/

/-- An event record before it is laid out as the 32 bytes of R453. -/
structure EventRec where
  code : Nat
  ribbon : Nat
  folded : Bool := false
  floodFirst : Bool := false
  floodLatest : Bool := false
  tenant : Option Nat
  source : Nat
  uptime : Nat
  count : Nat := 1
  detail : Nat
  deriving DecidableEq, Repr

/-- A fold entry of the FAULT or NOTICE ribbon (R456). -/
structure FoldEntry where
  ribbon : Nat
  code : Nat
  source : Nat
  tenant : Option Nat
  count : Nat
  latest : EventRec
  opened : Nat
  deriving DecidableEq, Repr

/-- A flood in progress on a ribbon (R457): the pointer of its FLOOD_LATEST entry, whether a THERMAL_TRIP made that entry
final, the records dropped so far, and the time of its first record. -/
structure Flood where
  ribbon : Nat
  latest : Option Nat
  final : Bool
  dropped : Nat
  first : Nat
  deriving DecidableEq, Repr

/-- The MSI-X holdoff of one ring (R423): when its last message went, and whether records wait for the next one. -/
structure Intr where
  ring : Nat
  fn : Nat
  last : Nat
  held : Bool
  deriving DecidableEq, Repr

/-! ### Host functions (R410 to R428) -/

/-- The configuration space of one function as far as R410 names it: beside what the device's rules use, NumVFs, the completion
timeout's range and disable, the MSI-X table's addresses and data, and the uncorrectable errors of Advanced Error Reporting
(notes/assumptions/111). -/
structure FnCfg where
  d3hot : Bool := false
  busMaster : Bool := false
  memSpace : Bool := false
  vfEnable : Bool := false
  bar4Log : Nat := 36
  maxPayload : Nat := 128
  maxRead : Nat := 512
  msixEnable : Bool := false
  msixMaskAll : Bool := false
  unmasked : List Nat := []
  pendingVectors : List Nat := []
  numVfs : Nat := 0
  timeoutRange : Nat := 0
  timeoutDisable : Bool := false
  msixTable : Sparse (Nat × Nat) := []
  aer : BitVec 32 := 0
  deriving DecidableEq, Repr

/-- A notification record that waits for ring space (R192). -/
structure Notify where
  knot : Nat
  tenant : Nat
  count : Nat
  frayed : Bool
  armed : Bool
  cause : Nat
  stitch : Nat
  deriving DecidableEq, Repr

/-- A function-level reset in progress (R425): its tenant, the functions that started it, and which of the steps that wait
for the drain have been taken. -/
structure FlrState where
  tenant : Nat
  starters : List Nat
  knotsDone : Bool
  objectsDone : Bool
  deriving DecidableEq, Repr

/-! ### Memory (R206, R235 to R259, R369 to R379) -/

/-- A line held in a write-combining buffer: line number (address / 64) and its byte-valid mask (R238). -/
structure WcbLine where
  line : Nat
  mask : BitVec 64
  deriving DecidableEq, Repr

/-- The grants a pseudo-channel has given in its current window (R241): by class, with the cap and weights the window
started with. -/
structure Window where
  grants : Nat := 0
  urgent : Nat := 0
  stream : Nat := 0
  bulk : Nat := 0
  cap : Nat := 256
  streamWeight : Nat := 12
  bulkWeight : Nat := 4
  deriving DecidableEq, Repr

/-- A targeted self-test, running or queued (R377, R253): `unit` is the controller (R393's spare-array number for the die
stack, 1,000 + 64 × stack + pseudo-channel for far memory), `row` its row, `bank` the bank of a far row, `array` the number of
the byte-coded array where the row is an array's. -/
structure RowTest where
  unit : Nat
  bank : Nat
  row : Nat
  array : Option Nat := none
  deriving DecidableEq, Repr

/-- A row of the die stack that a spare now serves (R377); `array` as in `RowTest`. -/
structure RowRemap where
  unit : Nat
  row : Nat
  spare : Nat
  array : Option Nat := none
  deriving DecidableEq, Repr

/-- An UNWRITE in progress on a stack (R250). -/
structure UnwriteRun where
  stack : Nat
  first : Nat
  pages : Nat
  knot : Option Nat
  deriving DecidableEq, Repr

/-- Everything the device stores by address, and the controllers' state beside it. `bytes` is what a read of the device
address sees once upsets and poison are set aside. -/
structure MemState where
  bytes : List Host.Cell := []
  /-- 32-byte units (address / 32) that hold poison (R372, R252). -/
  poison : NatSet := []
  /-- Latent errors in stored code words: 8-byte word of hoop or near memory (address / 8) with its 80-bit error pattern;
  2^44 + beat (address / 32) of far memory with its 36-symbol error pattern, symbol at x^L in bits [8L + 7 : 8L]; and, with
  80-bit patterns, 2^46 + word (far address / 8) of a write-combining buffer, 2^47 + word of firmware staging, and 2^48 + word
  of a vector tile register (its number in `vregs` / 2). -/
  upsets : List (Nat × Nat) := []
  /-- Latent errors in the byte-coded arrays: BAR0 byte offset, or 2^27 + 16 × (4 × core + engine) + byte for the staging
  registers, with its 13-bit error pattern, position p in bit p − 1, p4 in bit 12 (R371). -/
  arrayUpsets : List (Nat × Nat) := []
  /-- Far pages (address / 4,096) whose unwritten-map bit is 1 (R248). -/
  written : NatSet := []
  /-- Lines held in the write-combining buffers, least recently used first (R238). -/
  wcb : List WcbLine := []
  /-- The stacks whose buffer writes lines back in the background (R238). -/
  wcbBusy : NatSet := []
  /-- Lines in the controllers' write queues, oldest first (R239, R242). -/
  writeQueue : List Nat := []
  /-- Read windows by 64 × stack + pseudo-channel (R241). -/
  windows : Sparse Window := []
  /-- Targeted self-tests: for each controller the first is running (R377, R253). -/
  tests : List RowTest := []
  remaps : List RowRemap := []
  unwrites : List UnwriteRun := []
  deriving DecidableEq, Repr

/-- The bundles (R386, R387): UPTIME_NS + 1 of the latest parity failure of each, those under wire test or waiting for it, and the
fused repair map: the values that fuses give the `BUNDLE` registers of repaired bundles (R374, R394). -/
structure BondState where
  lastFailure : Sparse Nat := []
  testing : NatSet := []
  fuseMap : Sparse Word := []
  deriving DecidableEq, Repr

/-! ### Knots (R180 to R205) -/

/-- An accepted remote update on its way to its bank (R195), with the flow it came in: source, destination and class. -/
structure RemoteUpdate where
  knot : Nat
  op : RemoteOp
  flow : Nat × Nat × Nat
  deriving DecidableEq, Repr

/-- Why a step stops. -/
inductive Fault where
  /-- Raised by no meaning of this model; safe. -/
  | none
  deriving DecidableEq, Repr

/-- Why a command has no meaning. -/
inductive Refusal where
  /-- Raised by an arm of Dispatch.lean for a command that is not modelled; safe. -/
  | notModelled (mnemonic : String)
  deriving DecidableEq, Repr

/-! ### Bride (R310 to R368) -/

/-- Who waits for the answer of a transaction. -/
inductive TxnOwner where
  /-- Nobody: an answer, a beacon, a discovery transaction. -/
  | nobody
  /-- A write or a reduction of step `step` of the command `uid` at the engine queue (core, engine). -/
  | step (core engine uid step : Nat)
  /-- A read of step `step` of the command `uid` at the engine queue (core, engine). -/
  | read (core engine uid step : Nat)
  /-- The remote set field of a command (R198). -/
  | knotSet (core engine uid knot : Nat)
  /-- The remote fray of a command that did not complete OK (R198). -/
  | knotFray (core engine knot : Nat)
  /-- A notification to a return knot of another device (R192). -/
  | notification
  /-- A contribution of collective engine `e`, or of the gate channel of tenant e − 16, with its collective sequence (R361,
  R362). -/
  | collective (e seq : Nat)
  deriving DecidableEq, Repr

/-- How a numbered transaction ended at its source. -/
inductive TxnResult where
  | acked
  | replied (outcome : Nat)
  | rights
  | digest
  | undeliverable
  deriving DecidableEq, Repr

/-- The end of a transaction that its owner has not yet taken. -/
structure Answer where
  owner : TxnOwner
  device : Nat
  address : Nat
  result : TxnResult
  deriving DecidableEq, Repr

/-- A transaction its source keeps until it is answered (R350); `answered` lists the members of a multicast that have
answered (R356). -/
structure TxEntry where
  txn : Txn
  owner : TxnOwner
  resends : Nat := 0
  answered : List Nat := []
  /-- The refusal of a member of a multicast that has answered. -/
  refused : Option TxnResult := none
  /-- Why it was last resent, by a NAK BUSY or for want of an answer, and when (R357). -/
  resent : Option (Bool × Nat) := none
  deriving DecidableEq, Repr

/-- The source's side of a flow (R345). -/
structure TxFlow where
  dest : Nat
  cls : Nat
  next : Nat := 0
  resync : Bool := true
  unacked : List TxEntry := []
  waiting : List TxEntry := []
  deriving DecidableEq, Repr

/-- A transaction delivered on this device: the port it came in on, and whether it is a duplicate to answer again (R349). -/
structure Arrival where
  port : Option Nat
  txn : Txn
  dup : Bool := false
  deriving DecidableEq, Repr

/-- The destination's side of a flow (R349). -/
structure RxFlow where
  src : Nat
  dest : Nat
  cls : Nat
  expected : Nat := 0
  held : List Arrival := []
  /-- Sequence numbers answered NAK BUSY, whose resends are delivered. -/
  busy : List Nat := []
  /-- UPTIME_NS of the last delivery. -/
  last : Nat := 0
  deriving DecidableEq, Repr

/-- A transaction held at the routing stage: its arrival port and the stitch clock when it was held (R344). -/
structure RouteHeld where
  txn : Txn
  arrival : Option Nat
  since : Nat
  deriving DecidableEq, Repr

/-- A reply entry held at the routing stage: its arrival port and the stitch clock when it was held (R355). -/
structure HeldReply where
  reply : ReplyEntry
  arrival : Nat
  since : Nat
  deriving DecidableEq, Repr

/-- A transaction routed to a port (R341): as it came to the routing stage, the flit bodies not yet sent, and whether its
first flit has been sent. -/
structure TxItem where
  txn : Txn
  left : List (List Byte)
  begun : Bool := false
  deriving DecidableEq, Repr

/-- A flit of a replay buffer and the transaction whose bytes it carries. -/
structure ReplayItem where
  flit : Flit
  txn : Option Txn := none
  deriving DecidableEq, Repr

/-- The link layer of one port beside its registers (R312 to R334). -/
structure PortState where
  /-- Transactions routed to the port that have flits not yet numbered. -/
  txQueue : List TxItem := []
  /-- The replay buffer: numbered flits sent and not acknowledged (R321). -/
  replay : List ReplayItem := []
  /-- How many flits of the replay buffer must be resent, counted from its end (R322). -/
  resendFrom : Option Nat := none
  txSeq : Nat := 0
  /-- The ACK for which the last NAK was acted on (R322). -/
  nakFor : Option Nat := none
  expected : Nat := 0
  nak : Bool := false
  /-- Flits of each class sent, modulo 4,096 (R324). -/
  sent : List Nat := [0, 0, 0, 0]
  /-- Flits of each class passed on since training, modulo 4,096 (R324). -/
  freed : List Nat := [0, 0, 0, 0]
  /-- CREDITS of the latest received control flit (R324). -/
  peerCredits : List Nat := [0, 0, 0, 0]
  frame : Nat := 0
  txMapNext : Nat := 0
  switchFrame : Option Nat := none
  rxSwitchMap : Nat := 0
  rxSwitchFrame : Option Nat := none
  /-- RX_LANES as this end sends it. -/
  rxLanes : Nat := 0
  /-- RX_LANES as the peer last sent it. -/
  peerRxLanes : Nat := 0
  /-- Receive lanes that trained and have not been shed since. -/
  goodLanes : Nat := 0
  replies : List ReplyEntry := []
  /-- Replies counted in REPLY_DEFERRED that still wait. -/
  deferred : Nat := 0
  /-- Bytes of the transaction that each class is receiving (R346). -/
  assembly : List (List Byte) := [[], [], [], []]
  /-- Tick edges waiting for the next flit slot: kind, slip, boundary (R327). -/
  edges : List (Nat × Nat × Nat) := []
  /-- Frames received before the present receive width, and flits since (R315). -/
  rxBase : Nat := 0
  rxFlits : Nat := 0
  /-- The lanes whose pair is uncorrectable in the stripe being received and in the one before it (R316). -/
  lostNow : List Nat := []
  lostBefore : List Nat := []
  /-- The port has trained since power-on. -/
  trained : Bool := false
  /-- Lanes that RESTORE retrains and that are failing again (R333). -/
  failing : Nat := 0
  deriving DecidableEq, Repr

/-- The transport and the routing stage (R337 to R357). -/
structure NetState where
  ports : Sparse PortState := []
  /-- Replies that wait for a port at the routing stage (R355, R344). -/
  heldReplies : List HeldReply := []
  txFlows : List TxFlow := []
  rxFlows : List RxFlow := []
  routeHeld : List RouteHeld := []
  /-- The port last chosen for a DEST (R342). -/
  lastPort : Sparse Nat := []
  /-- Transactions delivered on this device and not yet handled, in order of delivery. -/
  arrived : List Arrival := []
  answers : List Answer := []
  nextTag : Nat := 0
  deriving DecidableEq, Repr

/-! ### Cores: shuttle, queues and stations (R41 to R130) -/

/-- A generator's configuration and indices, as a port holds its copy (R75, R93). -/
structure GenState where
  base : Nat
  dims : Nat
  counts : List Nat
  strides : List Int
  idx : List Nat
  deriving DecidableEq, Repr

/-- The status of a completed command (R105). -/
inductive CmdStatus where
  | ok | cancelled | aborted | frayedKnot
  deriving DecidableEq, Repr

/-- Why a step of a command failed: the cause of its ABORTED record, port, address and other device (R455). -/
structure StepFail where
  cause : Nat
  port : Nat := 0
  address : Nat := 0
  device : Nat := 0
  deriving DecidableEq, Repr

/-- The memory side of a mover step that is being read (R125): the step's number, its memory-side address, where the data
goes (a hoop offset, or the second address of MOVE_COPY), the bytes still missing, the bytes, the poisoned ranges (offset,
length), whether the pages read are unwritten (R248), and the translation of the host windows at `dest` when the step began:
device address of the window, function, window, host address (R418). -/
structure Gather where
  step : Nat
  mem : Nat
  dest : Nat
  need : Nat
  bytes : List Byte
  bad : List (Nat × Nat) := []
  unwritten : Bool := false
  windows : List (Nat × Nat × Nat × Nat) := []
  deriving DecidableEq, Repr

/-- A step of a REPORT command that its check takes once every earlier step is decided (R382): the step's number, its fabric-global
address, its memory-side bytes with poisoned lines as 0xFF, whether it passed poison on, its transactions without an answer, and
whether one of them was refused. -/
structure CheckStep where
  step : Nat
  address : Nat
  bytes : List Byte
  poison : Bool
  waiting : Nat := 0
  refused : Bool := false
  deriving DecidableEq, Repr

/-- An entry of an engine queue (R82, R88, R93): the command, what it captured at issue, and how far it is. -/
structure QEntry where
  uid : Nat
  cmd : BitVec 128
  /-- Captured descriptors: tile register, LO and HI (R82). -/
  tiles : List (Nat × Word × Word) := []
  /-- Station slot and activation boundary (R83). -/
  tag : Option (Nat × Nat) := none
  s0 : Option GenState := none
  s1 : Option GenState := none
  /-- The devices that SET_PEER and PEER named at issue (R129). -/
  setDevice : Nat := 0
  peerDevice : Nat := 0
  /-- The stitch clock when the wait began (R189). -/
  waitSince : Option Nat := none
  started : Bool := false
  /-- Steps made (R120). -/
  steps : Nat := 0
  /-- Every step has been made. -/
  workDone : Bool := false
  /-- Transfers of this command still outstanding on Bride or the host links. -/
  outstanding : Nat := 0
  failed : Option StepFail := none
  /-- The remote set has been sent and its reply is awaited (R198). -/
  setSent : Bool := false
  /-- The set's reply. -/
  setResult : Option TxnResult := none
  /-- Mover steps whose data has not all arrived or not been delivered, in step order. -/
  gathers : List Gather := []
  /-- The last byte written to host memory: function, window, host address (R419). -/
  hostTail : Option (Nat × Nat × Nat) := none
  /-- REPORT: the running check, and whether poison was passed on (R382, R383). -/
  crc : Nat := 0
  /-- The steps whose bytes the check has taken (R382, R383). -/
  fed : Nat := 0
  poison : Bool := false
  /-- Steps that the check has still to take. -/
  checks : List CheckStep := []
  /-- The completion has been counted and reported before the remote set was sent, and where its record stands (R383). -/
  reported : Bool := false
  recordAt : Option Nat := none
  /-- A matrix pass: the effective promotion interval and the groups taken (R136, R147); the spill period, STITCH_COUNT at the
  start and the next spill threshold (R147). -/
  promote : Nat := 1
  groups : Nat := 0
  spillPeriod : Nat := 0
  startStitch : Nat := 0
  threshold : Nat := 0
  /-- A spill falls due at the step end that the pass has just reached (R147). -/
  spillDue : Bool := false
  /-- A chain or an element program: the rows and columns of its latest block, the vector tile registers that its slot writes
  (R175), and the spans of hoop memory that its blocks have written (R174). -/
  block : Nat × Nat := (0, 0)
  vregs : List Nat := []
  wrote : List (Nat × Nat) := []
  /-- A matrix drain: `MX.DRAIN_SCALE` as it stood at the start (R144, R151). -/
  drainScale : BitVec 32 := 0x3F800000
  deriving DecidableEq, Repr

/-- A launch queue (R94): 16 descriptors of eight 64-bit words, write and read pointers modulo 32, the last status, the
refused doorbells, and whether a STOP waits for the shuttle to stop (R95). -/
structure Launch where
  words : List Word := List.replicate 128 0
  wp : Nat := 0
  rp : Nat := 0
  last : Nat := 0
  refused : Nat := 0
  stopping : Bool := false
  deriving DecidableEq, Repr

/-- A shuttle's state beside its registers: the DONE_KNOT of the START that started it (R94) and its knot wait: knot,
condition, value, and the stitch clock when it began (R189). -/
structure Shuttle where
  doneKnot : Option Nat := none
  wait : Option (Nat × Nat × Nat × Nat) := none
  deriving DecidableEq, Repr

/-- A configuration that a change of CONFIG has replaced (R71): it still places the activations of the boundaries `first` to
`last` that were opened under it. -/
structure OldCadence where
  cadence : Nat
  phase : Nat
  first : Nat
  last : Nat
  deriving DecidableEq, Repr

/-- A station slot's state beside its registers: the next boundary of R84, the boundary of the open activation, whether the
slot has activated or been opened since it was enabled (R45), STITCH_COUNT + 2 when its enable took effect, its start stitch,
the accepted CONFIG that waits for the slot's next deadline (ENABLE, CADENCE, PHASE; R71), the next boundary that an ACT_END
takes after a change took effect, the activations in progress with their deadlines (R48), the boundary of the latest
activation opened, and the configurations under which activations were opened before a change took effect (R71). -/
structure Station where
  next : Nat := 0
  opened : Option Nat := none
  activated : Bool := false
  enabledAt : Nat := 0
  start : Nat := 0
  change : Option (Nat × Nat × Nat) := none
  resume : Option Nat := none
  active : List (Nat × Nat) := []
  lastOpen : Option Nat := none
  old : List OldCadence := []
  deriving DecidableEq, Repr

/-- A boundary that the device holds (R58, R65): its number, UPTIME_NS and the stitch clock when it fell due, the late slots
(core, slot) it waits for, whether it waits for a TICK_IN edge, and whether its deadlines have been judged. -/
structure Hold where
  boundary : Nat
  since : Nat
  clock : Nat
  late : List (Nat × Nat) := []
  byEdge : Bool := false
  judged : Bool := true
  deriving DecidableEq, Repr

/-- The tick beside its registers (R52 to R65). -/
structure TickState where
  /-- The role in effect. -/
  role : Nat := 0
  /-- The boundary held here. -/
  hold : Option Hold := none
  /-- The ports below that hold, with their boundaries. -/
  below : List (Nat × Nat) := []
  /-- The holds from below acted on since the last announcement, by port and boundary (R327). -/
  heard : List (Nat × Nat) := []
  /-- The latest slip t_c − T_b among the clearances of the held boundary. -/
  slip : Nat := 0
  /-- The boundary that a domain hold concerns. -/
  domain : Option Nat := none
  /-- The boundary for which a follower has sent a hold up and waits for the announcement. -/
  asked : Option Nat := none
  /-- The last clearance sent up: boundary and slip. -/
  sentUp : Option (Nat × Nat) := none
  /-- The last announcement: boundary and slip. -/
  announced : Option (Nat × Nat) := none
  /-- UPTIME_NS when a boundary fell due that waits for clearance. -/
  due : Option Nat := none
  /-- The length change that applies: length and boundary. -/
  change : Option (Nat × Nat) := none
  /-- The length that the upstream sender states for its current stitch. -/
  upLen : Option Nat := none
  /-- COUNT of the latest tick block taken from upstream since the device began to follow. -/
  upCount : Option Nat := none
  /-- The sender's firing of that COUNT, in twelfths of a nanosecond of UPTIME_NS (R326). -/
  upFired : Int := 0
  /-- The sender's count less this device's, once a boundary has aligned them (R56). -/
  skew : Option Int := none
  /-- The tick phase has returned and no boundary has aligned the device yet (R56). -/
  returned : Bool := false
  /-- UPTIME_NS when the last boundary fired. -/
  firedAt : Nat := 0
  /-- The cycles of waiting not yet counted as a stitch. -/
  waited : Nat := 0
  /-- The TICK_IN edges still to be withheld. -/
  withhold : Nat := 0
  /-- TICK_IN edges are missing. -/
  inLost : Bool := false
  deriving DecidableEq, Repr

/-- What Tambour runs: the ROM, a start of an image in progress, or an image (R26, R438, R440). -/
inductive TambourState where
  | rom | starting | running
  deriving DecidableEq, Repr

/-- An entry of the repair log (R258, R379): DARN (1) or RETIRE (2) of a far stack, or of the die stack with the code of its
unit; `repair` is 0xFF, 0x00 or 0x01. -/
structure RepairEntry where
  kind : Nat
  stack : Nat
  pc : Nat
  bank : Nat
  row : Nat
  repair : Nat
  uptime : Nat
  deriving DecidableEq, Repr

/-- Firmware and security beside the registers (R433 to R445). -/
structure FwState where
  /-- The flash: its image region and its certificate store; what lies beyond is erased. -/
  flash : List Byte := []
  certs : List Byte := []
  /-- The repair log, oldest entry first (R258). -/
  repairLog : List RepairEntry := []
  /-- Firmware staging (R230). -/
  staging : Sparse Byte := []
  /-- Bytes of the staged image. -/
  stagedLen : Nat := 0
  /-- The running-image copy in East ground SRAM (R440). -/
  running : List Byte := []
  tambour : TambourState := .rom
  /-- The start in progress is East's, from the running-image copy (R440). -/
  fromCopy : Bool := false
  /-- Tambour runs on the East core (R26). -/
  east : Bool := false
  /-- A RETIRE of West's Tambour core waits for the next boundary (R440). -/
  retirePending : Bool := false
  /-- Boundary A of the requested activation (R438). -/
  activateAt : Option Nat := none
  /-- A + 64: until then the digests from before A match too (R438). -/
  windowEnd : Option Nat := none
  oldDigests : List (List Word) := []
  /-- Retries of the flash write (R437). -/
  retries : Nat := 0
  /-- The host read of FW_FETCH has failed (R437). -/
  fetchFailed : Bool := false
  /-- Tambour is halted through the debug port (R444). -/
  halted : Bool := false
  /-- The outstanding debug nonce and the UPTIME_NS at which it expires (R444). -/
  nonce : Option (List Byte × Nat) := none
  deriving DecidableEq, Repr

/-- Start-up beside the registers: power-good (R395), MOD_ID as sampled at stage 2 (R482), the endpoints whose PERST# is
deasserted (R40), and the Bride ports whose first training attempt has not ended (R431). -/
structure BootState where
  powered : Bool := false
  strap : Nat := 0
  perstHigh : NatSet := []
  firstTry : NatSet := []
  deriving DecidableEq, Repr

/-- The sideband: the endpoint IDs of the three MCTP bindings, PCIe A, PCIe B and SMBus (R428); the event receiver, binding and
endpoint ID (R460); how far each binding's SPDM negotiation is (R442): 0 none, 1 version, 2 capabilities, 3 algorithms; the
binding of a PLDM update and how far it is: 1 requested, 2 table passed, 3 transferring, 4 transferred, with the size of the
component (R443); the I3C dynamic address (R482); the debug port's instruction, 0 IDCODE or 1 BYPASS (R484); and the MCTP
messages that arrived while Tambour did not run, oldest first, each as the command that brought it (R428, R432). -/
structure SideState where
  eids : List Nat := [0, 0, 0]
  receiver : Option (Nat × Nat) := none
  spdm : List Nat := [0, 0, 0]
  update : Option (Nat × Nat) := none
  size : Nat := 0
  i3c : Option Nat := none
  jtag : Nat := 0
  held : List Instr := []
  deriving DecidableEq, Repr

/-- Power and temperature beside the registers (R395 to R404): the consecutive low rounds of each sensor, the sensors
converting on demand, the columns' powers of the latest round, the energy not yet a whole microjoule, the sum and number of
the power samples of the cap window, whether the regulators measure at the contacts (R476), and the trim codes of the parts of
R407 that have no register. -/
structure ThermalState where
  low : Sparse Nat := []
  converting : NatSet := []
  power : List Nat := []
  energyRest : Nat := 0
  capSum : Nat := 0
  capCount : Nat := 0
  atContacts : Bool := false
  codes : List Int := []
  deriving DecidableEq, Repr

/-- A unit that drains (R98). -/
inductive DrainUnit where
  | queue (n e : Nat)
  | core (n : Nat)
  | cluster (c : Nat)
  | tierQueue (q : Nat)
  | updateUnit (u : Nat)
  | port (p : Nat)
  | collective (e : Nat)
  deriving DecidableEq, Repr

/-- A drain in progress (R98): what drains, the entry stitch, and the stitch clock at entry. -/
structure Drain where
  what : DrainUnit
  entry : Nat
  since : Nat
  /-- DRAIN_LIMIT has passed and DRAIN_TIMEOUT has been raised. -/
  timedOut : Bool := false
  /-- The bound that a function-level reset sets on the limit (R425). -/
  cap : Option Nat := none
  deriving DecidableEq, Repr

/-- The special-value state of a narrow accumulator (R139). -/
inductive Special where
  | none | nan | inf (neg : Bool)
  deriving DecidableEq, Repr

/-- A narrow accumulator: A, E_n and its special-value state (R134, R139). -/
structure Narrow where
  a : Int := 0
  en : Option Int := Option.none
  sp : Special := .none
  deriving DecidableEq, Repr

/-- The cores' state beside their registers. Queues, staging registers and stations are kept by 4 × core + number. -/
structure CoreState where
  staging : Sparse (BitVec 128) := []
  queues : Sparse (List QEntry) := []
  nextUid : Nat := 0
  /-- Completions of each mover queue since its last ENABLE (R383). -/
  completions : Sparse Nat := []
  launches : Sparse Launch := []
  shuttles : Sparse Shuttle := []
  stations : Sparse Station := []
  /-- The wide accumulators by 512 × core + 16 × r + c (R131). -/
  wide : Sparse W32 := []
  /-- The narrow accumulators of a pass in progress by 3 × (512 × core + lane) + number (R134, R138). -/
  narrow : Sparse Narrow := []
  /-- The vector tile registers by ((32 × core + register) × 16 + r) × 16 + c (R156). -/
  vregs : Sparse W32 := []
  /-- VLEN in rows and columns (R156). -/
  vlen : Sparse (Nat × Nat) := []
  drains : List Drain := []
  /-- The entry stitch of each unit's last drain (R98). -/
  entries : List (DrainUnit × Nat) := []
  /-- Retirements that wait for a drain (R100). -/
  retiring : List DrainUnit := []
  /-- Tangles found by the last scans (R199): tenant, the queues (4 × core + engine) with their front commands, and how many
  consecutive scans have found it. -/
  tangles : List (Nat × List (Nat × Nat) × Nat) := []
  deriving DecidableEq, Repr

/-! ### Host memory (R418 to R420) -/

/-- Who waits for a read of host memory, or for the zero-length read that follows writes (R419). -/
inductive DmaOwner where
  /-- Step `step` of a mover command. -/
  | moverRead (core engine uid step : Nat)
  /-- The zero-length read after a mover command's last write. -/
  | moverFlush (core engine uid : Nat)
  /-- A TILE_READ of another device. -/
  | remoteRead (txn : Txn)
  /-- The write of a transaction of another device, acknowledged once visible: TILE_WRITE and MAILBOX. -/
  | remoteFlush (txn : Txn)
  /-- Entry `index` of tier queue q's schedule list (R217). -/
  | tierList (q index : Nat)
  /-- Swatch `index` of a tier move, by its order, read; or the flush of its host writes (R220). -/
  | tierRead (move index : Nat)
  | tierFlush (move : Nat)
  /-- Descriptor `index` of collective engine e's ring, its SOURCE, and the flush of its DEST (R359). -/
  | collectiveList (e index : Nat)
  | collectiveRead (e : Nat)
  | collectiveFlush (e : Nat)
  /-- FW_FETCH (R437). -/
  | firmware
  deriving DecidableEq, Repr

/-- A read request on an endpoint (R419): function, window, host address, tag, offset in its job and bytes missing. -/
structure DmaPart where
  fn : Nat
  window : Nat
  addr : Nat
  tag : Nat
  off : Nat
  missing : Nat
  deriving DecidableEq, Repr

/-- A piece of a host extent: function, window, host address, offset in the extent and length (R419). -/
structure HostPiece where
  fn : Nat
  window : Nat
  addr : Nat
  off : Nat
  len : Nat
  deriving DecidableEq, Repr

/-- A read of host memory in progress: requests outstanding, the bytes, the ranges that came back with EP = 1, and the pieces that
wait for a free request of their endpoint (R410). -/
structure DmaJob where
  owner : DmaOwner
  tenant : Nat
  parts : List DmaPart
  bytes : List Byte
  bad : List (Nat × Nat) := []
  queued : List HostPiece := []
  deriving DecidableEq, Repr

/-! ### The tier engine (R214 to R228) -/

/-- A schedule-list entry (R218): its ring index and its bytes; the stitch clock when its KNOT trigger began to wait. -/
structure TierEntry where
  index : Nat
  bytes : List Byte
  since : Option Nat := none
  deriving DecidableEq, Repr

/-- What an entry in flight waits for (R225): its object RESIDENT, or HOME, or HOME and then to proceed from HOME; the
headers of a PLACE; an update group that holds the object (R282). -/
inductive TierWait where
  | resident | home | again | headers | held
  deriving DecidableEq, Repr

/-- An entry in flight; `tookPin` says that a non-owner PROMOTE took its tenant's pin (R226). -/
structure TierRun where
  entry : TierEntry
  uid : Nat
  wait : TierWait
  tookPin : Bool := false
  deriving DecidableEq, Repr

/-- A tier queue: entries fetched and not started, entries in flight, both oldest first, and the ring index after the last
entry fetched (R217). -/
structure TierQueue where
  staged : List TierEntry := []
  flight : List TierRun := []
  fetch : Nat := 0
  deriving DecidableEq, Repr

/-- What a move does (R225): a promotion, a write-back, the headers of a PLACE. -/
inductive MoveKind where
  | promote | writeBack | place
  deriving DecidableEq, Repr

/-- A move in progress: object, kind, read class, its place in the order of starts, which also names it (R220), the next swatch,
the swatches on the host links with the translation that each began with (R418), the function, window and host address of its last
host write (R419), and the entry that started it (queue, uid), none for a deferred eviction or a unit's request. -/
structure TierMove where
  object : Nat
  kind : MoveKind
  cls : Nat
  order : Nat
  next : Nat := 0
  outside : List (Nat × List (Nat × Nat × Nat × Nat)) := []
  hostTail : Option (Nat × Nat × Nat) := none
  entry : Option (Nat × Nat) := none
  deriving DecidableEq, Repr

/-- The tier engine beside its registers; `discards` holds the objects whose pending eviction a DISCARD asked for (R224),
`classes` the read class that the entry of a pending eviction gave (R220), `wants` those whose promotion an update unit asked for while they were EVICTING (R282). -/
structure TierState where
  queues : Sparse TierQueue := []
  moves : List TierMove := []
  discards : NatSet := []
  classes : Sparse Nat := []
  wants : NatSet := []
  nextUid : Nat := 0
  deriving DecidableEq, Repr

/-! ### Update units and the gate (R262 to R306) -/

/-- A parameter group beside its registers: the non-finite indication and the count of addends rounded to zero of the current
step (R246), what the scan latched (R291), whether it takes part in the step (R300), the fields sampled at APPLY start
(R267), the decision (1 APPLY, 2 SKIP), γ, the scalars of R274, the tiles taken, whether g comes from the pending area, the
stitch clock when WAITING_STATE began (R283), the sums U and V of R303, and the ranges checked at creation: bit 0 master, 1 M, 2
V, 3 BF16 copies, 4 FP8 copies (R267); and whether it was deleted in the step and leaves at its end (R300). -/
structure GroupRun where
  nonfinite : Bool := false
  zeroAdds : Nat := 0
  latchedZero : Nat := 0
  allZero : Bool := false
  member : Bool := false
  words : List Word := []
  decision : Nat := 0
  gamma : W32 := 0
  eta : W32 := 0
  d : W32 := 0
  p1 : W32 := 0
  p2 : W32 := 0
  c1 : W32 := 0
  c2 : W32 := 0
  k1 : W32 := 0
  k2 : W32 := 0
  next : Nat := 0
  pending : Bool := false
  holdSince : Option Nat := none
  u : W32 := 0
  v : W32 := 0
  checked : Nat := 0
  leaving : Bool := false
  deriving DecidableEq, Repr

/-- A LOGGED ledger entry (R278): group, step, tile and rule, the old masters and state, g, and whether g came from the pending
area, so that step 3 clears nothing (R279). -/
structure LedgerEntry where
  group : Nat
  step : Nat
  tile : Nat
  rule : Nat
  w : List W32
  m : List W32
  v : List W32
  g : List W32
  pending : Bool := false
  deriving DecidableEq, Repr

/-- A gate vector (R292). -/
structure GateVector where
  sumSq : Nat := 0
  nonfinite : Nat := 0
  overflow : Nat := 0
  strict : Nat := 0
  skew : Nat := 0
  mismatch : Nat := 0
  step : Nat := 0
  deriving DecidableEq, Repr

/-- A contribution received on the gate channel (R293, R362): its collective sequence, its device and its vector; one that a
refusal has replaced is not compared. -/
structure GatePart where
  seq : Nat
  device : Nat
  vec : GateVector
  replaced : Bool := false
  deriving DecidableEq, Repr

/-- A step machine beside its registers: the stitch clock when its wait began and whether WAIT_LIMIT was raised (R299); the
E, GW, C, L and group of the scan (R300, R301); its own vector, and whether it waits for a CURRENT digest before it goes out
(R365); the contributions sent so far, and those received; the decision being applied, whether it was clipped, and the
additions still owed to STEP_KNOT (R297). -/
structure GateRun where
  since : Option Nat := none
  raised : Bool := false
  e : Int := 0
  gw : Int := 0
  clip : W32 := 0
  limit : W32 := 0
  group : Option Nat := none
  own : GateVector := {}
  unsent : Bool := false
  sent : Nat := 0
  parts : List GatePart := []
  decision : Nat := 0
  clipped : Bool := false
  due : Nat := 0
  deriving DecidableEq, Repr

/-- The update units and the step machines beside their registers. -/
structure UpdState where
  groups : Sparse GroupRun := []
  ledgers : Sparse (List LedgerEntry) := []
  gates : Sparse GateRun := []
  deriving DecidableEq, Repr

/-- A collective in progress (R359 to R363): its descriptor and its ring index, the tenant, its sequence number, group,
member index, member count and the next member; whether SOURCE has been read, whether the first step has been sent (R365), and
the bytes of SOURCE; the elements that are still to
arrive; the transactions that are unanswered; the sums of a DIRECT collective and the members that have contributed; the
stitch clock of the last contribution; whether the first transaction has still to go; the host function, window and address that the last write to DEST went to, whether
the read that makes it visible is out, and the translation of DEST (R418). -/
structure CollRun where
  desc : List Byte
  index : Nat
  tenant : Nat
  seq : Nat
  group : Nat
  me : Nat
  members : Nat
  next : Nat
  ready : Bool := false
  begun : Bool := false
  src : List Byte := []
  due : Nat := 0
  outstanding : Nat := 0
  sums : List Byte := []
  from_ : List Nat := []
  last : Nat := 0
  first : Bool := true
  hostTail : Option (Nat × Nat × Nat) := none
  flushing : Bool := false
  map : List (Nat × Nat × Nat × Nat) := []
  deriving DecidableEq, Repr

/-- A collective engine beside its registers: the descriptors fetched, the ring index after the last one fetched, and the
collective it runs (R359). -/
structure CollEngine where
  staged : List TierEntry := []
  fetch : Nat := 0
  run : Option CollRun := none
  deriving DecidableEq, Repr

/-- The collective engines: contributions and aborts that came before their collective started (R352), and the sequence number
of each tenant's next collective. -/
structure CollState where
  engines : Sparse CollEngine := []
  stored : List Txn := []
  /-- Tenants and sequence numbers of collectives that a mismatch ended before they started here (R363). -/
  refused : List (Nat × Nat) := []
  seqs : Sparse Nat := []
  deriving DecidableEq, Repr

/-- What the device sends over MCTP, by its contents (R442, R443, R460; notes/assumptions/42). -/
inductive Message where
  | endpointId (eid : Nat)
  | version
  | capabilities
  | algorithms
  | digests (slot0 : List Byte)
  | certificate (part : List Byte)
  | challengeAuth (signature : List Byte)
  /-- Measurement blocks by index, and the signature. -/
  | measurements (blocks : List (Nat × List Byte)) (signature : List Byte)
  | spdmError
  | accepted
  | refused
  | requestFirmwareData (offset length : Nat)
  | transferComplete
  /-- VerifyComplete with 0 or the code of R435. -/
  | verifyComplete (code : Nat)
  | applyComplete (code : Nat)
  | updateStatus (state err : Nat)
  | sensor (value : Int)
  /-- A record of a ribbon as an OEM event of class 0xF0. -/
  | platformEvent (record : List Byte)
  /-- The answer of PollForPlatformEventMessage: a record, or none. -/
  | polled (record : Option (List Byte))
  deriving DecidableEq, Repr

/-- What the block shows on its interfaces. Each command starts with the list empty, so it holds what the latest command
sent (notes/assumptions/3). -/
inductive Out where
  /-- A memory write on the endpoint of a function (R419); `poisoned` is EP. -/
  | hostWrite (fn addr : Nat) (bytes : List Byte) (poisoned : Bool)
  /-- A memory read request on the endpoint of a function (R419). -/
  | hostRead (fn addr len tag : Nat)
  /-- An MSI-X message (R423). -/
  | msix (fn vector : Nat)
  /-- A completion that answers a host read (R417); `poisoned` is EP. -/
  | completion (fn : Nat) (bytes : List Byte) (poisoned : Bool)
  /-- An Unsupported Request completion (R410, R417). -/
  | unsupported (fn : Nat)
  /-- The level of ALERT# changes (R461). -/
  | alert (asserted : Bool)
  /-- An I3C in-band interrupt (R482). -/
  | inBandInterrupt
  /-- PWRGD (R395, R481). -/
  | powerGood (asserted : Bool)
  /-- A message on an MCTP binding. -/
  | mctp (binding : Nat) (m : Message)
  /-- What the I3C target returns (R482). -/
  | i3c (bytes : List Byte)
  /-- The SMBus address in answer to the Alert Response Address (R461). -/
  | smbusAlert (address : Nat)
  /-- What the debug port shifts out (R484, R444). -/
  | debugPort (value : Nat)
  /-- Flits sent on a Bride port (R317). -/
  | flits (port : Nat) (fs : List Flit)
  /-- THERMTRIP# is asserted (R405). -/
  | thermtrip
  /-- A transaction stored in Tambour's mailbox, or delivered to it by a DIRECTED list (R340, R352). -/
  | toTambour (t : Txn)
  /-- A pulse on TICK_OUT, 24 ns wide or 8 ns (R64). -/
  | tickOut (wide : Bool)
  deriving DecidableEq, Repr

/-- The state of the block. -/
structure State where
  /-- The commands that wait, first in, first out. -/
  pending : List Instr
  /-- What the latest command sent. -/
  out : List Out
  /-- The counter that the free values are taken with: the model's own field (notes/assumptions/1). -/
  free : Nat
  /-- Every register of BAR0 by offset (RegMap); unlisted registers hold their reset value. -/
  regs : Sparse Word
  /-- The PHASE bit of each ring, by the offset of its control register; 1 where unlisted (R421). -/
  phases : Sparse Nat
  /-- Records of the occurrences that the command in progress has reported; empty between commands (R456). -/
  occs : List EventRec
  folds : List FoldEntry
  floods : List Flood
  intrs : List Intr
  /-- Tambour's read position in the CRITICAL and FAULT ribbons (R460). -/
  mctpPos : List Nat
  /-- Configuration space by function; reset values where unlisted. -/
  fnCfg : Sparse FnCfg
  notifies : List Notify
  flrs : List FlrState
  /-- The write latch of each requester (R467): requester number, register offset, low half. -/
  writeLatch : List (Nat × Nat × W32)
  /-- The read latch of each requester (R467): requester number, register offset, whole register. -/
  readLatch : List (Nat × Nat × Word)
  mem : MemState
  bond : BondState
  /-- Remote knot updates accepted and not yet applied, oldest first (R195). -/
  remoteQ : List RemoteUpdate
  net : NetState
  /-- Reads of host memory in progress, and the tag of the next request. -/
  dma : List DmaJob
  dmaTag : Nat
  core : CoreState
  tier : TierState
  upd : UpdState
  coll : CollState
  tick : TickState
  therm : ThermalState
  boot : BootState
  side : SideState
  fw : FwState
  /-- Stitches as R60 counts them for limits: boundaries fired and the stitches of holds. -/
  stitchClock : Nat
  deriving DecidableEq, Repr

/-- The block right after reset: every register at its reset value (`resetValue` in RegMap, with the values that the spec
leaves open in notes/assumptions/6), every memory empty, nothing queued. -/
def State.reset : State :=
  { pending := [], out := [], free := 0, regs := [], phases := [], occs := [], folds := [], floods := [], intrs := [],
    mctpPos := [0, 0], fnCfg := [], notifies := [], flrs := [], writeLatch := [], readLatch := [], mem := {}, bond := {},
    remoteQ := [], net := {}, dma := [], dmaTag := 0, core := {}, tier := {}, upd := {}, coll := {}, tick := {}, therm := {}, boot := {}, side := {}, fw := {},
    stitchClock := 0 }

end Sys2Proof.Machine
end

