-- ==== Sys2Proof/Machine/Ops.lean ====
section
/-! DEFINITION. The named operations over the register file, the outputs and the free values, which every meaning is
written with; ownership of cores, knots and functions; absence of units; device identity. -/

namespace Sys2Proof.Machine

/-! ### Fields of a 64-bit register -/

/-- The value of a field. -/
def Fld.read (f : Fld) (w : Word) : Nat := w.toNat / 2 ^ f.lo % 2 ^ f.width

/-- The bits a field occupies. -/
def Fld.mask (f : Fld) : Word := BitVec.ofNat 64 ((2 ^ f.width - 1) * 2 ^ f.lo)

/-- A register with one field replaced; the value is cut to the field's width. -/
def Fld.write (f : Fld) (w : Word) (v : Nat) : Word :=
  (w &&& ~~~f.mask) ||| BitVec.ofNat 64 (v % 2 ^ f.width * 2 ^ f.lo)

/-! ### The register file -/

/-- The register at a BAR0 offset. -/
def State.rd (s : State) (off : Nat) : Word := Sparse.get resetValue s.regs off

/-- Writes the whole register at a BAR0 offset. -/
def State.wr (s : State) (off : Nat) (v : Word) : State := { s with regs := Sparse.set resetValue s.regs off v }

/-- A field of a register. -/
def State.fld (s : State) (off : Nat) (f : Fld) : Nat := f.read (s.rd off)

/-- Writes a field of a register. -/
def State.setFld (s : State) (off : Nat) (f : Fld) (v : Nat) : State := s.wr off (f.write (s.rd off) v)

/-- Whether a one-bit field is 1. -/
def State.flag (s : State) (off : Nat) (f : Fld) : Bool := s.fld off f == 1

/-- Counts one in a SAT field, which stops at 0xFFFF_FFFF (R19). All SAT counters stand in bits [31:0]. -/
def State.count (s : State) (off : Nat) : State :=
  let c := s.fld off ⟨0, 32⟩
  if c = 0xFFFFFFFF then s else s.setFld off ⟨0, 32⟩ (c + 1)

/-- Adds to a SAT field, stopping at 0xFFFF_FFFF. -/
def State.countN (s : State) (off n : Nat) : State := s.setFld off ⟨0, 32⟩ (min 0xFFFFFFFF (s.fld off ⟨0, 32⟩ + n))

/-- Adds to a 64-bit counter that wraps at 2^64. -/
def State.addWrap (s : State) (off n : Nat) : State := s.wr off (s.rd off + BitVec.ofNat 64 n)

/-- Counts one in each SAT counter of a list of offsets. -/
def State.countAll (s : State) : List Nat → State
  | [] => s
  | off :: rest => State.countAll (s.count off) rest

/-- Sets one bit of a register. -/
def State.setBit (s : State) (off bit : Nat) : State := s.wr off (s.rd off ||| BitVec.ofNat 64 (2 ^ bit))

/-- One bit of a register. -/
def State.bit (s : State) (off i : Nat) : Bool := (s.rd off).toNat / 2 ^ i % 2 == 1

/-- The first key of the staging registers among the bytes of the byte-coded arrays: below it a key is a BAR0 byte offset. -/
def stagingBase : Nat := 2 ^ 27

/-- The key of byte 0 of the staging register of engine e of core n (R72, R369). -/
def stagingKey (n e : Nat) : Nat := stagingBase + 16 * (4 * n + e)

/-- The latent errors in n bytes of the byte-coded arrays from key lo on (R371). -/
def State.errorsIn (s : State) (lo n : Nat) : List (Nat × Nat) :=
  s.mem.arrayUpsets.filter (fun e => decide (lo ≤ e.1) && decide (e.1 < lo + n))

/-- Bytes of a byte-coded array that are written whole hold no error and no poison any more (R371, R372). -/
def State.healSpan (s : State) (lo n : Nat) : State :=
  { s with mem := { s.mem with
      arrayUpsets := s.mem.arrayUpsets.filter (fun e => !(decide (lo ≤ e.1) && decide (e.1 < lo + n))) } }

/-- Writes a field of a register in a byte-coded array; the field fills whole bytes, which are replaced (R371). -/
def State.setArr (s : State) (off : Nat) (f : Fld) (v : Nat) : State :=
  (s.setFld off f v).healSpan (off + f.lo / 8) ((f.lo % 8 + f.width + 7) / 8)

/-- Returns the registers that satisfy a test to their reset values; bytes of the byte-coded arrays among them are written clean
(R371). -/
def State.resetRegs (s : State) (p : Nat → Bool) : State :=
  { s with regs := Sparse.drop p s.regs,
           mem := { s.mem with arrayUpsets := s.mem.arrayUpsets.filter (fun e => !(decide (e.1 < stagingBase) && p (e.1 / 8 * 8))) } }

/-! ### Outputs and free values -/

/-- Sends an output. -/
def State.emit (s : State) (o : Out) : State := { s with out := s.out ++ [o] }

/-- The outcome of every command. -/
abbrev Result := Host.Outcome State Fault Refusal

/-- A command begins: what the last command sent is forgotten (notes/assumptions/3). -/
def State.begin (s : State) : State := { s with out := [] }

/-- A fresh free value of w bits and the state whose counter has moved past it (notes/assumptions/1). -/
def State.freshNat (s : State) (w : Nat) : Nat × State :=
  (Config.freeValue s.free % 2 ^ w, { s with free := s.free + 1 })

/-- n fresh free bytes. -/
def State.freshBytes (s : State) (n : Nat) : List Byte × State :=
  (mapRange (fun i => BitVec.ofNat 8 (Config.freeValue i)) 1 n s.free, { s with free := s.free + n })

/-! ### Identity and absence of units (R4 to R6, R472) -/

/-- Whether the part is an NM-7160. -/
def State.is7160 (s : State) : Bool := s.flag Reg.DEVICE_IDENTITY Fl.DEVICE_IDENTITY_GRADE

/-- Cluster c is fused off or retired (R472). -/
def State.clusterAbsent (s : State) (c : Nat) : Bool :=
  s.bit Reg.DEVICE_FUSE_MAP c || s.bit Reg.DEVICE_RETIRE_UNITS c

/-- Core n is absent: retired, or its cluster is absent (R472). -/
def State.coreAbsent (s : State) (n : Nat) : Bool :=
  s.clusterAbsent (n / 16) || s.bit (Reg.DEVICE_RETIRE_CORES (n / 64)) (n % 64)

/-- Engine e of core n is absent (R472). -/
def State.engineAbsent (s : State) (n e : Nat) : Bool :=
  s.coreAbsent n || s.bit (Reg.DEVICE_RETIRE_ENGINES ((4 * n + e) / 64)) ((4 * n + e) % 64)

/-- Bride port p is absent (R472). -/
def State.portAbsent (s : State) (p : Nat) : Bool :=
  s.bit Reg.DEVICE_FUSE_MAP (8 + p) || s.bit Reg.DEVICE_RETIRE_UNITS (16 + p)

/-- Far stack s's controller is absent: retired, or the stack did not come up (R234, R472). -/
def State.stackAbsent (s : State) (k : Nat) : Bool :=
  s.bit Reg.DEVICE_RETIRE_UNITS (8 + k) || s.fld (Reg.FAR_STATUS k) Fl.FAR_STATUS_STATE == 3

/-- Update unit u is absent: retired, or the far unit of an absent stack (R234, R472). Units 0 to 7 belong to the stacks
and 8 to 39 to the tulle layers (R262). -/
def State.updateUnitAbsent (s : State) (u : Nat) : Bool :=
  s.bit Reg.DEVICE_RETIRE_UPDATE u || s.fld (Reg.UNIT_STATUS u) Fl.UNIT_STATUS_STATE == 3

/-- Tier queue q is retired (R472). -/
def State.tierQueueAbsent (s : State) (q : Nat) : Bool := s.bit Reg.DEVICE_RETIRE_QUEUES q

/-- Collective engine e is retired (R472). -/
def State.collectiveAbsent (s : State) (e : Nat) : Bool := s.bit Reg.DEVICE_RETIRE_QUEUES (32 + e)

/-! ### Ownership (R185, R209, R413, R414) -/

/-- The tenant a VALID/TENANT register names: TENANT in [4:0], VALID in [8]. -/
def State.ownerOf (s : State) (off : Nat) : Option Nat :=
  if s.bit off 8 then some (s.fld off ⟨0, 5⟩) else none

/-- The tenant that owns core n (R414). -/
def State.coreTenant (s : State) (n : Nat) : Option Nat := s.ownerOf (Reg.CORE_OWNER n)

/-- The tenant that owns knot k (R185). -/
def State.knotTenant (s : State) (k : Nat) : Option Nat := s.ownerOf (Reg.KNOT_OWNER (k / 16384) (k % 16384 / 256))

/-- A virtual function works only while its physical function has it enabled, as one of its NumVFs (R413, R410). -/
def State.fnEnabled (s : State) (f : Nat) : Bool :=
  let pf := Sparse.get (fun _ => ({} : FnCfg)) s.fnCfg (f / 16 * 16)
  f % 16 == 0 || (pf.vfEnable && decide (f % 16 ≤ pf.numVfs))

/-- The tenant that function f is bound to (R413). -/
def State.fnBound (s : State) (f : Nat) : Option Nat := s.ownerOf (Reg.FUNCTION_BINDING f)

/-- The tenant function f acts for (R413): bound and enabled. -/
def State.fnTenant (s : State) (f : Nat) : Option Nat := if s.fnEnabled f then s.fnBound f else none

/-- Function f is privileged (R424). -/
def State.fnPrivileged (s : State) (f : Nat) : Bool :=
  (s.fnTenant f).isSome && s.flag (Reg.FUNCTION_BINDING f) Fl.FUNCTION_BINDING_PRIVILEGED

/-- The lowest-numbered bound function of a tenant among functions f, f + 1, …, f + n − 1. -/
def State.primaryFrom (s : State) (t : Nat) : (n f : Nat) → Option Nat
  | 0, _ => none
  | n + 1, f => if s.fnBound f == some t then some f else State.primaryFrom s t n (f + 1)

/-- A tenant's primary function: its lowest-numbered bound function (R413). -/
def State.primaryFn (s : State) (t : Nat) : Option Nat := s.primaryFrom t 32 0

/-- A function-level reset of tenant t is running (R425). -/
def State.inReset (s : State) (t : Nat) : Bool := s.flrs.any (fun r => r.tenant == t)

/-- A core of tenant t may not be enabled yet: a function-level reset of t runs and has not reset the knots and vector engines
(R156, R186; notes/assumptions/110). -/
def State.enableHeld (s : State) (n : Nat) : Bool :=
  match s.coreTenant n with
  | some t => s.flrs.any (fun r => r.tenant == t && !r.knotsDone)
  | none => false

/-- The configuration space of a function. -/
def State.cfg (s : State) (f : Nat) : FnCfg := Sparse.get (fun _ => {}) s.fnCfg f

/-- Writes the configuration space of a function. -/
def State.setCfg (s : State) (f : Nat) (c : FnCfg) : State :=
  { s with fnCfg := Sparse.set (fun _ => {}) s.fnCfg f c }

/-- Whether function f may issue a request: bound and enabled (R413), in D0 with Bus Master Enable (R420), its endpoint's
link up, its tenant not in a function-level reset (R425) and no thermal trip (R462). -/
def State.canDma (s : State) (f : Nat) : Bool :=
  match s.fnTenant f with
  | none => false
  | some t =>
    !s.inReset t && !(s.cfg f).d3hot && (s.cfg f).busMaster
      && s.fld (Reg.ENDPOINT_STATUS (f / 16)) Fl.ENDPOINT_STATUS_LINK == 2
      && !s.flag Reg.THERMAL_TRIP Fl.THERMAL_TRIP_LATCHED

/-- STITCH_COUNT (R46). -/
def State.stitch (s : State) : Nat := (s.rd Reg.TICK_STITCH_COUNT).toNat

/-- UPTIME_NS (R445). -/
def State.uptime (s : State) : Nat := (s.rd Reg.SECURITY_UPTIME_NS).toNat

/-- The data plane's clocks run: no thermal trip has latched (R405). -/
def State.clocked (s : State) : Bool := !s.flag Reg.THERMAL_TRIP Fl.THERMAL_TRIP_LATCHED

/-- READY (R431). -/
def State.ready (s : State) : Bool := s.flag Reg.SECURITY_BOOT_STATUS Fl.SECURITY_BOOT_STATUS_READY

/-- The cores execute: they have been released (R40, R431) and no thermal trip has taken their clocks (R14, R405). -/
def State.coresRun (s : State) : Bool := s.clocked && s.ready

end Sys2Proof.Machine
end

