-- ==== Sys2Proof/Machine/EventOps.lean ====
section
/-! DEFINITION. Rings, interrupts and the event path: MSI-X with holdoff (R423), the PHASE rule of rings (R421), ALERT#
(R461), and one operation that reports an occurrence of a condition (R448 to R459). -/

namespace Sys2Proof.Machine

/-! ### The conditions of the master table (R451) -/

/-- The conditions of R451. -/
inductive Cond where
  | absentUnit | cancelled | aborted | drainTimeout
  | droppedStitch | tangle | frayedKnot | waitLimit
  | stepSkew | frozenWrite | stateNotResident | silentLayer | nonfiniteGradient | normLimit | longOverflow
  | quotaExceeded | evictionDeferred
  | rowDarned | rowRetired | uncorrectableNear | uncorrectableFar | checkMismatch | bondDegraded
  | linkShed | samplerMismatch
  | sensorSuspect | thermalWarning | thermalThrottle | thermalTrip
  | eventCoalesced | debugScope
  deriving DecidableEq, Repr

/-- The event code of a condition (R451). -/
def Cond.code : Cond → Nat
  | .absentUnit => 0x1001 | .cancelled => 0x1002 | .aborted => 0x1003 | .drainTimeout => 0x1004
  | .droppedStitch => 0x2005 | .tangle => 0x2006 | .frayedKnot => 0x2007 | .waitLimit => 0x2008
  | .stepSkew => 0x3009 | .frozenWrite => 0x300A | .stateNotResident => 0x300B | .silentLayer => 0x300C
  | .nonfiniteGradient => 0x300D | .normLimit => 0x300E | .longOverflow => 0x300F
  | .quotaExceeded => 0x4010 | .evictionDeferred => 0x4011
  | .rowDarned => 0x5012 | .rowRetired => 0x5013 | .uncorrectableNear => 0x5014 | .uncorrectableFar => 0x5015
  | .checkMismatch => 0x5016 | .bondDegraded => 0x5017
  | .linkShed => 0x6018 | .samplerMismatch => 0x6019
  | .sensorSuspect => 0x701A | .thermalWarning => 0x701B | .thermalThrottle => 0x701C | .thermalTrip => 0x701D
  | .eventCoalesced => 0x801E | .debugScope => 0x801F

/-- The condition number n: bits [7:0] of the code (R450). -/
def Cond.number (c : Cond) : Nat := c.code % 256

/-- The four ribbons (R463). -/
inductive Ribbon where
  | critical | fault | notice | trace
  deriving DecidableEq, Repr

/-- The number of a ribbon (R463). -/
def Ribbon.num : Ribbon → Nat
  | .critical => 0 | .fault => 1 | .notice => 2 | .trace => 3

/-- A SOURCE word: KIND, INDEX, SUB (R454). -/
def source (kind index sub : Nat) : Nat := kind % 256 + index % 65536 * 256 + sub % 256 * 16777216

/-! ### Rings -/

/-- The PHASE bit of a ring; 1 until its first wrap (R421). -/
def State.phase (s : State) (ring : Nat) : Nat := Sparse.get (fun _ => 1) s.phases ring

/-- Toggles the PHASE bit of a ring (R421). -/
def State.togglePhase (s : State) (ring : Nat) : State :=
  { s with phases := Sparse.set (fun _ => 1) s.phases ring (1 - s.phase ring) }

/-- A memory write on the endpoint of a function; none is made when the function may not issue one (R420). -/
def State.hostWrite (s : State) (f addr : Nat) (bytes : List Byte) : State :=
  if s.canDma f then s.emit (.hostWrite f addr bytes false) else s

/-- Sends an MSI-X message unless the function has MSI-X off (none) or masked, when its pending bit is set (R423). -/
def State.sendMsix (s : State) (f vector : Nat) : State :=
  let c := s.cfg f
  if !c.msixEnable || !s.canDma f then s
  else if c.msixMaskAll || !NatSet.has c.unmasked vector then
    s.setCfg f { c with pendingVectors := NatSet.add c.pendingVectors vector }
  else s.emit (.msix f vector)

/-- The holdoff record of a ring. -/
def findIntr (ring : Nat) : List Intr → Option Intr
  | [] => none
  | i :: rest => if i.ring = ring then some i else findIntr ring rest

/-- Interrupts for a record written to a ring: one message now, or one at the end of the running holdoff (R423). -/
def State.ringInterrupt (s : State) (ring f vector holdoffUs : Nat) : State :=
  let others := s.intrs.filter (fun i => i.ring != ring)
  match findIntr ring s.intrs with
  | some i =>
    if s.uptime < i.last + holdoffUs * 1000 then { s with intrs := others ++ [{ i with fn := f, held := true }] }
    else { (s.sendMsix f vector) with intrs := others ++ [⟨ring, f, s.uptime, false⟩] }
  | none => { (s.sendMsix f vector) with intrs := others ++ [⟨ring, f, s.uptime, false⟩] }

/-! ### Records -/

/-- The four words of a 32-byte record with the PHASE bit of the ring that holds it (R453). -/
def EventRec.words (r : EventRec) (phase : Nat) : List Nat :=
  let flags := r.ribbon % 4 + (if r.folded then 4 else 0) + (if r.floodFirst then 8 else 0)
    + (if r.floodLatest then 16 else 0) + (if r.tenant.isSome then 32 else 0) + phase % 2 * 128
  [ r.code % 65536 + flags * 65536 + (r.tenant.getD 0) % 32 * 16777216 + r.source % 2 ^ 32 * 2 ^ 32,
    r.uptime % 2 ^ 64,
    r.count % 2 ^ 32 + r.detail % 2 ^ 32 * 2 ^ 32,
    r.detail / 2 ^ 32 % 2 ^ 64 ]

/-- The 32 bytes of a record (R453). -/
def EventRec.bytes (r : EventRec) (phase : Nat) : List Byte := (r.words phase).flatMap (bytesLE 8)

/-- Writes the four words of ribbon entry i. -/
def State.putEntry (s : State) (rb i : Nat) : List Nat → Nat → State
  | [], _ => s
  | w :: rest, k =>
    State.putEntry ((s.wr (Reg.RIBBON_ENTRY rb i k) (BitVec.ofNat 64 w)).healSpan (Reg.RIBBON_ENTRY rb i k) 8) rb i rest (k + 1)

/-- Mirrors a record that has just been written at a ribbon pointer (R458). -/
def State.mirror (s : State) (rb ptr : Nat) (bytes : List Byte) : State :=
  let f := s.fld Reg.EVENT_CONTROL Fl.EVENT_CONTROL_DELIVERY_FUNCTION
  if s.flag Reg.EVENT_CONTROL Fl.EVENT_CONTROL_DELIVER_EN && s.fnPrivileged f
      && s.flag (Reg.RIBBON_CONTROL rb) Fl.RIBBON_CONTROL_EN then
    let s := s.hostWrite f (s.fld (Reg.RIBBON_HOST_BASE rb) Fl.RIBBON_HOST_BASE_ADDR * 4096 + ptr % 4096 * 32) bytes
    if s.flag (Reg.RIBBON_CONTROL rb) Fl.RIBBON_CONTROL_INT_EN then
      s.ringInterrupt (Reg.RIBBON_CONTROL rb) f (s.fld (Reg.RIBBON_CONTROL rb) Fl.RIBBON_CONTROL_VECTOR)
        (s.fld (Reg.RIBBON_CONTROL rb) Fl.RIBBON_CONTROL_HOLDOFF_US)
    else s
  else s

/-- Entries of a ribbon not yet acknowledged: u of R457. -/
def State.unacked (s : State) (rb : Nat) : Nat :=
  (s.fld (Reg.RIBBON_POINTERS rb) Fl.RIBBON_POINTERS_WRITE_PTR + 65536
    - s.fld (Reg.RIBBON_POINTERS rb) Fl.RIBBON_POINTERS_ACK_PTR) % 65536

/-- Keeps STATUS.UNACKED equal to u. -/
def State.syncUnacked (s : State) (rb : Nat) : State :=
  s.setFld (Reg.RIBBON_STATUS rb) Fl.RIBBON_STATUS_UNACKED (s.unacked rb)

/-- Writes a record at pointer ptr of a ribbon; the entry's PHASE is 1 on the first pass of the ring and toggles at each
wrap (R421, R453). -/
def State.putRecord (s : State) (rb ptr : Nat) (x : EventRec) : State :=
  let ph := 1 - ptr / 4096 % 2
  (s.putEntry rb (ptr % 4096) (x.words ph) 0).mirror rb ptr (x.bytes ph)

/-- A record of CRITICAL or FAULT that is overwritten before Tambour has sent it is skipped (R460). -/
def State.skipOverwritten (s : State) (rb : Nat) : State :=
  let pos := s.mctpPos.getD rb 0
  if rb < 2 ∧ 4096 < (s.fld (Reg.RIBBON_POINTERS rb) Fl.RIBBON_POINTERS_WRITE_PTR + 65536 - pos) % 65536 then
    { (s.count Reg.EVENT_MCTP_SKIPPED) with mctpPos := s.mctpPos.set rb ((pos + 1) % 65536) }
  else s

/-- Writes a record at WRITE_PTR and advances WRITE_PTR. -/
def State.appendRecord (s : State) (rb : Nat) (x : EventRec) : State :=
  let wp := s.fld (Reg.RIBBON_POINTERS rb) Fl.RIBBON_POINTERS_WRITE_PTR
  (((s.putRecord rb wp x).setFld (Reg.RIBBON_POINTERS rb) Fl.RIBBON_POINTERS_WRITE_PTR (wp + 1)).syncUnacked rb).skipOverwritten rb

/-- The limit L of a ribbon for a record (R457). -/
def ribbonLimit (rb code : Nat) : Nat :=
  if rb = 0 then (if code = Cond.thermalTrip.code ∨ code = Cond.eventCoalesced.code then 4094 else 4078) else 4094

/-- The flood of a ribbon. -/
def findFlood (rb : Nat) : List Flood → Option Flood
  | [] => none
  | f :: rest => if f.ribbon = rb then some f else findFlood rb rest

/-- Replaces the flood of a ribbon. -/
def State.setFlood (s : State) (rb : Nat) (f : Option Flood) : State :=
  { s with floods := s.floods.filter (fun g => g.ribbon != rb) ++ f.toList }

/-- record(x, r) of R457. -/
def State.record (s : State) (rb : Nat) (x : EventRec) : State :=
  match findFlood rb s.floods with
  | none =>
    if s.unacked rb < ribbonLimit rb x.code then s.appendRecord rb x
    else
      ((s.appendRecord rb { x with floodFirst := true }).setFlood rb (some ⟨rb, none, false, 0, x.uptime⟩)).setFld
        (Reg.RIBBON_STATUS rb) Fl.RIBBON_STATUS_FLOOD 1
  | some fl =>
    if rb = 0 ∧ x.code = Cond.thermalTrip.code ∧ fl.final = false then
      (s.appendRecord rb x).setFlood rb (some { fl with final := true })
    else if fl.final then
      (s.count (Reg.RIBBON_DROPPED rb)).setFlood rb (some { fl with dropped := fl.dropped + 1 })
    else
      match fl.latest with
      | none =>
        let wp := s.fld (Reg.RIBBON_POINTERS rb) Fl.RIBBON_POINTERS_WRITE_PTR
        (s.appendRecord rb { x with floodLatest := true }).setFlood rb (some { fl with latest := some wp })
      | some p =>
        ((s.putRecord rb p { x with floodLatest := true }).count (Reg.RIBBON_DROPPED rb)).setFlood rb
          (some { fl with dropped := fl.dropped + 1 })

/-- Copies a FAULT or NOTICE record to the ring of its tenant (R459). -/
def State.copyToTenant (s : State) (x : EventRec) : State :=
  match x.tenant with
  | none => s
  | some u =>
    let t := u % 32
    if x.ribbon = 1 ∨ x.ribbon = 2 then
      let ring := Reg.EVTENANT_RING_CONTROL t
      let size := 2 ^ s.fld ring Fl.EVTENANT_RING_CONTROL_SIZE
      let wp := s.fld (Reg.EVTENANT_RING_POINTERS t) Fl.EVTENANT_RING_POINTERS_WRITE_PTR
      let rp := s.fld (Reg.EVTENANT_RING_POINTERS t) Fl.EVTENANT_RING_POINTERS_READ_PTR
      match s.primaryFn t with
      | none => s.count (Reg.EVTENANT_RING_DROPPED t)
      | some f =>
        if !s.flag ring Fl.EVTENANT_RING_CONTROL_EN || (wp + 1) % size == rp % size then
          s.count (Reg.EVTENANT_RING_DROPPED t)
        else
          let s1 := s.hostWrite f
            (s.fld (Reg.EVTENANT_RING_BASE t) Fl.EVTENANT_RING_BASE_ADDR * 4096 + wp % size * 32)
            (x.bytes (s.phase ring))
          let s2 := s1.setFld (Reg.EVTENANT_RING_POINTERS t) Fl.EVTENANT_RING_POINTERS_WRITE_PTR ((wp + 1) % size)
          let s3 := if (wp + 1) % size = 0 then s2.togglePhase ring else s2
          if x.ribbon = 1 ∧ s3.flag ring Fl.EVTENANT_RING_CONTROL_INT_EN = true then
            s3.ringInterrupt ring f (s3.fld ring Fl.EVTENANT_RING_CONTROL_VECTOR)
              (s3.fld ring Fl.EVTENANT_RING_CONTROL_HOLDOFF_US)
          else s3
    else s

/-- Writes a record after coalescing: to its ribbon and to its tenant's ring (R456, R459). -/
def State.deliver (s : State) (x : EventRec) : State := (s.record (x.ribbon % 4) x).copyToTenant x

/-- The fold entry of a ribbon with the key of a record (R456). -/
def findFold (x : EventRec) : List FoldEntry → Option FoldEntry
  | [] => none
  | e :: rest =>
    if e.ribbon = x.ribbon ∧ e.code = x.code ∧ e.source = x.source ∧ e.tenant = x.tenant then some e else findFold x rest

/-- Replaces a fold entry, found by its key, in place. -/
def replaceFold (e' : FoldEntry) : List FoldEntry → List FoldEntry
  | [] => []
  | e :: rest =>
    if e.ribbon = e'.ribbon ∧ e.code = e'.code ∧ e.source = e'.source ∧ e.tenant = e'.tenant then e' :: rest
    else e :: replaceFold e' rest

/-- Closes the fold entries of a list whose window has ended, each with its FOLDED record (R456). -/
def State.closeFolds (s : State) : List FoldEntry → State
  | [] => s
  | e :: rest =>
    if e.opened + s.fld Reg.EVENT_CONTROL Fl.EVENT_CONTROL_COALESCE_WINDOW_US * 1000 ≤ s.uptime then
      let s1 := { s with folds := s.folds.filter (fun x => x != e) }
      State.closeFolds (if 0 < e.count then s1.deliver { e.latest with folded := true, count := e.count } else s1) rest
    else State.closeFolds s rest

/-- Coalescing of an occurrence routed to FAULT or NOTICE; CRITICAL and TRACE records are written directly (R456). A window
that has ended closes first (R462). -/
def State.coalesce (s : State) (x : EventRec) : State :=
  if x.ribbon = 0 ∨ x.ribbon = 3 ∨ x.code = Cond.eventCoalesced.code then s.deliver x
  else
    let s := s.closeFolds s.folds
    match findFold x s.folds with
    | some e =>
      { (s.count (Reg.RIBBON_FOLDED (x.ribbon % 4))) with
        folds := replaceFold { e with count := e.count + 1, latest := x } s.folds }
    | none =>
      let s1 := s.deliver x
      if 0 < s.fld Reg.EVENT_CONTROL Fl.EVENT_CONTROL_COALESCE_WINDOW_US
          ∧ (s.folds.filter (fun e => e.ribbon == x.ribbon)).length < 16 then
        { s1 with folds := s1.folds ++ [⟨x.ribbon, x.code, x.source, x.tenant, 0, x, s.uptime⟩] }
      else s1

/-- Whether a cause of ALERT# holds (R461). -/
def State.alertCause (s : State) : Bool :=
  s.flag Reg.EVENT_ALERT Fl.EVENT_ALERT_CRITICAL
    || (s.rd Reg.EVENT_STICKY &&& s.rd Reg.EVENT_ALERT_MASK) != 0
    || s.flag Reg.THERMAL_TRIP Fl.THERMAL_TRIP_LATCHED
    || s.flag Reg.INTEGRITY_SELFTEST Fl.INTEGRITY_SELFTEST_FATAL

/-- Drives ALERT# from its causes (R461). -/
def State.driveAlert (s : State) : State :=
  let was := s.flag Reg.EVENT_ALERT Fl.EVENT_ALERT_ASSERTED
  let now := s.alertCause
  let latched := s.flag Reg.THERMAL_TRIP Fl.THERMAL_TRIP_LATCHED
    || s.flag Reg.INTEGRITY_SELFTEST Fl.INTEGRITY_SELFTEST_FATAL
  let s1 := (s.setFld Reg.EVENT_ALERT Fl.EVENT_ALERT_ASSERTED now.toNat).setFld Reg.EVENT_ALERT
    Fl.EVENT_ALERT_LATCHED latched.toNat
  if was = now then s1 else if now then (s1.emit (.alert true)).emit .inBandInterrupt else s1.emit (.alert false)

/-- One occurrence of a condition (R448): the condition, the ribbon the master table gives, its source (R454), the tenant it
concerns, its DETAIL (R455) and the unit counters it increments. -/
structure Occurrence where
  cond : Cond
  ribbon : Ribbon
  source : Nat
  tenant : Option Nat := none
  detail : Nat := 0
  counters : List Nat := []
  deriving DecidableEq, Repr

/-- The record of an occurrence for a ribbon. -/
def State.recordOf (s : State) (o : Occurrence) (rb : Nat) : EventRec :=
  { code := o.cond.code, ribbon := rb, tenant := o.tenant, source := o.source, uptime := s.uptime, detail := o.detail }

/-- Counts an occurrence in the authoritative record: unit counters, condition counter, sticky bits (R448). -/
def State.tally (s : State) (o : Occurrence) : State :=
  let n := o.cond.number
  let s1 := (s.countAll o.counters).count (Reg.EVENT_CONDITION n)
  let s2 := s1.setBit Reg.EVENT_STICKY n
  let s3 := match o.tenant with
    | some t => s2.setBit (Reg.EVTENANT_STICKY (t % 32)) n
    | none => s2
  if o.ribbon = .critical then s3.setFld Reg.EVENT_ALERT Fl.EVENT_ALERT_CRITICAL 1 else s3

/-- Reports an occurrence (R448): counters and sticky bits, ALERT# (R461), and its records for the end of the command, in
TRACE too when its mask bit is set (R456). -/
def State.raise (s : State) (o : Occurrence) : State :=
  let s1 := s.tally o
  let trace := if s1.bit Reg.EVENT_TRACE_MASK o.cond.number then [s1.recordOf o 3] else []
  ({ s1 with occs := s1.occs ++ (s1.recordOf o o.ribbon.num :: trace) }).driveAlert

/-- Reports a list of occurrences in order. -/
def State.raiseAll (s : State) : List Occurrence → State
  | [] => s
  | o :: rest => State.raiseAll (s.raise o) rest

/-- Ends the flood of a ribbon when u has fallen to L − 64, and writes its EVENT_COALESCED record (R457). The records
dropped are already in DROPPED. -/
def State.endFlood (s : State) (rb : Nat) : State :=
  match findFlood rb s.floods with
  | none => s
  | some fl =>
    let l := if rb = 0 then 4078 else 4094
    if s.unacked rb ≤ l - 64 then
      let s1 := (s.setFlood rb none).setFld (Reg.RIBBON_STATUS rb) Fl.RIBBON_STATUS_FLOOD 0
      let o : Occurrence := { cond := .eventCoalesced, ribbon := .trace, source := source 13 rb 0 }
      let x : EventRec := { code := Cond.eventCoalesced.code, ribbon := rb, tenant := none, source := source 13 rb 0,
                            uptime := s.uptime, count := fl.dropped, detail := fl.first }
      let s2 := (if rb = 0 then (s1.tally o).setFld Reg.EVENT_ALERT Fl.EVENT_ALERT_CRITICAL 1 else s1.tally o).deliver x
      (if rb ≠ 3 ∧ s2.bit Reg.EVENT_TRACE_MASK o.cond.number then s2.deliver { x with ribbon := 3 } else s2).driveAlert
    else s

/-- The order of occurrences of one cycle: ascending code, then SOURCE, then DETAIL (R456). -/
def EventRec.before (x y : EventRec) : Bool :=
  if x.code ≠ y.code then decide (x.code < y.code)
  else if x.source ≠ y.source then decide (x.source < y.source) else decide (x.detail < y.detail)

/-- Inserts a record after those it does not stand before. -/
def insertRec (x : EventRec) : List EventRec → List EventRec
  | [] => [x]
  | y :: rest => if x.before y then x :: y :: rest else y :: insertRec x rest

/-- Writes records in order. -/
def State.writeRecords (s : State) : List EventRec → State
  | [] => s
  | x :: rest => State.writeRecords (s.coalesce x) rest

/-- The records of one command, whose occurrences share a cycle, go to the ribbons in the order of R456
(notes/assumptions/39). -/
def State.flushRecords (s : State) : State :=
  ({ s with occs := [] }).writeRecords (s.occs.foldl (fun l x => insertRec x l) [])

/-- A command ends: its records are written, and ALERT# follows its causes (R461). -/
def finish (s : State) : Result := .next s.flushRecords.driveAlert

end Sys2Proof.Machine
end

