-- ==== Sys2Proof/Machine/MemOps.lean ====
section
/-! DEFINITION. Memory: the device address map (R206), rights (R208, R209, R418), bytes and poison, errors found on use
(R252, R376), targeted self-tests (R253, R377 to R379), and the write-combining buffers and unwritten maps (R238 to R249). -/

namespace Sys2Proof.Machine

/-! ### The device address map -/

/-- What a device address names (R206). -/
inductive Place where
  | far (stack : Nat)
  | near
  | hoop (core : Nat)
  | host (fn window offset : Nat)
  | registers
  | hole
  deriving DecidableEq, Repr

/-- The base of near memory (R27). -/
def nearBase : Nat := 0x040000000000
/-- The base of the hoop windows (R206). -/
def hoopBase : Nat := 0x050000000000
/-- The base of the host windows (R206). -/
def hostBase : Nat := 0x080000000000
/-- The base of the register space (R206). -/
def registerBase : Nat := 0x0F0000000000

/-- The device address of an offset in core n's hoop memory (R206). -/
def hoopAddr (n off : Nat) : Nat := hoopBase + n * 0x400000 + off

/-- The place of a device address (R206, R418). -/
def placeOf (a : Nat) : Place :=
  if a < 0x010000000000 then .far (a / 0x002000000000)
  else if nearBase ≤ a ∧ a < 0x040100000000 then .near
  else if hoopBase ≤ a ∧ a < 0x050020000000 then
    if (a - hoopBase) % 0x400000 < 0x300000 then .hoop ((a - hoopBase) / 0x400000) else .hole
  else if hostBase ≤ a ∧ a < 0x0C0000000000 then
    .host ((a - hostBase) / 0x002000000000) ((a - hostBase) % 0x002000000000 / 0x000200000000)
      ((a - hostBase) % 0x000200000000)
  else if registerBase ≤ a ∧ a < 0x0F0004000000 then .registers
  else .hole

/-- The bank, row and line coordinates of a far address within its stack (R235). -/
structure FarCoord where
  stack : Nat
  pc : Nat
  line : Nat
  bank : Nat
  row : Nat
  deriving DecidableEq, Repr

/-- Decodes a far address (R235). -/
def farCoord (a : Nat) : FarCoord :=
  let x := a % 0x002000000000
  { stack := a / 0x002000000000, pc := bitsOf x 6 6, line := bitsOf x 12 4,
    bank := bitsOf x 16 6 ^^^ bitsOf x 22 6, row := bitsOf x 22 15 }

/-- Entry r of stack k's RETIRE list names the bank region of a far address. -/
def State.retireNames (s : State) (c : FarCoord) (r : Nat) : Bool :=
  let off := Reg.FAR_RETIRE c.stack r
  s.flag off Fl.FAR_RETIRE_VALID && s.fld off Fl.FAR_RETIRE_BANK == c.bank && s.fld off Fl.FAR_RETIRE_REGION == c.row / 64

/-- Whether the pages of an address lie in a RETIRED (some 1) or a RETIRING (some 0) bank region (R256). Entries of the
RETIRE list are filled from 0 up, and RETIRED_PAGES is 1,024 for each. -/
def State.retirement (s : State) (a : Nat) : Option Nat :=
  let c := farCoord a
  let rs := (List.range (s.fld (Reg.FAR_RETIRED_PAGES c.stack) Fl.FAR_RETIRED_PAGES_PAGES / 1024)).filter (s.retireNames c)
  if rs.any (fun r => s.flag (Reg.FAR_RETIRE c.stack r) Fl.FAR_RETIRE_RETIRED) then some 1
  else if rs.isEmpty then none
  else some 0

/-- Whether a region register opens its region to tenant t (R209): OWNER [4:0], VALID [8], READERS [63:32]. -/
def regionOpen (w : Word) (t : Nat) (write : Bool) : Bool :=
  let v := w.toNat
  v / 256 % 2 == 1 && (v % 32 == t || (!write && v / 2 ^ (32 + t) % 2 == 1))

/-- The region register of a far or near address (R209). -/
def regionReg (a : Nat) : Nat :=
  if a < nearBase then Reg.TIER_REGION_FAR (a / 0x40000000) else Reg.TIER_REGION_NEAR ((a - nearBase) / 0x200000)

/-- Whether a host window maps an offset for tenant t (R418). -/
def State.windowOpen (s : State) (f w off t : Nat) (write : Bool) : Bool :=
  let c := Reg.FUNCTION_WINDOW_CONTROL f w
  s.fnBound f == some t && decide (off < (s.fld c Fl.FUNCTION_WINDOW_CONTROL_PAGES + 1) * 4096)
    && s.flag c (if write then Fl.FUNCTION_WINDOW_CONTROL_WRITE else Fl.FUNCTION_WINDOW_CONTROL_READ)

/-- Whether a byte lies in populated memory that tenant t may access (R208). -/
def State.mayAccess (s : State) (t a : Nat) (write : Bool) : Bool :=
  match placeOf a with
  | .far k =>
    !s.stackAbsent k && (!s.is7160 || decide (a % 0x002000000000 < 0x001800000000))
      && (match s.retirement a with | none => true | some 0 => !write | some _ => false)
      && regionOpen (s.rd (regionReg a)) t write
  | .near => regionOpen (s.rd (regionReg a)) t write
  | .hoop n => !s.coreAbsent n && s.coreTenant n == some t
  | .host f w off => s.windowOpen f w off t write
  | .registers => false
  | .hole => false

/-- Whether every byte of an extent is one tenant t may access. Rights change only at 4 KiB boundaries. -/
def State.extentOk (s : State) (t a len : Nat) (write : Bool) : Bool :=
  len == 0 || (List.range ((a % 4096 + len - 1) / 4096 + 1)).all
    (fun i => s.mayAccess t (if i = 0 then a else a / 4096 * 4096 + i * 4096) write)

/-! ### Bytes and poison -/

/-- The value an unlisted byte reads as: zero (the fill of R375 for the SRAMs, the unwritten map of R248 for far memory). -/
def emptyByte (_ : Nat) : Byte := 0

/-- The canonical form of memory: addresses strictly rising, and no entry equal to what an unlisted address reads as. -/
def Memory.wf (m : List Host.Cell) : Bool := Sparse.wf emptyByte m

/-- One byte of memory. -/
def State.byteAt (s : State) (a : Nat) : Byte := Sparse.get emptyByte s.mem.bytes a

/-- Writes one byte of memory. -/
def State.putByte (s : State) (a : Nat) (b : Byte) : State :=
  { s with mem := { s.mem with bytes := Sparse.set emptyByte s.mem.bytes a b } }

/-- `len` bytes of memory from an address. -/
def State.bytesAt (s : State) (a len : Nat) : List Byte := mapRange s.byteAt 1 len a

/-- Writes bytes of memory from an address up. -/
def State.putBytes (s : State) (a : Nat) : List Byte → State
  | [] => s
  | b :: rest => State.putBytes (s.putByte a b) (a + 1) rest

/-- Whether a 64-byte line holds poison. -/
def State.linePoisoned (s : State) (line : Nat) : Bool :=
  NatSet.has s.mem.poison (2 * line) || NatSet.has s.mem.poison (2 * line + 1)

/-- Marks or clears the poison of a 64-byte line. -/
def State.setPoison (s : State) (line : Nat) (p : Bool) : State :=
  let q := s.mem.poison
  let on := NatSet.add (NatSet.add q (2 * line)) (2 * line + 1)
  let off := NatSet.del (NatSet.del q (2 * line)) (2 * line + 1)
  { s with mem := { s.mem with poison := if p then on else off } }

/-! ### Targeted self-tests -/

/-- The spare-array number of the controller of a die-stack address (R393): panel, or 128 + core. -/
def sramUnit (a : Nat) : Nat :=
  match placeOf a with
  | .hoop n => 128 + n
  | _ => (a - nearBase) % 0x80000000 / 0x2000000 + 64 * ((a - nearBase) / 0x80000000)

/-- The row of a die-stack address in its panel or core: 1 KiB each (R369). -/
def sramRow (a : Nat) : Nat :=
  match placeOf a with
  | .hoop _ => (a - hoopBase) % 0x400000 / 1024
  | _ => (a - nearBase) % 0x2000000 / 1024

/-- Keeps a panel's TESTING and TESTS_QUEUED (R473). -/
def State.syncPanel (s : State) (unit : Nat) : State :=
  if unit < 128 then
    let n := (s.mem.tests.filter (fun t => t.unit == unit)).length
    (s.setFld (Reg.NEAR_PANEL_STATUS unit) Fl.NEAR_PANEL_STATUS_TESTING (min n 1)).setFld (Reg.NEAR_PANEL_STATUS unit)
      Fl.NEAR_PANEL_STATUS_TESTS_QUEUED (n - 1)
  else s

/-- The test that runs in a unit: the first of its tests (R377, R253). -/
def State.testRunning (s : State) (unit : Nat) : Option RowTest := s.mem.tests.find? (fun t => t.unit == unit)

/-- The test of a row runs, so that accesses to the row are served from the row buffer: corrected or marked poisoned, with no
count (R253, R377; notes/assumptions/107). -/
def State.rowServed (s : State) (x : RowTest) : Bool := s.testRunning x.unit == some x

/-- Starts or queues a targeted self-test: one running and four queued per panel, core and die (R379), one running and
eight queued per pseudo-channel (R253); a row under test or queued takes none, a full queue counts TEST_DROPPED. -/
def State.startTest (s : State) (x : RowTest) : State :=
  let mine := s.mem.tests.filter (fun t => t.unit == x.unit)
  if mine.any (fun t => t == x) then s
  else if x.unit < 1000 then
    if 5 ≤ mine.length then s.count Reg.INTEGRITY_TEST_DROPPED
    else ({ s with mem := { s.mem with tests := s.mem.tests ++ [x] } }).syncPanel x.unit
  else if 9 ≤ mine.length then s.count (Reg.FAR_TEST_DROPPED ((x.unit - 1000) / 64))
  else { s with mem := { s.mem with tests := s.mem.tests ++ [x] } }

/-! ### Errors found on use -/

/-- The location code of a die-stack address: 0 hoop, 1 near (R394). -/
def sramLocation (a : Nat) : Nat := match placeOf a with | .hoop _ => 0 | _ => 1

/-- The first key of the words of the write-combining buffers among the latent errors: word a / 8 of far memory (R238, R369). -/
def bufferBase : Nat := 2 ^ 46

/-- The first key of the words of firmware staging among the latent errors (R230, R369). -/
def stagedBase : Nat := 2 ^ 47

/-- The first key of the words of the vector tile registers among the latent errors (R156, R369). -/
def pathBase : Nat := 2 ^ 48

/-- How errors in a DEC-TED word are named and tested: location code and unit of LAST_ERROR, SOURCE, the address of records, and
the row to test, which a register file has not (R369, R376, R394). -/
structure WordInfo where
  location : Nat
  unit : Nat
  source : Nat
  address : Nat
  test : Option RowTest
  deriving DecidableEq, Repr

/-- The unit number `LAST_ERROR` and SOURCE name for a die-stack address: core, or panel with layer 2 + 64. -/
def sramUnitNumber (a : Nat) : Nat := match placeOf a with | .hoop n => n | _ => sramUnit a

/-- The SOURCE of a die-stack address. -/
def sramSource (a : Nat) : Nat := match placeOf a with | .hoop n => source 1 n 6 | _ => source 7 (sramUnit a) 0

/-- The ground die of a word: the die of the stack of a write-combining buffer; firmware staging is West's (R24, R230). -/
def groundDie (key : Nat) : Nat := if key < stagedBase then (key - bufferBase) / 2 ^ 36 else 0

/-- The names of a DEC-TED word by its key. -/
def wordInfo (key : Nat) : WordInfo :=
  if key < 2 ^ 44 then
    let a := key * 8
    ⟨sramLocation a, sramUnitNumber a, sramSource a, a, some { unit := sramUnit a, bank := 0, row := sramRow a }⟩
  else if key < pathBase then
    let d := groundDie key
    let o := Config.groundOffset key
    ⟨2, d, source 14 d 0, o, some { unit := 256 + d, bank := 0, row := o / 1024 }⟩
  else
    let n := (key - pathBase) / 4096
    ⟨4, n, source 1 n 1, (key - pathBase) % 4096 * 8, none⟩

/-- Writes LAST_ERROR and LAST_ADDRESS of the INTEGRITY block (R376, R394). -/
def State.lastError (s : State) (location kind unit bit addr : Nat) : State :=
  (s.wr Reg.INTEGRITY_LAST_ERROR (BitVec.ofNat 64
    (location % 8 + kind % 4 * 16 + unit % 65536 * 256 + bit % 128 * 16777216))).wr Reg.INTEGRITY_LAST_ADDRESS
      (BitVec.ofNat 64 (addr % 2 ^ 48))

/-- Removes the latent errors of a range of keys. -/
def State.clearUpsets (s : State) (lo n : Nat) : State :=
  { s with mem := { s.mem with upsets := s.mem.upsets.filter (fun e => e.1 < lo || lo + n ≤ e.1) } }

/-- Replaces the latent error of a key. -/
def State.putUpset (s : State) (key e : Nat) : State :=
  let s1 := s.clearUpsets key 1
  if e = 0 then s1 else { s1 with mem := { s1.mem with upsets := s1.mem.upsets ++ [(key, e)] } }

/-- Writes bytes of memory from an address up where a mask, shifted with each byte, has its bit clear. -/
def State.putUnmasked (s : State) (a : Nat) (mask : Nat) : List Byte → State
  | [] => s
  | b :: rest => State.putUnmasked (if mask % 2 = 1 then s else s.putByte a b) (a + 1) (mask / 2) rest

/-- Writes the residual errors of a decoded word into the bytes it returns, beside those that a mask covers: exclusive-or of
the pattern at the address. -/
def State.applyResidual (s : State) (a n residual mask : Nat) : State :=
  if residual = 0 then s
  else s.putUnmasked a mask (bytesLE n (natLE (s.bytesAt a n) ^^^ residual))

/-- The bytes of a held line that the write-combining buffer holds, as a number; none for a line not held (R238). -/
def State.bufferMask (s : State) (line : Nat) : Nat :=
  match s.mem.wcb.find? (fun l => l.line == line) with
  | some l => l.mask.toNat
  | none => 0

/-- Exclusive-or of a number into a word of firmware staging. -/
def State.flipStaged (s : State) (a r : Nat) : State :=
  let old := mapRange (fun i => Sparse.get emptyByte s.fw.staging i) 1 8 a
  let new := bytesLE 8 (natLE old ^^^ r)
  { s with fw := { s.fw with staging := (new.zipIdx).foldl (fun m p => Sparse.set emptyByte m (a + p.2) p.1) s.fw.staging } }

/-- Exclusive-or of a number into two neighbouring elements of a vector tile register. -/
def State.flipPair (s : State) (i r : Nat) : State :=
  let old := fun (k : Nat) => Sparse.get (fun _ => (0 : W32)) s.core.vregs k
  let t := Sparse.set (fun _ => 0) s.core.vregs i (old i ^^^ BitVec.ofNat 32 r)
  { s with core := { s.core with vregs := Sparse.set (fun _ => 0) t (i + 1) (old (i + 1) ^^^ BitVec.ofNat 32 (r / 2 ^ 32)) } }

/-- A residual error that a decoder does not see becomes the data of its store: the bytes read as the decoder returns them, and
the stored word, which stays as it is, is then wrong by what the decoder corrects alone. -/
def State.absorb (s : State) (key residual fix : Nat) : State :=
  if residual = 0 ∧ fix ≠ 0 then s
  else
    let s1 :=
      if key < 2 ^ 44 then s.applyResidual (key * 8) 8 residual 0
      else if key < 2 ^ 45 then
        let a := (key - 2 ^ 44) * 32
        s.applyResidual a 32 residual (s.bufferMask (a / 64) / 2 ^ (a % 64))
      else if key < stagedBase then s.applyResidual ((key - bufferBase) * 8) 8 residual 0
      else if key < pathBase then s.flipStaged ((key - stagedBase) * 8) residual
      else s.flipPair (2 * (key - pathBase)) residual
    s1.putUpset key fix

/-- Writes a word whose data is lost: in hoop and near memory the whole line is poisoned, in ground SRAM the word; a register
file is left as it is (R376). -/
def State.loseWord (s : State) (key : Nat) : State :=
  if key < 2 ^ 44 then (s.clearUpsets (key / 8 * 8) 8).setPoison (key / 8) true
  else if key < pathBase then s.putUpset key wordPoison
  else s

/-- The test of a row, where there is one. -/
def State.startTests (s : State) : Option RowTest → State
  | none => s
  | some x => s.startTest x

/-- The effects of reading one DEC-TED word that holds an error pattern (R376), for a reader that concerns tenant `who`. -/
def State.readUpsetWord (s : State) (who : Option Nat) (key e : Nat) : State :=
  let x := wordInfo key
  let served := match x.test with | some t => s.rowServed t | none => false
  match decTedOutcome e with
  | .clean r => s.absorb key r 0
  | .corrected r bit fix =>
    let s1 := s.absorb key r fix
    if served then s1
    else ((s1.count (Reg.INTEGRITY_CORRECTED x.location)).lastError x.location 1 x.unit bit x.address).startTests x.test
  | .poisoned => s.lastError x.location 3 x.unit 0 x.address
  | .uncorrectable =>
    if served then s
    else
      (((s.loseWord key).lastError x.location 2 x.unit 0 x.address).raise
        { cond := .uncorrectableNear, ribbon := .fault, source := x.source, tenant := who,
          detail := x.address % 2 ^ 48 + x.location * 2 ^ 48,
          counters := [Reg.INTEGRITY_UNCORRECTABLE_NEAR] }).startTests x.test

/-- Writes LAST_ERROR of a far stack (R261). -/
def State.farLastError (s : State) (a kind symbol : Nat) : State :=
  let c := farCoord a
  s.wr (Reg.FAR_LAST_ERROR c.stack) (BitVec.ofNat 64 (kind % 4 + c.pc * 2 ^ 8 + c.bank * 2 ^ 16 + c.row * 2 ^ 22
    + c.line * 2 ^ 40 + a / 32 % 2 * 2 ^ 44 + symbol % 64 * 2 ^ 45))

/-- The controller number of a far address for `RowTest`. -/
def farUnit (a : Nat) : Nat := 1000 + 64 * (farCoord a).stack + (farCoord a).pc

/-- The row of a far address for `RowTest`. -/
def farTest (a : Nat) : RowTest := { unit := farUnit a, bank := (farCoord a).bank, row := (farCoord a).row }

/-- The effects of reading one 32-byte far beat that holds an error pattern (R252). An uncorrectable beat stays as it is in
the DRAM; its line comes back poisoned, as the pattern decodes so again on every read. -/
def State.readUpsetBeat (s : State) (who : Option Nat) (beat e : Nat) : State :=
  let a := beat * 32
  let c := farCoord a
  let key := 2 ^ 44 + beat
  let served := s.rowServed (farTest a)
  match farOutcome e with
  | .clean r => s.absorb key r 0
  | .corrected r l fix =>
    let s1 := s.absorb key r fix
    if served then s1 else ((s1.count (Reg.FAR_CORRECTED c.stack)).farLastError a 1 l).startTest (farTest a)
  | .poisoned => s.farLastError a 3 0
  | .uncorrectable =>
    if served then s
    else
      ((s.farLastError a 2 0).raise
        { cond := .uncorrectableFar, ribbon := .fault, source := source 6 c.stack c.pc, tenant := who,
          detail := a % 2 ^ 48, counters := [Reg.FAR_UNCORRECTABLE_FAR c.stack] }).startTest (farTest a)

/-- The key of a latent error is a far beat's. -/
def isBeat (key : Nat) : Bool := decide (2 ^ 44 ≤ key) && decide (key < 2 ^ 45)

/-- The device address of a code word in memory or in a write-combining buffer. -/
def upsetAddress (key : Nat) : Nat :=
  if key < 2 ^ 44 then key * 8 else if key < 2 ^ 45 then (key - 2 ^ 44) * 32 else (key - bufferBase) * 8

/-- The effects of reading one code word with a latent error. -/
def State.readUpset (s : State) (who : Option Nat) (k e : Nat) : State :=
  if isBeat k then s.readUpsetBeat who (k - 2 ^ 44) e else s.readUpsetWord who k e

/-- Reads the code words of a list of latent errors, as far as they have not been found and rewritten by an earlier one. -/
def State.readUpsets (s : State) (who : Option Nat) : List (Nat × Nat) → State
  | [] => s
  | (k, e) :: rest => State.readUpsets (if s.mem.upsets.contains (k, e) then s.readUpset who k e else s) who rest

/-- Whether the data of a code word with a latent error comes back marked poisoned. -/
def upsetLost (k e : Nat) : Bool := (if isBeat k then farOutcome e else decTedOutcome e).lost

/-! ### Byte-coded arrays (R371, R376) -/

/-- The number of the byte-coded array that a byte lies in, 2 and up (R394, R454). -/
def arrayNo (key : Nat) : Nat := 2 + Config.arrayNumber key

/-- The controller that tests the rows of an array (R379): the core for its block and its staging registers, the West ground die
for every other array (notes/assumptions/106). -/
def arrayOwner (key : Nat) : Nat :=
  if stagingBase ≤ key then 128 + (key - stagingBase) / 64
  else if 0x1000000 ≤ key ∧ key < 0x2000000 ∧ (key - 0x1000000) % 0x200000 < 0x100000 then
    128 + 16 * ((key - 0x1000000) / 0x200000) + (key - 0x1000000) % 0x200000 / 0x10000
  else 256

/-- The row of an array byte for `RowTest`. -/
def arrayTest (key : Nat) : RowTest :=
  { unit := arrayOwner key, bank := 0, row := Config.arrayRow key, array := some (arrayNo key) }

/-- Replaces the latent error of one array byte. -/
def State.putArrayUpset (s : State) (key e : Nat) : State :=
  let s1 := s.healSpan key 1
  if e = 0 then s1 else { s1 with mem := { s1.mem with arrayUpsets := s1.mem.arrayUpsets ++ [(key, e)] } }

/-- The 13-bit pattern of a poisoned byte: the five check bits complemented (R371). -/
def bytePoison : Nat := 2 ^ 0 + 2 ^ 1 + 2 ^ 3 + 2 ^ 7 + 2 ^ 12

/-- Exclusive-or of a number into one byte of an array: a register's or a staging register's. -/
def State.flipByte (s : State) (key r : Nat) : State :=
  if key < stagingBase then
    let reg := key / 8 * 8
    s.wr reg (s.rd reg ^^^ BitVec.ofNat 64 (r * 2 ^ (8 * (key % 8))))
  else
    let q := (key - stagingBase) / 16
    let v := Sparse.get (fun _ => (0 : BitVec 128)) s.core.staging q ^^^ BitVec.ofNat 128 (r * 2 ^ (8 * (key % 16)))
    { s with core := { s.core with staging := Sparse.set (fun _ => 0) s.core.staging q v } }

/-- `State.absorb` for an array byte. -/
def State.absorbByte (s : State) (key residual fix : Nat) : State :=
  if residual = 0 ∧ fix ≠ 0 then s else (s.flipByte key residual).putArrayUpset key fix

/-- The effects of reading one byte of a byte-coded array that holds an error pattern (R376). -/
def State.readArrayByte (s : State) (who : Option Nat) (key e : Nat) : State :=
  let served := s.rowServed (arrayTest key)
  match byteOutcome e with
  | .clean r => s.absorbByte key r 0
  | .corrected r bit fix =>
    let s1 := s.absorbByte key r fix
    if served then s1
    else ((s1.count (Reg.INTEGRITY_CORRECTED 3)).lastError 3 1 (arrayNo key) bit key).startTest (arrayTest key)
  | .poisoned => s.lastError 3 3 (arrayNo key) 0 key
  | .uncorrectable =>
    if served then s
    else
      (((s.putArrayUpset key bytePoison).lastError 3 2 (arrayNo key) 0 key).raise
        { cond := .uncorrectableNear, ribbon := .critical, source := source 14 (arrayNo key) 0, tenant := who,
          detail := key % 2 ^ 48 + 3 * 2 ^ 48, counters := [Reg.INTEGRITY_UNCORRECTABLE_NEAR] }).startTest (arrayTest key)

/-- Reads a list of array bytes with errors. -/
def State.readArrayList (s : State) (who : Option Nat) : List (Nat × Nat) → State
  | [] => s
  | (k, e) :: rest => State.readArrayList (s.readArrayByte who k e) who rest

/-- Whether a byte's pattern means that the byte is lost. -/
def byteLost (e : Nat) : Bool := (byteOutcome e).lost

/-- Reads spans of array bytes, each a first key and a length; the second part says whether a byte of them is lost (R376,
R380). -/
def State.readSpans (s : State) (who : Option Nat) : List (Nat × Nat) → State × Bool
  | [] => (s, false)
  | (lo, n) :: rest =>
    let es := s.errorsIn lo n
    let r := State.readSpans (s.readArrayList who es) who rest
    (r.1, es.any (fun e => byteLost e.2) || r.2)

/-- The latent errors of a register's eight bytes. -/
def State.arrayErrors (s : State) (off : Nat) : List (Nat × Nat) := s.errorsIn (off / 8 * 8) 8

/-- Reads registers that lie in byte-coded arrays; the second part says whether a byte of them is lost (R376, R380). -/
def State.readArrays (s : State) (who : Option Nat) (offs : List Nat) : State × Bool :=
  s.readSpans who (offs.map (fun off => (off / 8 * 8, 8)))

/-- A register of a byte-coded array that is written whole (R371, R372). -/
def State.healArray (s : State) (off : Nat) : State := s.healSpan (off / 8 * 8) 8

/-- Writes a register of a byte-coded array whole (R371, R372). -/
def State.wrArray (s : State) (off : Nat) (v : Word) : State := (s.wr off v).healArray off

/-! ### The far controllers -/

/-- Whether a far page is unwritten (R248). -/
def State.pageUnwritten (s : State) (page : Nat) : Bool := !NatSet.has s.mem.written page

/-- The mask of a line held in the write-combining buffer. -/
def wcbMask (line : Nat) : List WcbLine → Option (BitVec 64)
  | [] => none
  | l :: rest => if l.line = line then some l.mask else wcbMask line rest

/-- Whether a line is in the buffer or the write queue (R239). -/
def State.lineHeld (s : State) (line : Nat) : Bool := (wcbMask line s.mem.wcb).isSome || s.mem.writeQueue.contains line

/-- The read classes (R240). -/
inductive ReadClass where
  | urgent | stream | bulk
  deriving DecidableEq, Repr

/-- The number of a class in `FAR.GRANTS` (R261). -/
def ReadClass.num : ReadClass → Nat
  | .urgent => 0 | .stream => 1 | .bulk => 2

/-- The choice of R241 for one grant, given the classes that wait. -/
def arbitrate (w : Window) (urgent stream bulk : Bool) : Option ReadClass :=
  if urgent && decide (w.urgent < w.cap) then some .urgent
  else if stream && bulk then
    if w.stream * w.bulkWeight ≤ w.bulk * w.streamWeight then some .stream else some .bulk
  else if stream then some .stream
  else if bulk then some .bulk
  else if urgent then some .urgent
  else none

/-- A window that starts now on stack k, with CONTROL's cap and weights (R241, R261). -/
def State.newWindow (s : State) (k : Nat) : Window :=
  { cap := min 1024 (s.fld (Reg.FAR_CONTROL k) Fl.FAR_CONTROL_URGENT_CAP),
    streamWeight := max 1 (s.fld (Reg.FAR_CONTROL k) Fl.FAR_CONTROL_STREAM_WEIGHT),
    bulkWeight := max 1 (s.fld (Reg.FAR_CONTROL k) Fl.FAR_CONTROL_BULK_WEIGHT) }

/-- Grants one read of a class on the pseudo-channel of a line (R241): the window's use and `GRANTS`. -/
def State.grant (s : State) (a : Nat) (x : ReadClass) : State :=
  let c := farCoord a
  let key := 64 * c.stack + c.pc
  let w0 := Sparse.get (fun _ => ({} : Window)) s.mem.windows key
  let w := if w0.grants = 0 ∨ 1024 ≤ w0.grants then s.newWindow c.stack else w0
  match arbitrate w (x == .urgent) (x == .stream) (x == .bulk) with
  | none => s
  | some y =>
    let w' := { w with grants := w.grants + 1, urgent := w.urgent + (y == .urgent).toNat,
                       stream := w.stream + (y == .stream).toNat, bulk := w.bulk + (y == .bulk).toNat }
    ({ s with mem := { s.mem with windows := Sparse.set (fun _ => ({} : Window)) s.mem.windows key w' } }).addWrap
      (Reg.FAR_GRANTS c.stack y.num) 1

/-- Keeps `WCB_STATUS.LINES` (R261). -/
def State.syncWcb (s : State) (k : Nat) : State :=
  s.setFld (Reg.FAR_WCB_STATUS k) Fl.FAR_WCB_STATUS_LINES
    (s.mem.wcb.filter (fun l => l.line * 64 / 0x002000000000 == k)).length

/-- Background write-back begins above 98,304 held lines and ends at 65,536 (R238). -/
def State.markWcb (s : State) (k : Nat) : State :=
  let n := s.fld (Reg.FAR_WCB_STATUS k) Fl.FAR_WCB_STATUS_LINES
  let b := s.mem.wcbBusy
  { s with mem := { s.mem with
      wcbBusy := if 98304 < n then NatSet.add b k else if n ≤ 65536 then NatSet.del b k else b } }

/-- One line goes to the DRAM, and what it held there is gone: counted in WRITES, with the page's other 63 lines and the page's
bit when the page was unwritten (R249). -/
def State.lineToDram (s : State) (line : Nat) : State :=
  let k := line * 64 / 0x002000000000
  let page := line / 64
  if s.pageUnwritten page then
    (({ s with mem := { s.mem with written := NatSet.add s.mem.written page } }).clearUpsets (2 ^ 44 + page * 128)
      128).addWrap (Reg.FAR_WRITES k) 64
  else (s.clearUpsets (2 ^ 44 + line * 2) 2).addWrap (Reg.FAR_WRITES k) 1

/-- Whether a read of a far line reads the DRAM: not where the buffer holds it whole, the write queue holds it, or its page is
unwritten (R239, R248). -/
def State.readsDram (s : State) (line : Nat) : Bool :=
  wcbMask line s.mem.wcb != some (BitVec.allOnes 64) && !s.mem.writeQueue.contains line && !s.pageUnwritten (line / 64)

/-- The latent errors that a read of a line meets: of its words in hoop or near memory, of its beats where the DRAM is read, of
its words in the write-combining buffer where the line is held. -/
def State.lineErrors (s : State) (line : Nat) : List (Nat × Nat) :=
  s.mem.upsets.filter (fun e =>
    if e.1 < 2 ^ 44 then e.1 / 8 == line
    else if e.1 < 2 ^ 45 then (e.1 - 2 ^ 44) / 2 == line && s.readsDram line
    else decide (bufferBase ≤ e.1) && (e.1 - bufferBase) / 8 == line && (wcbMask line s.mem.wcb).isSome)

/-- A line leaves the write-combining buffer for the DRAM: what its words or the beats merged with it have lost goes out as
poison (R238, R252, R372). -/
def State.carryPoison (s : State) : List (Nat × Nat) → State
  | [] => s
  | (k, e) :: rest =>
    let unit := if isBeat k then k - 2 ^ 44 else (k - bufferBase) / 4
    State.carryPoison
      (if upsetLost k e then { s with mem := { s.mem with poison := NatSet.add s.mem.poison unit } } else s) rest

/-- Write-back of a held line: a partial line of a written page first reads the DRAM at STREAM class and merges it, with what
R252 and R376 give the errors met (R238). -/
def State.writeBack (s : State) (line : Nat) : State :=
  match wcbMask line s.mem.wcb with
  | none => s
  | some _ =>
    let es := s.lineErrors line
    let s0 := if s.readsDram line then s.grant (line * 64) .stream else s
    let s1 := ((s0.readUpsets none es).carryPoison es).clearUpsets (bufferBase + line * 8) 8
    let s2 := { s1 with mem := { s1.mem with wcb := s1.mem.wcb.filter (fun l => l.line != line) } }
    (s2.lineToDram line).syncWcb (line * 64 / 0x002000000000)

/-- The set of a line in its buffer: a[18:6] within the stack (R238). -/
def wcbSet (line : Nat) : Nat := line * 64 / 0x002000000000 * 8192 + line % 8192

/-- Merges a partial write, or an add, into the buffer: the line becomes the most recently used; a full set first writes
back its least recently used line (R238). -/
def State.wcbMerge (s : State) (line : Nat) (mask : BitVec 64) : State :=
  let k := line * 64 / 0x002000000000
  match wcbMask line s.mem.wcb with
  | some m =>
    { s with mem := { s.mem with wcb := s.mem.wcb.filter (fun l => l.line != line) ++ [WcbLine.mk line (m ||| mask)] } }
  | none =>
    let inSet := s.mem.wcb.filter (fun l => wcbSet l.line == wcbSet line)
    let s1 := if 16 ≤ inSet.length then s.writeBack ((inSet.head?.map (·.line)).getD 0) else s
    (({ s1 with mem := { s1.mem with wcb := s1.mem.wcb ++ [WcbLine.mk line mask] } }).syncWcb k).markWcb k

/-- The controller's part of a write of n bytes at an address within one far line (R238). -/
def State.farWriteLine (s : State) (a n : Nat) : State :=
  let line := a / 64
  let mask : BitVec 64 := BitVec.ofNat 64 ((2 ^ n - 1) * 2 ^ (a % 64))
  if n = 64 ∧ (wcbMask line s.mem.wcb).isSome = false then
    { s with mem := { s.mem with writeQueue := s.mem.writeQueue ++ [line] } }
  else s.wcbMerge line mask

/-! ### Loads and stores -/

/-- What a load answers: the state after it, the bytes, the lines that came back poisoned, and whether every page it
touched answered from the unwritten map. -/
structure Loaded where
  s : State
  bytes : List Byte
  poison : List Nat
  unwritten : Bool
  deriving DecidableEq, Repr

/-- The 64-byte lines of an extent. -/
def linesOf (a len : Nat) : List Nat :=
  if len = 0 then [] else mapRange (fun l => l) 1 ((a % 64 + len - 1) / 64 + 1) (a / 64)

/-- The controller's part of a read of one line: a panel counts it, a far controller grants a DRAM read unless the line is
held whole or its page is unwritten (R239, R473). -/
def State.touchRead (s : State) (x : ReadClass) (line : Nat) : State :=
  let a := line * 64
  match placeOf a with
  | .near => s.addWrap (Reg.NEAR_PANEL_READS (sramUnit a)) 1
  | .far _ => if s.readsDram line then s.grant a x else s
  | _ => s

/-- Reads lines one after the other. -/
def State.touchReads (s : State) (x : ReadClass) : List Nat → State
  | [] => s
  | l :: rest => State.touchReads (s.touchRead x l) x rest

/-- LAST_ERROR for a line that is read poisoned (R261, R376, R394). -/
def State.notePoison (s : State) : List Nat → State
  | [] => s
  | line :: rest =>
    let a := line * 64
    State.notePoison (match placeOf a with
      | .far _ => s.farLastError a 3 0
      | _ => s.lastError (sramLocation a) 3 (sramUnitNumber a) 0 a) rest

/-- Reads an extent of near, far or hoop memory for a reader that concerns tenant `who`: errors are corrected, counted and
tested, uncorrectable data comes back poisoned (R252, R376). -/
def State.load (s : State) (who : Option Nat) (x : ReadClass) (a len : Nat) : Loaded :=
  let lines := linesOf a len
  let lost := lines.filter (fun l => (s.lineErrors l).any (fun e => upsetLost e.1 e.2))
  let unwritten := match placeOf a with
    | .far _ => lines.all (fun l => s.pageUnwritten (l / 64) && !s.lineHeld l)
    | _ => false
  let s1 := ((s.touchReads x lines).notePoison (lines.filter s.linePoisoned)).readUpsets who (lines.flatMap s.lineErrors)
  { s := s1, bytes := s1.bytesAt a len,
    poison := lines.filter (fun l => s1.linePoisoned l || lost.contains l), unwritten := unwritten }

/-- The part of an extent that lies in one line: first byte and length. -/
def partOf (a len line : Nat) : Nat × Nat :=
  let lo := max a (line * 64)
  (lo, min (a + len) (line * 64 + 64) - lo)

/-- The controller's part of a write of one line, and what the write does to poison and latent errors: a whole-line write
clears both, whole words that are written lose their latent errors, a partial write into a poisoned line leaves it poisoned
(R252, R370, R372). -/
def State.touchWrite (s : State) (a len : Nat) (poisoned : Bool) (line : Nat) : State :=
  let (lo, n) := partOf a len line
  let s1 := match placeOf (line * 64) with
    | .near => s.addWrap (Reg.NEAR_PANEL_WRITES (sramUnit (line * 64))) 1
    | .far _ => s.farWriteLine lo n
    | _ => s
  let s2 := if n = 64 then
      ((s1.setPoison line false).clearUpsets (line * 8) 8).clearUpsets (2 ^ 44 + line * 2) 2
    else s1
  let w := (lo + 7) / 8
  let m := (lo + n) / 8 - w
  let s3 := (s2.clearUpsets w m).clearUpsets (bufferBase + w) m
  if poisoned then s3.setPoison line true else s3

/-- Writes lines one after the other; `bad` lists the lines whose data is poisoned. -/
def State.touchWrites (s : State) (a len : Nat) (bad : List Nat) : List Nat → State
  | [] => s
  | l :: rest => State.touchWrites (s.touchWrite a len (bad.contains l) l) a len bad rest

/-- Writes bytes to near, far or hoop memory; the lines of `bad` are written poisoned (R372, R380). -/
def State.store (s : State) (a : Nat) (bytes : List Byte) (bad : List Nat) : State :=
  (s.touchWrites a bytes.length bad (linesOf a bytes.length)).putBytes a bytes

/-- Clears every byte, poison mark, latent error and held line of an extent. -/
def State.clearExtent (s : State) (a len : Nat) : State :=
  { s with mem := { s.mem with
      bytes := Sparse.drop (fun k => decide (a ≤ k) && decide (k < a + len)) s.mem.bytes,
      poison := s.mem.poison.filter (fun u => !(decide (a ≤ u * 32) && decide (u * 32 < a + len))),
      upsets := s.mem.upsets.filter (fun e =>
        let lo := upsetAddress e.1
        !(decide (a ≤ lo) && decide (lo < a + len))),
      written := s.mem.written.filter (fun p => !(decide (a ≤ p * 4096) && decide (p * 4096 < a + len))),
      wcb := s.mem.wcb.filter (fun l => !(decide (a ≤ l.line * 64) && decide (l.line * 64 < a + len))),
      writeQueue := s.mem.writeQueue.filter (fun l => !(decide (a ≤ l * 64) && decide (l * 64 < a + len))) } }

/-- Makes the pages of a far extent unwritten (R250). -/
def State.eraseExtent (s : State) (a len : Nat) : State := (s.clearExtent a len).syncWcb (a / 0x002000000000)

end Sys2Proof.Machine
end

