-- ==== Sys2Proof/Machine/NetOps.lean ====
section
/-! DEFINITION. The Bride transport and the routing stage: the wire form of a transaction (R346) and its end-to-end check
(R348), routing (R341 to R344), the source's side of a flow (R345, R350), and delivery in order at the destination (R349). -/

namespace Sys2Proof.Machine

end Sys2Proof.Machine

namespace Sys2Proof

open Machine

/-! ### The wire form -/

/-- The FLAGS byte (R346). -/
def Txn.flagByte (t : Txn) : Nat :=
  t.resync.toNat + 2 * t.digest.toNat + 4 * t.response.toNat + 8 * t.resend.toNat + 16 * t.poison.toNat
    + 32 * t.abort.toNat + 64 * (t.resFlags % 4)

/-- Header bytes 0 to 27, with byte 14 as given (R346). -/
def Txn.head (t : Txn) (hops : Nat) : List Byte :=
  bytesLE 2 t.dest ++ bytesLE 2 t.src ++ bytesLE 1 t.typ ++ bytesLE 1 t.flagByte ++ bytesLE 2 t.tag ++ bytesLE 4 t.seq
    ++ bytesLE 2 t.length ++ bytesLE 1 hops ++ bytesLE 1 t.tenant ++ bytesLE 8 t.address ++ bytesLE 4 t.arg

/-- CHECK of a transaction (R348). -/
def Txn.computeCheck (t : Txn) : Nat :=
  crcFeed (crcFeed (crcFeed (crcFeed 0xFFFFFFFF (bytesLE 8 (t.dest % 65536 * 2 ^ 48 + t.address % 2 ^ 48)))
    (bytesLE 4 t.seq)) (t.head 0)) t.payload ^^^ 0xFFFFFFFF

/-- A transaction with LENGTH and CHECK computed, as its source sends it. -/
def Txn.sealed (t : Txn) : Txn :=
  let u := { t with length := t.payload.length }
  { u with check := u.computeCheck }

/-- The body bytes of a transaction: header and payload (R346). -/
def Txn.wire (t : Txn) : List Byte := t.head t.hops ++ bytesLE 4 t.check ++ t.payload

/-- Cuts bytes into 240-byte flit bodies, the last zero-padded; n bounds how many. -/
def chunk240 : (n : Nat) → List Byte → List (List Byte)
  | 0, _ => []
  | n + 1, bs =>
    if bs = [] then []
    else (bs.take 240 ++ List.replicate (240 - bs.length) 0) :: chunk240 n (bs.drop 240)

/-- The flit bodies of a transaction: ceil((32 + LENGTH) / 240) of them (R346). -/
def Txn.bodies (t : Txn) : List (List Byte) := chunk240 ((32 + t.length + 239) / 240) t.wire

/-- Reads a transaction from body bytes of an ordering class. -/
def parseTxn (cls : Nat) (bs : List Byte) : Txn :=
  let f := fun (lo n : Nat) => natLE ((bs.drop lo).take n)
  let fl := f 5 1
  { dest := f 0 2, src := f 2 2, typ := f 4 1, resync := bitsOf fl 0 1 == 1, digest := bitsOf fl 1 1 == 1,
    response := bitsOf fl 2 1 == 1, resend := bitsOf fl 3 1 == 1, poison := bitsOf fl 4 1 == 1,
    abort := bitsOf fl 5 1 == 1, resFlags := bitsOf fl 6 2, tag := f 6 2, seq := f 8 4, length := f 12 2, hops := f 14 1,
    tenant := f 15 1, address := f 16 8, arg := f 24 4, check := f 28 4,
    payload := (bs.drop 32).take (f 12 2), cls := cls }

/-- The types that a flow numbers: TILE_WRITE, TILE_READ, REDUCE, KNOT_OP, MAILBOX, COLLECTIVE (R345). -/
def numberedType (typ : Nat) : Bool := typ == 1 || typ == 2 || typ == 4 || typ == 5 || typ == 6 || typ == 7

/-- Whether the ADD_OP of R125 allows an element format code of R127. -/
def reduceFormatOk (op fmt : Nat) : Bool :=
  (op == 0 && fmt == 0xB) || (op == 1 && fmt == 0xE) || (op == 2 && fmt == 0) || (op == 3 && fmt == 0xC)
    || (op == 4 && fmt == 0) || ((op == 5 || op == 6) && (fmt == 0xB || fmt == 0xE || fmt == 0))

/-- Whether R347 makes the destination discard a transaction: a reserved TYPE or FLAGS bit, a LENGTH beyond its limit, a
REDUCE whose format its ADD_OP does not allow; and a KNOT_OP with a reserved operation (notes/assumptions/21). -/
def Txn.malformed (t : Txn) : Bool :=
  t.typ == 0 || decide (0x0E ≤ t.typ) || t.resFlags != 0
    || decide ((if t.digest then 4168 else 4096) < t.length)
    || (t.typ == 4 && !reduceFormatOk (bitsOf t.arg 0 3) (bitsOf t.arg 4 4))
    || (t.typ == 5 && decide (5 ≤ bitsOf t.address 17 3))

end Sys2Proof

namespace Sys2Proof.Machine

/-! ### Addresses and ports -/

/-- The device's own ID (R337). -/
def State.deviceId (s : State) : Nat := s.fld Reg.BRIDE_ROUTE_CONTROL Fl.BRIDE_ROUTE_CONTROL_DEVICE_ID

/-- Whether the device's ID counts (R337). -/
def State.idValid (s : State) : Bool := s.flag Reg.BRIDE_ROUTE_CONTROL Fl.BRIDE_ROUTE_CONTROL_ID_VALID

/-- The link layer of port p. -/
def State.port (s : State) (p : Nat) : PortState := Sparse.get (fun _ => {}) s.net.ports p

/-- Writes the link layer of port p. -/
def State.setPort (s : State) (p : Nat) (x : PortState) : State :=
  { s with net := { s.net with ports := Sparse.set (fun _ => {}) s.net.ports p x } }

/-- Whether a port is ENABLED and ACTIVE (R341). -/
def State.portUp (s : State) (p : Nat) : Bool :=
  s.fld (Reg.BRIDE_PORT_STATUS p) Fl.BRIDE_PORT_STATUS_UNIT_STATE == 0
    && s.fld (Reg.BRIDE_PORT_STATUS p) Fl.BRIDE_PORT_STATUS_LINK == 2 && !s.portAbsent p

/-- Whether a port carries control flits and the tick phase: ACTIVE, ENABLED or DRAINING (R334). -/
def State.portLinked (s : State) (p : Nat) : Bool :=
  decide (s.fld (Reg.BRIDE_PORT_STATUS p) Fl.BRIDE_PORT_STATUS_UNIT_STATE < 2)
    && s.fld (Reg.BRIDE_PORT_STATUS p) Fl.BRIDE_PORT_STATUS_LINK == 2 && !s.portAbsent p

/-- The ports 0 to 23 of a mask. -/
def portsOf (mask : Nat) : List Nat := (List.range 24).filter (fun p => mask / 2 ^ p % 2 == 1)

/-- The flits routed to a port and not yet sent, plus one: Q_p + 1 (R342). -/
def State.queueCost (s : State) (p : Nat) : Nat := (s.port p).txQueue.foldl (fun n x => n + x.left.length) 1

/-- The port's transmit width (R315). -/
def State.width (s : State) (p : Nat) : Nat := s.fld (Reg.BRIDE_PORT_STATUS p) Fl.BRIDE_PORT_STATUS_TX_WIDTH

/-- Whether port a beats port b: (Q_a + 1) / W_a < (Q_b + 1) / W_b, exactly (R342). -/
def State.cheaper (s : State) (a b : Nat) : Bool := decide (s.queueCost a * s.width b < s.queueCost b * s.width a)

/-- The best port of a list taken in order; the first of equals stays. -/
def State.bestPort (s : State) : List Nat → Option Nat
  | [] => none
  | p :: rest =>
    match State.bestPort s rest with
    | none => some p
    | some q => if s.cheaper q p then some q else some p

/-- The candidates in cyclic port order from the one after the port last chosen (R342). -/
def cyclicFrom (last : Option Nat) (ps : List Nat) : List Nat :=
  match last with
  | none => ps
  | some l => ps.filter (fun p => l < p) ++ ps.filter (fun p => p ≤ l)

/-- The port last chosen for a DEST. -/
def State.lastPortFor (s : State) (dest : Nat) : Option Nat :=
  (s.net.lastPort.find? (fun e => e.1 == dest)).map (·.2)

/-- The port R342 chooses among candidates for a DEST. -/
def State.choosePort (s : State) (dest : Nat) (ps : List Nat) : Option Nat :=
  s.bestPort (cyclicFrom (s.lastPortFor dest) ps)

/-- Remembers the port last chosen for a DEST (R342). -/
def State.notePort (s : State) (dest p : Nat) : State :=
  { s with net := { s.net with lastPort := (s.net.lastPort.filter (fun e => e.1 != dest)) ++ [(dest, p)] } }

/-- Puts a transaction's flits on a port, HOPS increased by one (R341). The end-to-end check leaves HOPS out. -/
def State.sendOn (s : State) (p : Nat) (t : Txn) : State :=
  let u := { t with hops := t.hops + 1 }
  (s.setPort p { s.port p with txQueue := (s.port p).txQueue ++ [{ txn := t, left := u.bodies }] }).notePort t.dest p

/-! ### The destination's side (R347 to R349) -/

/-- Hands a transaction to the unit that handles it. -/
def State.arrive (s : State) (a : Arrival) : State := { s with net := { s.net with arrived := s.net.arrived ++ [a] } }

/-- The flow state of (source, destination, class). -/
def findRx (t : Txn) : List RxFlow → Option RxFlow
  | [] => none
  | f :: rest => if f.src = t.src ∧ f.dest = t.dest ∧ f.cls = t.cls then some f else findRx t rest

/-- Replaces the flow state of a flow, keeping STATUS.FLOWS and STATUS.HELD. -/
def State.setRx (s : State) (f : RxFlow) : State :=
  let others := s.net.rxFlows.filter (fun g => !(g.src == f.src && g.dest == f.dest && g.cls == f.cls))
  let fl := others ++ [f]
  let s1 := { s with net := { s.net with rxFlows := fl } }
  (s1.setFld Reg.BRIDE_ROUTE_STATUS Fl.BRIDE_ROUTE_STATUS_FLOWS fl.length).setFld Reg.BRIDE_ROUTE_STATUS
    Fl.BRIDE_ROUTE_STATUS_HELD (fl.foldl (fun n g => n + g.held.length) 0)

/-- Delivers the held successors of a flow while the next expected one is held; n bounds the number held. -/
def State.releaseHeld (s : State) (f : RxFlow) : (n : Nat) → State × RxFlow
  | 0 => (s, f)
  | n + 1 =>
    match f.held.find? (fun a => a.txn.seq == f.expected) with
    | none => (s, f)
    | some a =>
      (s.arrive a).releaseHeld
        { f with expected := (f.expected + 1) % 2 ^ 32, held := f.held.filter (fun b => b.txn.seq != f.expected) } n

/-- The ground die that a port is on: 0 West, 1 East (R24); what comes from this device itself counts on West. -/
def portDie (p : Option Nat) : Nat := p.getD 0 / 12

/-- Bytes held in the reorder buffer of a ground die (R230, R349; notes/assumptions/117). -/
def State.heldBytes (s : State) (die : Nat) : Nat :=
  s.net.rxFlows.foldl (fun n f =>
    n + (f.held.filter (fun a => portDie a.port == die)).foldl (fun m a => m + 32 + a.txn.payload.length) 0) 0

/-- Whether the destination has a flow state to open: fewer than 16,384 in use, or one recyclable after 1 ms (R349). -/
def State.recyclable (s : State) : Option RxFlow :=
  s.net.rxFlows.find? (fun f => f.held.isEmpty && decide (f.last + 1000000 ≤ s.uptime))

/-- The answer of type `typ` to a transaction, back to its source in the class of its flow (R352). -/
def State.answerTxn (s : State) (t : Txn) (typ arg : Nat) : Txn :=
  ({ dest := t.src, src := s.deviceId, typ := typ, tag := t.tag, seq := t.seq, tenant := t.tenant, arg := arg,
     cls := t.cls } : Txn).sealed

/-- Sends an unnumbered transaction to a device by the routing table: the answers of R352. What no port takes is held as
R341 says; where no port leads to the device it is lost, and the notice of R350 would come back to this device, which has no
use for it (notes/assumptions/90). -/
def State.sendPlain (s : State) (t : Txn) : State :=
  if t.dest = s.deviceId then s.arrive { port := none, txn := t }
  else
    let mask := s.fld (Reg.ROUTE t.dest) Fl.ROUTE_MASK
    if mask = 0 then s
    else
      match s.choosePort t.dest ((portsOf mask).filter s.portUp) with
      | some p => s.sendOn p t
      | none => { s with net := { s.net with routeHeld := s.net.routeHeld ++ [⟨t, none, s.stitchClock⟩] } }

/-- Takes a transaction addressed to this device: R347, then R348, then R349 for numbered types. -/
def State.deliverLocal (s : State) (port : Option Nat) (t : Txn) : State :=
  if t.malformed then s.count Reg.ROUTE_MALFORMED
  else if t.check ≠ t.computeCheck then s.count Reg.ROUTE_E2E_MISMATCH
  else if !numberedType t.typ then s.arrive { port := port, txn := t }
  else
    let here : Arrival := { port := port, txn := t }
    let accept := fun (s : State) (f : RxFlow) =>
      let behind := decide (2 ^ 31 ≤ (t.seq + 2 ^ 32 - f.expected) % 2 ^ 32)
      if behind && f.busy.contains t.seq then
        (s.arrive here).setRx { f with busy := f.busy.filter (fun n => n != t.seq), last := s.uptime }
      else if behind && (!t.resync || t.resend) then s.arrive { here with dup := true }
      else if t.seq = f.expected ∨ t.resync = true then
        let f1 : RxFlow := { f with expected := (t.seq + 1) % 2 ^ 32, held := if t.resync then [] else f.held,
                                    busy := if t.resync then [] else f.busy,
                                    last := s.uptime }
        let r := (s.arrive here).releaseHeld f1 f1.held.length
        r.1.setRx r.2
      else if (t.seq + 2 ^ 32 - f.expected) % 2 ^ 32 < 256 then
        if 0x400000 < s.heldBytes (portDie port) + 32 + t.payload.length then s.count Reg.ROUTE_REORDER_DROP
        else if f.held.any (fun a => a.txn.seq == t.seq) then s
        else s.setRx { f with held := f.held ++ [here] }
      else s
    match findRx t s.net.rxFlows with
    | some f => accept s f
    | none =>
      if s.net.rxFlows.length < 16384 then accept s { src := t.src, dest := t.dest, cls := t.cls }
      else
        match s.recyclable with
        | some old =>
          accept { s with net := { s.net with rxFlows := s.net.rxFlows.filter (fun g => g != old) } }
            { src := t.src, dest := t.dest, cls := t.cls }
        | none => (s.count Reg.ROUTE_REORDER_DROP).sendPlain (s.answerTxn t 9 1)

/-- A numbered transaction is answered NAK BUSY: its flow takes the resend as new. -/
def State.markBusy (s : State) (t : Txn) : State :=
  match findRx t s.net.rxFlows with
  | some f => s.setRx { f with busy := f.busy ++ [t.seq] }
  | none => s

/-! ### Routing (R341 to R344) -/

/-- A transaction that cannot be delivered: an UNDELIVERABLE notice goes to its source, unless it is itself a notice
(R350). -/
def State.undeliverable (s : State) (t : Txn) : State :=
  if t.typ = 0x0A then s
  else s.sendPlain
    ({ dest := t.src, src := s.deviceId, typ := 0x0A, tag := t.tag, seq := t.seq, tenant := t.tenant,
       address := t.dest, cls := t.cls } : Txn).sealed

/-- The device a port's NEIGHBOUR names. -/
def State.neighbourId (s : State) (p : Nat) : Nat := s.fld (Reg.NEIGHBOUR p) Fl.NEIGHBOUR_DEVICE

/-- One copy of a multicast to each port set but the arrival port's: the ports are taken in ascending order, and a set is
served when its first port comes up (R343). -/
def State.multicast (s : State) (arrival : Option Nat) (t : Txn) (all : List Nat) : List Nat → State
  | [] => s
  | p :: rest =>
    let set := all.filter (fun q => s.neighbourId q == s.neighbourId p)
    let first := set.head? == some p
    let skip := match arrival with | some a => set.contains a | none => false
    let s1 := if first && !skip then
        match s.choosePort t.dest (set.filter s.portUp) with
        | some q => s.sendOn q t
        | none => s
      else s
    State.multicast s1 arrival t all rest

/-- The routing stage (R341), for a transaction that arrived on a port or originates here. -/
def State.route (s : State) (arrival : Option Nat) (t : Txn) : State :=
  if t.typ = 0x0C ∨ t.typ = 0x0D ∨ (t.typ = 0x0B ∧ s.idValid = true) then s.arrive { port := arrival, txn := t }
  else if s.idValid = false then s.count Reg.ROUTE_UNDELIVERABLE
  else if max 1 (s.fld Reg.BRIDE_ROUTE_CONTROL Fl.BRIDE_ROUTE_CONTROL_HOP_LIMIT) ≤ t.hops then s.undeliverable t
  else if t.dest = s.deviceId then s.deliverLocal arrival t
  else
    let mask := s.fld (Reg.ROUTE t.dest) Fl.ROUTE_MASK
    if 65280 ≤ t.dest then
      let s1 := s.multicast arrival t (portsOf mask) (portsOf mask)
      if s1.flag (Reg.MCAST (t.dest - 65280)) Fl.MCAST_MEMBER then s1.deliverLocal arrival t else s1
    else
      let ports := (portsOf mask).filter (fun p => some p != arrival)
      if ports = [] then s.undeliverable t
      else
        match s.choosePort t.dest (ports.filter s.portUp) with
        | some p => s.sendOn p t
        | none => { s with net := { s.net with routeHeld := s.net.routeHeld ++ [⟨t, arrival, s.stitchClock⟩] } }

/-! ### The source's side (R345, R350, R351, R356) -/

/-- Records how a transaction of an owner ended. A refused or lost fray of R198 is reported; a lost notification is lost
(R193). -/
def State.conclude (s : State) (e : TxEntry) (r : TxnResult) : State :=
  match e.owner with
  | .nobody => s
  | .notification => s
  | .knotFray n eng knot =>
    if r = .replied 0 then s
    else s.raise { cond := .frayedKnot, ribbon := .notice, source := source 1 n eng, tenant := s.coreTenant n,
                   detail := knot % 2 ^ 17 + 3 * 2 ^ 17 }
  | o => { s with net := { s.net with answers := s.net.answers ++ [⟨o, e.txn.dest, e.txn.address, r⟩] } }

/-- The source's flow state. -/
def findTx (dest cls : Nat) : List TxFlow → Option TxFlow
  | [] => none
  | f :: rest => if f.dest = dest ∧ f.cls = cls then some f else findTx dest cls rest

/-- Replaces the source's flow state. -/
def State.setTx (s : State) (f : TxFlow) : State :=
  { s with net := { s.net with
      txFlows := s.net.txFlows.filter (fun g => !(g.dest == f.dest && g.cls == f.cls)) ++ [f] } }

/-- Numbers and routes the waiting transactions of a flow while its window allows (R345); n bounds the number waiting. -/
def State.pump (s : State) (f : TxFlow) : (n : Nat) → State
  | 0 => s.setTx f
  | n + 1 =>
    match f.waiting with
    | [] => s.setTx f
    | e :: rest =>
      if f.unacked.length ≤ s.fld Reg.BRIDE_ROUTE_TRANSPORT Fl.BRIDE_ROUTE_TRANSPORT_WINDOW then
        let t := { e.txn with seq := f.next, resync := f.resync }.sealed
        let f1 := { f with next := (f.next + 1) % 2 ^ 32, resync := false, waiting := rest,
                           unacked := f.unacked ++ [{ e with txn := t }] }
        ((s.setTx f1).route none t).pump f1 n
      else s.setTx f

/-- A fresh TAG (R346). -/
def State.freshTag (s : State) : Nat × State :=
  (s.net.nextTag, { s with net := { s.net with nextTag := (s.net.nextTag + 1) % 65536 } })

/-- Sends a transaction of this device for an owner: numbered types through their flow, others at once. A type that may
not name a group, and any transaction while the device has no valid ID, completes undeliverable without being sent (R338,
R356). -/
def State.sendTxn (s : State) (t : Txn) (owner : TxnOwner) : State :=
  let (tag, s0) := s.freshTag
  let t1 := { t with src := s0.deviceId, tag := tag }
  let groupOk := t.typ == 1 || t.typ == 4 || t.typ == 7 || (t.typ == 5 && decide (bitsOf t.address 17 3 ≤ 2))
  if s0.idValid = false ∨ (65280 ≤ t.dest ∧ groupOk = false) then
    (s0.count Reg.ROUTE_UNDELIVERABLE).conclude { txn := t1, owner := owner } .undeliverable
  else if !numberedType t.typ then s0.route none t1.sealed
  else
    let f := (findTx t.dest t.cls s0.net.txFlows).getD { dest := t.dest, cls := t.cls }
    s0.pump { f with waiting := f.waiting ++ [{ txn := t1, owner := owner }] } (f.waiting.length + 1)

/-- A device is a member that must answer a multicast (R356). -/
def State.answersNeeded (s : State) (dest : Nat) : Nat :=
  if 65280 ≤ dest then s.fld (Reg.MCAST (dest - 65280)) Fl.MCAST_MEMBERS + 1 else 1

/-- The unacknowledged entry of this device with a tag. -/
def findEntry (tag : Nat) : List TxFlow → Option (TxFlow × TxEntry)
  | [] => none
  | f :: rest =>
    match f.unacked.find? (fun e => e.txn.tag == tag) with
    | some e => some (f, e)
    | none => findEntry tag rest

/-- Whether an answer or a notice concerns an unanswered transaction of this device: it carries the TAG and SEQ that it
answers and, as a notice, the lost transaction's DEST (R352). -/
def State.concerns (s : State) (t : Txn) : Bool :=
  match findEntry t.tag s.net.txFlows with
  | some (_, e) => e.txn.seq == t.seq && (t.typ != 0x0A || e.txn.dest == t.address % 65536)
  | none => false

/-- Takes one answer of a numbered transaction: it ends when every device it needs has answered, and the flow's window
opens (R350, R356). -/
def State.answered (s : State) (tag from_ : Nat) (r : TxnResult) : State :=
  match findEntry tag s.net.txFlows with
  | none => s
  | some (f, e) =>
    let got := if e.answered.contains from_ then e.answered else e.answered ++ [from_]
    let good := r == .acked || r == .replied 0
    let worst := if good then e.refused else some r
    if s.answersNeeded e.txn.dest ≤ got.length ∨ r ≠ .acked ∧ e.txn.dest < 65280 then
      let f1 := { f with unacked := f.unacked.filter (fun g => g.txn.tag != tag) }
      (s.pump f1 f1.waiting.length).conclude e (worst.getD r)
    else
      let note := fun (g : TxEntry) => if g.txn.tag = tag then { g with answered := got, refused := worst } else g
      s.setTx { f with unacked := f.unacked.map note }

/-- Ends a list of transactions undeliverable, each counted in UNDELIVERABLE (R350). -/
def State.failEntries (s : State) : List TxEntry → State
  | [] => s
  | e :: rest => State.failEntries ((s.count Reg.ROUTE_UNDELIVERABLE).conclude e .undeliverable) rest

/-- Resends a transaction with RESEND = 1, or fails it and the flow's later unacknowledged ones after RETRY_LIMIT resends;
the flow's next transaction then carries RESYNC (R350). `why` is true for a NAK BUSY and a notice, false for a timeout; the two
at one time make one resend (R357; notes/assumptions/118). -/
def State.resend (s : State) (tag : Nat) (why : Bool) : State :=
  match findEntry tag s.net.txFlows with
  | none => s
  | some (f, e) =>
    if e.resent = some (!why, s.uptime) then s
    else if e.resends < s.fld Reg.BRIDE_ROUTE_TRANSPORT Fl.BRIDE_ROUTE_TRANSPORT_RETRY_LIMIT then
      let t := { e.txn with resend := true }.sealed
      let again := f.unacked.map (fun g => if g.txn.tag = tag then { g with txn := t, resends := e.resends + 1, resent := some (why, s.uptime) } else g)
      let f1 := { f with unacked := again }
      ((s.setTx f1).count Reg.ROUTE_RESENT).route none t
    else
      let keep := f.unacked.takeWhile (fun g => g.txn.tag != tag)
      let lost := f.unacked.dropWhile (fun g => g.txn.tag != tag)
      let f1 := { f with unacked := keep, resync := true }
      (s.pump f1 f1.waiting.length).failEntries lost

end Sys2Proof.Machine
end

