-- ==== Sys2Proof/Machine/KnotOps.lean ====
section
/-! DEFINITION. Knots (R180 to R203): one operation applies any knot operation with the arm's evaluation (R191), the
notification it causes (R192 to R194) and the fray's report (R203). -/

namespace Sys2Proof.Machine

/-- The bank of a knot (R38). -/
def bankOf (k : Nat) : Nat := k / 16384

/-- `KNOT[k].STATE` (R204). -/
def knotStateReg (k : Nat) : Nat := Reg.KNOT_STATE (k / 16384) (k % 16384)

/-- `KNOT[k].ARM` (R204). -/
def knotArmReg (k : Nat) : Nat := Reg.KNOT_ARM (k / 16384) (k % 16384)

/-- A knot's count. -/
def State.knotCount (s : State) (k : Nat) : Nat := s.fld (knotStateReg k) Fl.KNOT_STATE_COUNT

/-- A knot's FRAYED flag. -/
def State.knotFrayed (s : State) (k : Nat) : Bool := s.flag (knotStateReg k) Fl.KNOT_STATE_FRAYED

/-- A knot's ARMED flag. -/
def State.knotArmed (s : State) (k : Nat) : Bool := s.flag (knotStateReg k) Fl.KNOT_STATE_ARMED

/-- ge(count, v) of R181. -/
def knotGe (count v : Nat) : Bool := decide ((count % 2 ^ 32 + 2 ^ 32 - v % 2 ^ 32) % 2 ^ 32 < 2 ^ 31)

/-- A knot condition on a count: 1 GE, 2 EQUAL (R112). -/
def condHolds (cond count v : Nat) : Bool := if cond = 2 then count % 2 ^ 32 == v % 2 ^ 32 else knotGe count v

/-- Whether a knot belongs to tenant t (R185). -/
def State.knotOwned (s : State) (k : Nat) (t : Option Nat) : Bool := t.isSome && s.knotTenant k == t

/-- A segment accepts remote operations (R185). -/
def State.knotRemoteOk (s : State) (k : Nat) : Bool :=
  s.flag (Reg.KNOT_OWNER (k / 16384) (k % 16384 / 256)) Fl.KNOT_OWNER_REMOTE_OK

/-- The operations on a knot (R182, R205). A fray names its cause (R455); an arm its threshold, target, and for a remote
ARM or a register write the return knot and device; `write` is a register write of STATE. -/
inductive KnotChange where
  | set (v : Nat)
  | add (v : Nat)
  | fray (cause : Nat)
  | arm (threshold target : Nat) (returnKnot device : Option Nat)
  | write (count : Nat) (frayed : Bool)
  deriving DecidableEq, Repr

/-- The KNOT_NOTIFY record (R421). -/
def notifyBytes (phase : Nat) (x : Notify) (pendingFlag : Bool) : List Byte :=
  [1, BitVec.ofNat 8 (phase % 2), 0, 0] ++ bytesLE 4 (x.knot % 2 ^ 17) ++ bytesLE 4 x.count
    ++ [BitVec.ofNat 8 (x.frayed.toNat + 2 * x.armed.toNat + 4 * pendingFlag.toNat), BitVec.ofNat 8 x.cause, 0, 0]
    ++ bytesLE 4 x.stitch ++ List.replicate 12 0

/-- The function whose completion ring takes a tenant's records: its primary function, with the ring enabled (R194). -/
def State.completionFn (s : State) (t : Nat) : Option Nat :=
  match s.primaryFn t with
  | some f => if s.flag (Reg.FUNCTION_COMPLETION_RING f) Fl.FUNCTION_COMPLETION_RING_EN then some f else none
  | none => none

/-- The completion ring of function f is full (R421). -/
def State.completionFull (s : State) (f : Nat) : Bool :=
  let r := Reg.FUNCTION_COMPLETION_RING f
  let size := 2 ^ s.fld r Fl.FUNCTION_COMPLETION_RING_SIZE
  (s.fld r Fl.FUNCTION_COMPLETION_RING_WRITE_PTR + 1) % size
    == s.fld (Reg.FUNCTION_COMPLETION_READ f) Fl.FUNCTION_COMPLETION_READ_READ_PTR % size

/-- Writes one record into the completion ring of function f, with its interrupt (R421, R423). -/
def State.putCompletion (s : State) (f : Nat) (x : Notify) (waited : Bool) : State :=
  let r := Reg.FUNCTION_COMPLETION_RING f
  let size := 2 ^ s.fld r Fl.FUNCTION_COMPLETION_RING_SIZE
  let wp := s.fld r Fl.FUNCTION_COMPLETION_RING_WRITE_PTR % size
  let s1 := s.hostWrite f
    (s.fld (Reg.FUNCTION_COMPLETION_BASE f) Fl.FUNCTION_COMPLETION_BASE_ADDR * 4096 + wp * 32)
    (notifyBytes (s.phase r) x waited)
  let s2 := s1.setFld r Fl.FUNCTION_COMPLETION_RING_WRITE_PTR ((wp + 1) % size)
  let s3 := if (wp + 1) % size = 0 then s2.togglePhase r else s2
  if s3.flag r Fl.FUNCTION_COMPLETION_RING_INT_EN then
    s3.ringInterrupt r f (s3.fld r Fl.FUNCTION_COMPLETION_RING_VECTOR) (s3.fld r Fl.FUNCTION_COMPLETION_RING_HOLDOFF_US)
  else s3

/-- Keeps the PENDING flag of a knot: 1 while a record of it waits (R192). -/
def State.syncPending (s : State) (k : Nat) : State :=
  s.setFld (knotStateReg k) Fl.KNOT_STATE_PENDING (s.notifies.any (fun x => x.knot == k)).toNat

/-- Delivers a notification to the owner's completion ring, lets it wait behind earlier waiting records, or drops it
(R192, R194). -/
def State.notifyCompletion (s : State) (x : Notify) : State :=
  match s.knotTenant x.knot with
  | none => s.count (Reg.KNOT_NOTIFY_DROPPED (bankOf x.knot))
  | some t =>
    match s.completionFn t with
    | none => s.count (Reg.KNOT_NOTIFY_DROPPED (bankOf x.knot))
    | some f =>
      let y := { x with tenant := t }
      if s.completionFull f || s.notifies.any (fun z => z.tenant == t) then
        ({ s with notifies := s.notifies ++ [y] }).syncPending x.knot
      else s.putCompletion f y false

/-- Replaces the waiting records and refreshes a knot's PENDING flag. -/
def State.setNotifies (s : State) (rest : List Notify) (k : Nat) : State := ({ s with notifies := rest }).syncPending k

/-- Delivers the oldest waiting records of a tenant while its ring has space (R192); n bounds the number waiting. -/
def State.deliverPending (s : State) (t : Nat) : (n : Nat) → State
  | 0 => s
  | n + 1 =>
    match s.completionFn t, s.notifies.find? (fun x => x.tenant == t) with
    | some f, some x =>
      if s.completionFull f then s
      else ((s.putCompletion f x true).setNotifies (s.notifies.erase x) x.knot).deliverPending t n
    | _, _ => s

/-- Discards and counts the waiting records of a list (R194). -/
def State.dropNotifies (s : State) : List Notify → State
  | [] => s
  | x :: rest =>
    State.dropNotifies ((s.count (Reg.KNOT_NOTIFY_DROPPED (bankOf x.knot))).setNotifies (s.notifies.erase x) x.knot) rest

/-- Discards the waiting records whose tenant has no completion ring any more (R194). -/
def State.checkNotifies (s : State) : State :=
  s.dropNotifies (s.notifies.filter (fun x => (s.completionFn x.tenant).isNone))

/-- Reports a FRAY of knot k (R203). -/
def State.reportFray (s : State) (k cause : Nat) : State :=
  s.raise { cond := .frayedKnot, ribbon := .notice, source := source 2 (bankOf k) 1, tenant := s.knotTenant k,
            detail := k % 2 ^ 17 + cause % 8 * 2 ^ 17 + s.knotCount k * 2 ^ 32,
            counters := [Reg.KNOT_FRAYED_KNOT (bankOf k)] }

/-- Sends a KNOT_OP to another device for an owner: op 0 SET, 1 ADD, 2 FRAY, 3 TEST, 4 ARM (R352). -/
def State.sendKnotOp (s : State) (device cls tenant knot op value : Nat) (owner : TxnOwner) : State :=
  s.sendTxn { dest := device, src := 0, typ := 5, tenant := tenant, address := knot % 2 ^ 17 + op * 2 ^ 17, arg := value,
              cls := cls } owner

/-- Notifies the target of the arm of a knot with a valid owner (R191, R192): see `State.notify`. -/
def State.notifyTarget (s : State) (k cause : Nat) : State × List (Nat × KnotChange) :=
  let arm := knotArmReg k
  let ret := s.fld arm Fl.KNOT_ARM_RETURN_KNOT
  match s.fld arm Fl.KNOT_ARM_TARGET with
  | 0 =>
    (s.notifyCompletion { knot := k, tenant := 0, count := s.knotCount k, frayed := s.knotFrayed k,
                          armed := cause == 2, cause := cause, stitch := s.stitch % 2 ^ 32 }, [])
  | 1 => (s, [(ret, if cause = 0 then .add 1 else .fray 4)])
  | 2 =>
    (s.sendKnotOp (s.fld (knotStateReg k) Fl.KNOT_STATE_RETURN_DEVICE) 0 ((s.knotTenant k).getD 0) ret
      (if cause = 0 then 1 else 2) (if cause = 0 then 1 else 0) .notification, [])
  | _ => (s, [])

/-- Notifies the target of knot k's arm with a cause: 0 REACHED, 1 FRAYED, 2 REPLACED (R191, R192); the notifications of a knot
without a valid owner are discarded and counted (R194). The second part is the operation on a local return knot, still to be
applied. -/
def State.notify (s : State) (k cause : Nat) : State × List (Nat × KnotChange) :=
  if s.knotTenant k = none then (s.count (Reg.KNOT_NOTIFY_DROPPED (bankOf k)), []) else s.notifyTarget k cause

/-- Evaluates the arm of knot k after an operation on it (R191): an error takes precedence, and either notification clears
ARMED. -/
def State.evaluateArm (s : State) (k : Nat) : State × List (Nat × KnotChange) :=
  if !s.knotArmed k then (s, [])
  else
    let cleared := s.setFld (knotStateReg k) Fl.KNOT_STATE_ARMED 0
    if s.knotFrayed k then cleared.notify k 1
    else if knotGe (s.knotCount k) (s.fld (knotArmReg k) Fl.KNOT_ARM_THRESHOLD) then cleared.notify k 0
    else (s, [])

/-- Records an arm (R191). -/
def State.recordArm (s : State) (k threshold target : Nat) (returnKnot device : Option Nat) : State :=
  let a := knotArmReg k
  let s1 := (s.setFld a Fl.KNOT_ARM_THRESHOLD threshold).setFld a Fl.KNOT_ARM_TARGET target
  let s2 := match returnKnot with | some r => s1.setFld a Fl.KNOT_ARM_RETURN_KNOT r | none => s1
  let s3 := match device with | some d => s2.setFld (knotStateReg k) Fl.KNOT_STATE_RETURN_DEVICE d | none => s2
  s3.setFld (knotStateReg k) Fl.KNOT_STATE_ARMED 1

/-- The mask of the lost bytes of a register. -/
def lostMask (es : List (Nat × Nat)) : Nat :=
  es.foldl (fun m e => if byteLost e.2 then m ||| 255 * 2 ^ (8 * (e.1 % 8)) else m) 0

/-- The bank's read of a knot's bytes: a knot with a lost byte is rewritten with FRAYED = 1 and its lost bytes zero (R376,
R380). -/
def State.readKnot (s : State) (k : Nat) : State :=
  let a := knotStateReg k
  let b := knotArmReg k
  let ea := s.arrayErrors a
  let eb := s.arrayErrors b
  let r := s.readArrays (s.knotTenant k) [a, b]
  if r.2 then
    let s1 := r.1.wr a (r.1.rd a &&& ~~~BitVec.ofNat 64 (lostMask ea))
    let s2 := (s1.wr b (s1.rd b &&& ~~~BitVec.ofNat 64 (lostMask eb))).setFld a Fl.KNOT_STATE_FRAYED 1
    (s2.healArray a).healArray b
  else r.1

/-- A waiter meets an error on a knot: it is frayed, or a byte of it is lost (R188, R380). -/
def State.knotError (s : State) (k : Nat) : Bool :=
  s.knotFrayed k || (s.arrayErrors (knotStateReg k) ++ s.arrayErrors (knotArmReg k)).any (fun e => byteLost e.2)

/-- A waiter takes the error of a knot: a knot with a lost byte is rewritten frayed (R380). -/
def State.takeKnotError (s : State) (k : Nat) : State := if s.knotFrayed k then s else s.readKnot k

/-- The bank's one step on a knot (R183): the operation, the report of a fray, and the arm's evaluation. -/
def State.knotStep (s : State) (k : Nat) : KnotChange → State × List (Nat × KnotChange)
  | .set v => (s.setFld (knotStateReg k) Fl.KNOT_STATE_COUNT v).evaluateArm k
  | .add v => (s.setFld (knotStateReg k) Fl.KNOT_STATE_COUNT (s.knotCount k + v)).evaluateArm k
  | .fray cause => ((s.setFld (knotStateReg k) Fl.KNOT_STATE_FRAYED 1).reportFray k cause).evaluateArm k
  | .write count frayed =>
    let s1 := (s.setFld (knotStateReg k) Fl.KNOT_STATE_COUNT count).setFld (knotStateReg k) Fl.KNOT_STATE_FRAYED
      frayed.toNat
    (if frayed then s1.reportFray k 5 else s1).evaluateArm k
  | .arm threshold target returnKnot device =>
    let r := if s.knotArmed k then s.notify k 2 else (s, [])
    let q := (r.1.recordArm k threshold target returnKnot device).evaluateArm k
    (q.1, r.2 ++ q.2)

/-- Applies a list of knot operations and those their notifications cause; n bounds the number of steps. -/
def State.knotRun (s : State) : (n : Nat) → List (Nat × KnotChange) → State
  | _, [] => s
  | 0, _ :: _ => s
  | n + 1, (k, op) :: rest =>
    let r := (s.readKnot k).knotStep k op
    State.knotRun r.1 n (rest ++ r.2)

/-- One operation on knot k with all it causes on this device. Every notification spends an arm, so the registers in use
bound the chain. -/
def State.knotDo (s : State) (k : Nat) (op : KnotChange) : State := s.knotRun (s.regs.length + 3) [(k, op)]

/-- Clears ARMED without a notification (R205). -/
def State.disarm (s : State) (k : Nat) : State := s.setFld (knotStateReg k) Fl.KNOT_STATE_ARMED 0

/-! ### Remote operations at the destination (R193, R195) -/

/-- The flag bits of a reply entry (R328). -/
def State.knotFlags (s : State) (k : Nat) : Nat :=
  (s.knotFrayed k).toNat + 2 * (s.knotArmed k).toNat + 4 * (s.flag (knotStateReg k) Fl.KNOT_STATE_PENDING).toNat

/-- Whether a remote operation of tenant t on knot k is accepted (R185). -/
def State.remoteAccepted (s : State) (k t : Nat) : Bool := s.knotOwned k (some t) && s.knotRemoteOk k

/-- Whether the target of a remote ARM is accepted (R193). -/
def State.armTargetOk (s : State) (k target returnKnot : Nat) : Bool :=
  target == 0 || target == 2 || (target == 1 && s.knotOwned returnKnot (s.knotTenant k))

end Sys2Proof.Machine
end

