-- ==== Sys2Proof/Machine/CoreOps.lean ====
section
/-! DEFINITION. Cores: queue entries and command fields (R118), address generators (R75), the shuttle's stops (R105), the
completion of a command with its set field (R119), and the drain state machine of engines, cores and clusters (R98 to
R103). -/

namespace Sys2Proof.Machine

/-! ### The cores' tables -/

/-- The commands of engine queue e of core n, front first. -/
def State.queue (s : State) (n e : Nat) : List QEntry := Sparse.get (fun _ => []) s.core.queues (4 * n + e)

/-- Replaces the commands of a queue, with DEPTH and IN_FLIGHT (R105). -/
def State.setQueue (s : State) (n e : Nat) (q : List QEntry) : State :=
  let s1 := { s with core := { s.core with queues := Sparse.set (fun _ => []) s.core.queues (4 * n + e) q } }
  (s1.setFld (Reg.QUEUE_STATUS n e) Fl.QUEUE_STATUS_DEPTH q.length).setFld (Reg.QUEUE_STATUS n e)
    Fl.QUEUE_STATUS_IN_FLIGHT (q.filter (·.started)).length

/-- The staging register of engine e. -/
def State.staging (s : State) (n e : Nat) : BitVec 128 := Sparse.get (fun _ => 0) s.core.staging (4 * n + e)

/-- Writes a staging register. -/
def State.setStaging (s : State) (n e : Nat) (v : BitVec 128) : State :=
  { s with core := { s.core with staging := Sparse.set (fun _ => 0) s.core.staging (4 * n + e) v } }

/-- The launch queue of core n. -/
def State.launch (s : State) (n : Nat) : Launch := Sparse.get (fun _ => ({} : Launch)) s.core.launches n

/-- Writes the launch queue of core n. -/
def State.setLaunch (s : State) (n : Nat) (l : Launch) : State :=
  { s with core := { s.core with launches := Sparse.set (fun _ => ({} : Launch)) s.core.launches n l } }

/-- The shuttle of core n beside its registers. -/
def State.shuttle (s : State) (n : Nat) : Shuttle := Sparse.get (fun _ => ({} : Shuttle)) s.core.shuttles n

/-- Writes the shuttle of core n. -/
def State.setShuttle (s : State) (n : Nat) (x : Shuttle) : State :=
  { s with core := { s.core with shuttles := Sparse.set (fun _ => ({} : Shuttle)) s.core.shuttles n x } }

/-- Station slot j of core n beside its registers. -/
def State.station (s : State) (n j : Nat) : Station := Sparse.get (fun _ => ({} : Station)) s.core.stations (4 * n + j)

/-- Writes a station slot. -/
def State.setStation (s : State) (n j : Nat) (x : Station) : State :=
  { s with core := { s.core with stations := Sparse.set (fun _ => ({} : Station)) s.core.stations (4 * n + j) x } }

/-! ### Commands -/

/-- Bits [lo + width − 1 : lo] of a command. -/
def cmdField (c : BitVec 128) (lo width : Nat) : Nat := c.toNat / 2 ^ lo % 2 ^ width

/-- The common fields of R118. -/
def cmdOpcode (c : BitVec 128) : Nat := cmdField c 0 6
/-- S0_GENERATOR, when S0_ENABLE is 1 (R118). -/
def cmdS0 (c : BitVec 128) : Option Nat := if cmdField c 31 1 = 1 then some (cmdField c 28 3) else none
/-- S1_GENERATOR, when S1_ENABLE is 1 (R118). -/
def cmdS1 (c : BitVec 128) : Option Nat := if cmdField c 35 1 = 1 then some (cmdField c 32 3) else none
/-- STREAM_LENGTH (R118). -/
def cmdLength (c : BitVec 128) : Nat := cmdField c 36 16
/-- SET_PEER (R118). -/
def cmdSetPeer (c : BitVec 128) : Nat := cmdField c 52 4
/-- SET_OP (R118). -/
def cmdSetOp (c : BitVec 128) : Nat := cmdField c 56 3
/-- SET_KNOT (R118). -/
def cmdSetKnot (c : BitVec 128) : Nat := cmdField c 59 17
/-- WAIT_COND (R118). -/
def cmdWaitCond (c : BitVec 128) : Nat := cmdField c 76 3
/-- WAIT_KNOT (R118). -/
def cmdWaitKnot (c : BitVec 128) : Nat := cmdField c 79 17
/-- WAIT_VALUE (R118). -/
def cmdWaitValue (c : BitVec 128) : Nat := cmdField c 96 32
/-- The PEER field of a mover command; NOP has none and counts as PEER 0 (R121, R125; notes/assumptions/97). -/
def cmdPeer (c : BitVec 128) : Nat := if cmdOpcode c = 1 then 0 else cmdField c 12 4

/-- Whether the set field of a command of engine e names a knot of this device: SET_PEER 0, or 15 in a mover command whose
PEER names this device (R119; notes/assumptions/10). -/
def setIsLocal (c : BitVec 128) : Bool := cmdSetPeer c == 0 || (cmdSetPeer c == 15 && cmdPeer c == 0)

/-- The ordering class of a command's remote set: a mover's ORDER, else 0 (R119). -/
def setClass (e : Nat) (c : BitVec 128) : Nat := if 2 ≤ e ∧ cmdOpcode c ≠ 1 then cmdField c 20 2 else 0

/-! ### Address generators (R75) -/

/-- An entry of a list of numbers; 0 beyond its end. -/
def nth (l : List Nat) (i : Nat) : Nat := l.getD i 0

/-- Generator g of core n as its registers hold it. -/
def State.gen (s : State) (n g : Nat) : GenState :=
  { base := s.fld (Reg.GEN_BASE n g) Fl.GEN_BASE_ADDR,
    dims := s.fld (Reg.GEN_CONFIG n g) Fl.GEN_CONFIG_DIMS,
    counts := (List.range 6).map (fun d => s.fld (Reg.GEN_DIM n g d) Fl.GEN_DIM_COUNT + 1),
    strides := (List.range 6).map (fun d => signedOf 32 (s.fld (Reg.GEN_DIM n g d) Fl.GEN_DIM_STRIDE)),
    idx := (List.range 4).map (fun d => s.fld (Reg.GEN_INDEX n g) ⟨16 * d, 16⟩)
      ++ (List.range 2).map (fun d => s.fld (Reg.GEN_INDEX_HI n g) ⟨16 * d, 16⟩) }

/-- The exact sum of index times stride over the first n dimensions. -/
def genOffset : (n : Nat) → List Nat → List Int → Int
  | n + 1, i :: is, t :: ts => (i : Int) * t + genOffset n is ts
  | _, _, _ => 0

/-- address(g) of R75. -/
def GenState.address (g : GenState) : Nat :=
  (((g.base : Int) + genOffset g.dims g.idx g.strides) % (2 ^ 48 : Int)).toNat

/-- The indices after advance(g) over n dimensions, and whether the sequence wrapped (R75). -/
def advanceIdx : (n : Nat) → List Nat → List Nat → List Nat × Bool
  | 0, _, is => (is, true)
  | n + 1, c :: cs, i :: is =>
    if i + 1 < c then ((i + 1) :: is, false)
    else
      let r := advanceIdx n cs is
      (0 :: r.1, r.2)
  | _ + 1, _, is => (is, true)

/-- advance(g) of R75; the second part is END. -/
def GenState.advance (g : GenState) : GenState × Bool :=
  let r := advanceIdx g.dims g.counts g.idx
  ({ g with idx := r.1 }, r.2)

/-- Advances k times; the second part says whether the sequence wrapped. -/
def GenState.advanceBy (g : GenState) : (k : Nat) → GenState × Bool
  | 0 => (g, false)
  | k + 1 =>
    let r := g.advance
    let q := r.1.advanceBy k
    (q.1, r.2 || q.2)

/-- The generator just after its next wrap: every index of its dimensions is 0 (R75, R93). -/
def GenState.toWrap (g : GenState) : GenState :=
  { g with idx := List.replicate (min g.dims 6) 0 ++ g.idx.drop g.dims }

/-- Writes the indices of generator g of core n, and END. -/
def State.setGenIdx (s : State) (n g : Nat) (idx : List Nat) (ended : Bool) : State :=
  let lo := nth idx 0 + nth idx 1 * 2 ^ 16 + nth idx 2 * 2 ^ 32 + nth idx 3 * 2 ^ 48
  let hi := nth idx 4 + nth idx 5 * 2 ^ 16
  ((((s.wr (Reg.GEN_INDEX n g) (BitVec.ofNat 64 lo)).healArray (Reg.GEN_INDEX n g)).wr (Reg.GEN_INDEX_HI n g)
    (BitVec.ofNat 64 hi)).healArray (Reg.GEN_INDEX_HI n g)).setArr (Reg.GEN_CONFIG n g) Fl.GEN_CONFIG_END ended.toNat

/-- Advances generator g of core n once; END stays set once set (R75). -/
def State.advanceGen (s : State) (n g : Nat) : State :=
  let r := (s.gen n g).advance
  s.setGenIdx n g r.1.idx (s.flag (Reg.GEN_CONFIG n g) Fl.GEN_CONFIG_END || r.2)

/-- The advance of a generator bound to a port by a command of stream length L (R93). -/
def State.streamGen (s : State) (n g len : Nat) : State :=
  if len = 0 then s.setGenIdx n g (s.gen n g).toWrap.idx true
  else
    let r := (s.gen n g).advanceBy len
    s.setGenIdx n g r.1.idx (s.flag (Reg.GEN_CONFIG n g) Fl.GEN_CONFIG_END || r.2)

/-! ### The shuttle -/

/-- SHUTTLE.STATUS.STATE of core n: 0 IDLE, 1 RUNNING, 2 STALLED, 3 STOPPED, 4 DISABLED (R105). -/
def State.shuttleState (s : State) (n : Nat) : Nat := s.fld (Reg.SHUTTLE_STATUS n) Fl.SHUTTLE_STATUS_STATE

/-- The descriptor words of launch slot k. -/
def Launch.word (l : Launch) (k i : Nat) : Nat := (l.words.getD (8 * (k % 16) + i) 0).toNat

/-- Whether a descriptor waits in the launch queue (R94). -/
def Launch.waiting (l : Launch) : Bool := l.wp != l.rp && !l.stopping

/-- Shows STALL_CAUSE 3 while a START waits behind a running shuttle, and clears it otherwise (R105). -/
def State.syncStall (s : State) (n : Nat) : State :=
  if s.shuttleState n = 1 then
    s.setFld (Reg.SHUTTLE_STATUS n) Fl.SHUTTLE_STATUS_STALL_CAUSE
      (if (s.launch n).waiting && (s.launch n).word (s.launch n).rp 0 % 65536 == 1 then 3 else 0)
  else s

/-- Passes the front launch descriptor with a status (R94, R95). -/
def State.passLaunch (s : State) (n status : Nat) : State :=
  let l := s.launch n
  (s.setLaunch n { l with rp := (l.rp + 1) % 32, last := status, stopping := false }).syncStall n

/-- Stops the shuttle of core n with a reason; STOP_REQ clears, and a STOP descriptor that waited completes (R95, R105). -/
def State.stopShuttle (s : State) (n reason : Nat) : State :=
  let st := Reg.SHUTTLE_STATUS n
  let s1 := ((s.setFld st Fl.SHUTTLE_STATUS_STATE 3).setFld st Fl.SHUTTLE_STATUS_STALL_CAUSE 0).setFld st
    Fl.SHUTTLE_STATUS_STOP_REASON reason
  let s2 := (s1.setFld (Reg.SHUTTLE_CONTROL n) Fl.SHUTTLE_CONTROL_STOP_REQ 0).setShuttle n
    { s1.shuttle n with wait := none }
  if (s2.launch n).stopping then s2.passLaunch n 0 else s2

/-- Stalls the shuttle: cause 1 knot wait, 2 queue full of an engine (R105). -/
def State.stallShuttle (s : State) (n cause engine : Nat) : State :=
  let st := Reg.SHUTTLE_STATUS n
  ((s.setFld st Fl.SHUTTLE_STATUS_STATE 2).setFld st Fl.SHUTTLE_STATUS_STALL_CAUSE cause).setFld st
    Fl.SHUTTLE_STATUS_STALL_ENGINE engine

/-! ### Records of queues -/

/-- The CANCELLED record of a queue: the commands cancelled and the entry stitch (R103, R455). -/
def State.recordCancelled (s : State) (n e count entry : Nat) : State :=
  (s.countN (Reg.QUEUE_CANCELLED n e) count).raise
    { cond := .cancelled, ribbon := .notice, source := source 1 n e, tenant := s.coreTenant n,
      detail := count % 2 ^ 32 + entry % 2 ^ 64 * 2 ^ 32 }

/-- The ABORTED record of a queue (R103, R455). -/
def State.recordAborted (s : State) (n e count : Nat) (f : StepFail) : State :=
  (s.countN (Reg.QUEUE_ABORTED n e) count).raise
    { cond := .aborted, ribbon := .fault, source := source 1 n e, tenant := s.coreTenant n,
      detail := f.address % 2 ^ 48 + f.port % 256 * 2 ^ 48 + f.cause % 256 * 2 ^ 56 + count % 65536 * 2 ^ 64
        + f.device % 65536 * 2 ^ 80 }

/-! ### Completion (R119, R198) -/

/-- The status number of R105. -/
def CmdStatus.num : CmdStatus → Nat
  | .ok => 0 | .cancelled => 1 | .aborted => 2 | .frayedKnot => 3

/-- Applies a local set field with status OK (R119). -/
def State.applySet (s : State) (x : QEntry) : State :=
  if cmdSetOp x.cmd = 0 then s
  else s.knotDo (cmdSetKnot x.cmd) (.add (if cmdSetOp x.cmd = 2 then x.steps else 1))

/-- Frays the knot of a command's set field, local or remote, for a status other than OK (R119, R198). -/
def State.fraySet (s : State) (n e : Nat) (c : BitVec 128) (setDevice : Nat) (st : CmdStatus) : State :=
  if cmdSetOp c = 0 then s
  else if setIsLocal c then s.knotDo (cmdSetKnot c) (.fray (st.num - 1))
  else s.sendKnotOp setDevice (setClass e c) ((s.coreTenant n).getD 0) (cmdSetKnot c) 2 0
    (.knotFray n e (cmdSetKnot c))

/-- Sends the remote set of a command whose work has succeeded (R198). -/
def State.sendSet (s : State) (n e : Nat) (x : QEntry) : State :=
  s.sendKnotOp x.setDevice (setClass e x.cmd) ((s.coreTenant n).getD 0) (cmdSetKnot x.cmd) 1
    (if cmdSetOp x.cmd = 2 then x.steps % 2 ^ 32 else 1) (.knotSet n e x.uid (cmdSetKnot x.cmd))

/-- Counts a completion of a mover's queue (R383). -/
def State.countCompletion (s : State) (n e : Nat) : State :=
  let k := 4 * n + e
  let table := Sparse.set (fun _ => 0) s.core.completions k (Sparse.get (fun _ => 0) s.core.completions k + 1)
  { s with core := { s.core with completions := table } }

/-- The check of a command takes the steps at the head of a list that are decided, in step order; a refused step is left out
(R382, R383). -/
def QEntry.takeChecks (x : QEntry) : List CheckStep → QEntry
  | [] => { x with checks := [] }
  | c :: rest =>
    if c.waiting ≠ 0 then { x with checks := c :: rest }
    else
      QEntry.takeChecks
        (if c.refused then x
          else { x with crc := crcFeed (crcFeed x.crc (bytesLE 8 c.address)) c.bytes, fed := x.fed + 1,
                        poison := x.poison || c.poison }) rest

/-- A command that started and whose CHECK is REPORT, in a mover queue (R125). -/
def reportsCheck (e : Nat) (x : QEntry) : Bool :=
  decide (2 ≤ e) && decide (2 ≤ cmdOpcode x.cmd) && cmdField x.cmd 18 2 == 2 && x.started

/-- Byte 14 of a completion record (R383). -/
def reportFlags (x : QEntry) (st : CmdStatus) : Byte :=
  BitVec.ofNat 8 (x.poison.toNat + 2 * (decide (st = .aborted)).toNat)

/-- Writes bytes of a completion record, to device memory or a host window. -/
def State.putReport (s : State) (a : Nat) (bytes : List Byte) : State :=
  match placeOf a with
  | .host f w off =>
    s.hostWrite f (s.fld (Reg.FUNCTION_WINDOW_HOST_ADDR f w) Fl.FUNCTION_WINDOW_HOST_ADDR_ADDR * 4096 + off) bytes
  | _ => s.store a bytes []

/-- Writes the check and the completion record of a REPORT command that ends, over the steps that it completed, and where the
record stands (R382, R383). -/
def State.writeReport (s : State) (n e : Nat) (x0 : QEntry) (st : CmdStatus) : State × Option Nat :=
  let x := x0.takeChecks (x0.checks.filter (fun c => c.waiting == 0))
  if reportsCheck e x then
    let m := e - 2
    let s1 := s.setFld (Reg.MV_CHECK_RUNNING n m) Fl.MV_CHECK_RUNNING_CRC x.crc
    if s1.flag (Reg.MV_CHECK_CONTROL n m) Fl.MV_CHECK_CONTROL_RECORD_EN then
      let size := 2 ^ s1.fld (Reg.MV_REPORT_RING n m) Fl.MV_REPORT_RING_SIZE
      let wp := s1.fld (Reg.MV_REPORT_RING n m) Fl.MV_REPORT_RING_WRITE_PTR
      let a := (s1.rd (Reg.MV_REPORT_BASE n m)).toNat % 2 ^ 48 + wp % size * 16
      let bytes := bytesLE 4 (x.crc ^^^ 0xFFFFFFFF)
        ++ bytesLE 4 (Sparse.get (fun _ => 0) s1.core.completions (4 * n + e))
        ++ bytesLE 4 (match x.tag with | some (_, b) => b % 2 ^ 32 | none => 0xFFFFFFFF)
        ++ bytesLE 2 x.fed ++ [reportFlags x st, BitVec.ofNat 8 (cmdOpcode x.cmd)]
      if (s1.coreTenant n).any (fun t => s1.extentOk t a 16 true) then
        ((s1.putReport a bytes).setFld (Reg.MV_REPORT_RING n m) Fl.MV_REPORT_RING_WRITE_PTR ((wp + 1) % size), some a)
      else (s1.setFld (Reg.MV_CHECK_CONTROL n m) Fl.MV_CHECK_CONTROL_REPORT_LOST 1, none)
    else (s1, none)
  else (s, none)

/-- Counts the completion of a command and writes its report, unless that was done before its remote set was sent (R383). -/
def State.reportEnd (s : State) (n e : Nat) (x : QEntry) (st : CmdStatus) : State × QEntry :=
  if x.reported then (s, x)
  else
    let r := (s.countCompletion n e).writeReport n e x st
    (r.1, { x with reported := true, recordAt := r.2 })

/-- A command that reported before its remote set was refused: byte 14 of its record shows the abort (notes/assumptions/109). -/
def State.amendReport (s : State) (n : Nat) (x : QEntry) (st : CmdStatus) : State :=
  match x.recordAt with
  | some a =>
    if st = .aborted ∧ x.reported = true ∧ (s.coreTenant n).any (fun t => s.extentOk t a 16 true) = true then
      s.putReport (a + 14) [reportFlags x st]
    else s
  | none => s

/-- The wide accumulator of lane (r, c) of core n. -/
def State.wideAt (s : State) (n r c : Nat) : W32 := Sparse.get (fun _ => 0) s.core.wide (512 * n + 16 * r + c)

/-- Writes a wide accumulator. -/
def State.setWide (s : State) (n r c : Nat) (v : W32) : State :=
  { s with core := { s.core with wide := Sparse.set (fun _ => 0) s.core.wide (512 * n + 16 * r + c) v } }

/-- Every wide accumulator of core n takes a value of a function of the lane number 16r + c. -/
def State.setAllWide (s : State) (n : Nat) (f : Nat → W32) : State := iterate (fun i s => s.setWide n (i / 16) (i % 16) (f i)) 512 0 s

/-- The wide accumulators after a matrix command that completes ABORTED: undefined values (R146). -/
def State.freeWide (s : State) (n : Nat) : State :=
  let base := s.free
  { s.setAllWide n (fun i => BitVec.ofNat 32 (Config.freeValue (base + i))) with free := base + 512 }

/-- The key of element (r, c) of vector tile register v of core n. -/
def vregKey (n v r c : Nat) : Nat := ((32 * n + v) * 16 + r) * 16 + c

/-- An element of a vector tile register (R156). -/
def State.vreg (s : State) (n v r c : Nat) : W32 := Sparse.get (fun _ => 0) s.core.vregs (vregKey n v r c)

/-- Writes an element of a vector tile register. -/
def State.setVreg (s : State) (n v r c : Nat) (x : W32) : State :=
  let table := Sparse.set (fun _ => 0) s.core.vregs (vregKey n v r c) x
  { s with core := { s.core with vregs := table } }

/-- Undefined FP32 values in a block of the vector tile registers that a list names (R175). -/
def State.freeVregs (s : State) (n rows cols : Nat) : List Nat → State
  | [] => s
  | v :: rest =>
    let base := s.free
    let s1 := iterate (fun i t => t.setVreg n v (i / cols) (i % cols) (BitVec.ofNat 32 (Config.freeValue (base + i))))
      (rows * cols) 0 s
    State.freeVregs { s1 with free := base + rows * cols } n rows cols rest

/-- What a command that completes ABORTED leaves undefined in its engine: the wide accumulators (R146), or its slot's vector tile
registers in the elements of its block (R175). -/
def State.leaveUndefined (s : State) (n e : Nat) (x : QEntry) : State :=
  if e = 0 then (if 2 ≤ cmdOpcode x.cmd then s.freeWide n else s)
  else if e = 1 then s.freeVregs n x.block.1 x.block.2 x.vregs
  else s

/-- Removes a command from its queue with a status: LAST_STATUS, the completion number, the check record, the undefined
values of an aborted command (R146, R175), and the set field or the fray (R119). A command refused by its remote set frays nothing: `silent` (R198). -/
def State.finishCmd (s : State) (n e : Nat) (x : QEntry) (st : CmdStatus) (silent : Bool) : State :=
  let s1 := s.setQueue n e ((s.queue n e).filter (fun y => y.uid != x.uid))
  let s2 := s1.setFld (Reg.QUEUE_STATUS n e) Fl.QUEUE_STATUS_LAST_STATUS st.num
  let s3 := (((if st = .aborted then s2.leaveUndefined n e x else s2).amendReport n x st).reportEnd n e x st).1
  if st = .ok then (if setIsLocal x.cmd then s3.applySet x else s3)
  else if silent then s3 else s3.fraySet n e x.cmd x.setDevice st

/-! ### Retirement and the drain state machine (R98 to R103) -/

/-- Marks a unit of this chapter retired: the retirement map and STATE ABSENT (R98, R472). -/
def State.retireUnit (s : State) : DrainUnit → State
  | .queue n e =>
    (s.setBit (Reg.DEVICE_RETIRE_ENGINES ((4 * n + e) / 64)) ((4 * n + e) % 64)).setFld (Reg.QUEUE_STATUS n e)
      Fl.QUEUE_STATUS_STATE 3
  | .core n =>
    ((s.setBit (Reg.DEVICE_RETIRE_CORES (n / 64)) (n % 64)).setFld (Reg.CORE_UNIT_STATUS n) Fl.CORE_UNIT_STATUS_STATE
      3).setFld (Reg.SHUTTLE_STATUS n) Fl.SHUTTLE_STATUS_STATE 4
  | .cluster c =>
    (s.setBit Reg.DEVICE_RETIRE_UNITS c).setFld (Reg.CLUSTER_UNIT_STATUS c) Fl.CLUSTER_UNIT_STATUS_STATE 3
  | .tierQueue q =>
    (s.setBit Reg.DEVICE_RETIRE_QUEUES q).setFld (Reg.TIER_QUEUE_STATUS q) Fl.TIER_QUEUE_STATUS_STATE 3
  | .updateUnit u => (s.setBit Reg.DEVICE_RETIRE_UPDATE u).setFld (Reg.UNIT_STATUS u) Fl.UNIT_STATUS_STATE 3
  | .port p =>
    (s.setBit Reg.DEVICE_RETIRE_UNITS (16 + p)).setFld (Reg.BRIDE_PORT_STATUS p) Fl.BRIDE_PORT_STATUS_UNIT_STATE 3
  | .collective e =>
    (s.setBit Reg.DEVICE_RETIRE_QUEUES (32 + e)).setFld (Reg.COLLECTIVE_STATUS e) Fl.COLLECTIVE_STATUS_STATE 3

/-- Retires a unit: the device digest is then out of date (R365). -/
def State.retireNow (s : State) (u : DrainUnit) : State :=
  (s.retireUnit u).setFld Reg.DEVICE_DIGEST_STATUS Fl.DEVICE_DIGEST_STATUS_CURRENT 0

/-- A drain has ended: the drain is forgotten, and a retirement that waited for it takes effect (R98, R100). -/
def State.drainEnded (s : State) (u : DrainUnit) : State :=
  let s1 := { s with core := { s.core with drains := s.core.drains.filter (fun d => d.what != u) } }
  if s1.core.retiring.contains u then
    ({ s1 with core := { s1.core with retiring := s1.core.retiring.filter (fun v => v != u) } }).retireNow u
  else s1

/-- The drain of a unit. -/
def State.drainOf (s : State) (u : DrainUnit) : Option Drain := s.core.drains.find? (fun d => d.what == u)

/-- Records the entry stitch of a drain (R98). -/
def State.beginDrain (s : State) (u : DrainUnit) : State :=
  { s with core := { s.core with drains := s.core.drains ++ [{ what := u, entry := s.stitch, since := s.stitchClock }],
                                 entries := (u, s.stitch) :: s.core.entries.filter (fun x => x.1 != u) } }

/-- The entry stitch of a unit's last drain (R98). -/
def State.entryStitch (s : State) (u : DrainUnit) : Nat :=
  match s.core.entries.find? (fun x => x.1 == u) with
  | some x => x.2
  | none => 0

/-- QUEUE.STATUS.STATE of engine e of core n. -/
def State.queueState (s : State) (n e : Nat) : Nat := s.fld (Reg.QUEUE_STATUS n e) Fl.QUEUE_STATUS_STATE

/-- UNIT_STATUS.STATE of core n. -/
def State.coreState (s : State) (n : Nat) : Nat := s.fld (Reg.CORE_UNIT_STATUS n) Fl.CORE_UNIT_STATUS_STATE

/-- UNIT_STATUS.STATE of cluster c. -/
def State.clusterState (s : State) (c : Nat) : Nat := s.fld (Reg.CLUSTER_UNIT_STATUS c) Fl.CLUSTER_UNIT_STATUS_STATE

/-- An engine that is DISABLED or ABSENT. -/
def State.queueDown (s : State) (n e : Nat) : Bool := s.queueState n e == 2 || s.queueState n e == 3

/-- A draining queue with no command left is DISABLED (R98). -/
def State.checkQueue (s : State) (n e : Nat) : State :=
  if s.queueState n e = 1 ∧ s.queue n e = [] then
    (s.setFld (Reg.QUEUE_STATUS n e) Fl.QUEUE_STATUS_STATE 2).drainEnded (.queue n e)
  else s

/-- A draining core whose four engines are down is DISABLED (R101). -/
def State.checkCore (s : State) (n : Nat) : State :=
  let s1 := iterate (fun e s => s.checkQueue n e) 4 0 s
  if s1.coreState n = 1 ∧ (List.range 4).all (fun e => s1.queueDown n e) = true then
    (s1.setFld (Reg.CORE_UNIT_STATUS n) Fl.CORE_UNIT_STATUS_STATE 2).drainEnded (.core n)
  else s1

/-- A draining cluster whose cores are all down is DISABLED (R102). -/
def State.checkCluster (s : State) (c : Nat) : State :=
  if s.clusterState c = 1 ∧ (List.range 16).all (fun i => decide (2 ≤ s.coreState (16 * c + i))) = true then
    (s.setFld (Reg.CLUSTER_UNIT_STATUS c) Fl.CLUSTER_UNIT_STATUS_STATE 2).drainEnded (.cluster c)
  else s

/-- Takes what a completion or a drain of core n has brought to its end (R98, R101, R102). -/
def State.checkDrains (s : State) (n : Nat) : State := (s.checkCore n).checkCluster (n / 16)

/-- Cancels commands in order: each completes CANCELLED and its set knot is frayed (R98). -/
def State.cancelList (s : State) (n e : Nat) : List QEntry → State
  | [] => s
  | x :: rest => State.cancelList (s.finishCmd n e x .cancelled false) n e rest

/-- Cancels every command of a queue that has not started, with the one CANCELLED record of R103; `more` counts a staged
command cancelled with them (R100). -/
def State.cancelQueue (s : State) (n e entry more : Nat) : State :=
  let xs := (s.queue n e).filter (fun x => !x.started)
  let s1 := s.cancelList n e xs
  if xs.length + more = 0 then s1 else s1.recordCancelled n e (xs.length + more) entry

/-- The shuttle of core n is stalled on the full queue of engine e. -/
def State.stalledOn (s : State) (n e : Nat) : Bool :=
  s.shuttleState n == 2 && s.fld (Reg.SHUTTLE_STATUS n) Fl.SHUTTLE_STATUS_STALL_CAUSE == 2
    && s.fld (Reg.SHUTTLE_STATUS n) Fl.SHUTTLE_STATUS_STALL_ENGINE == e

/-- The device that SET_PEER names for a command of core n, as its PEER table stands. -/
def State.setDeviceNow (s : State) (n : Nat) (c : BitVec 128) : Nat :=
  s.fld (Reg.PEER n (if cmdSetPeer c = 15 then cmdPeer c else cmdSetPeer c)) Fl.PEER_DEVICE

/-- Cancels the staged command of a shuttle that stalls on the full queue of engine e: its set knot is frayed (R100). -/
def State.cancelStaged (s : State) (n e : Nat) : State :=
  ((s.setFld (Reg.QUEUE_STATUS n e) Fl.QUEUE_STATUS_LAST_STATUS 1).countCompletion n e).fraySet n e (s.staging n e)
    (s.setDeviceNow n (s.staging n e)) .cancelled

/-- Moves engine e of core n into DRAINING (R98, R103). A shuttle stalled on its full queue stops with `reason` and its
staged command is cancelled, where a reason is given (R100, R200). -/
def State.drainQueue (s : State) (n e : Nat) (reason : Option Nat) : State :=
  if s.queueState n e = 0 then
    let s1 := (s.setFld (Reg.QUEUE_STATUS n e) Fl.QUEUE_STATUS_STATE 1).beginDrain (.queue n e)
    let staged := reason.isSome && s1.stalledOn n e
    let s2 := s1.cancelQueue n e s1.stitch staged.toNat
    let s3 := if staged then (s2.cancelStaged n e).stopShuttle n (reason.getD 0) else s2
    s3.checkDrains n
  else s

/-- Completes every descriptor of the launch queue with status CANCELLED (R101). -/
def State.cancelLaunch (s : State) (n : Nat) : State :=
  let l := s.launch n
  if l.wp = l.rp then s
  else (s.setLaunch n { l with rp := l.wp, last := 2, stopping := false }).syncStall n

/-- Moves core n into DRAINING as one unit (R101). -/
def State.drainCore (s : State) (n : Nat) : State :=
  if s.coreState n = 0 then
    let s1 := (s.setFld (Reg.CORE_UNIT_STATUS n) Fl.CORE_UNIT_STATUS_STATE 1).beginDrain (.core n)
    let st := s1.shuttleState n
    let onQueue := st == 2 && s1.fld (Reg.SHUTTLE_STATUS n) Fl.SHUTTLE_STATUS_STALL_CAUSE == 2
    let s2 := iterate (fun e s => s.drainQueue n e (some 8)) 4 0 s1
    let e := s2.fld (Reg.SHUTTLE_STATUS n) Fl.SHUTTLE_STATUS_STALL_ENGINE
    let s3 := if st ≠ 1 ∧ st ≠ 2 ∨ s2.shuttleState n = 3 then s2
      else if onQueue then ((s2.cancelStaged n e).recordCancelled n e 1 (s2.entryStitch (.queue n e))).stopShuttle n 8
      else s2.stopShuttle n 8
    (s3.cancelLaunch n).checkDrains n
  else s

/-- Moves cluster c into DRAINING: its enabled cores and its controller (R102). -/
def State.drainCluster (s : State) (c : Nat) : State :=
  if s.clusterState c = 0 then
    let s1 := (s.setFld (Reg.CLUSTER_UNIT_STATUS c) Fl.CLUSTER_UNIT_STATUS_STATE 1).beginDrain (.cluster c)
    (iterate (fun i s => s.drainCore (16 * c + i)) 16 0 s1).checkCluster c
  else s

/-- The commands of a queue that a drain's end aborts: those in flight whose own work is not done (R98, R198). -/
def State.abortable (s : State) (n e : Nat) : List QEntry :=
  (s.queue n e).filter (fun x => x.started && !x.setSent)

/-- Aborts commands: each completes ABORTED and its set knot is frayed. -/
def State.abortList (s : State) (n e : Nat) : List QEntry → State
  | [] => s
  | x :: rest => State.abortList (s.finishCmd n e x .aborted false) n e rest

/-- Aborts at DRAIN_LIMIT what is still in flight in a draining queue, with the one ABORTED record of R103. -/
def State.abortQueue (s : State) (n e : Nat) : State :=
  let xs := s.abortable n e
  if xs = [] then s else (s.abortList n e xs).recordAborted n e xs.length { cause := 0 }

/-- The DRAIN_TIMEOUT record of core n: SUB is the engine, or 6 for the core as a whole (R98, R455). -/
def State.drainTimeout (s : State) (n sub entry : Nat) : State :=
  s.raise { cond := .drainTimeout, ribbon := .fault, source := source 1 n sub, tenant := s.coreTenant n,
            detail := entry % 2 ^ 64, counters := [Reg.CORE_DRAIN_TIMEOUT n] }

/-- DRAIN_LIMIT in stitches of core n; 0 acts as 1 (R105). -/
def State.drainLimit (s : State) (n : Nat) : Nat := max 1 (s.fld (Reg.CORE_DRAIN_LIMIT n) Fl.CORE_DRAIN_LIMIT_STITCHES)

end Sys2Proof.Machine
end

