-- ==== Sys2Proof/Machine/Access.lean ====
section
/-! DEFINITION. Who may read and write which register (R469, with R71, R104, R185, R232, R261, R264, R286, R308, R336, R368,
R394, R409, R430, R447, R464, R471, R473), the registers of absent units (R470), and the state before READY (R432). -/

namespace Sys2Proof.Machine

/-- What a BAR0 offset lies in: the blocks of R465 with the numbers the access rules use. -/
inductive Region where
  | device | tick | tickTenant (t : Nat) | mgmt (f : Nat) | event | eventTenant (t : Nat) | thermal (readable : Bool)
  | core (n : Nat) | knot (k : Nat) | knotOwner | bank | clusterUnit (c : Nat)
  | near | farUnwrite | far
  | unit (u : Nat) (counter : Bool) | schedule (k : Nat) | group (g : Nat) | gate (t : Nat) | telltale (g : Nat) | update
  | tierQueue (q : Nat) (owner : Bool) | tierTenant (t : Nat) (limit : Bool) | tierRegion | object (o : Nat) | tier
  | port (p : Nat) | pricking (t : Nat) | digest (t : Nat) | collective (e : Nat) (owner : Bool) | route
  | endpoint | coreOwner (n : Nat) | function (f : Nat) (binding : Bool) | host
  | securityOpen | feed | security | integrity | none
  deriving DecidableEq, Repr

/-- The region of an offset in a cluster block: c the cluster, r the offset within the block (R465, R204). -/
def clusterRegion (c r : Nat) : Region :=
  if r < 0x100000 then .core (16 * c + r / 0x10000)
  else if r < 0x140000 then .knot (16384 * c + (r - 0x100000) / 16)
  else if r < 0x140200 then .knotOwner
  else if r < 0x180000 then .bank
  else .clusterUnit c

/-- The region of an offset in the UPDATE block (R285, R308). -/
def updateRegion (off : Nat) : Region :=
  if 0x2801000 ≤ off ∧ off < 0x2802400 then
    let r := (off - 0x2801000) % 0x80
    .unit ((off - 0x2801000) / 0x80) (decide (0x10 ≤ r) && r != 0x50)
  else if 0x2804000 ≤ off ∧ off < 0x2806000 then .schedule ((off - 0x2804000) / 0x20)
  else if 0x2806000 ≤ off ∧ off < 0x2808000 then .gate ((off - 0x2806000) / 0x100)
  else if 0x2900000 ≤ off ∧ off < 0x2980000 then .group ((off - 0x2900000) / 0x80)
  else if 0x2A00000 ≤ off ∧ off < 0x2A20000 then .telltale ((off - 0x2A00000) / 0x20)
  else .update

/-- The region of an offset in the TIER block (R231). -/
def tierRegion (off : Nat) : Region :=
  if 0x2C01000 ≤ off ∧ off < 0x2C01800 then .tierQueue ((off - 0x2C01000) / 0x40) ((off - 0x2C01000) % 0x40 == 0x28)
  else if 0x2C02000 ≤ off ∧ off < 0x2C03000 then
    .tierTenant ((off - 0x2C02000) / 0x80) (decide ((off - 0x2C02000) % 0x80 < 0x30))
  else if 0x2C04000 ≤ off ∧ off < 0x2C0A200 then .tierRegion
  else if 0x2E00000 ≤ off then .object ((off - 0x2E00000) / 0x80)
  else .tier

/-- The region of an offset in the BRIDE_ROUTE block (R367). -/
def routeRegion (off : Nat) : Region :=
  if 0x3401000 ≤ off ∧ off < 0x3403000 then
    let t := (off - 0x3401000) / 0x100
    let r := (off - 0x3401000) % 0x100
    if r < 0x40 ∨ r = 0x88 then .digest t else if r = 0x80 then .pricking t else .route
  else if 0x3404000 ≤ off ∧ off < 0x3404400 then
    .collective ((off - 0x3404000) / 0x40) ((off - 0x3404000) % 0x40 == 0x28)
  else .route

/-- The region of an offset in the HOST block (R429). -/
def hostRegion (off : Nat) : Region :=
  if off < 0x3800400 then .endpoint
  else if off < 0x3800800 then .coreOwner ((off - 0x3800400) / 8)
  else if 0x3801000 ≤ off ∧ off < 0x3805000 then .function ((off - 0x3801000) / 0x200) ((off - 0x3801000) % 0x200 == 0)
  else .host

/-- The region of a BAR0 offset (R465). -/
def regionOf (off : Nat) : Region :=
  if off < 0x1000 then .device
  else if 0x100000 ≤ off ∧ off < 0x100300 then
    (if 0x100100 ≤ off then .tickTenant ((off - 0x100100) / 0x10) else .tick)
  else if 0x200000 ≤ off ∧ off < 0x208000 then .mgmt ((off - 0x200000) / 0x400)
  else if 0x400000 ≤ off ∧ off < 0x490000 then
    (if 0x402000 ≤ off ∧ off < 0x402800 then .eventTenant ((off - 0x402000) / 0x40) else .event)
  else if 0x800000 ≤ off ∧ off < 0x802000 then
    .thermal (off == 0x800008 || off == 0x800010 || off == 0x800018 || (decide (0x800100 ≤ off) && decide (off < 0x800140))
      || decide (0x801000 ≤ off))
  else if 0x1000000 ≤ off ∧ off < 0x2000000 then clusterRegion ((off - 0x1000000) / 0x200000) ((off - 0x1000000) % 0x200000)
  else if 0x2000000 ≤ off ∧ off < 0x2002000 then .near
  else if 0x2400000 ≤ off ∧ off < 0x2500000 then
    (let r := off % 0x20000; if r = 0x20 ∨ r = 0x28 ∨ r = 0x30 then .farUnwrite else .far)
  else if 0x2800000 ≤ off ∧ off < 0x2A20000 then updateRegion off
  else if 0x2C00000 ≤ off ∧ off < 0x3000000 then tierRegion off
  else if 0x3000000 ≤ off ∧ off < 0x3180000 then .port ((off - 0x3000000) / 0x10000)
  else if 0x3400000 ≤ off ∧ off < 0x3488000 then routeRegion off
  else if 0x3800000 ≤ off ∧ off < 0x3850000 then hostRegion off
  else if 0x3C00000 ≤ off ∧ off < 0x3E00000 then
    (if off = 0x3C00000 ∨ off = 0x3C00008 ∨ off = 0x3C00010 ∨ (0x3C00040 ≤ off ∧ off < 0x3C00080) then .securityOpen
     else if off = 0x3C00030 ∨ 0x3D00000 ≤ off then .feed else .security)
  else if 0x3E00000 ≤ off ∧ off < 0x3E1A000 then .integrity
  else .none

/-- The tenant of a parameter group (R264). -/
def State.groupTenant (s : State) (g : Nat) : Option Nat := s.ownerOf (Reg.UPDATE_GROUP_OWNER (g / 64))

/-- The tenant of a tier object (R214). -/
def State.objectTenant (s : State) (o : Nat) : Option Nat := s.ownerOf (Reg.TIER_OBJECT_OWNER (o / 256))

/-- The tenant a tier queue is bound to (R217). -/
def State.tierQueueTenant (s : State) (q : Nat) : Option Nat := s.ownerOf (Reg.TIER_QUEUE_OWNER q)

/-- The tenant a collective engine is bound to (R359). -/
def State.collectiveTenant (s : State) (e : Nat) : Option Nat := s.ownerOf (Reg.COLLECTIVE_OWNER e)

/-- Whether tenant t owns every enabled core of cluster c (R104). -/
def State.ownsCluster (s : State) (c t : Nat) : Bool :=
  (List.range 16).all (fun i => s.coreState (16 * c + i) != 0 || s.coreTenant (16 * c + i) == some t)

/-- The host-fed boot waits for an image (R436). -/
def State.feedWaits (s : State) : Bool := s.flag Reg.SECURITY_BOOT_STATUS Fl.SECURITY_BOOT_STATUS_HOST_FEED_WAIT

/-- What function f, acting for tenant t, may do with a region: read and write (R469; notes/assumptions/15). -/
def State.rights (s : State) (f t : Nat) : Region → Bool × Bool
  | .device => (true, false)
  | .tick => (true, false)
  | .tickTenant u => (u == t, u == t)
  | .mgmt g => (g == f, g == f)
  | .event => (s.fnPrivileged f, s.fnPrivileged f)
  | .eventTenant u => (s.fnPrivileged f || u == t, s.fnPrivileged f || u == t)
  | .thermal r => (r, false)
  | .core n => (s.coreTenant n == some t, s.coreTenant n == some t)
  | .knot k => (s.knotTenant k == some t, s.knotTenant k == some t)
  | .knotOwner => (true, false)
  | .bank => (true, true)
  | .clusterUnit c => (true, s.ownsCluster c t)
  | .near => (false, false)
  | .farUnwrite => (true, true)
  | .far => (false, false)
  | .unit _ c => (c, false)
  | .schedule k =>
    let own := s.fld (Reg.SCHEDULE_CONFIG k) Fl.SCHEDULE_CONFIG_OWNER == t
    (own, own)
  | .group g => (s.groupTenant g == some t, s.groupTenant g == some t)
  | .gate u => (u == t, u == t)
  | .telltale g => (s.groupTenant g == some t, s.groupTenant g == some t)
  | .update => (false, false)
  | .tierQueue q o => (s.tierQueueTenant q == some t, s.tierQueueTenant q == some t && !o)
  | .tierTenant u l => (u == t, u == t && !l)
  | .tierRegion => (true, false)
  | .object o => (s.objectTenant o == some t, s.objectTenant o == some t)
  | .tier => (true, true)
  | .port _ => (false, false)
  | .pricking u => (false, u == t)
  | .digest u => (u == t, false)
  | .collective e o => (s.collectiveTenant e == some t && !o, false)
  | .route => (false, false)
  | .endpoint => (true, false)
  | .coreOwner n => (s.coreTenant n == some t, false)
  | .function g b => (g == f, g == f && !b)
  | .host => (false, false)
  | .securityOpen => (true, false)
  | .feed => (false, f == 0 && s.feedWaits)
  | .security => (false, false)
  | .integrity => (false, false)
  | .none => (false, false)

/-- The unit whose block a region is has been fused off or retired (R470). -/
def State.regionAbsent (s : State) : Region → Bool
  | .core n => s.coreAbsent n
  | .clusterUnit c => s.clusterAbsent c
  | .port p => s.portAbsent p
  | .unit u _ => s.updateUnitAbsent u
  | .tierQueue q _ => s.tierQueueAbsent q
  | .collective e _ => s.collectiveAbsent e
  | _ => false

/-- What a function reaches before READY: reads of the DEVICE block, BOOT_STATUS, UPTIME_NS and FIRMWARE, and the feed
registers' writes (R432). -/
def beforeReady (off : Nat) : Region → Bool × Bool
  | .device => (true, false)
  | .securityOpen => (decide (off < 0x3C00040), false)
  | .feed => (false, true)
  | _ => (false, false)

/-- Function f decodes its BARs: its endpoint has a clock (R405), it is in D0 with Memory Space Enable, and its tenant is not in
a function-level reset (R410, R413, R425). -/
def State.barOpen (s : State) (f t : Nat) : Bool :=
  s.clocked && !(s.cfg f).d3hot && (s.cfg f).memSpace && !s.inReset t

/-- The chapter of a region leaves its writes to Tambour, or to Tambour and functions, so that the debug port has none (R47, R183,
R209, R218, R286, R336, R368, R409, R413, R469). -/
def tambourOnly : Region → Bool
  | .tick | .knotOwner | .tierRegion | .port _ | .route | .digest _ | .pricking _ | .thermal _ | .coreOwner _ | .update | .far => true
  | .collective .. | .unit .. => true
  | .tierTenant _ l => l
  | .tierQueue _ o => o
  | .function _ b => b
  | _ => false

/-- Whether a requester may write a register (R469, R470; the debug port: notes/assumptions/15). The feed registers take writes
from function 0 alone (R447). -/
def State.mayWrite (s : State) (who : Requester) (off : Nat) : Bool :=
  let r := regionOf off
  !s.regionAbsent r &&
    match who with
    | .tambour => r != .none && r != .feed
    | .debugPort => r != .none && r != .feed && !tambourOnly r && s.bit Reg.SECURITY_DEBUG 1
    | .function f =>
      match s.fnTenant f.val with
      | none => false
      | some t => s.barOpen f.val t && (s.rights f.val t r).2 && (s.ready || (beforeReady off r).2)

/-- Whether a requester may read a register. -/
def State.mayRead (s : State) (who : Requester) (off : Nat) : Bool :=
  let r := regionOf off
  match who with
  | .tambour => r != .none
  | .debugPort => r != .none && s.bit Reg.SECURITY_DEBUG 1
  | .function f =>
    match s.fnTenant f.val with
    | none => false
    | some t => s.barOpen f.val t && (s.rights f.val t r).1 && (s.ready || (beforeReady off r).1)

/-- Carries out a register write if its requester may make it. -/
def State.guarded (s : State) (who : Requester) (off : Nat) (f : State → State) : State :=
  if s.mayWrite who off then f s else s

end Sys2Proof.Machine
end

