-- ==== Sys2Proof/Machine/TierOps.lean ====
section
/-! DEFINITION. Schedule-list entries (R218), the tier queues' staging and fronts (R217, R219), and the beginning of the wait
of a KNOT trigger. -/

namespace Sys2Proof.Machine

/-! ### Entries -/

/-- A field of n bytes of an entry. -/
def TierEntry.field (x : TierEntry) (lo n : Nat) : Nat := natLE ((x.bytes.drop lo).take n)

/-- OP (R218). -/
def TierEntry.op (x : TierEntry) : Nat := x.field 0 1
/-- TRIGGER: 0 NONE, 1 STITCH, 2 KNOT (R218). -/
def TierEntry.trigger (x : TierEntry) : Nat := x.field 1 1
/-- SERIAL (R218). -/
def TierEntry.serial (x : TierEntry) : Bool := bitsOf (x.field 2 1) 2 1 == 1
/-- OBJECT (R218). -/
def TierEntry.object (x : TierEntry) : Nat := bitsOf (x.field 4 2) 0 14
/-- The boundary of a STITCH trigger (R218). -/
def TierEntry.boundary (x : TierEntry) : Nat := x.field 8 8
/-- The knot of a KNOT trigger (R218). -/
def TierEntry.knot (x : TierEntry) : Nat := bitsOf (x.field 8 8) 0 17
/-- The value of a KNOT trigger (R218). -/
def TierEntry.value (x : TierEntry) : Nat := bitsOf (x.field 8 8) 32 32
/-- DONE_KNOT, when it is enabled (R218). -/
def TierEntry.done (x : TierEntry) : Option Nat :=
  if bitsOf (x.field 16 4) 31 1 = 1 then some (bitsOf (x.field 16 4) 0 17) else none

/-- The entry has been fetched. -/
def TierEntry.here (x : TierEntry) : Bool := !x.bytes.isEmpty

/-- A KNOT or reserved trigger that can never be watched: a reserved code or bit, or a knot that is not the tenant's (R219). -/
def State.badTrigger (s : State) (t : Option Nat) (x : TierEntry) : Bool :=
  decide (2 < x.trigger)
    || (x.trigger == 2 && (bitsOf (x.field 8 8) 17 15 != 0 || !s.knotOwned x.knot t))

/-! ### Queues -/

/-- Tier queue q beside its registers. -/
def State.tierQ (s : State) (q : Nat) : TierQueue := Sparse.get (fun _ => {}) s.tier.queues q

/-- Writes a tier queue, keeping IN_FLIGHT. -/
def State.setTierQ (s : State) (q : Nat) (x : TierQueue) : State :=
  ({ s with tier := { s.tier with queues := Sparse.set (fun _ => {}) s.tier.queues q x } }).setFld
    (Reg.TIER_QUEUE_STATUS q) Fl.TIER_QUEUE_STATUS_IN_FLIGHT x.flight.length

/-- STATUS.STATE of tier queue q. -/
def State.tierState (s : State) (q : Nat) : Nat := s.fld (Reg.TIER_QUEUE_STATUS q) Fl.TIER_QUEUE_STATUS_STATE

/-- The front entry of a queue, when everything but its trigger lets it start (R219). -/
def State.tierFront (s : State) (q : Nat) : Option TierEntry :=
  let x := s.tierQ q
  match x.staged with
  | [] => none
  | e :: _ =>
    if e.here && s.clocked && s.tierState q == 0 && decide (x.flight.length < 16) && (!e.serial || x.flight.isEmpty)
    then some e else none

/-- The trigger of an entry holds, or can never be watched, or its knot is frayed (R219). -/
def State.triggerHolds (s : State) (t : Option Nat) (x : TierEntry) : Bool :=
  s.badTrigger t x ||
    match x.trigger with
    | 1 => decide (x.boundary ≤ s.stitch)
    | 2 => s.knotError x.knot || knotGe (s.knotCount x.knot) x.value
    | _ => true

/-- The front entry of a queue that waits for its KNOT trigger. -/
def State.tierWaiting (s : State) (q : Nat) : Option TierEntry :=
  match s.tierFront q with
  | some e => if e.trigger = 2 ∧ s.triggerHolds (s.tierQueueTenant q) e = false then some e else none
  | none => none

/-- Replaces the front entry of a queue. -/
def State.setTierFront (s : State) (q : Nat) (e : TierEntry) : State :=
  let x := s.tierQ q
  s.setTierQ q { x with staged := e :: x.staged.drop 1 }

/-- Marks the beginning of the waits of a list of queues (R219). -/
def State.markTierList (s : State) : List Nat → State
  | [] => s
  | q :: rest =>
    State.markTierList
      (match s.tierWaiting q with
        | some e => if e.since.isNone then s.setTierFront q { e with since := some s.stitchClock } else s
        | none => s) rest

/-- Marks every KNOT trigger whose wait has begun in the stitch that ends. -/
def State.markTiers (s : State) : State := s.markTierList (s.tier.queues.map (·.1))

end Sys2Proof.Machine
end

