-- ==== Sys2Proof/Machine/Waits.lean ====
section
/-! DEFINITION. The step machines and the collective engines beside their registers, and the beginning of their waits (R299,
R219, R368). -/

namespace Sys2Proof.Machine

/-! ### Step machines (R289) -/

/-- Tenant t's step machine beside its registers. -/
def State.gateRun (s : State) (t : Nat) : GateRun := Sparse.get (fun _ => {}) s.upd.gates t

/-- Writes tenant t's step machine. -/
def State.setGateRun (s : State) (t : Nat) (x : GateRun) : State :=
  { s with upd := { s.upd with gates := Sparse.set (fun _ => {}) s.upd.gates t x } }

/-- GATE_STATE: 0 DISARMED, 1 REDUCE, 2 SCANNING, 3 GATHERING, 4 APPLYING, 5 REFUSED (R289). -/
def State.gateState (s : State) (t : Nat) : Nat := s.fld (Reg.GATE_STATE t) Fl.GATE_STATE_STATE

/-- The trigger knot of tenant t (R290). -/
def State.gateKnot (s : State) (t : Nat) : Nat := s.fld (Reg.GATE_CONTROL t) Fl.GATE_CONTROL_TRIGGER_KNOT

/-- A step machine in REDUCE waits on a frayed trigger knot (R290, R299). -/
def State.gateStuck (s : State) (t : Nat) : Bool := s.gateState t == 1 && s.knotError (s.gateKnot t)

/-- Marks when a step machine's wait on a frayed trigger knot began. -/
def State.markGate (s : State) (t : Nat) : State :=
  let x := s.gateRun t
  if s.gateState t ≠ 1 then s
  else if s.gateStuck t = false then s.setGateRun t { x with since := none }
  else if x.since.isNone then s.setGateRun t { x with since := some s.stitchClock }
  else s

/-- Marks the waits of every step machine. -/
def State.markGates (s : State) : State := iterate (fun t s => s.markGate t) 32 0 s

/-! ### Collective engines (R359) -/

/-- Collective engine e beside its registers. -/
def State.collE (s : State) (e : Nat) : CollEngine := Sparse.get (fun _ => {}) s.coll.engines e

/-- Writes collective engine e. -/
def State.setCollE (s : State) (e : Nat) (x : CollEngine) : State :=
  { s with coll := { s.coll with engines := Sparse.set (fun _ => {}) s.coll.engines e x } }

/-- STATUS.STATE of collective engine e. -/
def State.collUnit (s : State) (e : Nat) : Nat := s.fld (Reg.COLLECTIVE_STATUS e) Fl.COLLECTIVE_STATUS_STATE

/-- The front descriptor of an engine, when everything but its trigger lets it start: one collective at a time (R359). -/
def State.collFront (s : State) (e : Nat) : Option TierEntry :=
  let x := s.collE e
  match x.staged with
  | [] => none
  | d :: _ => if d.here && s.clocked && s.collUnit e == 0 && x.run.isNone then some d else none

/-- The front descriptor that waits for its KNOT trigger. -/
def State.collWaiting (s : State) (e : Nat) : Option TierEntry :=
  match s.collFront e with
  | some d => if d.trigger = 2 ∧ s.triggerHolds (s.collectiveTenant e) d = false then some d else none
  | none => none

/-- Replaces the front descriptor of an engine. -/
def State.setCollFront (s : State) (e : Nat) (d : TierEntry) : State :=
  let x := s.collE e
  s.setCollE e { x with staged := d :: x.staged.drop 1 }

/-- Marks the beginning of the waits of a list of engines. -/
def State.markColls (s : State) : List Nat → State
  | [] => s
  | e :: rest =>
    State.markColls
      (match s.collWaiting e with
        | some d => if d.since.isNone then s.setCollFront e { d with since := some s.stitchClock } else s
        | none => s) rest

/-- Marks every wait of the tier queues, the step machines and the collective engines that has begun in the stitch that
ends. -/
def State.markOthers (s : State) : State :=
  let s1 := s.markTiers.markGates
  s1.markColls (s1.coll.engines.map (·.1))

end Sys2Proof.Machine
end

