-- ==== Sys2Proof/Machine/Far.lean ====
section
/-! DEFINITION. The far-memory controllers' own commands: write-back and write batches (R238, R242), refresh (R259), UNWRITE
(R250), targeted self-tests with darning and retirement (R253 to R257), and the ACK of a retirement (R256). -/

namespace Sys2Proof.Machine

/-! ### Write-back, batches, refresh -/

/-- WCB_WRITE_BACK (R238): a line leaves the buffer in the background while its stack writes back. -/
def execWcbWriteBack (line : Nat) (s : State) : Result :=
  let k := line * 64 / 0x002000000000
  let s := s.begin
  finish (if (wcbMask line s.mem.wcb).isSome ∧ NatSet.has s.mem.wcbBusy k = true then (s.writeBack line).markWcb k else s)

/-- Issues a list of line writes to the DRAM. -/
def State.linesToDram (s : State) : List Nat → State
  | [] => s
  | l :: rest => State.linesToDram (s.lineToDram l) rest

/-- WRITE_BATCH (R242): with 32 lines queued the pseudo-channel writes until 8 remain; otherwise its read queues are empty
and it writes until its queue is empty. -/
def execWriteBatch (k : Fin 8) (pc : Fin 64) (s : State) : Result :=
  let s := s.begin
  let mine := s.mem.writeQueue.filter (fun l => farUnit (l * 64) == 1000 + 64 * k.val + pc.val)
  let batch := if 32 ≤ mine.length then mine.take (mine.length - 8) else mine
  let s1 := { s with mem := { s.mem with writeQueue := s.mem.writeQueue.filter (fun l => !batch.contains l) } }
  finish (s1.linesToDram batch)

/-- PER_BANK_REFRESH (R259): a refresh proceeds in banks that no stream uses and shows in no state of the block. -/
def execPerBankRefresh (s : State) : Result := finish s.begin

/-! ### UNWRITE (R250) -/

/-- The bytes of a stack (R1, R235). -/
def State.stackBytes (s : State) : Nat := if s.is7160 then 0x001800000000 else 0x002000000000

/-- Whether a bank region (bank, region) has a page among the `n` pages of its stack from page `first` (R256): the region
has 16 pages in each of its 64 rows. -/
def regionMeets (bank region first n : Nat) : Bool :=
  (List.range 64).any (fun r =>
    let lo := (64 * region + r) * 1024 + (bank ^^^ r) * 16
    decide (lo < first + n) && decide (first < lo + 16))

/-- Whether a run of pages of stack k meets a region that is RETIRED (`done`) or RETIRING. -/
def State.runRetired (s : State) (k first n : Nat) (done : Bool) : Bool :=
  (List.range (s.fld (Reg.FAR_RETIRED_PAGES k) Fl.FAR_RETIRED_PAGES_PAGES / 1024)).any (fun r =>
    let off := Reg.FAR_RETIRE k r
    s.flag off Fl.FAR_RETIRE_VALID && s.flag off Fl.FAR_RETIRE_RETIRED == done
      && regionMeets (s.fld off Fl.FAR_RETIRE_BANK) (s.fld off Fl.FAR_RETIRE_REGION) first n)

/-- Whether tenant t may write every 1 GiB region that a far extent touches (R209). -/
def State.mayWriteRegions (s : State) (t a len : Nat) : Bool :=
  (List.range ((a % 0x40000000 + len - 1) / 0x40000000 + 1)).all (fun i =>
    regionOpen (s.rd (Reg.TIER_REGION_FAR (a / 0x40000000 + i))) t true)

/-- The tenant whose rights a requester's operation uses; Tambour and the debug port act for none. -/
def State.actingTenant (s : State) : Requester → Option Nat
  | .function f => s.fnTenant f.val
  | _ => none

/-- The ERR code of an UNWRITE of stack k, 0 when it is accepted (R250). -/
def State.unwriteErr (s : State) (who : Requester) (k : Nat) : Nat :=
  let base := s.fld (Reg.FAR_UNWRITE_BASE k) Fl.FAR_UNWRITE_BASE_ADDR * 4096
  let n := s.fld (Reg.FAR_UNWRITE_CONTROL k) Fl.FAR_UNWRITE_CONTROL_PAGES + 1
  let knot := s.fld (Reg.FAR_UNWRITE_CONTROL k) Fl.FAR_UNWRITE_CONTROL_DONE_KNOT
  let start := k * 0x002000000000
  let first := (base - start) / 4096
  if s.stackAbsent k = true ∨ base < start ∨ start + s.stackBytes < base + n * 4096 ∨ s.runRetired k first n true = true then 1
  else
    let t := s.actingTenant who
    if t.any (fun t => !s.mayWriteRegions t base (n * 4096)) then 2
    else if s.flag (Reg.FAR_UNWRITE_CONTROL k) Fl.FAR_UNWRITE_CONTROL_DONE_EN = true ∧ t.isSome = true
        ∧ s.knotTenant knot ≠ t then 3
    else if s.flag (Reg.FAR_UNWRITE_STATUS k) Fl.FAR_UNWRITE_STATUS_BUSY then 4
    else if s.runRetired k first n false then 5
    else 0

/-- A write of the high half of UNWRITE_CONTROL (R250). -/
def State.writeUnwrite (s : State) (who : Requester) (k : Nat) (v : Word) : State :=
  let off := Reg.FAR_UNWRITE_CONTROL k
  let s1 := ((s.setFld off Fl.FAR_UNWRITE_CONTROL_PAGES (Fl.FAR_UNWRITE_CONTROL_PAGES.read v)).setFld off
    Fl.FAR_UNWRITE_CONTROL_DONE_KNOT (Fl.FAR_UNWRITE_CONTROL_DONE_KNOT.read v)).setFld off
    Fl.FAR_UNWRITE_CONTROL_DONE_EN (Fl.FAR_UNWRITE_CONTROL_DONE_EN.read v)
  let e := s1.unwriteErr who k
  if e ≠ 0 then s1.setFld (Reg.FAR_UNWRITE_STATUS k) Fl.FAR_UNWRITE_STATUS_ERR e
  else
    let knot := if s1.flag off Fl.FAR_UNWRITE_CONTROL_DONE_EN then some (s1.fld off Fl.FAR_UNWRITE_CONTROL_DONE_KNOT) else none
    let run : UnwriteRun := ⟨k, s1.fld (Reg.FAR_UNWRITE_BASE k) Fl.FAR_UNWRITE_BASE_ADDR,
      s1.fld off Fl.FAR_UNWRITE_CONTROL_PAGES + 1, knot⟩
    let s2 := s1.setFld (Reg.FAR_UNWRITE_STATUS k) Fl.FAR_UNWRITE_STATUS_BUSY 1
    { s2 with mem := { s2.mem with unwrites := s2.mem.unwrites ++ [run] } }

/-- UNWRITE_START (R250). -/
def execUnwriteStart (who : Requester) (k : Fin 8) (v : Word) (s : State) : Result :=
  finish (s.begin.guarded who (Reg.FAR_UNWRITE_CONTROL k) fun s => s.writeUnwrite who k v)

/-- UNWRITE_COMPLETE (R250): the pages of the run are unwritten, and DONE_KNOT counts one. -/
def execUnwriteComplete (k : Fin 8) (s : State) : Result :=
  let s := s.begin
  match s.mem.unwrites.find? (fun u => u.stack == k.val) with
  | none => finish s
  | some u =>
    let s1 := { s with mem := { s.mem with unwrites := s.mem.unwrites.filter (fun w => w.stack != k.val) } }
    let s2 := ((s1.eraseExtent (u.first * 4096) (u.pages * 4096)).markWcb k).setFld (Reg.FAR_UNWRITE_STATUS k)
      Fl.FAR_UNWRITE_STATUS_BUSY 0
    finish (match u.knot with
      | some d => s2.knotDo d (.add 1)
      | none => s2)

/-! ### Self-tests, darning, retirement (R253 to R257) -/

/-- The repair log holds 8,192 entries; a full log is rewritten without the entries that were repaired (R258). -/
def State.logRepair (s : State) (x : RepairEntry) : State :=
  let l := s.fw.repairLog
  let kept := if 8192 ≤ l.length then l.filter (fun e => e.repair != 0) else l
  { s with fw := { s.fw with repairLog := if kept.length < 8192 then kept ++ [x] else kept } }

/-- The valid entries of a darn table from entry i on, at most n: entries are filled from 0 up. -/
def State.darnEntries (s : State) (k : Nat) : (n i : Nat) → List Nat
  | 0, _ => []
  | n + 1, i => if s.flag (Reg.FAR_DARN k i) Fl.FAR_DARN_VALID then i :: State.darnEntries s k n (i + 1) else []

/-- The darn table of stack k. -/
def State.darns (s : State) (k : Nat) : List Nat := s.darnEntries k 4096 0

/-- Whether a darn entry is of a bank of a pseudo-channel. -/
def State.darnOf (s : State) (k pc bank i : Nat) : Bool :=
  s.fld (Reg.FAR_DARN k i) Fl.FAR_DARN_PC == pc && s.fld (Reg.FAR_DARN k i) Fl.FAR_DARN_BANK == bank

/-- The next free spare row of a bank, of 32 or 24 (R235, R254). -/
def State.nextSpare (s : State) (k pc bank : Nat) : Option Nat :=
  let mine := (s.darns k).filter (s.darnOf k pc bank)
  let next := mine.foldl (fun m i => max m (s.fld (Reg.FAR_DARN k i) Fl.FAR_DARN_SPARE + 1)) 0
  if next < (if s.is7160 then 24 else 32) then some next else none

/-- A bank region's failure count: the sum of DARNS over its entries (R255). -/
def State.regionFailures (s : State) (k pc bank region : Nat) : Nat :=
  ((s.darns k).filter (fun i => s.darnOf k pc bank i && s.fld (Reg.FAR_DARN k i) Fl.FAR_DARN_ROW / 64 == region)).foldl
    (fun m i => m + s.fld (Reg.FAR_DARN k i) Fl.FAR_DARN_DARNS) 0

/-- Writes a darn entry of a row: its own where it has one, which counts a second darn, else the next free one (R254). -/
def State.putDarn (s : State) (k pc bank row spare : Nat) : State :=
  let mine := (s.darns k).find? (fun i => s.darnOf k pc bank i && s.fld (Reg.FAR_DARN k i) Fl.FAR_DARN_ROW == row)
  let i := mine.getD (s.darns k).length
  let n := if mine.isSome then 2 else 1
  s.wr (Reg.FAR_DARN k i) (BitVec.ofNat 64
    (1 + n * 2 + pc % 64 * 2 ^ 8 + bank % 64 * 2 ^ 16 + row % 2 ^ 15 * 2 ^ 22 + spare % 32 * 2 ^ 40))

/-- A beat of the row buffer written back: corrected where it can be, poisoned where it cannot (R253). -/
def State.rewriteBeat (s : State) (key e : Nat) : State :=
  match farOutcome e with
  | .clean r => s.absorb key r 0
  | .corrected r _ _ => s.absorb key r 0
  | _ =>
    let s1 := s.clearUpsets key 1
    { s1 with mem := { s1.mem with poison := NatSet.add s1.mem.poison (key - 2 ^ 44) } }

/-- Writes beats of a row buffer back. -/
def State.rewriteBeats (s : State) : List (Nat × Nat) → State
  | [] => s
  | (k, e) :: rest => State.rewriteBeats (s.rewriteBeat k e) rest

/-- The beats of a row of a pseudo-channel that hold latent errors. -/
def State.rowErrors (s : State) (k pc bank row : Nat) : List (Nat × Nat) :=
  s.mem.upsets.filter (fun e =>
    isBeat e.1 && farTest ((e.1 - 2 ^ 44) * 32) == { unit := 1000 + 64 * k + pc, bank := bank, row := row })

/-- Writes the row buffer to the row, or to the spare that now serves it (R253, R254). -/
def State.rewriteRow (s : State) (k pc bank row : Nat) : State := s.rewriteBeats (s.rowErrors k pc bank row)

/-- Darns a row to a spare (R254); `new` says that the darn is appended to the repair log. -/
def State.darnRow (s : State) (k pc bank row spare : Nat) (new : Bool) : State :=
  let s1 := (s.rewriteRow k pc bank row).putDarn k pc bank row spare
  let s2 := s1.raise { cond := .rowDarned, ribbon := .notice, source := source 6 k pc,
                       detail := row % 2 ^ 15 + bank % 64 * 2 ^ 16 + spare % 32 * 2 ^ 32, counters := [Reg.FAR_ROW_DARNED k] }
  if new then s2.logRepair ⟨1, k, pc, bank, row, 0xFF, s2.uptime⟩ else s2

/-- A bank region enters RETIRING with a cause; with 256 regions listed only the record is written, with cause LIST_FULL
(R255). -/
def State.retireRegion (s : State) (k pc bank region cause : Nat) : State :=
  let n := s.fld (Reg.FAR_RETIRED_PAGES k) Fl.FAR_RETIRED_PAGES_PAGES / 1024
  let page := k * 2 ^ 37 + 64 * region * 2 ^ 22 + bank * 2 ^ 16
  let what := fun (c : Nat) => region % 512 + bank % 64 * 2 ^ 16 + c % 4 * 2 ^ 32 + page % 2 ^ 48 * 2 ^ 48
  if 256 ≤ n then s.raise { cond := .rowRetired, ribbon := .fault, source := source 6 k pc, detail := what 3 }
  else
    let s1 := s.wr (Reg.FAR_RETIRE k n) (BitVec.ofNat 64
      (1 + pc % 64 * 2 ^ 8 + bank % 64 * 2 ^ 16 + region % 512 * 2 ^ 24 + cause % 4 * 2 ^ 34))
    let s2 := s1.setFld (Reg.FAR_RETIRED_PAGES k) Fl.FAR_RETIRED_PAGES_PAGES ((n + 1) * 1024)
    let s3 := s2.raise { cond := .rowRetired, ribbon := .fault, source := source 6 k pc, detail := what cause,
                         counters := [Reg.FAR_ROW_RETIRED k] }
    s3.logRepair ⟨2, k, pc, bank, region, 0xFF, s3.uptime⟩

/-- Whether the region of a bank is RETIRING or RETIRED. -/
def State.regionListed (s : State) (k pc bank region : Nat) : Bool :=
  (List.range (s.fld (Reg.FAR_RETIRED_PAGES k) Fl.FAR_RETIRED_PAGES_PAGES / 1024)).any (fun r =>
    let off := Reg.FAR_RETIRE k r
    s.flag off Fl.FAR_RETIRE_VALID && s.fld off Fl.FAR_RETIRE_PC == pc && s.fld off Fl.FAR_RETIRE_BANK == bank
      && s.fld off Fl.FAR_RETIRE_REGION == region)

/-- A row that failed its test, or found no repair at start-up (R254, R255, R257, R258). -/
def State.failRow (s : State) (k pc bank row : Nat) (new : Bool) : State :=
  let region := row / 64
  let tableFull := decide (4096 ≤ (s.darns k).length)
    && !(s.darns k).any (fun i => s.darnOf k pc bank i && s.fld (Reg.FAR_DARN k i) Fl.FAR_DARN_ROW == row)
  let spare := if tableFull then none else s.nextSpare k pc bank
  let darned := match spare with | some p => s.darnRow k pc bank row p new | none => s
  if s.regionListed k pc bank region then darned
  else
    let third := decide (3 ≤ s.regionFailures k pc bank region + 1)
    if 256 ≤ s.fld (Reg.FAR_RETIRED_PAGES k) Fl.FAR_RETIRED_PAGES_PAGES / 1024 ∧ (third = true ∨ spare = none) then
      s.retireRegion k pc bank region 3
    else if third then darned.retireRegion k pc bank region 0
    else if (s.nextSpare k pc bank).isNone then s.retireRegion k pc bank region 1
    else if tableFull then s.retireRegion k pc bank region 2
    else darned

/-- FAR_ROW_SELF_TEST (R253): the test that runs on a pseudo-channel ends; `failed` says that the march test found the row
failing. -/
def execFarRowSelfTest (k : Fin 8) (pc : Fin 64) (failed : Bool) (s : State) : Result :=
  let s := s.begin
  let unit := 1000 + 64 * k.val + pc.val
  match s.mem.tests.find? (fun t => t.unit == unit) with
  | none => finish s
  | some t =>
    let s1 := { s with mem := { s.mem with tests := s.mem.tests.erase t } }
    finish (if failed then s1.failRow k pc t.bank t.row true
      else (s1.rewriteRow k pc t.bank t.row).count (Reg.FAR_TRANSIENT k))

/-- A write of RETIRE[r] of stack k: ACK = 1 by Tambour moves a RETIRING region to RETIRED (R256). -/
def State.writeRetire (s : State) (k r : Nat) (v : Word) : State :=
  let off := Reg.FAR_RETIRE k r
  if Fl.FAR_RETIRE_ACK.read v = 1 ∧ s.flag off Fl.FAR_RETIRE_VALID = true then s.setFld off Fl.FAR_RETIRE_RETIRED 1 else s

/-- RETIRE_ACK (R256). -/
def execRetireAck (who : Requester) (k : Fin 8) (r : Fin 256) (v : Word) (s : State) : Result :=
  finish (s.begin.guarded who (Reg.FAR_RETIRE k r) fun s => s.writeRetire k r v)

end Sys2Proof.Machine
end

