-- ==== Sys2Proof/Machine/Dma.lean ====
section
/-! DEFINITION. Host memory (R418 to R420): the translation of host windows, read jobs with their requests, writes cut into
requests, and the zero-length read that follows writes. -/

namespace Sys2Proof.Machine

/-- The host bus address of a device address in a host window (R418). -/
def State.hostAddress (s : State) (a : Nat) : Nat × Nat × Nat :=
  match placeOf a with
  | .host f w off => (f, w, s.fld (Reg.FUNCTION_WINDOW_HOST_ADDR f w) Fl.FUNCTION_WINDOW_HOST_ADDR_ADDR * 4096 + off)
  | _ => (0, 0, 0)

/-- A translation of host windows as one step keeps it: for each window, its device address, function, number and host address
(R418). -/
abbrev HostMap := List (Nat × Nat × Nat × Nat)

/-- The windows that an extent touches, as they are translated now; none where it lies in no host window. -/
def State.hostMap (s : State) (a len : Nat) : HostMap :=
  match placeOf a with
  | .host .. =>
    (List.range ((a % 0x000200000000 + len - 1) / 0x000200000000 + 1)).map (fun i =>
      let base := (a / 0x000200000000 + i) * 0x000200000000
      (base, s.hostAddress base))
  | _ => []

/-- The host bus address of a device address by a translation. -/
def HostMap.find (m : HostMap) (a : Nat) : Nat × Nat × Nat :=
  match List.find? (fun x => decide (x.1 ≤ a) && decide (a < x.1 + 0x000200000000)) m with
  | some (base, f, w, h) => (f, w, h + (a - base))
  | none => (0, 0, 0)

/-- Cuts an extent of host windows into requests of at most `most` bytes that cross no 4 KiB boundary, in ascending order
(R419); n bounds how many. -/
def HostMap.pieces (m : HostMap) (most : Nat → Nat) : (n a off len : Nat) → List HostPiece
  | 0, _, _, _ => []
  | n + 1, a, off, len =>
    if len = 0 then []
    else
      let (f, w, h) := m.find a
      let k := max 1 (min len (min (max 1 (most f)) (4096 - a % 4096)))
      ⟨f, w, h, off, k⟩ :: HostMap.pieces m most n (a + k) (off + k) (len - k)

/-- Whether every function of a list of pieces may issue a request (R420). -/
def State.piecesOpen (s : State) (ps : List HostPiece) : Bool := ps.all (fun p => s.canDma p.fn)

/-- The read requests outstanding on an endpoint. -/
def State.readsOut (s : State) (endpoint : Nat) : Nat :=
  (s.dma.map (fun j => (j.parts.filter (fun p => p.fn / 16 == endpoint)).length)).sum

/-- The first waiting piece whose endpoint has a request free, and the jobs after it has been sent with a tag. -/
def nextPiece (free : Nat → Bool) (tag : Nat) : List DmaJob → Option (HostPiece × List DmaJob)
  | [] => none
  | j :: rest =>
    let later := (nextPiece free tag rest).map (fun r => (r.1, j :: r.2))
    match j.queued with
    | p :: ps =>
      if free (p.fn / 16) then
        some (p, { j with queued := ps, parts := j.parts ++ [⟨p.fn, p.window, p.addr, tag, p.off, p.len⟩] } :: rest)
      else later
    | [] => later

/-- Sends waiting pieces as read requests, each with a tag of its own, at most 768 outstanding on an endpoint (R410); k bounds how
many are sent. -/
def State.sendReads (s : State) : (k : Nat) → State
  | 0 => s
  | k + 1 =>
    match nextPiece (fun e => decide (s.readsOut e < 768)) s.dmaTag s.dma with
    | none => s
    | some (p, js) =>
      State.sendReads ({ s with dma := js, dmaTag := (s.dmaTag + 1) % 16384 }.emit (.hostRead p.fn p.addr p.len s.dmaTag)) k

/-- Sends what may be sent of the pieces that wait. -/
def State.pumpReads (s : State) : State := s.sendReads (s.dma.map (fun j => j.queued.length)).sum

/-- Starts a read of host memory by pieces. -/
def State.startReads (s : State) (owner : DmaOwner) (t len : Nat) (ps : List HostPiece) : State :=
  let job : DmaJob := { owner := owner, tenant := t, parts := [], bytes := List.replicate len 0, queued := ps }
  { s with dma := s.dma ++ [job] }.pumpReads

/-- The pieces of a read of a device address in host windows (R419). -/
def State.readPieces (s : State) (a len : Nat) : List HostPiece :=
  (s.hostMap a len).pieces (fun f => (s.cfg f).maxRead) len a 0 len

/-- The pieces of a write to device addresses in host windows, by a translation (R419). -/
def State.writePieces (s : State) (m : HostMap) (a len : Nat) : List HostPiece :=
  m.pieces (fun f => (s.cfg f).maxPayload) len a 0 len

/-- Bytes with the poisoned ones marked, cut where the mark of a 64-byte line of the destination changes: offset, bytes, and
whether they are poisoned (R489). A line is poisoned when a byte of it is. -/
def poisonRuns (dst : Nat) (bytes : List Byte) (badLines : List Nat) : List (Nat × List Byte × Bool) :=
  (linesOf dst bytes.length).foldl (fun acc line =>
    let (lo, n) := partOf dst bytes.length line
    let piece := (bytes.drop (lo - dst)).take n
    let bad := badLines.contains line
    match acc.getLast? with
    | some (off, bs, b) => if b = bad then acc.dropLast ++ [(off, bs ++ piece, b)] else acc ++ [(lo - dst, piece, bad)]
    | none => [(lo - dst, piece, bad)]) []

/-- The lines of a destination that ranges (offset, length) of the bytes written to it touch. -/
def badLinesAt (dst : Nat) (bad : List (Nat × Nat)) : List Nat := bad.flatMap (fun r => linesOf (dst + r.1) r.2)

/-- Sends write requests for pieces of a byte string, poisoned ones with EP = 1. -/
def State.sendWrites (s : State) (bytes : List Byte) (poisoned : Bool) : List HostPiece → State
  | [] => s
  | p :: rest =>
    State.sendWrites (s.emit (.hostWrite p.fn p.addr ((bytes.drop p.off).take p.len) poisoned)) bytes poisoned rest

/-- Writes runs of bytes to host windows (R419). -/
def State.writeRuns (s : State) (m : HostMap) (dst : Nat) : List (Nat × List Byte × Bool) → State
  | [] => s
  | (off, bs, bad) :: rest =>
    State.writeRuns (s.sendWrites bs bad (s.writePieces m (dst + off) bs.length)) m dst rest

/-- Writes bytes to host windows by a translation; the lines of `bad` go with EP = 1. -/
def State.hostStore (s : State) (m : HostMap) (dst : Nat) (bytes : List Byte) (bad : List Nat) : State :=
  s.writeRuns m dst (poisonRuns dst bytes bad)

/-- The function, window and host address of the last byte of a host extent. -/
def HostMap.last (m : HostMap) (a len : Nat) : Nat × Nat × Nat := m.find (a + len - 1)

/-- The zero-length read that makes earlier writes visible (R419). -/
def State.flushHost (s : State) (owner : DmaOwner) (t fn window addr : Nat) : State :=
  s.startReads owner t 0 [⟨fn, window, addr, 0, 0⟩]

/-- Counts a host-side failure of a function's endpoint (R420). -/
def State.dmaError (s : State) (fn : Nat) : State := s.count (Reg.ENDPOINT_DMA_ERROR (fn / 16))

/-! ### Device memory or host memory -/

/-- Whether an extent lies in host windows. -/
def inHost (a : Nat) : Bool := match placeOf a with | .host .. => true | _ => false

/-- Writes bytes to populated memory of any kind; the lines of `bad` are written poisoned. -/
def State.storeAny (s : State) (a : Nat) (bytes : List Byte) (bad : List Nat) : State :=
  if inHost a then s.hostStore (s.hostMap a bytes.length) a bytes bad else s.store a bytes bad

/-- Whether tenant `t` may access an extent; a core that belongs to no tenant may access none. -/
def State.tenantMay (s : State) (t : Option Nat) (a len : Nat) (write : Bool) : Bool :=
  match t with
  | some u => s.extentOk u a len write
  | none => false

end Sys2Proof.Machine
end

