-- ==== Sys2Proof/Machine/Flags.lean ====
section
/-! DEFINITION. The sticky numeric flags of the matrix engine (R140, R155) and the vector engine (R165, R179). -/

namespace Sys2Proof.Machine

/-- The conditions a computation meets. -/
structure Flags where
  nanInput : Bool := false
  invalid : Bool := false
  infinity : Bool := false
  divZero : Bool := false
  overflow : Bool := false
  flushed : Bool := false
  deriving DecidableEq, Repr

/-- The conditions of two computations together. -/
def Flags.or (a b : Flags) : Flags :=
  ⟨a.nanInput || b.nanInput, a.invalid || b.invalid, a.infinity || b.infinity, a.divZero || b.divZero,
   a.overflow || b.overflow, a.flushed || b.flushed⟩

/-- A computed value with the conditions it met. -/
structure Res (α : Type) where
  val : α
  flags : Flags := {}
  deriving DecidableEq, Repr

/-- The bits of `MX.FLAGS` (R155). -/
def Flags.mx (f : Flags) : Nat :=
  f.nanInput.toNat + 2 * f.invalid.toNat + 4 * f.infinity.toNat + 8 * f.overflow.toNat + 16 * f.flushed.toNat

/-- The bits of `VX.FLAGS` (R179). -/
def Flags.vx (f : Flags) : Nat :=
  f.nanInput.toNat + 2 * f.invalid.toNat + 4 * f.divZero.toNat + 8 * f.overflow.toNat + 16 * f.flushed.toNat

/-- Sets the sticky bits of `MX.FLAGS` of core n (R140). -/
def State.mxFlags (s : State) (n : Nat) (f : Flags) : State :=
  s.wr (Reg.MX_FLAGS n) (s.rd (Reg.MX_FLAGS n) ||| BitVec.ofNat 64 f.mx)

/-- Sets the sticky bits of `VX.FLAGS` of core n (R165). -/
def State.vxFlags (s : State) (n : Nat) (f : Flags) : State :=
  s.wr (Reg.VX_FLAGS n) (s.rd (Reg.VX_FLAGS n) ||| BitVec.ofNat 64 f.vx)

end Sys2Proof.Machine
end

