-- ==== Sys2Proof/Machine/Numerics.lean ====
section
/-! DEFINITION. Arithmetic: floating-point values as exact numbers, one rounding (round to nearest even), the binary32
operations of R161 and R162, the conversions of R143, R163 and R164, and the element formats of R127 and R133. -/

namespace Sys2Proof.Machine

/-- A floating-point value: not a number, an infinity, or exactly (−1)^neg · m · 2^e. -/
inductive FVal where
  | nan
  | inf (neg : Bool)
  | num (neg : Bool) (m : Nat) (e : Int)
  deriving DecidableEq, Repr

/-- 2^k for an integer exponent that is not negative. -/
def pow2 (k : Int) : Nat := 2 ^ k.toNat

/-- Number of bits of m. -/
def bitLen (m : Nat) : Nat := if m = 0 then 0 else Nat.log2 m + 1

/-- m · 2^(e − q) rounded to the nearest integer, ties to even. -/
def roundMant (m : Nat) (e q : Int) : Nat :=
  if q ≤ e then m * pow2 (e - q)
  else
    let s := pow2 (q - e)
    let f := m / s
    let r := m % s
    if s < 2 * r ∨ (2 * r = s ∧ f % 2 = 1) then f + 1 else f

/-- m · 2^e rounded to a significand of p bits and, where a least exponent is given, to multiples of 2^(emin − p + 1): the
rounded significand and the exponent of its last bit. -/
def roundSig (p : Nat) (emin : Option Int) (m : Nat) (e : Int) : Nat × Int :=
  let q0 := e + (bitLen m : Int) - (p : Int)
  let q := match emin with | some x => max q0 (x - (p : Int) + 1) | none => q0
  let r := roundMant m e q
  if r = 2 ^ p then (2 ^ (p - 1), q + 1) else (r, q)

/-- A binary format: exponent field width, fraction width, bias (R133). -/
structure FloatFmt where
  ebits : Nat
  fbits : Nat
  bias : Nat
  /-- 0: infinities and NaN as IEEE 754; 1: E4M3, NaN = S.1111.111 only; 2: none. -/
  special : Nat
  deriving DecidableEq, Repr

def fmt32 : FloatFmt := ⟨8, 23, 127, 0⟩
def fmtBF16 : FloatFmt := ⟨8, 7, 127, 0⟩
def fmtFP16 : FloatFmt := ⟨5, 10, 15, 0⟩
def fmtE4M3 : FloatFmt := ⟨4, 3, 7, 1⟩
def fmtE5M2 : FloatFmt := ⟨5, 2, 15, 0⟩
def fmtE3M2 : FloatFmt := ⟨3, 2, 3, 2⟩
def fmtE2M3 : FloatFmt := ⟨2, 3, 1, 2⟩
def fmtE2M1 : FloatFmt := ⟨2, 1, 1, 2⟩

/-- The value of an encoding (R133). -/
def FloatFmt.decode (f : FloatFmt) (bits : Nat) : FVal :=
  let frac := bits % 2 ^ f.fbits
  let ex := bits / 2 ^ f.fbits % 2 ^ f.ebits
  let neg := bits / 2 ^ (f.fbits + f.ebits) % 2 == 1
  if f.special = 0 ∧ ex = 2 ^ f.ebits - 1 then (if frac = 0 then .inf neg else .nan)
  else if f.special = 1 ∧ ex = 2 ^ f.ebits - 1 ∧ frac = 2 ^ f.fbits - 1 then .nan
  else if ex = 0 then .num neg frac (1 - (f.bias : Int) - (f.fbits : Int))
  else .num neg (2 ^ f.fbits + frac) ((ex : Int) - (f.bias : Int) - (f.fbits : Int))

/-- The canonical quiet NaN of a format (R140). -/
def FloatFmt.qnan (f : FloatFmt) : Nat :=
  if f.special = 1 then (2 ^ f.ebits - 1) * 2 ^ f.fbits + (2 ^ f.fbits - 1)
  else (2 ^ f.ebits - 1) * 2 ^ f.fbits + 2 ^ (f.fbits - 1)

/-- The encoding of a sign and an exponent and fraction field. -/
def FloatFmt.pack (f : FloatFmt) (neg : Bool) (ex frac : Nat) : Nat :=
  neg.toNat * 2 ^ (f.fbits + f.ebits) + ex * 2 ^ f.fbits + frac

/-- The infinity of a sign. -/
def FloatFmt.infBits (f : FloatFmt) (neg : Bool) : Nat := f.pack neg (2 ^ f.ebits - 1) 0

/-- An exact value rounded once to a format with infinities, subnormals kept (R143's 16-bit rows, R161). -/
def FloatFmt.round (f : FloatFmt) (neg : Bool) (m : Nat) (e : Int) : Res Nat :=
  if m = 0 then { val := f.pack neg 0 0 }
  else
    let r := roundSig (f.fbits + 1) (some (1 - (f.bias : Int))) m e
    if r.1 < 2 ^ f.fbits then { val := f.pack neg 0 r.1 }
    else
      let ex := r.2 + (f.fbits : Int) + (f.bias : Int)
      if ((2 ^ f.ebits - 1 : Nat) : Int) ≤ ex then { val := f.infBits neg, flags := { overflow := true } }
      else { val := f.pack neg ex.toNat (r.1 - 2 ^ f.fbits) }

/-- The FP32 encoding of a value (R161). -/
def toF32 : FVal → Res W32
  | .nan => { val := BitVec.ofNat 32 fmt32.qnan }
  | .inf neg => { val := BitVec.ofNat 32 (fmt32.infBits neg) }
  | .num neg m e => let r := fmt32.round neg m e; { val := BitVec.ofNat 32 r.val, flags := r.flags }

/-- The value of an FP32 encoding. -/
def ofF32 (x : W32) : FVal := fmt32.decode x.toNat

/-- The canonical quiet NaN of FP32. -/
def nan32 : W32 := BitVec.ofNat 32 fmt32.qnan

/-- x is a NaN. -/
def isNaN (x : W32) : Bool := ofF32 x == .nan

/-! ### Exact sums and products -/

/-- The integer sum of two signed magnitudes at a common exponent. -/
def alignedSum (na : Bool) (ma : Nat) (ea : Int) (nb : Bool) (mb : Nat) (eb : Int) : Int × Int :=
  let q := min ea eb
  let a : Int := (ma * pow2 (ea - q) : Nat)
  let b : Int := (mb * pow2 (eb - q) : Nat)
  ((if na then -a else a) + (if nb then -b else b), q)

/-- The exact sum of two values. -/
def fAdd (a b : FVal) : Res FVal :=
  match a, b with
  | .nan, _ => { val := .nan }
  | _, .nan => { val := .nan }
  | .inf x, .inf y => if x = y then { val := .inf x } else { val := .nan, flags := { invalid := true } }
  | .inf x, .num _ _ _ => { val := .inf x }
  | .num _ _ _, .inf y => { val := .inf y }
  | .num na ma ea, .num nb mb eb =>
    let r := alignedSum na ma ea nb mb eb
    if r.1 = 0 then { val := .num (na && nb && decide (ma = 0) && decide (mb = 0)) 0 0 }
    else { val := .num (decide (r.1 < 0)) r.1.natAbs r.2 }

/-- The exact product of two values. -/
def fMul (a b : FVal) : Res FVal :=
  match a, b with
  | .nan, _ => { val := .nan }
  | _, .nan => { val := .nan }
  | .inf x, .inf y => { val := .inf (x != y) }
  | .inf x, .num y m _ => if m = 0 then { val := .nan, flags := { invalid := true } } else { val := .inf (x != y) }
  | .num y m _, .inf x => if m = 0 then { val := .nan, flags := { invalid := true } } else { val := .inf (x != y) }
  | .num na ma ea, .num nb mb eb => { val := .num (na != nb) (ma * mb) (ea + eb) }

/-- Rounds an exact result to FP32, with the conditions met so far. -/
def Res.toF32 (r : Res FVal) : Res W32 :=
  let q := Machine.toF32 r.val
  { val := q.val, flags := r.flags.or q.flags }

/-- a + b in FP32. -/
def add32 (a b : W32) : Res W32 := (fAdd (ofF32 a) (ofF32 b)).toF32

/-- a × b in FP32. -/
def mul32 (a b : W32) : Res W32 := (fMul (ofF32 a) (ofF32 b)).toF32

/-- fma(a, b, c), rounded once; ∞ × 0 is invalid whatever c is (R162). -/
def fma32 (a b c : W32) : Res W32 :=
  let p := fMul (ofF32 a) (ofF32 b)
  if p.flags.invalid then p.toF32
  else (fAdd p.val (ofF32 c)).toF32

/-- −x; a NaN stays canonical. -/
def neg32 (x : W32) : W32 := if isNaN x then nan32 else x ^^^ 0x80000000

/-- |x|; a NaN stays canonical. -/
def abs32 (x : W32) : W32 := if isNaN x then nan32 else x &&& 0x7FFFFFFF

/-- a < b for values that are not NaN; infinities ordered. -/
def fLess (a b : FVal) : Bool :=
  match a, b with
  | .nan, _ => false
  | _, .nan => false
  | .inf x, .inf y => x && !y
  | .inf x, .num _ _ _ => x
  | .num _ _ _, .inf y => !y
  | .num na ma ea, .num nb mb eb => decide ((alignedSum na ma ea (!nb) mb eb).1 < 0)

/-- a = b; +0 equals −0. -/
def fEq (a b : FVal) : Bool :=
  match a, b with
  | .nan, _ => false
  | _, .nan => false
  | .inf x, .inf y => x == y
  | .num na ma ea, .num nb mb eb => (alignedSum na ma ea (!nb) mb eb).1 == 0
  | _, _ => false

/-- a < b in FP32. -/
def less32 (a b : W32) : Bool := fLess (ofF32 a) (ofF32 b)

/-- a = b in FP32. -/
def eq32 (a b : W32) : Bool := fEq (ofF32 a) (ofF32 b)

/-- x is +0 or −0. -/
def isZero32 (x : W32) : Bool := x &&& 0x7FFFFFFF == 0

/-- mask(x) of R162. -/
def mask32 (x : W32) : Bool := !isZero32 x

/-- maximum(a, b) of R162. -/
def max32 (a b : W32) : W32 :=
  if isNaN a || isNaN b then nan32
  else if isZero32 a && isZero32 b then (if a = 0 then a else b)
  else if less32 a b then b else a

/-- minimum(a, b) of R162. -/
def min32 (a b : W32) : W32 :=
  if isNaN a || isNaN b then nan32
  else if isZero32 a && isZero32 b then (if a = 0 then b else a)
  else if less32 b a then b else a

/-! ### Functions rounded once (R162) -/

/-- Working precision of the fixed-point series below, in bits: far beyond what one rounding of a 24-bit result needs
(notes/assumptions/12). -/
def wp : Nat := 320

/-- Σ over n terms of 1 / (k · 2^k), k = 1 up, in fixed point: ln 2. -/
def ln2Sum : (n : Nat) → Nat
  | 0 => 0
  | n + 1 => 2 ^ wp / ((n + 1) * 2 ^ (n + 1)) + ln2Sum n

/-- ln 2 in fixed point. -/
def ln2Fixed : Nat := ln2Sum 330

/-- Taylor sum of e^y, y in fixed point below 1: `term` is y^k / k!. -/
def expSum (y : Nat) : (n k term : Nat) → Nat
  | 0, _, _ => 0
  | n + 1, k, term => term + expSum y n (k + 1) (term * y / 2 ^ wp / (k + 1))

/-- 2^f in fixed point for a fixed-point fraction f. -/
def exp2Fixed (f : Nat) : Nat := expSum (f * ln2Fixed / 2 ^ wp) 90 0 (2 ^ wp)

/-- x = m · 2^e with a sign as an integer and a fixed-point fraction. -/
def splitFixed (neg : Bool) (m : Nat) (e : Int) : Int × Nat :=
  let scaled : Int := (roundMant m (e + (wp : Int)) 0 : Nat)
  let x := if neg then -scaled else scaled
  (x / (2 ^ wp : Int), (x % (2 ^ wp : Int)).toNat)

/-- exp2(x) (R162). -/
def exp2F (x : W32) : Res W32 :=
  match ofF32 x with
  | .nan => { val := nan32 }
  | .inf neg => { val := if neg then 0 else x }
  | .num neg m e =>
    if m = 0 then { val := 0x3F800000 }
    else if (8 : Int) < e + (bitLen m : Int) then
      if neg then { val := 0 } else { val := BitVec.ofNat 32 (fmt32.infBits false), flags := { overflow := true } }
    else
      let r := splitFixed neg m e
      if r.2 = 0 then toF32 (.num false 1 r.1)
      else toF32 (.num false (2 * exp2Fixed r.2 + 1) (r.1 - (wp : Int) - 1))

/-- Σ t^(2k+1) / (2k+1) over n terms from k up; `pow` is t^(2k+1), `t2` is t². -/
def atanhSum (t2 : Nat) : (n k pow : Nat) → Nat
  | 0, _, _ => 0
  | n + 1, k, pow => pow / (2 * k + 1) + atanhSum t2 n (k + 1) (pow * t2 / 2 ^ wp)

/-- log2 of m / 2^(bits − 1), 1 ≤ it < 2, in fixed point. -/
def log2Fixed (m : Nat) : Nat :=
  let one := 2 ^ (bitLen m - 1)
  let t := (m - one) * 2 ^ wp / (m + one)
  2 * atanhSum (t * t / 2 ^ wp) 120 0 t * 2 ^ wp / ln2Fixed

/-- log2(x) (R162). -/
def log2F (x : W32) : Res W32 :=
  match ofF32 x with
  | .nan => { val := nan32 }
  | .inf neg => if neg then { val := nan32, flags := { invalid := true } } else { val := x }
  | .num neg m e =>
    if m = 0 then { val := BitVec.ofNat 32 (fmt32.infBits true), flags := { divZero := true } }
    else if neg then { val := nan32, flags := { invalid := true } }
    else
      let k : Int := e + (bitLen m : Int) - 1
      if m = 2 ^ (bitLen m - 1) then toF32 (.num (decide (k < 0)) k.natAbs 0)
      else
        let total : Int := k * (2 ^ wp : Int) + (log2Fixed m : Int)
        toF32 (.num (decide (total < 0)) (2 * total.natAbs + 1) (-(wp : Int) - 1))

/-- reciprocal(x) (R162). -/
def recipF (x : W32) : Res W32 :=
  match ofF32 x with
  | .nan => { val := nan32 }
  | .inf neg => { val := BitVec.ofNat 32 (fmt32.pack neg 0 0) }
  | .num neg m e =>
    if m = 0 then { val := BitVec.ofNat 32 (fmt32.infBits neg), flags := { divZero := true } }
    else
      let q := 2 ^ 80 / m
      toF32 (.num neg (2 * q + (if q * m = 2 ^ 80 then 0 else 1)) (-e - 81))

/-- Integer square root by its bits: n bits from 2^(n − 1) down. -/
def isqrtGo (x : Nat) : (n r : Nat) → Nat
  | 0, r => r
  | n + 1, r => let t := r + 2 ^ n; isqrtGo x n (if t * t ≤ x then t else r)

/-- Integer square root of a number below 2^256. -/
def isqrt (x : Nat) : Nat := isqrtGo x 128 0

/-- rsqrt(x) (R162). -/
def rsqrtF (x : W32) : Res W32 :=
  match ofF32 x with
  | .nan => { val := nan32 }
  | .inf neg => if neg then { val := nan32, flags := { invalid := true } } else { val := 0 }
  | .num neg m e =>
    if m = 0 then { val := BitVec.ofNat 32 (fmt32.infBits neg), flags := { divZero := true } }
    else if neg then { val := nan32, flags := { invalid := true } }
    else
      let m2 := if e % 2 = 0 then m else 2 * m
      let e2 := if e % 2 = 0 then e else e - 1
      let r := isqrt (2 ^ 200 / m2)
      toF32 (.num false (2 * r + (if r * r * m2 = 2 ^ 200 then 0 else 1)) (-(e2 / 2) - 101))

/-! ### Conversions (R143, R163, R164) -/

/-- Largest finite magnitude of an FP8 format, as m · 2^e. -/
def fp8Max (f : FloatFmt) : Nat × Int := if f.special = 1 then (14, 5) else (7, 13)

/-- Rounds into an FP8 format with saturation and flushing (R143). -/
def toFP8 (f : FloatFmt) (v : FVal) : Res Nat :=
  match v with
  | .nan => { val := f.qnan }
  | .inf neg =>
    if f.special = 1 then { val := f.qnan, flags := { overflow := true } } else { val := f.infBits neg }
  | .num neg m e =>
    if m = 0 then { val := f.pack neg 0 0 }
    else
      let r := roundSig (f.fbits + 1) none m e
      let top := fp8Max f
      if fLess (.num false top.1 top.2) (.num false r.1 r.2) then
        let q := roundSig (f.fbits + 1) none top.1 top.2
        { val := f.pack neg (q.2 + (f.fbits : Int) + (f.bias : Int)).toNat (q.1 - 2 ^ f.fbits),
          flags := { overflow := true } }
      else if r.2 + (f.fbits : Int) < 1 - (f.bias : Int) then { val := f.pack neg 0 0, flags := { flushed := true } }
      else { val := f.pack neg (r.2 + (f.fbits : Int) + (f.bias : Int)).toNat (r.1 - 2 ^ f.fbits) }

/-- Rounds into BF16 or FP16: subnormals kept, infinity beyond the largest finite value (R143). -/
def to16 (f : FloatFmt) (v : FVal) : Res Nat :=
  match v with
  | .nan => { val := f.qnan }
  | .inf neg => { val := f.infBits neg }
  | .num neg m e => f.round neg m e

/-- An FP32 value converted to an output format code of R127 by R143: its encoding. -/
def drainTo (code : Nat) (x : W32) : Res Nat :=
  match code with
  | 1 => to16 fmtBF16 (ofF32 x)
  | 2 => to16 fmtFP16 (ofF32 x)
  | 3 => toFP8 fmtE4M3 (ofF32 x)
  | 4 => toFP8 fmtE5M2 (ofF32 x)
  | _ => { val := x.toNat }

/-- x rounded to an integer: nearest with ties to even, or floor (R163). -/
def roundInt (floor : Bool) (x : W32) : W32 :=
  match ofF32 x with
  | .num neg m e =>
    if 0 ≤ e then x
    else
      let q := m / pow2 (-e)
      let rest := m % pow2 (-e)
      let r := if floor then (if neg && rest != 0 then q + 1 else q) else roundMant m e 0
      if r = 0 then BitVec.ofNat 32 (fmt32.pack neg 0 0) else (toF32 (.num neg r 0)).val
  | _ => x

/-- CONVERT with MOD (R163). -/
def convert32 (mod : Nat) (x : W32) : Res W32 :=
  let via := fun (f : FloatFmt) (r : Res Nat) =>
    ({ val := (toF32 (f.decode r.val)).val, flags := r.flags } : Res W32)
  match mod with
  | 0 => via fmtBF16 (to16 fmtBF16 (ofF32 x))
  | 1 => via fmtFP16 (to16 fmtFP16 (ofF32 x))
  | 2 => via fmtE4M3 (toFP8 fmtE4M3 (ofF32 x))
  | 3 => via fmtE5M2 (toFP8 fmtE5M2 (ofF32 x))
  | 4 => { val := roundInt false x }
  | _ => { val := roundInt true x }

/-- FP32 to INT32: nearest, ties to even, saturating (R164). -/
def toInt32 (x : W32) : Res Nat :=
  match ofF32 x with
  | .nan => { val := 0, flags := { invalid := true } }
  | .inf neg => { val := if neg then 0x80000000 else 0x7FFFFFFF, flags := { overflow := true } }
  | .num neg m e =>
    let r := roundMant m e 0
    if neg then
      if 2 ^ 31 < r then { val := 0x80000000, flags := { overflow := true } } else { val := (2 ^ 32 - r) % 2 ^ 32 }
    else if 2 ^ 31 ≤ r then { val := 0x7FFFFFFF, flags := { overflow := true } } else { val := r }

/-- INT32 to FP32, nearest even (R161). -/
def ofInt32 (x : Nat) : W32 :=
  let i := signedOf 32 x
  (toF32 (.num (decide (i < 0)) i.natAbs 0)).val

/-- A vector input element of a format code as FP32 (R161). -/
def vxRead (code bits : Nat) : Res W32 :=
  let conv := fun (f : FloatFmt) =>
    match f.decode bits with
    | .nan => ({ val := nan32, flags := { nanInput := true } } : Res W32)
    | v => { val := (toF32 v).val }
  match code with
  | 0 => conv fmt32
  | 1 => conv fmtBF16
  | 2 => conv fmtFP16
  | 3 => conv fmtE4M3
  | 4 => conv fmtE5M2
  | _ => { val := ofInt32 bits }

/-- A vector output value as an encoding of a format code (R164). -/
def vxWrite (code : Nat) (x : W32) : Res Nat := if code = 0xB then toInt32 x else drainTo code x

end Sys2Proof.Machine
end

