-- ==== Sys2Proof/Machine/Operands.lean ====
section
/-! DEFINITION. Operand forms: the fields of shuttle instructions (R106 to R117), tile descriptors and their extents (R87),
element formats (R127), and the addresses a command's ports give it (R120, R126). -/

namespace Sys2Proof.Machine

/-! ### Shuttle instructions -/

/-- Bits [lo + width − 1 : lo] of an instruction. -/
def insField (w : W32) (lo width : Nat) : Nat := w.toNat / 2 ^ lo % 2 ^ width

/-- The major opcode (R106). -/
def insOpcode (w : W32) : Nat := insField w 26 6

/-- Whether LO + WIDTH passes bit 128 for a width field of n bits at bit lo (R115). -/
def fillTooWide (w : W32) (lo n : Nat) : Bool := decide (128 < insField w 17 7 + insField w lo n + 1)

/-- Whether the instruction is reserved: a reserved major opcode or a reserved field value (R106 to R117); the codes 8 to 15 of
COND are taken as reserved (notes/assumptions/99). -/
def insReserved (w : W32) : Bool :=
  match insOpcode w with
  | 0x01 | 0x02 | 0x03 | 0x04 => false
  | 0x05 | 0x06 => decide (6 ≤ insField w 13 3)
  | 0x07 => decide (4 ≤ insField w 13 3)
  | 0x08 => decide (0xE ≤ insField w 0 4)
  | 0x09 | 0x0A | 0x0B | 0x0C | 0x0D | 0x0E | 0x0F | 0x10 => false
  | 0x11 => let x := insField w 0 4; (decide (5 ≤ x) && decide (x ≤ 7)) || decide (12 ≤ x)
  | 0x18 => let c := insField w 17 3; decide (c = 0 ∨ 3 ≤ c)
  | 0x19 => let c := insField w 0 4; decide (c = 0 ∨ 3 ≤ c)
  | 0x1A => decide (3 ≤ insField w 17 4)
  | 0x1B => decide (3 ≤ insField w 0 4)
  | 0x20 =>
    let g := insField w 11 4
    decide (9 ≤ g) || ((g == 4 || g == 5) && decide (6 ≤ insField w 20 3))
  | 0x21 => insField w 21 2 == 3
  | 0x28 => false
  | 0x29 => fillTooWide w 11 6
  | 0x2A => fillTooWide w 12 5
  | 0x2B => fillTooWide w 11 6
  | 0x2C => decide (5 ≤ insField w 0 3)
  | 0x2D => false
  | 0x30 => decide (6 ≤ insField w 17 3)
  | 0x31 => decide (6 ≤ insField w 17 3)
  | 0x32 => false
  | _ => true

/-- The instruction at an address of core n's instruction memory (R104). -/
def State.instructionAt (s : State) (n pc : Nat) : W32 :=
  BitVec.ofNat 32 ((s.rd (Reg.INSTRUCTION n (pc / 2))).toNat / 2 ^ (32 * (pc % 2)))

/-- Counter c of core n. -/
def State.counter (s : State) (n c : Nat) : W32 := BitVec.ofNat 32 (s.fld (Reg.COUNTER n c) Fl.COUNTER_VALUE)

/-- Writes counter c of core n. -/
def State.setCounter (s : State) (n c : Nat) (v : W32) : State := s.setArr (Reg.COUNTER n c) Fl.COUNTER_VALUE v.toNat

/-! ### Element formats (R127) -/

/-- Bits per element of a format code. -/
def formatBits (code : Nat) : Nat :=
  match code with
  | 0 => 32 | 1 => 16 | 2 => 16 | 3 => 8 | 4 => 8 | 5 => 8 | 6 => 8 | 7 => 6 | 8 => 6 | 9 => 8 | 10 => 4 | 11 => 32
  | 12 => 128 | 13 => 8 | 14 => 64 | _ => 0

/-- Block-scaled formats. -/
def formatScaled (code : Nat) : Bool := decide (5 ≤ code) && decide (code ≤ 10)

/-- Formats the vector engine takes. -/
def formatVx (code : Nat) : Bool := decide (code ≤ 4) || code == 11

/-! ### Tile descriptors (R87) -/

/-- A tile: byte offset of its base, rows and elements per row as counts, format, bytes between rows, byte offset of its
scales. -/
structure Tile where
  base : Nat
  rows : Nat
  cols : Nat
  format : Nat
  stride : Nat
  scales : Nat
  deriving DecidableEq, Repr

/-- The tile of a descriptor's LO and HI words. -/
def tileOf (lo hi : Word) : Tile :=
  { base := Fl.TILE_LO_BASE.read lo * 64, rows := Fl.TILE_LO_ROWS.read lo + 1, cols := Fl.TILE_LO_COLS.read lo + 1,
    format := Fl.TILE_LO_FORMAT.read lo, stride := Fl.TILE_HI_ROW_STRIDE.read hi,
    scales := Fl.TILE_HI_SCALE_BASE.read hi * 64 }

/-- Bytes of a row of elements, rounded up to whole bytes. -/
def Tile.rowBytes (t : Tile) : Nat := (t.cols * formatBits t.format + 7) / 8

/-- Scale bytes of a row (R127). -/
def Tile.rowScales (t : Tile) : Nat := if formatScaled t.format then (t.cols + 31) / 32 else 0

/-- Bytes of the tile's dense image (R125). -/
def Tile.dense (t : Tile) : Nat := t.rows * (t.rowBytes + t.rowScales)

/-- Populated hoop memory of a core. -/
def hoopSize : Nat := 0x300000

/-- Whether the extent of a tile, its scales included, lies in populated hoop memory (R87). -/
def Tile.inHoop (t : Tile) : Bool :=
  decide (t.base + (t.rows - 1) * t.stride + t.rowBytes ≤ hoopSize)
    && (!formatScaled t.format || decide (t.scales + t.rows * t.rowScales ≤ hoopSize))

/-- Whether a descriptor passes the range check of R87: the extent, and no reserved format. -/
def descriptorOk (lo hi : Word) : Bool := (tileOf lo hi).inHoop && Fl.TILE_LO_FORMAT.read lo != 15

/-- A port address as a hoop offset: a multiple of 64 below 2^22 (R126). -/
def hoopOffsetOk (a : Nat) : Bool := a % 64 == 0 && decide (a < 2 ^ 22)

/-- A tile moved to a base that a port gives; its scales move by the same offset (R126). None where the address is no hoop
offset or the scales would start below 0. -/
def Tile.rebase (t : Tile) (a : Nat) : Option Tile :=
  if hoopOffsetOk a then
    if formatScaled t.format then
      if t.base ≤ t.scales + a then some { t with base := a, scales := t.scales + a - t.base } else none
    else some { t with base := a }
  else none

/-- The spans of hoop bytes of a tile: address and length of each row, then of its scales. -/
def Tile.spans (t : Tile) (n : Nat) : List (Nat × Nat) :=
  (List.range t.rows).map (fun r => (hoopAddr n (t.base + r * t.stride), t.rowBytes))
    ++ (if formatScaled t.format then [(hoopAddr n t.scales, t.rows * t.rowScales)] else [])

/-- The encoding of element (r, c): little-endian bits of its row, element 0 lowest (notes/assumptions/13). -/
def State.element (s : State) (n : Nat) (t : Tile) (r c : Nat) : Nat :=
  let bits := formatBits t.format
  let at_ := c * bits
  natLE (s.bytesAt (hoopAddr n (t.base + r * t.stride + at_ / 8)) ((at_ % 8 + bits + 7) / 8)) / 2 ^ (at_ % 8) % 2 ^ bits

/-- The E8M0 scale byte of element (r, c) (R127). -/
def State.scaleOf (s : State) (n : Nat) (t : Tile) (r c : Nat) : Nat :=
  (s.byteAt (hoopAddr n (t.scales + r * t.rowScales + c / 32))).toNat

/-- Reads the spans of a tile: the errors found take their effects (R376), and the second part says whether a line was
poisoned. -/
def State.loadSpans (s : State) (who : Option Nat) (x : ReadClass) : List (Nat × Nat) → State × Bool
  | [] => (s, false)
  | (a, len) :: rest =>
    let l := s.load who x a len
    let r := State.loadSpans l.s who x rest
    (r.1, !l.poison.isEmpty || r.2)

/-! ### Vector slots (R166 to R171) -/

/-- A chain stage's OP uses its y operand (R167). -/
def stageUsesY (op : Nat) : Bool := op == 2 || op == 3 || op == 4 || op == 5 || op == 12

/-- Whether a stage word passes validation (R168, R171). -/
def stageOk (w : Nat) : Bool :=
  let op := bitsOf w 0 4
  decide (1 ≤ op) && decide (op ≤ 12) && (!stageUsesY op || decide (bitsOf w 4 3 ≤ 3)) && (op != 10 || decide (bitsOf w 19 3 ≤ 5))

/-- How many source fields an operation uses (R170). -/
def opSources (op : Nat) : Nat :=
  match op with
  | 0x01 | 0x08 | 0x09 | 0x0A | 0x0B | 0x0C | 0x0D | 0x0E | 0x15 => 1
  | 0x02 | 0x03 | 0x04 | 0x06 | 0x07 | 0x11 | 0x12 | 0x13 | 0x14 => 2
  | 0x05 | 0x0F | 0x10 => 3
  | _ => 0

/-- Source field i of an operation word (R169). -/
def opSource (w i : Nat) : Nat := bitsOf w (10 + 6 * i) 6

/-- Whether an operation word passes validation (R169 to R171). -/
def opOk (w : Nat) : Bool :=
  let op := bitsOf w 0 6
  decide (1 ≤ op) && decide (op ≤ 0x15)
    && (List.range (opSources op)).all (fun i => !(decide (18 ≤ opSource w i) && decide (opSource w i ≤ 23)))
    && (op != 0x0E || decide (bitsOf w 28 4 ≤ 5)) && (op != 0x15 || decide (32 ≤ opSource w 1))

/-- Stage word s of chain slot i. -/
def State.stageWord (s : State) (n i st : Nat) : Nat := s.fld (Reg.VX_CHAIN_STAGE n i st) ⟨0, 32⟩

/-- Operation k of program slot i. -/
def State.opWord (s : State) (n i k : Nat) : Nat := s.fld (Reg.VX_PROGRAM_OP n i (k / 2)) ⟨32 * (k % 2), 32⟩

/-- Whether the slot of a vector command reads B (R158). -/
def State.slotReadsB (s : State) (n : Nat) (program : Bool) (i : Nat) : Bool :=
  if program then
    (List.range (s.fld (Reg.VX_PROGRAM_HEAD n i) Fl.VX_PROGRAM_HEAD_LENGTH + 1)).any (fun k =>
      let w := s.opWord n i k
      (List.range (opSources (bitsOf w 0 6))).any (fun j => opSource w j == 17))
  else
    s.fld (Reg.VX_CHAIN_HEAD n i) Fl.VX_CHAIN_HEAD_INITIAL == 1
      || (List.range (s.fld (Reg.VX_CHAIN_HEAD n i) Fl.VX_CHAIN_HEAD_STAGES)).any (fun k =>
        let w := s.stageWord n i k
        stageUsesY (bitsOf w 0 4) && bitsOf w 4 3 == 1)

/-- The HEAD register of a vector command's slot; both heads place B_MODE, B_INDEX, OUTPUT and VALID alike (R179). -/
def slotHead (n : Nat) (program : Bool) (i : Nat) : Nat :=
  if program then Reg.VX_PROGRAM_HEAD n i else Reg.VX_CHAIN_HEAD n i

/-- Descriptor registers of tile register t of core n. -/
def State.tileWords (s : State) (n t : Nat) : Word × Word := (s.rd (Reg.TILE_LO n t), s.rd (Reg.TILE_HI n t))

/-- A tile a queued command names, as captured at issue (R82). -/
def QEntry.tile (x : QEntry) (t : Nat) : Tile :=
  match x.tiles.find? (fun p => p.1 == t) with
  | some (_, lo, hi) => tileOf lo hi
  | none => tileOf 0 0

/-! ### Steps (R120) -/

/-- Whether a command has no port bound: it makes exactly one step. -/
def QEntry.unbound (x : QEntry) : Bool := x.s0.isNone && x.s1.isNone

/-- The ports after one step, and whether that step was the command's last. -/
def QEntry.stepPorts (x : QEntry) : QEntry × Bool :=
  let a0 := x.s0.map GenState.advance
  let a1 := x.s1.map GenState.advance
  let wrapped := (a0.map (·.2)).getD false || (a1.map (·.2)).getD false
  let len := cmdLength x.cmd
  let last := if x.unbound then true else if len = 0 then wrapped else decide (len ≤ x.steps + 1)
  ({ x with s0 := a0.map (·.1), s1 := a1.map (·.1), steps := x.steps + 1 }, last)

/-- The address a port gives the current step. -/
def portAddress (g : Option GenState) : Option Nat := g.map GenState.address

/-- Replaces a command of a queue by its number. -/
def State.putEntryQ (s : State) (n e : Nat) (x : QEntry) : State :=
  s.setQueue n e ((s.queue n e).map (fun y => if y.uid = x.uid then x else y))

end Sys2Proof.Machine
end

