-- ==== Sys2Proof/Machine/IssueOps.lean ====
section
/-! DEFINITION. The issue of an engine command: the checks of R128 in their order, what a queue entry captures (R82, R93,
R129), and the outcomes of R86, R88 and R97. -/

namespace Sys2Proof.Machine

/-- The tile registers a command of engine e names. -/
def tilesNamed (e : Nat) (c : BitVec 128) : List Nat :=
  let ta := cmdField c 6 6
  let tb := cmdField c 12 6
  let tc := cmdField c 18 6
  match e, cmdOpcode c with
  | 0, 2 => [ta, tb, tc]
  | 0, 3 => [ta, tb]
  | 0, 4 => [tc]
  | 0, 5 => [ta]
  | 1, 2 => [ta, tb, tc]
  | 1, 3 => [ta, tb, tc]
  | 1, _ => []
  | 0, _ => []
  | _, 1 => []
  | _, _ => [ta]

/-- Tile register t of core n as a tile. -/
def State.tileNow (s : State) (n t : Nat) : Tile := tileOf (s.tileWords n t).1 (s.tileWords n t).2

/-- The operand formats a MATRIX_PASS mode takes (R123). -/
def passFormats (mode fa fb : Nat) : Bool :=
  match mode with
  | 0 => (fa == 1 && fb == 1) || (fa == 2 && fb == 2)
  | 1 => ((fa == 3 || fa == 4) && (fb == 3 || fb == 4))
      || (decide (5 ≤ fa) && decide (fa ≤ 9) && decide (5 ≤ fb) && decide (fb ≤ 9))
  | 2 => fa == 10 && fb == 10
  | 3 => fa == 0 && fb == 0
  | _ => false

/-- An FP32 tile of 32 rows of 16 elements (R142). -/
def Tile.isSpill (t : Tile) : Bool := t.format == 0 && t.rows == 32 && t.cols == 16

/-- Number of SIDE bits set (R122). -/
def sideCount (side : Nat) : Nat := side % 2 + side / 2 % 2 + side / 4 % 2

/-- Whether a command passes order 1 of R128 for its engine: opcode, field values, ports, and the combinations of R122 to
R127; a tile that a command names must have a format of its engine, whether or not its data is used. Reserved bits are ignored
(R20; notes/assumptions/14). -/
def State.issueForm (s : State) (n e : Nat) (c : BitVec 128) : Bool :=
  let op := cmdOpcode c
  let noPorts := (cmdS0 c).isNone && (cmdS1 c).isNone
  let ta := s.tileNow n (cmdField c 6 6)
  let tb := s.tileNow n (cmdField c 12 6)
  let tc := s.tileNow n (cmdField c 18 6)
  let common := decide (cmdWaitCond c ≤ 2) && decide (cmdSetOp c ≤ 2)
    && (cmdSetOp c == 0 || decide (2 ≤ e) || cmdSetPeer c != 15)
  let own :=
    if op = 1 then noPorts
    else if e = 0 then
      match op with
      | 2 => decide (cmdField c 24 3 ≤ 3) && passFormats (cmdField c 24 3) ta.format tb.format && decide (tc.format ≤ 10)
      | 3 =>
        noPorts && decide (ta.format ≤ 4) && decide (ta.rows ≤ 32) && decide (ta.cols ≤ 16)
          && (cmdField c 18 3 == 0
            || (tb.format == 0 && tb.rows == ta.rows && tb.cols == sideCount (cmdField c 18 3)))
          && decide (tb.format ≤ 10)
      | 4 => noPorts && tc.isSpill
      | 5 => noPorts && ta.isSpill
      | _ => false
    else if e = 1 then
      match op with
      | 2 | 3 => formatVx ta.format && formatVx tb.format && formatVx tc.format
      | 4 => noPorts
      | _ => false
    else
      decide (2 ≤ op) && decide (op ≤ 5) && cmdPeer c != 15 && cmdField c 16 2 != 3 && cmdField c 18 2 != 3
        && (cmdS0 c).isSome && (op != 4 || (cmdS1 c).isSome)
        && (cmdField c 18 2 != 1 || (op == 2 && cmdField c 25 1 == 1))
        && (op != 5 || reduceFormatOk (cmdField c 22 3) ta.format)
  common && own

/-- Whether PEER entry k may be named (R128, order 2); 0 names this device. -/
def State.peerOk (s : State) (n k : Nat) : Bool := k == 0 || s.flag (Reg.PEER n k) Fl.PEER_VALID

/-- Whether a vector command passes R159. -/
def State.vectorShapeOk (s : State) (n : Nat) (program : Bool) (c : BitVec 128) : Bool :=
  let i := cmdField c 24 4
  let head := slotHead n program i
  let ta := s.tileNow n (cmdField c 6 6)
  let tb := s.tileNow n (cmdField c 12 6)
  let tc := s.tileNow n (cmdField c 18 6)
  let b := s.fld head ⟨13, 4⟩
  s.fld head ⟨24, 1⟩ == 1 && decide (tc.rows ≤ 16) && decide (tc.cols ≤ 16) && decide (tc.rows ≤ ta.rows)
    && decide (tc.cols ≤ ta.cols)
    && (!s.slotReadsB n program i
      || match s.fld head ⟨11, 2⟩ with
        | 0 => decide (tc.rows ≤ tb.rows) && decide (tc.cols ≤ tb.cols)
        | 1 => decide (tc.rows ≤ tb.rows) && decide (b < tb.cols)
        | 2 => decide (tc.cols ≤ tb.cols) && decide (b < tb.rows)
        | _ => decide (b < tb.cols))

/-- Whether a command passes order 2 of R128, with the knot ranges of R185. -/
def State.issueRange (s : State) (n e : Nat) (c : BitVec 128) : Bool :=
  let t := s.coreTenant n
  let op := cmdOpcode c
  (tilesNamed e c).all (fun i => (s.tileNow n i).inHoop)
    && (cmdSetOp c == 0 || setIsLocal c || s.peerOk n (if cmdSetPeer c = 15 then cmdPeer c else cmdSetPeer c))
    && (decide (e < 2) || op == 1 || s.peerOk n (cmdPeer c))
    && (cmdWaitCond c == 0 || s.knotOwned (cmdWaitKnot c) t)
    && (cmdSetOp c == 0 || !setIsLocal c || s.knotOwned (cmdSetKnot c) t)
    && (match e, op with
      | 0, 2 =>
        let ta := s.tileNow n (cmdField c 6 6)
        let tb := s.tileNow n (cmdField c 12 6)
        ta.cols == tb.cols && decide (ta.rows ≤ 32) && decide (tb.rows ≤ 16)
          && (!formatScaled ta.format || ta.cols % 32 == 0)
      | 1, 2 => s.vectorShapeOk n false c
      | 1, 3 => s.vectorShapeOk n true c
      | 0, _ => true
      | 1, _ => true
      | _, 2 => cmdField c 25 1 == 0 || decide ((s.tileNow n (cmdField c 6 6)).dense ≤ 4032)
      | _, _ => true)

/-- Whether the front end refuses a command with ABSENT_UNIT: its engine is absent, or MXFP4 on an NM-7160 (R96). -/
def State.issueAbsent (s : State) (n e : Nat) (c : BitVec 128) : Bool :=
  s.engineAbsent n e
    || (e == 0 && cmdOpcode c == 2 && cmdField c 24 3 == 2
      && (s.is7160 || s.flag Reg.DEVICE_FUSE_MAP Fl.DEVICE_FUSE_MAP_MXFP4_OFF))

/-- A port's copy of a generator (R93). -/
def State.portCopy (s : State) (n : Nat) (g : Option Nat) : Option GenState := g.map (s.gen n)

/-- Advances the generators a command binds, once each (R93). -/
def State.advanceBound (s : State) (n : Nat) (c : BitVec 128) : State :=
  match cmdS0 c, cmdS1 c with
  | some g, some h => if g = h then s.streamGen n g (cmdLength c)
      else (s.streamGen n g (cmdLength c)).streamGen n h (cmdLength c)
  | some g, none => s.streamGen n g (cmdLength c)
  | none, some h => s.streamGen n h (cmdLength c)
  | none, none => s

/-- The queue entry of a command issued to a slot, or untimed where there is none (R82, R83, R93, R129). -/
def State.entryOf (s : State) (n e : Nat) (c : BitVec 128) (slot : Option Nat) : QEntry :=
  { uid := s.core.nextUid, cmd := c,
    tiles := (tilesNamed e c).map (fun t => (t, s.tileWords n t)),
    tag := match slot with
      | some j => (s.station n j).opened.map (fun b => (j, b))
      | none => none,
    s0 := s.portCopy n (cmdS0 c), s1 := s.portCopy n (cmdS1 c), setDevice := s.setDeviceNow n c,
    peerDevice := if cmdPeer c = 0 then s.deviceId else s.fld (Reg.PEER n (cmdPeer c)) Fl.PEER_DEVICE }

/-- Puts a command at the tail of its queue and advances its generators (R81, R93). -/
def State.enqueue (s : State) (n e : Nat) (c : BitVec 128) (slot : Option Nat) : State :=
  let x := s.entryOf n e c slot
  let s1 := (s.setQueue n e (s.queue n e ++ [x])).advanceBound n c
  { s1 with core := { s1.core with nextUid := s.core.nextUid + 1 } }

/-- An issue to an engine that is DRAINING or DISABLED (R86): the command completes CANCELLED. -/
def State.cancelIssue (s : State) (n e : Nat) (c : BitVec 128) : State :=
  let device := s.setDeviceNow n c
  let s1 := s.advanceBound n c
  let s2 := (s1.setFld (Reg.QUEUE_STATUS n e) Fl.QUEUE_STATUS_LAST_STATUS 1).countCompletion n e
  (s2.fraySet n e c device .cancelled).recordCancelled n e 1 (s2.entryStitch (.queue n e))

/-- Refuses an issue with ABSENT_UNIT: counter, sticky bit, record, and the shuttle's stop (R97). DETAIL names the engine
and the shuttle's PC (R455). -/
def State.refuseAbsent (s : State) (n e : Nat) : State :=
  let pc := s.fld (Reg.SHUTTLE_STATUS n) Fl.SHUTTLE_STATUS_PC
  (s.raise { cond := .absentUnit, ribbon := .fault, source := source 1 n 4, tenant := s.coreTenant n,
             detail := source 1 n e + pc * 2 ^ 32, counters := [Reg.CORE_ABSENT_UNIT n] }).stopShuttle n 3

/-- Moves the program counter of core n past the instruction that has executed; past 8,191 the shuttle stops (R74). -/
def State.nextPc (s : State) (n : Nat) : State :=
  let pc := s.fld (Reg.SHUTTLE_STATUS n) Fl.SHUTTLE_STATUS_PC
  if pc = 8191 then s.stopShuttle n 12 else s.setFld (Reg.SHUTTLE_STATUS n) Fl.SHUTTLE_STATUS_PC (pc + 1)

/-- The front end's last decision for a command that has passed the checks: cancelled, or put in the queue, and the shuttle
goes on (R86, R96). -/
def State.acceptIssue (s : State) (n e : Nat) (c : BitVec 128) (slot : Option Nat) : State :=
  (if s.queueState n e = 0 then s.enqueue n e c slot else s.cancelIssue n e c).nextPc n

/-- ISSUE of staging register e to a slot, or untimed (R128). -/
def State.issue (s : State) (n e : Nat) (slot : Option Nat) : State :=
  let c := s.staging n e
  if (match slot with | some j => (s.station n j).opened.isNone | none => false) then s.stopShuttle n 4
  else if !s.issueForm n e c then s.stopShuttle n 7
  else if !s.issueRange n e c then s.stopShuttle n 6
  else if s.issueAbsent n e c then s.refuseAbsent n e
  else if s.queueState n e = 0 ∧ 512 ≤ (s.queue n e).length then s.stallShuttle n 2 e
  else s.acceptIssue n e c slot

end Sys2Proof.Machine
end

