-- ==== Sys2Proof/Machine/EngineOps.lean ====
section
/-! DEFINITION. Engine queues at work: when a front command starts (R89), waits (R188, R189), completion in order with the
set field (R89, R119, R198), and the answers of the transport that a command waits for (R198, R353). -/

namespace Sys2Proof.Machine

/-- How many commands an engine may have in flight (R89). -/
def inFlightLimit (e : Nat) : Nat := match e with | 0 => 2 | 1 => 4 | _ => 16

/-- The front command that has not started. -/
def State.frontWaiting (s : State) (n e : Nat) : Option QEntry := (s.queue n e).find? (fun x => !x.started)

/-- Commands in flight. -/
def State.inFlight (s : State) (n e : Nat) : Nat := ((s.queue n e).filter (·.started)).length

/-- Every start condition of R89 but the wait; no engine executes a command before the cores are released (R40), nor after a trip
(R405). -/
def State.eligible (s : State) (n e : Nat) (x : QEntry) : Bool :=
  s.coresRun && s.queueState n e == 0 && decide (s.inFlight n e < inFlightLimit e)
    && (match x.tag with | some (_, b) => decide (b ≤ s.stitch) | none => true)

/-- A command waits on a knot at all (R118). -/
def QEntry.waits (x : QEntry) : Bool := cmdWaitCond x.cmd != 0

/-- The wait of a command has a frayed knot (R188). -/
def State.waitFrayed (s : State) (x : QEntry) : Bool := x.waits && s.knotError (cmdWaitKnot x.cmd)

/-- The wait of a command is satisfied, or it has none; the error takes precedence (R188). -/
def State.waitHolds (s : State) (x : QEntry) : Bool :=
  !x.waits || (!s.knotError (cmdWaitKnot x.cmd)
    && condHolds (cmdWaitCond x.cmd) (s.knotCount (cmdWaitKnot x.cmd)) (cmdWaitValue x.cmd))

/-- waiting(q) of R199: the front is held only by its wait, which is neither satisfied nor frayed. -/
def State.waitingFront (s : State) (n e : Nat) : Option QEntry :=
  match s.frontWaiting n e with
  | some x => if s.eligible n e x && !s.waitHolds x && !s.waitFrayed x then some x else none
  | none => none

/-- Marks the beginning of the wait of one queue's front (R189). -/
def State.markWait (s : State) (n e : Nat) : State :=
  match s.waitingFront n e with
  | some x => if x.waitSince.isNone then s.putEntryQ n e { x with waitSince := some s.stitchClock } else s
  | none => s

/-- Marks the waits of a list of queues, by 4 × core + engine. -/
def State.markWaitList (s : State) : List Nat → State
  | [] => s
  | q :: rest => State.markWaitList (s.markWait (q / 4) (q % 4)) rest

/-- Marks every wait that has begun in the stitch that ends (R189). -/
def State.markWaits (s : State) : State := s.markWaitList (s.core.queues.map (·.1))

/-- The stitch clock advances by one (R60). -/
def State.advanceClock (s : State) : State :=
  let s1 := s.markWaits.markOthers
  { s1 with stitchClock := s1.stitchClock + 1 }

/-- The front command of a queue that may start now and passes a test (R89). -/
def State.startable (s : State) (n e : Nat) (p : QEntry → Bool) : Option QEntry :=
  match s.frontWaiting n e with
  | some x => if s.eligible n e x && s.waitHolds x && p x then some x else none
  | none => none

/-- The command in flight of a queue that passes a test and has steps left, the oldest one, while the cores run. -/
def State.running (s : State) (n e : Nat) (p : QEntry → Bool) : Option QEntry :=
  if s.coresRun then (s.queue n e).find? (fun x => x.started && !x.workDone && x.failed.isNone && p x) else none

/-- A command of opcode op. -/
def isOp (op : Nat) (x : QEntry) : Bool := cmdOpcode x.cmd == op

/-- The entry of a queue with a number. -/
def State.entryUid (s : State) (n e uid : Nat) : Option QEntry := (s.queue n e).find? (fun x => x.uid == uid)

/-- A step failed: the command makes no further step and will complete ABORTED (R126). -/
def QEntry.fail (x : QEntry) (f : StepFail) : QEntry := { x with failed := some f, workDone := true, spillDue := false }

/-! ### Completion -/

/-- Completes a command ABORTED for its own failure: the ABORTED count and record, and the fray (R103, R119). -/
def State.abortCmd (s : State) (n e : Nat) (x : QEntry) (f : StepFail) (silent : Bool) : State :=
  (s.finishCmd n e x .aborted silent).recordAborted n e 1 f

/-- Sends the zero-length read after a command's last host write, once no step of it has still to write; where the function may
issue no request, the command's step fails as with UR (R419, R420). -/
def State.moverTail (s : State) (n e : Nat) (x : QEntry) : State × QEntry :=
  match x.hostTail with
  | some (f, w, h) =>
    if x.workDone && (x.gathers.isEmpty || (x.failed.isSome && x.outstanding == 0)) then
      if s.canDma f then
        (s.flushHost (.moverFlush n e x.uid) ((s.coreTenant n).getD 0) f w h,
          { x with hostTail := none, outstanding := x.outstanding + 1 })
      else
        (s.dmaError f, { (if x.failed.isSome then x
          else x.fail { cause := 6, port := if isOp 4 x then 1 else 0, address := h % 2 ^ 48 }) with hostTail := none })
    else (s, x)
  | none => (s, x)

/-- Completes the front command of a queue, or sends its remote set first, once its report is written (R89, R119, R198, R383). -/
def State.endFront (s : State) (n e : Nat) (x : QEntry) : State :=
  match x.failed with
  | some f => s.abortCmd n e x f false
  | none =>
    if cmdSetOp x.cmd ≠ 0 ∧ setIsLocal x.cmd = false then
      let r := s.reportEnd n e x .ok
      (r.1.putEntryQ n e { r.2 with setSent := true }).sendSet n e x
    else s.finishCmd n e x .ok false

/-- Completes the front command of a queue when its work is done and nothing of it is outstanding (R89, R119): a remote set is
sent first, and the command then waits for its reply (R198). -/
def State.completeFront (s : State) (n e : Nat) : State :=
  match s.queue n e with
  | [] => s
  | x :: _ =>
    if s.coresRun = false ∨ x.started = false ∨ x.workDone = false ∨ x.spillDue = true ∨ x.outstanding ≠ 0 ∨ x.setSent = true then s
    else
      let r := s.moverTail n e x
      (if r.2.outstanding = 0 then (r.1.putEntryQ n e r.2).endFront n e r.2 else r.1.putEntryQ n e r.2).checkDrains n

/-- The end of a remote set (R198). -/
def State.setAnswered (s : State) (n e : Nat) (x : QEntry) (a : Answer) : State :=
  (if a.result = .replied 0 then s.finishCmd n e x .ok true
  else
    s.abortCmd n e x { cause := if a.result = .undeliverable then 5 else 4, address := cmdSetKnot x.cmd, device := a.device }
      true).checkDrains n

/-- A transfer succeeded. -/
def TxnResult.good (r : TxnResult) : Bool := r == .acked || r == .replied 0

/-- One answered transfer of a step of a command (R353, R382). -/
def State.stepAnswered (s : State) (n e : Nat) (x : QEntry) (step : Nat) (a : Answer) : State :=
  let checks := x.checks.map (fun c => if c.step = step
    then { c with waiting := c.waiting - 1, refused := c.refused || !a.result.good } else c)
  let y := { x with outstanding := x.outstanding - 1 }.takeChecks checks
  if a.result.good = true ∨ y.failed.isSome = true then s.putEntryQ n e y
  else
    s.putEntryQ n e (y.fail { cause := if a.result = .undeliverable then 5 else 4, address := a.address % 2 ^ 48,
                              device := a.device })

/-- Takes one answer of the transport for a command. -/
def State.settleOne (s : State) (a : Answer) : State :=
  match a.owner with
  | .step n e uid step =>
    match s.entryUid n e uid with
    | some x => s.stepAnswered n e x step a
    | none => s
  | .read n e uid step =>
    match s.entryUid n e uid with
    | some x => s.stepAnswered n e x step a
    | none => s
  | .knotSet n e uid _ =>
    match s.entryUid n e uid with
    | some x => s.setAnswered n e x a
    | none => s
  | _ => s

/-- Takes a list of answers. -/
def State.settleList (s : State) : List Answer → State
  | [] => s
  | a :: rest => State.settleList (s.settleOne a) rest

/-- Whether an answer is for a command of an engine queue. -/
def Answer.forQueue (a : Answer) : Bool :=
  match a.owner with | .step .. => true | .read .. => true | .knotSet .. => true | _ => false

/-- Takes every answer that waits for a command of an engine queue. -/
def State.settle (s : State) : State :=
  let mine := s.net.answers.filter Answer.forQueue
  ({ s with net := { s.net with answers := s.net.answers.filter (fun a => !a.forQueue) } }).settleList mine

end Sys2Proof.Machine
end

