-- ==== Sys2Proof/Machine/Digest.lean ====
section
/-! DEFINITION. The SHA-512 digest, which R364, R434 and R442 name by its standard, FIPS 180-4 (notes/assumptions/2). -/

namespace Sys2Proof.Machine

/-- The eight words of a hash value, and the sixteen words of the message schedule that the next round takes. -/
structure ShaState where
  a : Word
  b : Word
  c : Word
  d : Word
  e : Word
  f : Word
  g : Word
  h : Word
  w : List Word
  deriving DecidableEq, Repr

/-- Round constants 0 to 19: the first 64 bits of the fractional parts of the cube roots of the first 80
primes. -/
def shaK1 : List Word :=
  [0x428A2F98D728AE22, 0x7137449123EF65CD, 0xB5C0FBCFEC4D3B2F, 0xE9B5DBA58189DBBC,
   0x3956C25BF348B538, 0x59F111F1B605D019, 0x923F82A4AF194F9B, 0xAB1C5ED5DA6D8118,
   0xD807AA98A3030242, 0x12835B0145706FBE, 0x243185BE4EE4B28C, 0x550C7DC3D5FFB4E2,
   0x72BE5D74F27B896F, 0x80DEB1FE3B1696B1, 0x9BDC06A725C71235, 0xC19BF174CF692694,
   0xE49B69C19EF14AD2, 0xEFBE4786384F25E3, 0x0FC19DC68B8CD5B5, 0x240CA1CC77AC9C65]

/-- Round constants 20 to 39. -/
def shaK2 : List Word :=
  [0x2DE92C6F592B0275, 0x4A7484AA6EA6E483, 0x5CB0A9DCBD41FBD4, 0x76F988DA831153B5,
   0x983E5152EE66DFAB, 0xA831C66D2DB43210, 0xB00327C898FB213F, 0xBF597FC7BEEF0EE4,
   0xC6E00BF33DA88FC2, 0xD5A79147930AA725, 0x06CA6351E003826F, 0x142929670A0E6E70,
   0x27B70A8546D22FFC, 0x2E1B21385C26C926, 0x4D2C6DFC5AC42AED, 0x53380D139D95B3DF,
   0x650A73548BAF63DE, 0x766A0ABB3C77B2A8, 0x81C2C92E47EDAEE6, 0x92722C851482353B]

/-- Round constants 40 to 59. -/
def shaK3 : List Word :=
  [0xA2BFE8A14CF10364, 0xA81A664BBC423001, 0xC24B8B70D0F89791, 0xC76C51A30654BE30,
   0xD192E819D6EF5218, 0xD69906245565A910, 0xF40E35855771202A, 0x106AA07032BBD1B8,
   0x19A4C116B8D2D0C8, 0x1E376C085141AB53, 0x2748774CDF8EEB99, 0x34B0BCB5E19B48A8,
   0x391C0CB3C5C95A63, 0x4ED8AA4AE3418ACB, 0x5B9CCA4F7763E373, 0x682E6FF3D6B2B8A3,
   0x748F82EE5DEFB2FC, 0x78A5636F43172F60, 0x84C87814A1F0AB72, 0x8CC702081A6439EC]

/-- Round constants 60 to 79. -/
def shaK4 : List Word :=
  [0x90BEFFFA23631E28, 0xA4506CEBDE82BDE9, 0xBEF9A3F7B2C67915, 0xC67178F2E372532B,
   0xCA273ECEEA26619C, 0xD186B8C721C0C207, 0xEADA7DD6CDE0EB1E, 0xF57D4F7FEE6ED178,
   0x06F067AA72176FBA, 0x0A637DC5A2C898A6, 0x113F9804BEF90DAE, 0x1B710B35131C471B,
   0x28DB77F523047D84, 0x32CAAB7B40C72493, 0x3C9EBE0A15C9BEBC, 0x431D67C49C100D4C,
   0x4CC5D4BECB3E42B6, 0x597F299CFC657E2A, 0x5FCB6FAB3AD6FAEC, 0x6C44198C4A475817]

/-- The initial hash value: the first 64 bits of the fractional parts of the square roots of the first 8 primes. -/
def shaInit : ShaState :=
  ⟨0x6A09E667F3BCC908, 0xBB67AE8584CAA73B, 0x3C6EF372FE94F82B, 0xA54FF53A5F1D36F1,
   0x510E527FADE682D1, 0x9B05688C2B3E6C1F, 0x1F83D9ABFB41BD6B, 0x5BE0CD19137E2179, []⟩

/-- x rotated right by i, j and k, added bitwise. -/
def shaMix (x : Word) (i j k : Nat) : Word := x.rotateRight i ^^^ x.rotateRight j ^^^ x.rotateRight k

/-- x rotated right by i and j and shifted right by k, added bitwise. -/
def shaMixShift (x : Word) (i j k : Nat) : Word := x.rotateRight i ^^^ x.rotateRight j ^^^ x >>> k

/-- Word i of the schedule's window. -/
def ShaState.at_ (x : ShaState) (i : Nat) : Word := x.w.getD i 0

/-- One round with a constant: the window moves on by one word. -/
def ShaState.round (x : ShaState) (k : Word) : ShaState :=
  let t1 := x.h + shaMix x.e 14 18 41 + (x.e &&& x.f ^^^ ~~~x.e &&& x.g) + k + x.at_ 0
  let t2 := shaMix x.a 28 34 39 + (x.a &&& x.b ^^^ x.a &&& x.c ^^^ x.b &&& x.c)
  let next := shaMixShift (x.at_ 14) 19 61 6 + x.at_ 9 + shaMixShift (x.at_ 1) 1 8 7 + x.at_ 0
  { a := t1 + t2, b := x.a, c := x.b, d := x.c, e := x.d + t1, f := x.e, g := x.f, h := x.g, w := x.w.drop 1 ++ [next] }

/-- The number of big-endian bytes. -/
def natBE (bs : List Byte) : Nat := bs.foldl (fun n b => n * 256 + b.toNat) 0

/-- The n big-endian bytes of a number. -/
def bytesBE (n v : Nat) : List Byte := (bytesLE n v).reverse

/-- A hash value after one block of 128 bytes. -/
def ShaState.block (x : ShaState) (bs : List Byte) : ShaState :=
  let w := (List.range 16).map (fun i => BitVec.ofNat 64 (natBE ((bs.drop (8 * i)).take 8)))
  let y := (shaK1 ++ shaK2 ++ shaK3 ++ shaK4).foldl ShaState.round { x with w := w }
  ⟨x.a + y.a, x.b + y.b, x.c + y.c, x.d + y.d, x.e + y.e, x.f + y.f, x.g + y.g, x.h + y.h, []⟩

/-- A hash value after the first n blocks of bytes. -/
def ShaState.blocks (x : ShaState) : (n : Nat) → List Byte → ShaState
  | 0, _ => x
  | n + 1, bs => (x.block (bs.take 128)).blocks n (bs.drop 128)

/-- A message padded to whole blocks: a 1 bit, zeros, and its length in bits as 16 bytes. -/
def shaPad (bs : List Byte) : List Byte :=
  bs ++ [0x80] ++ List.replicate ((128 - (bs.length + 17) % 128) % 128) 0 ++ bytesBE 16 (8 * bs.length)

/-- The 64 bytes of the SHA-512 digest of a byte string. Irreducible, so that no proof computes one by accident. -/
@[irreducible] def sha512 (bs : List Byte) : List Byte :=
  let m := shaPad bs
  let x := shaInit.blocks (m.length / 128) m
  [x.a, x.b, x.c, x.d, x.e, x.f, x.g, x.h].flatMap (fun y => bytesBE 8 y.toNat)

end Sys2Proof.Machine
end

