-- ==== Sys2Proof/Machine/P521.lean ====
section
/-! DEFINITION. The verification of an ECDSA signature with curve P-521, which R434 and R444 name by its standard, FIPS 186-5
(notes/assumptions/2). -/

namespace Sys2Proof.Machine

/-- The field of the curve: numbers modulo 2^521 − 1. -/
def p521 : Nat := 2 ^ 521 - 1

/-- The coefficient b of y² = x³ − 3x + b. -/
def p521B : Nat :=
  0x051953EB9618E1C9A1F929A21A0B68540EEA2DA725B99B315F3B8B489918EF109E156193951EC7E937B1652C0BD3BB1BF073573DF883D2C34F1EF451FD46B503F00

/-- The order of the base point. -/
def p521N : Nat :=
  0x1FFFFFFFFFFFFFFFFFFFFFFFFFFFFFFFFFFFFFFFFFFFFFFFFFFFFFFFFFFFFFFFFFA51868783BF2F966B7FCC0148F709A5D03BB5C9B8899C47AEBB6FB71E91386409

/-- A point as X / Z², Y / Z³; Z = 0 is the point at infinity. -/
structure P521Point where
  x : Nat
  y : Nat
  z : Nat
  deriving DecidableEq, Repr

/-- The base point. -/
def p521G : P521Point :=
  ⟨0x0C6858E06B70404E9CD9E3ECB662395B4429C648139053FB521F828AF606B4D3DBAA14B5E77EFE75928FE1DC127A2FFA8DE3348B3C1856A429BF97E7E31C2E5BD66,
   0x11839296A789A3BC0045C8A5FB42C7D1BD998F54449579B446817AFBD17273E662C97EE72995EF42640C550B9013FAD0761353C7086A272C24088BE94769FD16650,
   1⟩

/-- a × b of the field. -/
def p521Mul (a b : Nat) : Nat := a * b % p521

/-- a − b of the field. -/
def p521Sub (a b : Nat) : Nat := (a + p521 - b % p521) % p521

/-- b^e modulo m, over the n low bits of e. -/
def powMod (m b e : Nat) : (n : Nat) → Nat
  | 0 => 1 % m
  | n + 1 =>
    let r := powMod m b (e / 2) n
    let q := r * r % m
    if e % 2 = 1 then q * b % m else q

/-- The inverse modulo a prime m. -/
def invMod (m a : Nat) : Nat := powMod m a (m - 2) 521

/-- Twice a point. -/
def P521Point.double (p : P521Point) : P521Point :=
  let d := p521Mul p.z p.z
  let g := p521Mul p.y p.y
  let b := p521Mul p.x g
  let a := p521Mul 3 (p521Mul (p521Sub p.x d) (p.x + d))
  let x := p521Sub (p521Mul a a) (8 * b)
  ⟨x, p521Sub (p521Mul a (p521Sub (4 * b) x)) (8 * p521Mul g g), p521Mul 2 (p521Mul p.y p.z)⟩

/-- The sum of two points. -/
def P521Point.add (p q : P521Point) : P521Point :=
  if p.z = 0 then q
  else if q.z = 0 then p
  else
    let pz := p521Mul p.z p.z
    let qz := p521Mul q.z q.z
    let u := p521Mul p.x qz
    let s := p521Mul p.y (p521Mul qz q.z)
    let h := p521Sub (p521Mul q.x pz) u
    let r := p521Sub (p521Mul q.y (p521Mul pz p.z)) s
    if h = 0 then (if r = 0 then p.double else ⟨1, 1, 0⟩)
    else
      let hh := p521Mul h h
      let hhh := p521Mul hh h
      let v := p521Mul u hh
      let x := p521Sub (p521Sub (p521Mul r r) hhh) (2 * v)
      ⟨x, p521Sub (p521Mul r (p521Sub v x)) (p521Mul s hhh), p521Mul h (p521Mul p.z q.z)⟩

/-- k times a point, over the n low bits of k. -/
def P521Point.times (p : P521Point) (k : Nat) : (n : Nat) → P521Point
  | 0 => ⟨1, 1, 0⟩
  | n + 1 =>
    let r := (p.times (k / 2) n).double
    if k % 2 = 1 then r.add p else r

/-- Whether a finite point given by its coordinates lies on the curve. -/
def onP521 (x y : Nat) : Bool :=
  decide (x < p521) && decide (y < p521) && p521Mul y y == (p521Sub (p521Mul x (p521Mul x x)) (3 * x) + p521B) % p521

/-- Whether a signature of 132 bytes, R then S, verifies over a digest under a public key in uncompressed form. -/
@[irreducible] def p521Verifies (key digest signature : List Byte) : Bool :=
  let x := natBE ((key.drop 1).take 66)
  let y := natBE ((key.drop 67).take 66)
  let r := natBE (signature.take 66)
  let s := natBE ((signature.drop 66).take 66)
  let w := invMod p521N s
  let sum := (p521G.times (natBE digest * w % p521N) 521).add ((P521Point.mk x y 1).times (r * w % p521N) 521)
  let zi := invMod p521 sum.z
  key.length == 133 && key.head? == some 4 && onP521 x y && decide (1 ≤ r) && decide (r < p521N) && decide (1 ≤ s)
    && decide (s < p521N) && sum.z != 0 && p521Mul sum.x (p521Mul zi zi) % p521N == r

end Sys2Proof.Machine
end

