-- ==== Sys2Proof/Machine/FwOps.lean ====
section
/-! DEFINITION. Operations on the firmware state (R434 to R440) and on the digests' status (R365) that other families use. -/

namespace Sys2Proof.Machine

/-- A field of the image header. -/
def headerField (image : List Byte) (lo n : Nat) : Nat := natLE ((image.drop lo).take n)

/-- The firmware measurement of an image (R434): SHA-512 of header bytes 0 to 255 and the LENGTH payload bytes. -/
def measurementOf (image : List Byte) : List Byte :=
  sha512 (image.take 256 ++ (image.drop 512).take (headerField image 16 4))

/-- A shared digest is out of date (R365). -/
def State.staleDigest (s : State) (t : Nat) : State := s.setFld (Reg.DIGEST_STATUS t) Fl.DIGEST_STATUS_CURRENT 0

/-- The device digest is out of date (R365). -/
def State.staleDevice (s : State) : State := s.setFld Reg.DEVICE_DIGEST_STATUS Fl.DEVICE_DIGEST_STATUS_CURRENT 0

/-- Every shared digest is out of date. -/
def State.staleShared (s : State) : State := iterate (fun t s => s.staleDigest t) 32 0 s

/-- Writes a 64-byte value into eight registers, word w from bytes 8w to 8w + 7 (R368, R447). -/
def State.putDigest (s : State) (reg : Nat → Nat) (bytes : List Byte) : State :=
  iterate (fun w s => s.wr (reg w) (BitVec.ofNat 64 (natLE ((bytes.drop (8 * w)).take 8)))) 8 0 s

/-- The bytes of eight digest registers. -/
def State.digestBytes (s : State) (reg : Nat → Nat) : List Byte :=
  (List.range 8).flatMap (fun w => bytesLE 8 (s.rd (reg w)).toNat)

/-- Whether received digest bytes match tenant t's shared digest; until the activation window ends, the digest from before
boundary A matches too (R438). -/
def State.digestMatches (s : State) (t : Nat) (bytes : List Byte) : Bool :=
  bytes == s.digestBytes (Reg.DIGEST t)
    || (s.fw.windowEnd.isSome && bytes == (s.fw.oldDigests.getD t []).flatMap (fun w => bytesLE 8 w.toNat))

/-- Tambour leaves the image it runs and starts another (R438, R440). -/
def State.restartTambour (s : State) (fromCopy : Bool) : State :=
  { s with fw := { s.fw with tambour := .starting, fromCopy := fromCopy } }

/-- What happens to firmware at boundary b (R438, R440): at boundary A the committed image's measurement enters the digests
and Tambour alone restarts; a retirement of West's core takes effect, and an activation requested meanwhile follows it. -/
def State.firmwareBoundary (s : State) (b : Nat) : State :=
  if s.fw.retirePending then
    let s1 := s.setBit Reg.DEVICE_RETIRE_UNITS 40
    let s2 := { s1 with fw := { s1.fw with retirePending := false, east := true } }
    (s2.restartTambour true).staleDevice
  else if s.fw.activateAt = some b ∧ s.fld Reg.SECURITY_UPDATE_STATUS Fl.SECURITY_UPDATE_STATUS_STATE = 4
      ∧ s.fw.tambour ≠ .starting then
    let old := (List.range 32).map (fun t => (List.range 8).map (fun w => s.rd (Reg.DIGEST t w)))
    let s1 := s.setFld Reg.SECURITY_UPDATE_STATUS Fl.SECURITY_UPDATE_STATUS_STATE 5
    let s2 := (s1.putDigest Reg.SECURITY_MEASUREMENT (measurementOf s1.fw.flash)).staleShared.staleDevice
    ({ s2 with fw := { s2.fw with activateAt := none, windowEnd := some (b + 64), oldDigests := old } }).restartTambour false
  else s

/-- The boundary at which an activation whose boundary passed while a retirement was pending is carried out: the next one
(R440). -/
def State.deferActivation (s : State) (b : Nat) : State :=
  match s.fw.activateAt with
  | some a => if a ≤ b then { s with fw := { s.fw with activateAt := some (b + 1) } } else s
  | none => s

end Sys2Proof.Machine
end

