-- ==== Sys2Proof/Machine/Adder.lean ====
section
/-! DEFINITION. Memory-side adds (R243 to R247, R263), the ownership of cells by parameter groups (R268) and the refusal of
adds into frozen groups (R269). -/

namespace Sys2Proof.Machine

/-! ### Long cells (R245) -/

/-- The overflow marker. -/
def longMarker : Nat := 2 ^ 127

/-- long_add: the value written, and whether a marker formed, with its cause: false addend, true sum. -/
def longAdd (cell : Nat) (a : Int) : Nat × Option Bool :=
  if cell = longMarker ∨ a = -(2 ^ 127 : Int) then (longMarker, none)
  else if 2 ^ 111 ≤ a.natAbs then (longMarker, some false)
  else
    let s := signedOf 128 cell + a
    if 2 ^ 127 ≤ s.natAbs then (longMarker, some true) else (unsignedOf 128 s, none)

/-- What an FP32 addend becomes for window base w (R246): none when it is not finite; the integer, and whether a non-zero
addend became zero. -/
def longFrom (w : Int) (x : W32) : Option (Int × Bool) :=
  match ofF32 x with
  | .num neg m e =>
    let r := roundMant m (e + 96 - w) 0
    some (if neg then -(r : Int) else (r : Int), m != 0 && r == 0)
  | _ => none

/-! ### Groups (R264 to R268) -/

/-- What a group holds beside its registers. -/
def State.groupRun (s : State) (g : Nat) : GroupRun := Sparse.get (fun _ => {}) s.upd.groups g

/-- Writes what a group holds beside its registers. -/
def State.setGroupRun (s : State) (g : Nat) (x : GroupRun) : State :=
  { s with upd := { s.upd with groups := Sparse.set (fun _ => {}) s.upd.groups g x } }

/-- A byte of the group's entry is lost (R380). -/
def State.groupLost (s : State) (g : Nat) : Bool :=
  s.mem.arrayUpsets.any (fun e => byteLost e.2 && e.1 / 0x80 == Reg.GROUP_CONTROL g / 0x80)

/-- The valid groups in ascending order. -/
def State.validGroups (s : State) : List Nat :=
  (s.regs.filterMap (fun e =>
    if 0x2900000 ≤ e.1 ∧ e.1 < 0x2980000 ∧ (e.1 - 0x2900000) % 0x80 = 0 ∧ e.2.toNat % 2 = 1
    then some ((e.1 - 0x2900000) / 0x80) else none)).filter (fun g => !s.groupLost g)

/-- A field of word `i` of a group as its unit uses it: as sampled at creation or at the last APPLY start (R267). -/
def State.groupUse (s : State) (g i : Nat) (f : Fld) : Nat := f.read ((s.groupRun g).words.getD i 0)

/-- The parameters of a group. -/
def State.groupCount (s : State) (g : Nat) : Nat := s.fld (Reg.GROUP_ELEMENTS g) Fl.GROUP_ELEMENTS_COUNT + 1

/-- n′ of a group (R265). -/
def padded (n : Nat) : Nat := (n + 255) / 256 * 256

/-- The accumulator base of a group. -/
def State.accBase (s : State) (g : Nat) : Nat := s.fld (Reg.GROUP_ACC_BASE g) Fl.GROUP_ACC_BASE_ADDR

/-- The update unit of a group. -/
def State.groupUnit (s : State) (g : Nat) : Nat := s.fld (Reg.GROUP_CONTROL g) Fl.GROUP_CONTROL_UNIT

/-- The group whose accumulator range touches n bytes at an address (R268). -/
def State.cellGroup (s : State) (a n : Nat) : Option Nat :=
  s.validGroups.find? (fun g =>
    decide (s.accBase g < a + n) && decide (a < s.accBase g + 16 * padded (s.groupCount g)))

/-- The group's rule is FROZEN. -/
def State.groupFrozen (s : State) (g : Nat) : Bool := s.groupUse g 0 Fl.GROUP_CONTROL_RULE == 0

/-- W of a group. -/
def State.windowBase (s : State) (g : Nat) : Int := signedOf 16 (s.fld (Reg.GROUP_WINDOW g) Fl.GROUP_WINDOW_W)

/-- The near update unit of a near address (R262). -/
def nearUnit (a : Nat) : Nat := 8 + (a - nearBase) / 0x8000000

/-- The update unit that serves an address (R262). -/
def unitOf (a : Nat) : Nat := match placeOf a with | .far k => k | _ => nearUnit a

/-! ### One step of adds -/

/-- Bytes of an addend of an element format. -/
def addendBytes (fmt : Nat) : Nat := formatBits fmt / 8

/-- Bytes of a cell (R243). -/
def cellBytes (op fmt : Nat) : Nat := if op = 4 then 16 else addendBytes fmt

/-- The signed comparison of MINIMUM and MAXIMUM on integers of n bytes: the larger or the smaller. -/
def intPick (smaller : Bool) (n a b : Nat) : Nat :=
  if (signedOf (8 * n) a < signedOf (8 * n) b) = smaller then a else b

/-- The value written for the operations that make no marker (R243). -/
def plainAdd (op fmt cell addend : Nat) : Nat :=
  match op with
  | 0 => (cell + addend) % 2 ^ 32
  | 1 => (cell + addend) % 2 ^ 64
  | 2 => (add32 (BitVec.ofNat 32 cell) (BitVec.ofNat 32 addend)).val.toNat
  | _ =>
    if fmt = 0 then
      (if op = 5 then min32 (BitVec.ofNat 32 cell) (BitVec.ofNat 32 addend)
       else max32 (BitVec.ofNat 32 cell) (BitVec.ofNat 32 addend)).toNat
    else if cell = addend then cell
    else intPick (op == 5) (addendBytes fmt) cell addend

/-- A marker formed at the adder (R245). -/
def State.longOverflow (s : State) (t : Nat) (a : Nat) (sum : Bool) : State :=
  let detail := a % 2 ^ 48 + sum.toNat * 2 ^ 48
  match placeOf a with
  | .far k =>
    s.raise { cond := .longOverflow, ribbon := .fault, source := source 6 k (farCoord a).pc, tenant := some t,
              detail := detail, counters := [Reg.FAR_LONG_OVERFLOW k] }
  | _ =>
    s.raise { cond := .longOverflow, ribbon := .fault, source := source 4 (nearUnit a) 0, tenant := some t,
              detail := detail, counters := [Reg.UNIT_LONG_OVERFLOW (nearUnit a)] }

/-- Applies long_add to a cell. -/
def State.addLong (s : State) (t a : Nat) (x : Int) : State :=
  let r := longAdd (natLE (s.bytesAt a 16)) x
  let s1 := s.putBytes a (bytesLE 16 r.1)
  match r.2 with
  | some sum => s1.longOverflow t a sum
  | none => s1

/-- Applies an FP32 addend to a long cell of group g (R246). -/
def State.addFrom (s : State) (t g a : Nat) (x : W32) : State :=
  match longFrom (s.windowBase g) x with
  | none => s.setGroupRun g { s.groupRun g with nonfinite := true }
  | some (n, lost) =>
    let s1 := if lost then s.setGroupRun g { s.groupRun g with zeroAdds := (s.groupRun g).zeroAdds + 1 } else s
    s1.addLong t a n

/-- Applies one addend to one cell. -/
def State.addCell (s : State) (t op fmt a : Nat) (addend : Nat) : State :=
  match op with
  | 3 => s.addLong t a (signedOf 128 addend)
  | 4 =>
    match s.cellGroup a 16 with
    | some g => s.addFrom t g a (BitVec.ofNat 32 addend)
    | none => s
  | _ =>
    let n := cellBytes op fmt
    s.putBytes a (bytesLE n (plainAdd op fmt (natLE (s.bytesAt a n)) addend))

/-- Applies addends to consecutive cells, leaving out cells of frozen groups (R269); n bounds how many. -/
def State.addCells (s : State) (t op fmt : Nat) : (n a : Nat) → List Byte → State
  | 0, _, _ => s
  | n + 1, a, bs =>
    let k := addendBytes fmt
    let refused := match s.cellGroup a (cellBytes op fmt) with | some g => s.groupFrozen g | none => false
    State.addCells (if refused then s else s.addCell t op fmt a (natLE (bs.take k))) t op fmt n (a + cellBytes op fmt)
      (bs.drop k)

/-- The controller's part of adds into a line that has been fetched: the buffer holds it whole, and the rewrite corrects its
latent errors (R247, R263). -/
def State.touchAdd (s : State) (line : Nat) : State :=
  let s1 := match placeOf (line * 64) with
    | .far _ => s.wcbMerge line (BitVec.allOnes 64)
    | .near => s.addWrap (Reg.NEAR_PANEL_WRITES (sramUnit (line * 64))) 1
    | _ => s
  (s1.clearUpsets (line * 8) 8).clearUpsets (2 ^ 44 + line * 2) 2

/-- Adds touch lines one after the other. -/
def State.touchAdds (s : State) : List Nat → State
  | [] => s
  | l :: rest => State.touchAdds (s.touchAdd l) rest

/-- The groups of frozen cells among n cells from an address: group and cell address, in address order. -/
def State.frozenCells (s : State) (size : Nat) : (n a : Nat) → List (Nat × Nat)
  | 0, _ => []
  | n + 1, a =>
    match s.cellGroup a size with
    | some g => if s.groupFrozen g then (g, a) :: State.frozenCells s size n (a + size)
                else State.frozenCells s size n (a + size)
    | none => State.frozenCells s size n (a + size)

/-- Whether the cells of a step are ones its ADD_OP may change (R268): owned ones for LONG_FROM_FP32, any for LONG_ADD, and
ones no group owns for every other operation. -/
def State.cellsOk (s : State) (op size : Nat) : (n a : Nat) → Bool
  | 0, _ => true
  | n + 1, a =>
    (match op, s.cellGroup a size with
      | 3, _ => true
      | 4, g => g.isSome
      | _, g => g.isNone) && State.cellsOk s op size n (a + size)

/-- Keeps one of each. -/
def distinct : List Nat → List Nat
  | [] => []
  | x :: rest => let r := distinct rest; if r.contains x then r else x :: r

/-- Sets STRICT_FAIL of a list of groups (R269). -/
def State.strictFail (s : State) : List Nat → State
  | [] => s
  | g :: rest => State.strictFail (s.setFld (Reg.GROUP_STATUS g) Fl.GROUP_STATUS_STRICT_FAIL 1) rest

/-- The FROZEN_WRITE occurrence of a refused step (R269), with the counters of the units concerned. -/
def State.reportFrozen (s : State) (strict : Bool) (g a : Nat) (units : List Nat) : State :=
  s.raise { cond := .frozenWrite, ribbon := if strict then .fault else .notice, source := source 4 (s.groupUnit g) 0,
            tenant := s.groupTenant g, detail := g % 2 ^ 12 + a % 2 ^ 48 * 2 ^ 16,
            counters := units.map Reg.UNIT_FROZEN_WRITE }

/-- Where a step of adds may go: aligned, in far or near memory that the tenant may write (R244, R126). -/
def State.addTargetOk (s : State) (t : Option Nat) (op fmt a len : Nat) : Bool :=
  a % cellBytes op fmt == 0 && (match placeOf a with | .far _ => true | .near => true | _ => false)
    && s.tenantMay t a len true

/-- One step of adds by tenant t (R243 to R247, R268, R269): the state after it, and the cause of its failure if it failed
(R455). No cell changes in a step that fails. -/
def State.reduce (s : State) (t : Option Nat) (op fmt a : Nat) (addends : List Byte) : State × Option Nat :=
  let n := addends.length / max 1 (addendBytes fmt)
  let size := cellBytes op fmt
  if !s.addTargetOk t op fmt a (n * size) || !s.cellsOk op size n a then (s, some 2)
  else
    let frozen := if op = 3 ∨ op = 4 then s.frozenCells size n a else []
    let units := distinct (frozen.map (fun x => s.groupUnit x.1))
    let strict := frozen.filter (fun x => s.groupUse x.1 0 Fl.GROUP_CONTROL_FROZEN_POLICY == 1)
    match strict.head?, frozen.head? with
    | some (g, b), _ => ((s.strictFail (strict.map (·.1))).reportFrozen true g b units, some 9)
    | none, f =>
      let s0 := match f with
        | some (g, b) => s.reportFrozen false g b units
        | none => s
      let l := s0.load t .stream a (n * size)
      if !l.poison.isEmpty then (l.s, some 7)
      else ((l.s.touchAdds (linesOf a (n * size))).addCells (t.getD 0) op fmt n a addends, none)

end Sys2Proof.Machine
end

