-- ==== Sys2Proof/Machine/Shuttle.lean ====
section
/-! DEFINITION. The shuttle's instructions (R72 to R87, R106 to R117), one command each: the command carries out the
instruction at the program counter of its core when that instruction is of its kind and the shuttle is RUNNING, and is no
event otherwise (notes/assumptions/4). -/

namespace Sys2Proof.Machine

/-- A register of eight bytes as a span of array bytes. -/
def regSpan (off : Nat) : Nat × Nat := (off, 8)

/-- The array bytes of generator g of core n (R75). -/
def genSpans (n g : Nat) : List (Nat × Nat) :=
  ([Reg.GEN_BASE n g, Reg.GEN_CONFIG n g, Reg.GEN_INDEX n g, Reg.GEN_INDEX_HI n g] ++ (List.range 6).map (Reg.GEN_DIM n g)).map
    regSpan

/-- The array bytes of tile register t of core n (R87). -/
def tileSpans (n t : Nat) : List (Nat × Nat) := [regSpan (Reg.TILE_LO n t), regSpan (Reg.TILE_HI n t)]

/-- The bytes of the staging register of engine e that a field of `width` bits at bit `lo` covers in part: a fill reads them
before it writes them (R371). -/
def partSpans (n e lo width : Nat) : List (Nat × Nat) :=
  (if lo % 8 = 0 then [] else [(stagingKey n e + lo / 8, 1)])
    ++ (if (lo + width) % 8 = 0 then [] else [(stagingKey n e + (lo + width) / 8, 1)])

/-- What an ISSUE of engine e takes from the arrays: its staging register, and the tile registers and generators that the command
there names (R82, R93). -/
def State.issueSpans (s : State) (n e : Nat) : List (Nat × Nat) :=
  let c := s.staging n e
  (stagingKey n e, 16) :: (tilesNamed e c).flatMap (tileSpans n)
    ++ ((cmdS0 c).toList ++ (cmdS1 c).toList).flatMap (genSpans n)

/-- The bytes in byte-coded arrays that an instruction reads beside its own word (R72, R369, R380). -/
def State.insSources (s : State) (n : Nat) (w : W32) : List (Nat × Nat) :=
  let c := fun lo => (Reg.COUNTER n (insField w lo 5), 4)
  let fills := fun width => partSpans n (insField w 24 2) (insField w 17 7) width
  match insOpcode w with
  | 0x04 => [c 21]
  | 0x05 => [c 21, c 16]
  | 0x06 => [c 21]
  | 0x07 => [c 21, c 16]
  | 0x08 => [c 16, c 11]
  | 0x09 | 0x0A | 0x0B | 0x0C | 0x0D | 0x0E => [c 16]
  | 0x10 => [c 21]
  | 0x18 | 0x1A => [c 21]
  | 0x19 | 0x1B => [c 21, c 16]
  | 0x20 =>
    match insField w 11 4 with
    | 2 | 3 => [c 15, regSpan (Reg.GEN_BASE n (insField w 23 3))]
    | 7 => []
    | 8 => genSpans n (insField w 23 3)
    | _ => [c 15]
  | 0x28 => [regSpan (Reg.TEMPLATE_LO n (insField w 0 9)), regSpan (Reg.TEMPLATE_HI n (insField w 0 9))]
  | 0x29 => c 6 :: fills (insField w 11 6 + 1)
  | 0x2A => fills (insField w 12 5 + 1)
  | 0x2B => genSpans n (insField w 8 3) ++ fills (insField w 11 6 + 1)
  | 0x2C => s.issueSpans n (insField w 24 2)
  | 0x30 => c 0 :: tileSpans n (insField w 20 6)
  | 0x31 => tileSpans n (insField w 20 6)
  | 0x32 => tileSpans n (insField w 14 6)
  | _ => []

/-- The bytes of the instruction at an address of core n (R74). -/
def insSpan (n pc : Nat) : Nat × Nat := (Reg.INSTRUCTION n (pc / 2) + 4 * (pc % 2), 4)

/-- The program counter of core n. -/
def State.pc (s : State) (n : Nat) : Nat := s.fld (Reg.SHUTTLE_STATUS n) Fl.SHUTTLE_STATUS_PC

/-- Carries out the instruction at the program counter when its opcode is `op`, it passes the test p, it is not reserved, the
shuttle is RUNNING and the cores run (R14, R40); a lost byte of it, or of what it reads, stops the shuttle before any effect
(R380). -/
def State.fetchDo (s : State) (n op : Nat) (p : W32 → Bool) (f : W32 → State → State) : State :=
  let own := s.readSpans (s.coreTenant n) [insSpan n (s.pc n)]
  let w := own.1.instructionAt n (s.pc n)
  if s.coresRun = true ∧ s.shuttleState n = 1 ∧ insOpcode w = op ∧ p w = true ∧ insReserved w = false then
    if own.2 then own.1.stopShuttle n 7
    else
      let r := own.1.readSpans (s.coreTenant n) (own.1.insSources n w)
      if r.2 then r.1.stopShuttle n 7 else f w r.1
  else s

/-- The command form of an instruction. -/
def runIns (n op : Nat) (s : State) (f : W32 → State → State) : Result := finish (s.begin.fetchDo n op (fun _ => true) f)

/-- Branches to TARGET, the low 13 bits of the instruction (R108). -/
def State.branch (s : State) (n : Nat) (w : W32) : State :=
  s.setFld (Reg.SHUTTLE_STATUS n) Fl.SHUTTLE_STATUS_PC (insField w 0 13)

/-- Branches if a condition holds, else goes on. -/
def State.branchIf (s : State) (n : Nat) (w : W32) (b : Bool) : State := if b then s.branch n w else s.nextPc n

/-- Writes counter cd, bits [25:21], and goes on. -/
def State.writeCd (s : State) (n : Nat) (w : W32) (v : W32) : State := (s.setCounter n (insField w 21 5) v).nextPc n

/-- Counter ca of formats L, B, BI, K and KX: bits [25:21]. -/
def State.caHigh (s : State) (n : Nat) (w : W32) : W32 := s.counter n (insField w 21 5)

/-- Counter ca of formats R and I, cb of formats B and KX: bits [20:16]. -/
def State.cMid (s : State) (n : Nat) (w : W32) : W32 := s.counter n (insField w 16 5)

/-- IMM16 zero-extended. -/
def imm16 (w : W32) : W32 := BitVec.ofNat 32 (insField w 0 16)

/-! ### Control -/

/-- NOP (R108). -/
def execNop (n : Fin 128) (s : State) : Result := runIns n 0x01 s fun _ s => s.nextPc n

/-- HALT (R94, R108): the add to DONE_KNOT is checked as a KNOT_OP would be. -/
def execHalt (n : Fin 128) (s : State) : Result :=
  runIns n 0x02 s fun _ s =>
    match (s.shuttle n).doneKnot with
    | none => s.stopShuttle n 1
    | some k => if s.knotOwned k (s.coreTenant n) then (s.knotDo k (.add 1)).stopShuttle n 1 else s.stopShuttle n 6

/-- JUMP (R108). -/
def execJump (n : Fin 128) (s : State) : Result := runIns n 0x03 s fun w s => s.branch n w

/-- LOOP (R77). -/
def execLoop (n : Fin 128) (s : State) : Result :=
  runIns n 0x04 s fun w s =>
    let v := s.caHigh n w - 1
    (s.setCounter n (insField w 21 5) v).branchIf n w (v != 0)

/-- The counter conditions of R110. -/
def counterCond (cond : Nat) (a b : W32) : Bool :=
  match cond with
  | 0 => a == b
  | 1 => a != b
  | 2 => decide (a.toNat < b.toNat)
  | 3 => decide (b.toNat ≤ a.toNat)
  | 4 => decide (a.toInt < b.toInt)
  | 5 => decide (b.toInt ≤ a.toInt)
  | _ => false

/-- BRANCH_COUNTER (R110). -/
def execBranchCounter (n : Fin 128) (s : State) : Result :=
  runIns n 0x05 s fun w s => s.branchIf n w (counterCond (insField w 13 3) (s.caHigh n w) (s.cMid n w))

/-- BRANCH_IMMEDIATE (R110). -/
def execBranchImmediate (n : Fin 128) (s : State) : Result :=
  runIns n 0x06 s fun w s =>
    s.branchIf n w (counterCond (insField w 13 3) (s.caHigh n w) (BitVec.ofNat 32 (insField w 16 5)))

/-- BRANCH_KNOT (R112): the knot's index is ca[16:0]. -/
def execBranchKnot (n : Fin 128) (s : State) : Result :=
  runIns n 0x07 s fun w s =>
    let k := (s.caHigh n w).toNat % 2 ^ 17
    if s.knotOwned k (s.coreTenant n) then
      let s1 := s.readKnot k
      let ge := knotGe (s1.knotCount k) (s1.cMid n w).toNat
      s1.branchIf n w
        (match insField w 13 3 with
          | 0 => ge
          | 1 => !ge
          | 2 => s1.knotFrayed k
          | _ => !s1.knotFrayed k)
    else s.stopShuttle n 6

/-! ### Counters -/

/-- The functions of COUNTER (R109). -/
def counterFunc (func : Nat) (a b : W32) : W32 :=
  let sh := b.toNat % 32
  match func with
  | 0x0 => a + b
  | 0x1 => a - b
  | 0x2 => a &&& b
  | 0x3 => a ||| b
  | 0x4 => a ^^^ b
  | 0x5 => a <<< sh
  | 0x6 => a >>> sh
  | 0x7 => a.sshiftRight sh
  | 0x8 => a * b
  | 0x9 => if a.toNat ≤ b.toNat then a else b
  | 0xA => if a.toNat ≤ b.toNat then b else a
  | 0xB => if a.toInt ≤ b.toInt then a else b
  | 0xC => if a.toInt ≤ b.toInt then b else a
  | _ => a

/-- COUNTER (R109). -/
def execCounter (n : Fin 128) (s : State) : Result :=
  runIns n 0x08 s fun w s => s.writeCd n w (counterFunc (insField w 0 4) (s.cMid n w) (s.counter n (insField w 11 5)))

/-- ADD_IMMEDIATE (R109). -/
def execAddImmediate (n : Fin 128) (s : State) : Result :=
  runIns n 0x09 s fun w s => s.writeCd n w (s.cMid n w + (BitVec.ofNat 16 (insField w 0 16)).signExtend 32)

/-- AND_IMMEDIATE (R109). -/
def execAndImmediate (n : Fin 128) (s : State) : Result :=
  runIns n 0x0A s fun w s => s.writeCd n w (s.cMid n w &&& imm16 w)

/-- OR_IMMEDIATE (R109). -/
def execOrImmediate (n : Fin 128) (s : State) : Result :=
  runIns n 0x0B s fun w s => s.writeCd n w (s.cMid n w ||| imm16 w)

/-- XOR_IMMEDIATE (R109). -/
def execXorImmediate (n : Fin 128) (s : State) : Result :=
  runIns n 0x0C s fun w s => s.writeCd n w (s.cMid n w ^^^ imm16 w)

/-- SHIFT_LEFT_IMMEDIATE (R109). -/
def execShiftLeftImmediate (n : Fin 128) (s : State) : Result :=
  runIns n 0x0D s fun w s => s.writeCd n w (s.cMid n w <<< insField w 0 5)

/-- SHIFT_RIGHT_IMMEDIATE (R109). -/
def execShiftRightImmediate (n : Fin 128) (s : State) : Result :=
  runIns n 0x0E s fun w s => s.writeCd n w (s.cMid n w >>> insField w 0 5)

/-- LOAD_IMMEDIATE (R109). -/
def execLoadImmediate (n : Fin 128) (s : State) : Result := runIns n 0x0F s fun w s => s.writeCd n w (imm16 w)

/-- LOAD_UPPER (R109). -/
def execLoadUpper (n : Fin 128) (s : State) : Result :=
  runIns n 0x10 s fun w s => s.writeCd n w ((s.caHigh n w &&& 0xFFFF) ||| (imm16 w <<< 16))

/-- The values of READ_SYSTEM (R111); a core without an owner has tenant 0 there (notes/assumptions/96). -/
def State.systemValue (s : State) (n select : Nat) : Nat :=
  match select with
  | 0 => s.stitch
  | 1 => s.stitch / 2 ^ 32
  | 2 => n
  | 3 => s.deviceId
  | 4 => (s.coreTenant n).getD 0
  | x => (s.station n (x - 8)).next

/-- READ_SYSTEM (R111). -/
def execReadSystem (n : Fin 128) (s : State) : Result :=
  runIns n 0x11 s fun w s => s.writeCd n w (BitVec.ofNat 32 (s.systemValue n (insField w 0 4)))

/-! ### Knots -/

/-- A wait of the shuttle on knot k (R80, R188): the error at once, or the condition, or a stall. -/
def State.shuttleWait (s : State) (n k cond value : Nat) : State :=
  if s.knotOwned k (s.coreTenant n) then
    let s1 := s.readKnot k
    if s1.knotFrayed k then s1.stopShuttle n 11
    else if condHolds cond (s1.knotCount k) value then s1.nextPc n
    else (s1.stallShuttle n 1 0).setShuttle n { s1.shuttle n with wait := some (k, cond, value, s1.stitchClock) }
  else s.stopShuttle n 6

/-- KNOT_WAIT (R112, R188). -/
def execKnotWait (n : Fin 128) (s : State) : Result :=
  runIns n 0x18 s fun w s => s.shuttleWait n (insField w 0 17) (insField w 17 3) (s.caHigh n w).toNat

/-- KNOT_WAIT_INDIRECT (R112, R188): the knot's index is cb[16:0]. -/
def execKnotWaitIndirect (n : Fin 128) (s : State) : Result :=
  runIns n 0x19 s fun w s => s.shuttleWait n ((s.cMid n w).toNat % 2 ^ 17) (insField w 0 4) (s.caHigh n w).toNat

/-- SHUTTLE_WAIT_WAKE (R80, R188): a stalled wait is satisfied, or wakes on a fray; the error takes precedence. -/
def execShuttleWaitWake (n : Fin 128) (s : State) : Result :=
  let s := s.begin
  finish (match (s.shuttle n).wait with
    | none => s
    | some (k, cond, value, _) =>
      if s.coresRun = false ∨ s.shuttleState n ≠ 2 then s
      else if s.knotError k then (s.takeKnotError k).stopShuttle n 11
      else if condHolds cond (s.knotCount k) value then
        (((s.setShuttle n { s.shuttle n with wait := none }).setFld (Reg.SHUTTLE_STATUS n) Fl.SHUTTLE_STATUS_STATE
          1).nextPc n).syncStall n
      else s)

/-- A knot operation of the shuttle: 0 SET, 1 ADD, 2 ARM (R113). -/
def State.shuttleKnot (s : State) (n k kop value : Nat) : State :=
  if s.knotOwned k (s.coreTenant n) then
    (s.knotDo k (match kop with | 0 => .set value | 1 => .add value | _ => .arm value 0 none none)).nextPc n
  else s.stopShuttle n 6

/-- KNOT_OP (R113). -/
def execKnotOp (n : Fin 128) (s : State) : Result :=
  runIns n 0x1A s fun w s => s.shuttleKnot n (insField w 0 17) (insField w 17 4) (s.caHigh n w).toNat

/-- KNOT_OP_INDIRECT (R113). -/
def execKnotOpIndirect (n : Fin 128) (s : State) : Result :=
  runIns n 0x1B s fun w s => s.shuttleKnot n ((s.cMid n w).toNat % 2 ^ 17) (insField w 0 4) (s.caHigh n w).toNat

/-! ### Generators -/

/-- Sets the base of generator g. -/
def State.setGenBase (s : State) (n g a : Nat) : State := s.setArr (Reg.GEN_BASE n g) Fl.GEN_BASE_ADDR a

/-- GENERATOR's operations on generator g with dimension d and counter value v (R114). -/
def State.genOp (s : State) (n g gop d v : Nat) : State :=
  let b := s.fld (Reg.GEN_BASE n g) Fl.GEN_BASE_ADDR
  match gop with
  | 0 => s.setArr (Reg.GEN_BASE n g) ⟨0, 32⟩ v
  | 1 => s.setArr (Reg.GEN_BASE n g) ⟨32, 16⟩ v
  | 2 => s.setGenBase n g (b + v)
  | 3 => s.setGenBase n g (b + 2 ^ 48 - v)
  | 4 => s.setArr (Reg.GEN_DIM n g d) Fl.GEN_DIM_COUNT (v + 2 ^ 16 - 1)
  | 5 => s.setArr (Reg.GEN_DIM n g d) Fl.GEN_DIM_STRIDE v
  | 6 => s.setArr (Reg.GEN_CONFIG n g) Fl.GEN_CONFIG_DIMS v
  | 7 => s.setGenIdx n g [0, 0, 0, 0, 0, 0] false
  | _ => s.advanceGen n g

/-- GENERATOR (R114): DIMS takes 1 to 6 only. -/
def execGenerator (n : Fin 128) (s : State) : Result :=
  runIns n 0x20 s fun w s =>
    let v := (s.counter n (insField w 15 5)).toNat
    let gop := insField w 11 4
    if gop = 6 ∧ ¬(1 ≤ v ∧ v ≤ 6) then s.stopShuttle n 6
    else (s.genOp n (insField w 23 3) gop (insField w 20 3) v).nextPc n

/-- GENERATOR_IMMEDIATE (R114); PART 3 is reserved. -/
def execGeneratorImmediate (n : Fin 128) (s : State) : Result :=
  runIns n 0x21 s fun w s =>
    let g := insField w 23 3
    let part := insField w 21 2
    (s.setArr (Reg.GEN_BASE n g) ⟨16 * part, 16⟩ (insField w 0 16)).nextPc n

/-! ### Building and issuing commands -/

/-- TEMPLATE_LOAD (R81). -/
def execTemplateLoad (n : Fin 128) (s : State) : Result :=
  runIns n 0x28 s fun w s =>
    let m := insField w 0 9
    let e := insField w 24 2
    ((s.setStaging n e (s.rd (Reg.TEMPLATE_HI n m) ++ s.rd (Reg.TEMPLATE_LO n m))).healSpan (stagingKey n e) 16).nextPc n

/-- A value written into bits [lo + width − 1 : lo] of a staging register, modulo 2^width (R115). -/
def fillBits (c : BitVec 128) (lo width v : Nat) : BitVec 128 :=
  (c &&& ~~~BitVec.ofNat 128 ((2 ^ width - 1) * 2 ^ lo)) ||| BitVec.ofNat 128 (v % 2 ^ width * 2 ^ lo)

/-- Fills a field of the staging register that an instruction names (R115). -/
def State.fill (s : State) (n : Nat) (w : W32) (width v : Nat) : State :=
  let e := insField w 24 2
  let lo := insField w 17 7
  (s.setStaging n e (fillBits (s.staging n e) lo width v)).healSpan (stagingKey n e + lo / 8) ((lo % 8 + width + 7) / 8)

/-- FILL (R115). -/
def execFill (n : Fin 128) (s : State) : Result :=
  runIns n 0x29 s fun w s => (s.fill n w (insField w 11 6 + 1) (s.counter n (insField w 6 5)).toNat).nextPc n

/-- FILL_IMMEDIATE (R115). -/
def execFillImmediate (n : Fin 128) (s : State) : Result :=
  runIns n 0x2A s fun w s => (s.fill n w (insField w 12 5 + 1) (insField w 0 12)).nextPc n

/-- FILL_GENERATOR (R115). -/
def execFillGenerator (n : Fin 128) (s : State) : Result :=
  runIns n 0x2B s fun w s =>
    let g := insField w 8 3
    let s1 := s.fill n w (insField w 11 6 + 1) (s.gen n g).address
    (if insField w 7 1 = 1 then s1.advanceGen n g else s1).nextPc n

/-- The station slot an ISSUE names; 4 is untimed (R116). -/
def slotOf (w : W32) : Option Nat := if insField w 0 3 < 4 then some (insField w 0 3) else none

/-- ISSUE (R116, R128). -/
def execIssue (n : Fin 128) (s : State) : Result :=
  runIns n 0x2C s fun w s => s.issue n (insField w 24 2) (slotOf w)

/-- ISSUE_RESUME (R85): the stalled ISSUE enters the queue that has space again, with the PEER entries as they then stand
(notes/assumptions/98). -/
def execIssueResume (n : Fin 128) (s : State) : Result :=
  let s := s.begin
  let w := s.instructionAt n (s.pc n)
  let e := insField w 24 2
  finish (if s.coresRun && s.stalledOn n e && insOpcode w == 0x2C && (decide ((s.queue n e).length < 512) || s.queueState n e != 0) then
      ((s.setFld (Reg.SHUTTLE_STATUS n) Fl.SHUTTLE_STATUS_STATE 1).acceptIssue n e (s.staging n e) (slotOf w)).syncStall n
    else s)

/-! ### Activations -/

/-- ACT with END = 0: ACT_BEGIN (R84). -/
def execActBegin (n : Fin 128) (s : State) : Result :=
  finish (s.begin.fetchDo n 0x2D (fun w => insField w 2 1 == 0) fun w s =>
    let j := insField w 0 2
    let st := s.station n j
    if !s.flag (Reg.STATION_CONFIG n j) Fl.STATION_CONFIG_ENABLE then s.stopShuttle n 5
    else if st.opened.isSome then s.stopShuttle n 4
    else (s.setStation n j { st with opened := some st.next, lastOpen := some st.next, activated := true }).nextPc n)

/-- Closes the open activation of a slot: its next boundary advances by the cadence, or takes the boundary that a change of
CONFIG gave (R71, R84). -/
def State.closeActivation (s : State) (n j : Nat) : State :=
  let st := s.station n j
  let k := s.fld (Reg.STATION_CONFIG n j) Fl.STATION_CONFIG_CADENCE + 1
  s.setStation n j { st with opened := none, next := st.resume.getD (st.next + k), resume := none }

/-! ### Tile registers -/

/-- Writes a descriptor, or stops the shuttle with DESCRIPTOR_RANGE and keeps the old value (R87). -/
def State.setTile (s : State) (n t : Nat) (lo hi : Word) : State :=
  if descriptorOk lo hi then
    ((((s.wr (Reg.TILE_LO n t) lo).healArray (Reg.TILE_LO n t)).wr (Reg.TILE_HI n t) hi).healArray (Reg.TILE_HI n t)).nextPc n
  else s.stopShuttle n 6

/-- The descriptor of tile register t with one field replaced (R117). -/
def State.tileWith (s : State) (n t field v : Nat) : Word × Word :=
  let lo := s.rd (Reg.TILE_LO n t)
  let hi := s.rd (Reg.TILE_HI n t)
  match field with
  | 0 => (Fl.TILE_LO_BASE.write lo v, hi)
  | 1 => (Fl.TILE_LO_ROWS.write lo v, hi)
  | 2 => (Fl.TILE_LO_COLS.write lo v, hi)
  | 3 => (Fl.TILE_LO_FORMAT.write lo v, hi)
  | 4 => (lo, Fl.TILE_HI_ROW_STRIDE.write hi v)
  | _ => (lo, Fl.TILE_HI_SCALE_BASE.write hi v)

/-- TILE_SET (R117). -/
def execTileSet (n : Fin 128) (s : State) : Result :=
  runIns n 0x30 s fun w s =>
    let t := insField w 20 6
    let d := s.tileWith n t (insField w 17 3) (s.counter n (insField w 0 5)).toNat
    s.setTile n t d.1 d.2

/-- TILE_SET_IMMEDIATE (R117). -/
def execTileSetImmediate (n : Fin 128) (s : State) : Result :=
  runIns n 0x31 s fun w s =>
    let t := insField w 20 6
    let d := s.tileWith n t (insField w 17 3) (insField w 0 17)
    s.setTile n t d.1 d.2

/-- TILE_COPY (R117). -/
def execTileCopy (n : Fin 128) (s : State) : Result :=
  runIns n 0x32 s fun w s =>
    let u := insField w 14 6
    s.setTile n (insField w 20 6) (s.rd (Reg.TILE_LO n u)) (s.rd (Reg.TILE_HI n u))

/-- RESERVED_OPCODE (R106): a reserved instruction stops the shuttle before it takes any effect. -/
def execReservedOpcode (n : Fin 128) (s : State) : Result :=
  let s := s.begin
  let own := s.readSpans (s.coreTenant n) [insSpan n (s.pc n)]
  finish (if s.coresRun = true ∧ s.shuttleState n = 1 ∧ insReserved (own.1.instructionAt n (s.pc n)) = true then
      own.1.stopShuttle n 7
    else s)

end Sys2Proof.Machine
end

