-- ==== Sys2Proof/Machine/Tick.lean ====
section
/-! DEFINITION. Stations and the stitch (R42 to R65, R71): activations, boundaries, holds and the tick tree, TICK_IN. -/

namespace Sys2Proof.Machine

/-- Replaces the tick's state, keeping `TICK.STATUS.HOLDING` and `DOMAIN_HOLD` (R71). -/
def State.setTick (s : State) (x : TickState) : State :=
  let holding := match x.hold with | some h => !h.late.isEmpty | none => false
  (({ s with tick := x }).setFld Reg.TICK_STATUS Fl.TICK_STATUS_HOLDING holding.toNat).setFld Reg.TICK_STATUS
    Fl.TICK_STATUS_DOMAIN_HOLD ((x.domain.isSome || x.asked.isSome) && x.hold.isNone).toNat

/-- STITCH_LEN. -/
def State.stitchLen (s : State) : Nat := s.fld Reg.TICK_STITCH_LEN Fl.TICK_STITCH_LEN_LEN

/-! ### Slots -/

/-- The first stitch s with s mod k = φ that is at least `start` (R45). -/
def firstMatch (k phase start : Nat) : Nat := start + (phase + k - start % k) % k

/-- Cadence of a slot (R42). -/
def State.cadence (s : State) (n j : Nat) : Nat := s.fld (Reg.STATION_CONFIG n j) Fl.STATION_CONFIG_CADENCE + 1

/-- Phase of a slot (R42). -/
def State.phaseOf (s : State) (n j : Nat) : Nat := s.fld (Reg.STATION_CONFIG n j) Fl.STATION_CONFIG_PHASE

/-- Whether a slot is enabled. -/
def State.slotOn (s : State) (n j : Nat) : Bool := s.flag (Reg.STATION_CONFIG n j) Fl.STATION_CONFIG_ENABLE

/-- START_STITCH in effect for the tenant of core n; a core without a tenant has start 0 (R45). -/
def State.startStitch (s : State) (n : Nat) : Nat :=
  match s.coreTenant n with
  | some t => s.fld (Reg.TICK_TENANT_START_STITCH t) Fl.TICK_TENANT_START_STITCH_STITCH
  | none => 0

/-- Whether a command of core n carries the activation tag (j, b). -/
def State.tagged (s : State) (n j b : Nat) : Bool :=
  (List.range 4).any (fun e => (s.queue n e).any (fun x => x.tag == some (j, b)))

/-- Activation b of a slot is finished (R51): its end mark has executed and no command of it remains. -/
def State.finished (s : State) (n j b : Nat) : Bool :=
  let st := s.station n j
  decide (b < st.next) && st.opened != some b && !s.tagged n j b

/-- Whether a slot is late at boundary b: an activation's deadline is b and it is not finished (R51). -/
def State.lateAt (s : State) (n j b : Nat) : Bool :=
  !s.coreAbsent n && (s.station n j).active.any (fun a => a.2 == b && !s.finished n j a.1)

/-- The slots that have held a configuration, as (core, slot). -/
def State.slots (s : State) : List (Nat × Nat) := s.core.stations.map (fun x => (x.1 / 4, x.1 % 4))

/-- The late slots at boundary b. -/
def State.lateSlots (s : State) (b : Nat) : List (Nat × Nat) := s.slots.filter (fun x => s.lateAt x.1 x.2 b)

/-- The policy under which a late slot of core n is judged: FAULT (true) or SLIP (R57, R62). -/
def State.faultPolicy (s : State) (n : Nat) : Bool :=
  match s.coreTenant n with
  | some t => s.flag (Reg.TICK_TENANT_POLICY t) Fl.TICK_TENANT_POLICY_DROP_POLICY
  | none => false

/-- Counts and records one late slot (R57). -/
def State.dropped (s : State) (b : Nat) (x : Nat × Nat) : State :=
  s.raise { cond := .droppedStitch, ribbon := .fault, source := source 1 x.1 (8 + x.2), tenant := s.coreTenant x.1,
            detail := b % 2 ^ 64, counters := [Reg.STATION_DROPPED x.1 x.2, Reg.TICK_DROPPED_STITCH] }

/-- Counts and records every late slot. -/
def State.droppedAll (s : State) (b : Nat) : List (Nat × Nat) → State
  | [] => s
  | x :: rest => State.droppedAll (s.dropped b x) b rest

/-- Disables a slot (R62). -/
def State.disableSlot (s : State) (n j : Nat) : State :=
  (s.setFld (Reg.STATION_CONFIG n j) Fl.STATION_CONFIG_ENABLE 0).setStation n j
    { s.station n j with opened := none, change := none, resume := none, active := [], lastOpen := none, old := [], activated := false }

/-- The cores that R62 drains for a late slot of core n: every core of its tenant, or the core alone. -/
def State.faultCores (s : State) (n : Nat) : List Nat :=
  match s.coreTenant n with
  | some t => (List.range 128).filter (fun m => s.coreTenant m == some t)
  | none => [n]

/-- Disables the four slots of each core of a list. -/
def State.disableCores (s : State) : List Nat → State
  | [] => s
  | n :: rest => State.disableCores (iterate (fun j s => s.disableSlot n j) 4 0 s) rest

/-- Drains each core of a list (R98, R101). -/
def State.drainCores (s : State) : List Nat → State
  | [] => s
  | n :: rest => State.drainCores (s.drainCore n) rest

/-- The cores of a list of late slots that R62 drains, each once. -/
def State.faultList (s : State) : List (Nat × Nat) → List Nat
  | [] => []
  | x :: rest =>
    let more := State.faultList s rest
    more ++ (s.faultCores x.1).filter (fun n => !more.contains n)

/-! ### The boundary -/

/-- The boundary after the last activation opened under the old configuration, and not before b, at which a changed slot
activates first (R71). -/
def Station.resumeAt (st : Station) (k phase b : Nat) : Nat :=
  firstMatch k phase (match st.lastOpen with | some o => max b (o + 1) | none => b)

/-- The configurations that still place activations once the one in force, of cadence k and phase φ, is replaced (R71). -/
def Station.replaced (st : Station) (k phase : Nat) : List OldCadence :=
  match st.lastOpen with
  | some o => if st.start ≤ o then st.old ++ [{ cadence := k, phase := phase, first := st.start, last := o }] else st.old
  | none => st.old

/-- A change of CONFIG takes effect at the slot's deadline b (R71). -/
def State.applyChange (s : State) (n j b : Nat) : State :=
  let st := s.station n j
  match st.change with
  | none => s
  | some (en, kc, ph) =>
    let at_ := st.resumeAt (kc + 1) ph b
    let r := Reg.STATION_CONFIG n j
    let s1 := ((s.setFld r Fl.STATION_CONFIG_ENABLE en).setFld r Fl.STATION_CONFIG_CADENCE kc).setFld r
      Fl.STATION_CONFIG_PHASE ph
    let st1 := { st with change := none, start := at_, old := st.replaced (s.cadence n j) (s.phaseOf n j) }
    s1.setStation n j (if st.opened.isSome then { st1 with resume := some at_ } else { st1 with next := at_ })

/-- Activates a slot at boundary b where R48 does, for the activations opened under an old configuration too (R71). -/
def State.activate (s : State) (n j b : Nat) : State :=
  let st := s.station n j
  let k := s.cadence n j
  let left := st.old.filter (fun o => b < o.last)
  match st.old.find? (fun o => o.first ≤ b && b ≤ o.last && b % o.cadence == o.phase) with
  | some o =>
    s.setStation n j { st with active := st.active ++ [(b, b + o.cadence)], activated := true, old := left }
  | none =>
    if s.slotOn n j ∧ st.start ≤ b ∧ b % k = s.phaseOf n j then
      s.setStation n j { st with active := st.active ++ [(b, b + k)], activated := true, old := left }
    else s

/-- One slot at a boundary that fires: its deadlines pass, a change takes effect, it activates. -/
def State.slotBoundary (s : State) (b : Nat) (x : Nat × Nat) : State :=
  let st := s.station x.1 x.2
  let due := st.active.any (fun a => a.2 == b)
  let s1 := s.setStation x.1 x.2 { st with active := st.active.filter (fun a => b < a.2) }
  (if due then s1.applyChange x.1 x.2 b else s1).activate x.1 x.2 b

/-- Every slot at a boundary that fires. -/
def State.slotsBoundary (s : State) (b : Nat) : List (Nat × Nat) → State
  | [] => s
  | x :: rest => State.slotsBoundary (s.slotBoundary b x) b rest

/-- UPSTREAM_PORT names a port that takes the tick phase (R52, R334). -/
def State.upstreamOk (s : State) : Bool :=
  let p := s.fld Reg.TICK_CONTROL Fl.TICK_CONTROL_UPSTREAM_PORT
  decide (p < 24) && s.portLinked p

/-- The role that a ROLE write asked for takes effect (R52, R56, R65). HOPS of a follower is a value no field of the tick
phase gives (notes/assumptions/16). -/
def State.takeRole (s : State) : State :=
  let r := s.fld Reg.TICK_CONTROL Fl.TICK_CONTROL_ROLE
  if r = s.tick.role then s
  else
    let s1 := s.setTick { s.tick with role := r, withhold := 0, inLost := false, below := [], heard := [], domain := none,
                                      asked := none, upLen := none, upCount := none, skew := none, returned := false }
    let s2 := s1.setFld Reg.TICK_STATUS Fl.TICK_STATUS_EXTERNAL_ALIGNED 0
    let s3 := s2.setFld Reg.TICK_STATUS Fl.TICK_STATUS_HOLDOVER (r == 2 && !s2.upstreamOk).toNat
    if r = 2 then
      let x := s3.freshNat 8
      x.2.setFld Reg.TICK_STATUS Fl.TICK_STATUS_HOPS x.1
    else (s3.setFld Reg.TICK_STATUS Fl.TICK_STATUS_HOPS 0).setFld Reg.TICK_STATUS Fl.TICK_STATUS_ALIGN_OFFSET 0

/-- The stitch length for the stitch that begins at boundary b: a pending change, or for a follower the length its sender
states (R47, R325). -/
def State.takeLength (s : State) (b : Nat) : State :=
  let s1 := match s.tick.upLen with
    | some l => (s.setTick { s.tick with upLen := none }).setFld Reg.TICK_STITCH_LEN Fl.TICK_STITCH_LEN_LEN l
    | none => s
  match s1.tick.change with
  | some (l, a) =>
    if a ≤ b then
      ((s1.setTick { s1.tick with change := none }).setFld Reg.TICK_STITCH_LEN Fl.TICK_STITCH_LEN_LEN l).setFld
        Reg.TICK_STATUS Fl.TICK_STATUS_LEN_PENDING 0
    else s1
  | none => s1

/-- The first boundary b after the tick phase has come or returned compares the counts: the sender fires COUNT + 1 with it
(R56). A follower whose count differs after holdover keeps it and shows COUNT_MISMATCH. -/
def State.alignCount (s : State) (b : Nat) : State :=
  match s.tick.upCount, s.tick.skew with
  | some c, none =>
    let k := (c : Int) + 1 - b
    let s1 := s.setTick { s.tick with skew := some k, returned := false }
    if s.tick.returned = true ∧ k ≠ 0 then s1.setFld Reg.TICK_STATUS Fl.TICK_STATUS_COUNT_MISMATCH 1 else s1
  | _, _ => s

/-- Fires boundary b: STITCH_COUNT becomes b, the slots' deadlines and activations pass, a pending length, role, activation
of firmware and the TICK_OUT pulse take effect (R46 to R48, R52, R64, R438). -/
def State.fire (s : State) (b : Nat) : State :=
  let s2 := s.advanceClock.wr Reg.TICK_STITCH_COUNT (BitVec.ofNat 64 b)
  let s3 := (s2.setTick { s2.tick with due := none, waited := 0, firedAt := s2.uptime }).takeLength b
  let s4 := (((s3.slotsBoundary b s3.slots).alignCount b).takeRole.firmwareBoundary b).deferActivation b
  if s4.flag Reg.TICK_CONTROL Fl.TICK_CONTROL_TICK_OUT_EN then s4.emit (.tickOut (b % 65536 == 0)) else s4

/-! ### The tick tree -/

/-- The ports towards the devices below: every port that carries the tick phase but the upstream one (R59, R334). -/
def State.portsBelow (s : State) : List Nat :=
  (List.range 24).filter (fun p => s.portLinked p
    && !(s.tick.role == 2 && p == s.fld Reg.TICK_CONTROL Fl.TICK_CONTROL_UPSTREAM_PORT))

/-- Puts a tick edge in the next flit slot of a port (R327). -/
def State.edge (s : State) (kind slip b : Nat) (p : Nat) : State :=
  s.setPort p { s.port p with edges := (s.port p).edges ++ [(kind, slip % 2 ^ 32, b % 65536)] }

/-- Sends an edge on each port of a list. -/
def State.edges (s : State) (kind slip b : Nat) : List Nat → State
  | [] => s
  | p :: rest => State.edges (s.edge kind slip b p) kind slip b rest

/-- The device is a tick master with a tree below it (R47, R52). -/
def State.isMaster (s : State) : Bool := s.tick.role == 1 || s.tick.role == 3

/-- The device follows an upstream port and is not in holdover (R52, R56). -/
def State.follows (s : State) : Bool := s.tick.role == 2 && !s.flag Reg.TICK_STATUS Fl.TICK_STATUS_HOLDOVER

/-- Sends an edge towards the master. -/
def State.edgeUp (s : State) (kind slip b : Nat) : State :=
  s.edge kind slip b (s.fld Reg.TICK_CONTROL Fl.TICK_CONTROL_UPSTREAM_PORT)

/-- The slip of a hold in arithmetic cycles: 3 a nanosecond (R60). -/
def State.slipNow (s : State) (h : Hold) : Nat := (s.uptime - h.since) * 3

/-- Adds to SLIP_CYCLES (R60). -/
def State.addSlip (s : State) (n : Nat) : State := s.addWrap Reg.TICK_SLIP_CYCLES n

/-- Whether a hold of boundary b is stale here: the clearance for b is held (R55). -/
def State.staleHold (s : State) (b : Nat) : Bool :=
  decide (b < s.stitch) || (match s.tick.announced with | some (a, _) => decide (b ≤ a) | none => false)

/-- A hold of boundary b goes up, or at the master a domain hold goes down (R58, R59). -/
def State.passHold (s : State) (b : Nat) : State :=
  if s.isMaster then (s.setTick { s.tick with domain := some b }).edges 3 0 b s.portsBelow
  else if s.follows then (s.setTick { s.tick with asked := some b }).edgeUp 1 0 b
  else s

/-- The device begins to hold boundary b (R58), or to withhold it until a TICK_IN edge, its deadlines not yet judged (R65). -/
def State.beginHold (s : State) (b : Nat) (late : List (Nat × Nat)) (byEdge : Bool) : State :=
  let h : Hold := { boundary := b, since := s.uptime, clock := s.stitchClock, late := late, byEdge := byEdge, judged := !byEdge }
  (s.setTick { s.tick with hold := some h, waited := 0 }).passHold b

/-- The master's clearance of every hold of boundary b, with its slip: the devices below are told, SLIP_CYCLES grows (R59,
R60). -/
def State.announceDown (s : State) (b slip : Nat) : State :=
  ((s.setTick { s.tick with domain := none, asked := none, announced := some (b, slip), heard := [] }).addSlip slip).edges 4
    slip b s.portsBelow

/-- Every hold of boundary b has cleared, with slip in `tick.slip`: the master announces b + 1, a follower sends a clearance
up, a device alone takes its own slip (R58 to R60). -/
def State.cleared (s : State) (b : Nat) : State :=
  let slip := s.tick.slip
  let s1 := s.setTick { s.tick with slip := 0 }
  if s1.isMaster then s1.announceDown b slip
  else if s1.follows then (s1.setTick { s1.tick with sentUp := some (b, slip) }).edgeUp 2 slip b
  else s1.addSlip slip

/-- The held boundary fires, and its clearance goes up where nothing below holds it still (R58). -/
def State.endHold (s : State) (h : Hold) : State :=
  let slip := max s.tick.slip (s.slipNow h)
  let s1 := (s.setTick { s.tick with hold := none, slip := slip }).fire h.boundary
  if s1.tick.below.any (fun x => x.2 == h.boundary) then s1 else s1.cleared h.boundary

/-- Fires the held boundary when its last late slot has finished (R58); on an EXTERNAL device with edges, the hold then waits
for the next TICK_IN edge (R65). -/
def State.releaseHold (s : State) : State :=
  match s.tick.hold with
  | none => s
  | some h =>
    if h.byEdge then s
    else
      let late := h.late.filter (fun x => s.lateAt x.1 x.2 h.boundary)
      if late = [] then
        if s.tick.role = 3 ∧ s.tick.inLost = false then
          s.setTick { s.tick with hold := some { h with late := [], byEdge := true } }
        else s.endHold h
      else s.setTick { s.tick with hold := some { h with late := late } }

/-- The late SLIP slots keep boundary b: it begins to be held, or a boundary withheld until now is held for them (R58, R65). -/
def State.holdFor (s : State) (b : Nat) (slips : List (Nat × Nat)) : State :=
  match s.tick.hold with
  | some h => s.setTick { s.tick with hold := some { h with late := slips, byEdge := false, judged := true } }
  | none => s.beginHold b slips false

/-- Boundary b = STITCH_COUNT + 1 falls due and nothing keeps it from being judged: FAULT slots are handled, SLIP slots hold
it, else it fires (R46, R57, R58, R62, R63). -/
def State.judgeBoundary (s : State) : State :=
  let b := s.stitch + 1
  let late := s.lateSlots b
  let s1 := s.droppedAll b late
  let faults := late.filter (fun x => s.faultPolicy x.1)
  let slips := late.filter (fun x => !s.faultPolicy x.1)
  let cores := s1.faultList faults
  let s2 := s1.disableCores cores
  let s3 := if slips = [] then (match s2.tick.hold with | some h => s2.endHold h | none => s2.fire b) else s2.holdFor b slips
  s3.drainCores cores

/-- Whether a follower holds the tick phase of its boundary from upstream, or its announcement: the clearance where no domain
hold concerns the boundary (R55; notes/assumptions/59). -/
def State.phaseHeld (s : State) : Bool :=
  (match s.tick.announced with | some (a, _) => decide (s.stitch ≤ a) | none => false)
    || (match s.tick.upCount with
      | some c => decide ((s.stitch : Int) + s.tick.skew.getD (c - s.stitch) ≤ c)
      | none => false)

/-- Whether the device waits for clearance of its last boundary (R55). -/
def State.waitsClearance (s : State) : Bool :=
  s.tick.domain == some s.stitch || s.tick.asked == some s.stitch || (s.follows && !s.phaseHeld)

/-- A boundary falls due by the device's timer or its upstream phase. -/
def State.boundaryDue (s : State) : State :=
  if s.clocked = false ∨ s.tick.hold.isSome = true then s
  else if s.waitsClearance then s.setTick { s.tick with due := some (s.tick.due.getD s.uptime) }
  else s.judgeBoundary

/-- The clearance that a boundary has waited for is there: the boundary fires now where it fell due `slip` arithmetic cycles
ago or more, and when the announced time comes otherwise (R55, R59). -/
def State.fireDue (s : State) (slip : Nat) : State :=
  match s.tick.due with
  | some u => if slip ≤ (s.uptime - u) * 3 ∧ s.waitsClearance = false then s.boundaryDue else s
  | none => s

/-- STITCH_BOUNDARY (R46): on an EXTERNAL device only while TICK_IN edges are missing (R65). -/
def execStitchBoundary (s : State) : Result :=
  let s := s.begin
  finish (if s.tick.role = 3 ∧ s.tick.inLost = false then s else s.boundaryDue)

/-- SLIP_LIMIT (R61): the still-late slots become FAULT and the hold clears. -/
def execSlipLimit (s : State) : Result :=
  let s := s.begin
  finish (match s.tick.hold with
    | none => s
    | some h =>
      if h.late = [] ∨ s.stitchClock < h.clock + max 1 (s.fld Reg.TICK_SLIP_LIMIT Fl.TICK_SLIP_LIMIT_STITCHES) then s
      else
        let cores := s.faultList (h.late.filter (fun x => s.lateAt x.1 x.2 h.boundary))
        ((s.disableCores cores).drainCores cores).releaseHold)

/-- The boundary nearest STITCH_COUNT whose low `bits` bits are given (R327). -/
def State.nearest (s : State) (bits low : Nat) : Nat :=
  ((s.stitch : Int) + signedOf bits ((low % 2 ^ bits + 2 ^ bits) - s.stitch % 2 ^ bits)).toNat

/-- Whether this device holds boundary b, or has a device below that does. -/
def State.holds (s : State) (b : Nat) : Bool :=
  s.tick.below.any (fun x => x.2 == b) || (match s.tick.hold with | some h => h.boundary == b | none => false)

/-- Port p leads to the master. -/
def State.isUpstream (s : State) (p : Nat) : Bool :=
  s.tick.role == 2 && p == s.fld Reg.TICK_CONTROL Fl.TICK_CONTROL_UPSTREAM_PORT

/-- A hold of boundary b is received from below on port p (R59), and acted on once (R327). In holdover the device's holds are
its own only (R56). -/
def State.holdFrom (s : State) (p b : Nat) : State :=
  if (s.isMaster || s.follows) = false ∨ s.isUpstream p = true ∨ s.staleHold b = true ∨ s.tick.heard.contains (p, b) = true then s
  else
    let first := !s.holds b
    let s1 := s.setTick { s.tick with below := s.tick.below ++ [(p, b)], heard := s.tick.heard ++ [(p, b)] }
    if first then s1.passHold b else s1

/-- A clearance of boundary b with a slip is received on port p (R59). -/
def State.clearFrom (s : State) (p b slip : Nat) : State :=
  if (s.isMaster || s.follows) = false ∨ s.tick.below.contains (p, b) = false then s
  else
    let s1 := s.setTick { s.tick with below := s.tick.below.filter (fun x => x != (p, b)), slip := max s.tick.slip slip }
    if s1.holds b then s1
    else
      let s2 := s1.cleared b
      if s2.isMaster then s2.fireDue ((s2.tick.announced.map (·.2)).getD 0) else s2

/-- A domain hold of boundary b comes from the master's direction (R59). -/
def State.domainHold (s : State) (b : Nat) : State :=
  if s.follows = false ∨ s.staleHold b = true then s
  else
    if s.tick.domain = some b then s else (s.setTick { s.tick with domain := some b }).edges 3 0 b s.portsBelow

/-- The announcement of boundary b + 1 is received: it clears the wait for b, and every device adds the slip (R59, R60). A
boundary that fell due meanwhile fires at the announced time, or at once where that time has passed (R55). -/
def State.announce (s : State) (b slip : Nat) : State :=
  if s.follows = false ∨ s.staleHold b = true then s else (s.announceDown b slip).fireDue slip

/-- TICK_HOLD (R59), on a port, with bits [15:0] of the boundary. -/
def execTickHold (p : Fin 24) (b : BitVec 16) (s : State) : Result :=
  let s := s.begin
  finish (s.holdFrom p (s.nearest 16 b.toNat))

/-- TICK_CLEAR (R59). -/
def execTickClear (p : Fin 24) (b : BitVec 16) (slip : W32) (s : State) : Result :=
  let s := s.begin
  finish (s.clearFrom p (s.nearest 16 b.toNat) slip.toNat)

/-- TICK_DOMAIN_HOLD (R59). -/
def execTickDomainHold (b : BitVec 16) (s : State) : Result :=
  let s := s.begin
  finish (s.domainHold (s.nearest 16 b.toNat))

/-- TICK_ANNOUNCE (R59). -/
def execTickAnnounce (b : BitVec 16) (slip : W32) (s : State) : Result :=
  let s := s.begin
  finish (s.announce (s.nearest 16 b.toNat) slip.toNat)

/-- HOLDOVER (R56): the follower goes on by its own timer and its holds are its own; a boundary that waits for clearance
fires. -/
def execHoldover (s : State) : Result :=
  let s := s.begin
  finish (if s.follows then
      ((s.setFld Reg.TICK_STATUS Fl.TICK_STATUS_HOLDOVER 1).setTick
        { s.tick with domain := none, asked := none, below := [], heard := [], upLen := none, upCount := none, skew := none,
                      returned := false }).fireDue 0
    else s)

/-! ### The tick block of a control flit (R325, R326) -/

/-- The tick block that this device sends on port p (R325); `phase` is the time since it fired COUNT. -/
def State.tickBlock (s : State) (p phase : Nat) : TickBlock :=
  let up := s.isUpstream p
  let valid := s.isMaster || s.follows
  let held := match s.tick.hold, s.tick.below with
    | some h, _ => some h.boundary
    | none, x :: _ => some x.2
    | none, [] => none
  let holding := held.isSome
  let sent := if up then s.tick.sentUp else s.tick.announced
  let b := ((if up then held else s.tick.domain).orElse (fun _ => sent.map (·.1))).getD 0
  let ann := s.tick.domain.isNone && s.tick.announced.isSome
  { count := s.stitch, phase := phase % 2 ^ 32, len := s.stitchLen,
    flags := valid.toNat + 2 * up.toNat + 4 * (up && holding).toNat + 8 * (!up && s.tick.domain.isSome).toNat
      + 16 * (!up && ann).toNat + 32 * (!up && s.tick.change.isSome).toNat
      + 64 * (s.flag Reg.TICK_STATUS Fl.TICK_STATUS_HOLDOVER).toNat,
    slip := (sent.map (·.2)).getD 0 % 2 ^ 32,
    eventBoundary := b % 2 ^ 32, lenNext := (s.tick.change.map (·.1)).getD 0, lenChangeAt := (s.tick.change.map (·.2)).getD 0 }

/-- The 8-bit two's complement of a whole number of nanoseconds, at most 127 and at least −128. -/
def offsetByte (x : Int) : Nat := ((max (-128) (min 127 x)) % 256).toNat

/-- Takes the tick phase of a valid block that port p received from upstream: the end of holdover, the sender's firing of
COUNT (R326) and the offset of this device's own firing from it, the sender's length, which a follower that has another
length adopts at its next boundary, and the sender's pending change (R47, R56; notes/assumptions/92, 93). A block sent before the sender
fired this device's boundary says nothing of the length that applies now. -/
def State.takePhase (s : State) (p : Nat) (t : TickBlock) : State :=
  let was := s.flag Reg.TICK_STATUS Fl.TICK_STATUS_HOLDOVER
  let s1 := s.setFld Reg.TICK_STATUS Fl.TICK_STATUS_HOLDOVER 0
  let fired : Int := 12 * (s1.uptime : Int) - 3 * s1.fld (Reg.BRIDE_PORT_DELAY p) Fl.BRIDE_PORT_DELAY_ONE_WAY - 4 * t.phase
  let ahead : Int := (t.count : Int) - (s1.stitch + s1.tick.skew.getD (t.count - s1.stitch))
  let s2 := s1.setTick { s1.tick with upCount := some t.count, upFired := fired, returned := s1.tick.returned || was,
                                      upLen := if ahead < 0 then s1.tick.upLen
                                        else if t.len % 2 ^ 17 = s1.stitchLen ∨ t.len % 2 ^ 17 = 0 then none
                                        else some (t.len % 2 ^ 17) }
  let s3 := if ahead = 0 ∧ s2.tick.skew.isSome = true then
      s2.setFld Reg.TICK_STATUS Fl.TICK_STATUS_ALIGN_OFFSET (offsetByte ((12 * (s2.tick.firedAt : Int) - fired) / 12))
    else s2
  if bitsOf t.flags 5 1 = 1 ∧ s3.stitch < t.lenChangeAt then
    (s3.setTick { s3.tick with change := some (t.lenNext % 2 ^ 17, t.lenChangeAt) }).setFld Reg.TICK_STATUS
      Fl.TICK_STATUS_LEN_PENDING 1
  else s3

/-- Takes a received tick block: the phase and levels from upstream, the levels from below (R326, R327). -/
def State.takeTickBlock (s : State) (p : Nat) (t : TickBlock) : State :=
  if bitsOf t.flags 0 1 = 0 ∨ s.tick.role = 0 then s
  else
    let b := s.nearest 32 t.eventBoundary
    if bitsOf t.flags 1 1 = 1 then
      if bitsOf t.flags 2 1 = 1 then s.holdFrom p b else s.clearFrom p b t.slip
    else if s.isUpstream p then
      let waited := s.waitsClearance
      let s1 := s.takePhase p t
      let s2 := if bitsOf t.flags 3 1 = 1 then s1.domainHold b
        else if bitsOf t.flags 4 1 = 1 then s1.announce b t.slip
        else s1
      let told := match s2.tick.announced with | some (a, _) => decide (s2.stitch ≤ a) | none => false
      if waited && !told then s2.fireDue 0 else s2
    else s

/-- Takes the tick edge of a flit received on port p (R327): domain holds and announcements come from upstream only; a reserved
kind is ignored and counted. -/
def State.takeEdge (s : State) (p kind slip low : Nat) : State :=
  let b := s.nearest 16 low
  match kind with
  | 0 => s
  | 1 => s.holdFrom p b
  | 2 => s.clearFrom p b slip
  | 3 => if s.isUpstream p then s.domainHold b else s
  | 4 => if s.isUpstream p then s.announce b slip else s
  | _ => s.count (Reg.BRIDE_PORT_FLIT_ERROR p)

/-! ### TICK_IN (R65) -/

/-- The boundary that waits for an edge: one whose late slots have finished fires; one withheld for alignment is judged as
it falls due (R51, R65). -/
def State.releaseEdge (s : State) (h : Hold) : State := if h.judged then s.endHold h else s.judgeBoundary

/-- An edge at which the device fires its next boundary, unless late slots hold it: the pulse is then not used (R65). -/
def State.edgeFires (s : State) (wide : Bool) : State :=
  let s1 := match s.tick.hold with
    | some h => s.releaseEdge h
    | none => s.boundaryDue
  if s1.tick.hold.isSome then (s1.count Reg.TICK_IN_SKIPPED).setFld Reg.TICK_STATUS Fl.TICK_STATUS_EXTERNAL_ALIGNED 0
  else if wide then s1.setFld Reg.TICK_STATUS Fl.TICK_STATUS_EXTERNAL_ALIGNED 1
  else s1

/-- TICK_IN_EDGE (R65), with a pulse of 24 ns or of 8 ns. -/
def execTickInEdge (wide : Bool) (s : State) : Result :=
  let s := s.begin
  finish (
    if s.tick.role ≠ 3 ∨ s.clocked = false then s
    else
      let s := s.setTick { s.tick with inLost := false }
      let kept := match s.tick.hold with | some h => !h.byEdge | none => false
      if kept || s.waitsClearance then
        (s.count Reg.TICK_IN_SKIPPED).setFld Reg.TICK_STATUS Fl.TICK_STATUS_EXTERNAL_ALIGNED 0
      else if 0 < s.tick.withhold then
        (s.setTick { s.tick with withhold := s.tick.withhold - 1 }).advanceClock
      else
        let r := (s.stitch + 1) % 65536
        if wide = true ∧ r ≠ 0 then
          let s1 := ((s.countN Reg.TICK_IN_SKIPPED r).setFld Reg.TICK_STATUS Fl.TICK_STATUS_EXTERNAL_ALIGNED 0)
          let s2 := if s1.tick.hold.isSome then s1 else s1.beginHold (s1.stitch + 1) [] true
          (s2.setTick { s2.tick with withhold := r - 1 }).advanceClock
        else s.edgeFires wide)

/-- TICK_IN_LOSS (R65): the device goes on by its own timer; a boundary kept for an edge fires. -/
def execTickInLoss (s : State) : Result :=
  let s := s.begin
  finish (if s.tick.role ≠ 3 then s
    else
      let s1 := (s.setTick { s.tick with inLost := true, withhold := 0 }).setFld Reg.TICK_STATUS
        Fl.TICK_STATUS_EXTERNAL_ALIGNED 0
      match s1.tick.hold with
      | some h => if h.byEdge then s1.releaseEdge h else s1
      | none => s1)

/-! ### Register writes (R43, R45, R47, R71) -/

/-- The length registers take writes: on a tick master, while no change is pending (R47). -/
def State.lenOpen (s : State) : Bool := s.tick.role != 2 && !s.flag Reg.TICK_STATUS Fl.TICK_STATUS_LEN_PENDING

/-- A write of LEN_NEXT (R47): no effect on a follower or while a change is pending. -/
def State.writeLenNext (s : State) (v : Word) : State :=
  if s.lenOpen then s.wr Reg.TICK_LEN_NEXT (v &&& Fl.TICK_LEN_NEXT_LEN.mask) else s

/-- The three conditions of R47 for a change to LEN_NEXT at a stitch. -/
def State.lenChangeOk (s : State) (a : Nat) : Bool :=
  let l := s.fld Reg.TICK_LEN_NEXT Fl.TICK_LEN_NEXT_LEN
  s.lenOpen && decide (256 ≤ l) && decide (l ≤ 65536) && decide (2 * s.fld Reg.TICK_DOMAIN_REACH Fl.TICK_DOMAIN_REACH_CYCLES ≤ l)
    && decide (s.stitch + 3 ≤ a)

/-- A write of LEN_CHANGE_AT (R47): it schedules the change when the three conditions hold, and has no effect otherwise. -/
def State.writeLenChangeAt (s : State) (v : Word) : State :=
  let l := s.fld Reg.TICK_LEN_NEXT Fl.TICK_LEN_NEXT_LEN
  if s.lenChangeOk v.toNat then
    ((s.wr Reg.TICK_LEN_CHANGE_AT v).setTick { s.tick with change := some (l, v.toNat) }).setFld Reg.TICK_STATUS
      Fl.TICK_STATUS_LEN_PENDING 1
  else s

/-- LEN_CHANGE_SCHEDULE (R47), by a requester, with the value the completed write gives the register. -/
def execLenChangeSchedule (who : Requester) (v : Word) (s : State) : Result :=
  finish (s.begin.guarded who Reg.TICK_LEN_CHANGE_AT fun s => s.writeLenChangeAt v)

/-- Moves the first activation of a slot that has not activated and has none open (R45). -/
def State.moveStart (s : State) (t e : Nat) (x : Nat × Nat) : State :=
  let st := s.station x.1 x.2
  if s.coreTenant x.1 = some t ∧ s.slotOn x.1 x.2 = true ∧ st.activated = false ∧ st.opened = none then
    let start := max e st.enabledAt
    s.setStation x.1 x.2 { st with start := start, next := firstMatch (s.cadence x.1 x.2) (s.phaseOf x.1 x.2) start }
  else s

/-- Moves the first activations of a list of slots. -/
def State.moveStarts (s : State) (t e : Nat) : List (Nat × Nat) → State
  | [] => s
  | x :: rest => State.moveStarts (s.moveStart t e x) t e rest

/-- A write of START_STITCH of tenant t (R45): the value in effect is at least STITCH_COUNT + 2, and is what reads back
(notes/assumptions/94). -/
def State.writeStartStitch (s : State) (t : Nat) (v : Word) : State :=
  let e := if s.stitch + 2 ≤ v.toNat then v.toNat else s.stitch + 2
  (s.wr (Reg.TICK_TENANT_START_STITCH t) (BitVec.ofNat 64 e)).moveStarts t e s.slots

/-- START_STITCH_WRITE (R45). -/
def execStartStitchWrite (who : Requester) (t : Fin 32) (v : Word) (s : State) : Result :=
  finish (s.begin.guarded who (Reg.TICK_TENANT_START_STITCH t) fun s => s.writeStartStitch t v)

/-- A slot is enabled with a configuration at once (R43, R45). -/
def State.enableSlot (s : State) (n j k phase : Nat) : State :=
  let st := s.station n j
  let enabledAt := s.stitch + 2
  let start := max (s.startStitch n) enabledAt
  let first := firstMatch k phase start
  let st1 := { st with activated := false, enabledAt := enabledAt, start := start, change := none }
  s.setStation n j (if st.opened.isSome then { st1 with resume := some first } else { st1 with next := first })

/-- A write of a slot's CONFIG (R43, R71): refused as a whole for PHASE ≥ k with ENABLE = 1; at once on a disabled slot; at
the next deadline on an enabled one. -/
def State.writeStationConfig (s : State) (n j : Nat) (v : Word) : State :=
  let r := Reg.STATION_CONFIG n j
  let en := Fl.STATION_CONFIG_ENABLE.read v
  let kc := Fl.STATION_CONFIG_CADENCE.read v
  let ph := Fl.STATION_CONFIG_PHASE.read v
  let bad := decide (en = 1) && decide (kc + 1 ≤ ph)
  if bad then s.setFld r Fl.STATION_CONFIG_CONFIG_ERR 1
  else
    let s1 := if en = 1 then s.setFld r Fl.STATION_CONFIG_CONFIG_ERR 0 else s
    if s1.slotOn n j then s1.setStation n j { s1.station n j with change := some (en, kc, ph) }
    else
      let s2 := ((s1.setFld r Fl.STATION_CONFIG_ENABLE en).setFld r Fl.STATION_CONFIG_CADENCE kc).setFld r
        Fl.STATION_CONFIG_PHASE ph
      if en = 1 then s2.enableSlot n j (kc + 1) ph else s2

/-- STATION_CONFIG_WRITE (R43). -/
def execStationConfigWrite (who : Requester) (n : Fin 128) (j : Fin 4) (v : Word) (s : State) : Result :=
  finish (s.begin.guarded who (Reg.STATION_CONFIG n j) fun s => s.writeStationConfig n j v)

/-- ACT with END = 1: ACT_END (R84); it may be what the held boundary waits for (R58). -/
def execActEnd (n : Fin 128) (s : State) : Result :=
  finish (s.begin.fetchDo n 0x2D (fun w => insField w 2 1 == 1) fun w s =>
    let j := insField w 0 2
    if (s.station n j).opened.isNone then s.stopShuttle n 4
    else ((s.closeActivation n j).nextPc n).releaseHold)

/-! ### Time (R445) -/

/-- A hold, or the wait of a boundary that has fallen due, goes on for 30 arithmetic cycles; each STITCH_LEN of them counts as a stitch (R60); a hold that waits for
TICK_IN edges counts by its edges (R65). -/
def State.holdTime (s : State) : State :=
  let held := match s.tick.hold with | some h => !h.byEdge | none => false
  if held || s.tick.due.isSome then
    let w := s.tick.waited + 30
    if s.stitchLen ≤ w then
      (s.setTick { s.tick with waited := w - s.stitchLen }).advanceClock
    else s.setTick { s.tick with waited := w }
  else s

end Sys2Proof.Machine
end

