-- ==== Sys2Proof/Machine/Launch.lean ====
section
/-! DEFINITION. Launch queues (R94, R95), requests on engines, cores and clusters (R98 to R103), the front and the completion
of an engine queue (R91, R119, R121), wait limits (R189) and the tangle detector (R199 to R201). -/

namespace Sys2Proof.Machine

/-! ### Launch queues -/

/-- Whether a requester may use the doorbell page of a resource of tenant `owner` (R416, R432). -/
def State.mayDoorbell (s : State) (who : Requester) (owner : Option Nat) : Bool :=
  match who with
  | .tambour => true
  | .debugPort => false
  | .function f =>
    match s.fnTenant f.val with
    | none => false
    | some t => s.barOpen f.val t && owner == some t && s.ready

/-- Refuses a launch doorbell of an absent core, and counts it among the refused doorbells (R94, R96, R97). -/
def State.refuseLaunch (s : State) (n : Nat) : State :=
  let s1 := s.raise { cond := .absentUnit, ribbon := .fault, source := source 1 n 5, tenant := s.coreTenant n,
                      detail := source 1 n 6 + s.fld (Reg.SHUTTLE_STATUS n) Fl.SHUTTLE_STATUS_PC * 2 ^ 32,
                      counters := [Reg.CORE_ABSENT_UNIT n] }
  s1.setLaunch n { s1.launch n with last := 1, refused := min 0xFFFFFFFF ((s1.launch n).refused + 1) }

/-- A doorbell of core n's launch queue (R94, R96): the new write pointer. The spec does not order the overflow of R94 against the
checks of R96: an absent core refuses first, the overflow comes second (notes/assumptions/95). -/
def State.ringLaunch (s : State) (n ptr : Nat) : State :=
  if !s.clocked then s
  else if s.coreAbsent n then s.refuseLaunch n
  else
    let l := s.launch n
    if 16 < (ptr + 32 - l.rp) % 32 then s.setLaunch n { l with refused := min 0xFFFFFFFF (l.refused + 1) }
    else if s.coreState n ≠ 0 then s.setLaunch n { l with wp := ptr, rp := ptr, last := if ptr = l.rp then l.last else 2 }
    else (s.setLaunch n { l with wp := ptr }).syncStall n

/-- LAUNCH_DOORBELL (R94, R96). -/
def execLaunchDoorbell (who : Requester) (n : Fin 128) (ptr : BitVec 5) (s : State) : Result :=
  let s := s.begin
  finish (if s.mayDoorbell who (s.coreTenant n) then s.ringLaunch n ptr.toNat else s)

/-- The shuttle is IDLE or STOPPED (R94). -/
def State.shuttleIdle (s : State) (n : Nat) : Bool := s.shuttleState n == 0 || s.shuttleState n == 3

/-- The opcode of the front descriptor, where one waits (R94). -/
def State.launchOpcode (s : State) (n : Nat) : Option Nat :=
  if (s.launch n).waiting then some ((s.launch n).word (s.launch n).rp 0 % 65536) else none

/-- Byte field of the front descriptor. -/
def State.launchField (s : State) (n lo len : Nat) : Nat :=
  bitsOf ((s.launch n).word (s.launch n).rp (lo / 8)) (8 * (lo % 8)) (8 * len)

/-- Loads the masked counters of a START: k from 0 to 11 (R94). -/
def State.loadCounters (s : State) (n mask : Nat) : State :=
  iterate (fun k t =>
    if mask / 2 ^ k % 2 = 1 then t.setCounter n k (BitVec.ofNat 32 (s.launchField n (8 + 4 * k) 4)) else t) 12 0 s

/-- START (R94): taken when the shuttle is IDLE or STOPPED. -/
def execStart (n : Fin 128) (s : State) : Result :=
  let s := s.begin
  finish (if s.coresRun = false ∨ s.launchOpcode n ≠ some 1 ∨ s.shuttleIdle n = false ∨ s.coreState n ≠ 0 then s
    else
      let entry := s.launchField n 2 2
      let knot := s.launchField n 56 4
      let k := knot % 2 ^ 17
      let enabled := decide (2 ^ 31 ≤ knot)
      if 8191 < entry ∨ (enabled = true ∧ s.knotOwned k (s.coreTenant n) = false) then s.passLaunch n 3
      else
        let st := Reg.SHUTTLE_STATUS n
        let s1 := s.loadCounters n (s.launchField n 4 2)
        let s2 := ((s1.setFld st Fl.SHUTTLE_STATUS_PC entry).setFld st Fl.SHUTTLE_STATUS_STOP_REASON 0).setFld st
          Fl.SHUTTLE_STATUS_STATE 1
        (s2.setShuttle n { doneKnot := if enabled then some k else none, wait := none }).passLaunch n 0)

/-- STOP (R94, R95): instructions are whole steps, so a running shuttle is always before its next instruction. -/
def execStop (n : Fin 128) (s : State) : Result :=
  let s := s.begin
  finish (if s.coresRun = false ∨ s.launchOpcode n ≠ some 2 ∨ s.coreState n ≠ 0 then s
    else if s.shuttleIdle n then s.passLaunch n 0
    else (s.setLaunch n { s.launch n with stopping := true }).stopShuttle n 2)

/-- LAUNCH_RESERVED (R94): status INVALID without effect. -/
def execLaunchReserved (n : Fin 128) (s : State) : Result :=
  let s := s.begin
  finish (match s.launchOpcode n with
    | some op => if s.coresRun = false ∨ op = 1 ∨ op = 2 ∨ s.coreState n ≠ 0 then s else s.passLaunch n 3
    | none => s)

/-- STOP_REQ (R95, R105): a write of 1 to SHUTTLE.CONTROL.STOP_REQ. -/
def execStopReq (who : Requester) (n : Fin 128) (s : State) : Result :=
  finish (s.begin.guarded who (Reg.SHUTTLE_CONTROL n) fun s =>
    if s.shuttleState n = 1 ∨ s.shuttleState n = 2 then s.stopShuttle n 2 else s)

/-! ### Requests (R98, R100 to R103) -/

/-- An engine returns to ENABLED; its completions are counted from here (R98, R383). -/
def State.enableQueue (s : State) (n e : Nat) : State :=
  let table := Sparse.set (fun _ => 0) s.core.completions (4 * n + e) 0
  ({ s with core := { s.core with completions := table } }).setFld (Reg.QUEUE_STATUS n e) Fl.QUEUE_STATUS_STATE 0

/-- QUEUE[e].CONTROL.REQ: 1 DRAIN, 2 ENABLE. -/
def State.requestQueue (s : State) (n e req : Nat) : State :=
  if req = 1 then (s.drainQueue n e none).releaseHold
  else if req = 2 then
    if s.queueState n e = 2 ∧ s.queue n e = [] then s.enableQueue n e
    else s.setFld (Reg.QUEUE_STATUS n e) Fl.QUEUE_STATUS_REQ_ERR 1
  else s

/-- QUEUE_DRAIN_REQ (R103). -/
def execQueueDrainReq (who : Requester) (n : Fin 128) (e : Fin 4) (s : State) : Result :=
  finish (s.begin.guarded who (Reg.QUEUE_CONTROL n e) fun s => s.requestQueue n e 1)

/-- QUEUE_ENABLE_REQ (R98, R100). -/
def execQueueEnableReq (who : Requester) (n : Fin 128) (e : Fin 4) (s : State) : Result :=
  finish (s.begin.guarded who (Reg.QUEUE_CONTROL n e) fun s => s.requestQueue n e 2)

/-- A DISABLED core returns to ENABLED with its engines, its shuttle IDLE (R98, R101). -/
def State.enableCore (s : State) (n : Nat) : State :=
  let s1 := (s.setFld (Reg.CORE_UNIT_STATUS n) Fl.CORE_UNIT_STATUS_STATE 0).setFld (Reg.SHUTTLE_STATUS n)
    Fl.SHUTTLE_STATUS_STATE 0
  iterate (fun e s => if s.queueState n e = 2 then s.enableQueue n e else s) 4 0 s1

/-- UNIT_CONTROL.REQ of a core. -/
def State.requestCore (s : State) (n req : Nat) : State :=
  if req = 1 then (s.drainCore n).releaseHold
  else if req = 2 then
    if s.coreState n = 2 ∧ s.enableHeld n = false then s.enableCore n else s.setFld (Reg.CORE_UNIT_STATUS n) Fl.CORE_UNIT_STATUS_REQ_ERR 1
  else s

/-- CORE_DRAIN_REQ (R101). -/
def execCoreDrainReq (who : Requester) (n : Fin 128) (s : State) : Result :=
  finish (s.begin.guarded who (Reg.CORE_UNIT_CONTROL n) fun s => s.requestCore n 1)

/-- CORE_ENABLE_REQ (R98, R100). -/
def execCoreEnableReq (who : Requester) (n : Fin 128) (s : State) : Result :=
  finish (s.begin.guarded who (Reg.CORE_UNIT_CONTROL n) fun s => s.requestCore n 2)

/-- A DISABLED cluster returns to ENABLED with its DISABLED cores (notes/assumptions/17). -/
def State.enableCluster (s : State) (c : Nat) : State :=
  iterate (fun i s => if s.coreState (16 * c + i) = 2 ∧ s.enableHeld (16 * c + i) = false
      then s.enableCore (16 * c + i) else s) 16 0
    (s.setFld (Reg.CLUSTER_UNIT_STATUS c) Fl.CLUSTER_UNIT_STATUS_STATE 0)

/-- UNIT_CONTROL.REQ of a cluster. -/
def State.requestCluster (s : State) (c req : Nat) : State :=
  if req = 1 then (s.drainCluster c).releaseHold
  else if req = 2 then
    if s.clusterState c = 2 then s.enableCluster c
    else s.setFld (Reg.CLUSTER_UNIT_STATUS c) Fl.CLUSTER_UNIT_STATUS_REQ_ERR 1
  else s

/-- CLUSTER_DRAIN_REQ (R102). -/
def execClusterDrainReq (who : Requester) (c : Fin 8) (s : State) : Result :=
  finish (s.begin.guarded who (Reg.CLUSTER_UNIT_CONTROL c) fun s => s.requestCluster c 1)

/-- CLUSTER_ENABLE_REQ (R98, R100). -/
def execClusterEnableReq (who : Requester) (c : Fin 8) (s : State) : Result :=
  finish (s.begin.guarded who (Reg.CLUSTER_UNIT_CONTROL c) fun s => s.requestCluster c 2)

/-! ### Engine queues -/

/-- A command starts (R89). -/
def State.startCmd (s : State) (n e : Nat) (x : QEntry) : State :=
  s.putEntryQ n e { x with started := true, waitSince := none }

/-- ENGINE_NOP (R121): one step without work. -/
def execEngineNop (n : Fin 128) (e : Fin 4) (s : State) : Result :=
  let s := s.begin
  finish (match s.startable n e (isOp 1) with
    | some x => s.startCmd n e { x with workDone := true, steps := 1 }
    | none => s)

/-- QUEUE_FRONT_FRAYED (R91): the front completes once every earlier command of its queue has completed (R89). -/
def execQueueFrontFrayed (n : Fin 128) (e : Fin 4) (s : State) : Result :=
  let s := s.begin
  finish (match s.frontWaiting n e with
    | some x =>
      if s.eligible n e x ∧ s.waitFrayed x = true ∧ s.inFlight n e = 0 then
        ((((s.takeKnotError (cmdWaitKnot x.cmd)).finishCmd n e x .frayedKnot false).checkDrains n).releaseHold)
      else s
    | none => s)

/-- COMMAND_COMPLETE (R89, R119); the completion may be what a held boundary waits for (R58). -/
def execCommandComplete (n : Fin 128) (e : Fin 4) (s : State) : Result :=
  finish ((s.begin.settle.completeFront n e).releaseHold)

/-! ### Wait limits (R189) -/

/-- WAIT_LIMIT of the cluster of core n, in stitches (R189, R205). -/
def State.waitLimit (s : State) (n : Nat) : Nat :=
  max 1 (s.fld (Reg.KNOT_WAIT_LIMIT_STITCHES (n / 16)) Fl.KNOT_WAIT_LIMIT_STITCHES_STITCHES)

/-- The WAIT_LIMIT occurrence of a wait of core n; sub 4 is the shuttle (R189, R455). -/
def State.raiseWaitLimit (s : State) (n sub knot value : Nat) : State :=
  s.raise { cond := .waitLimit, ribbon := .fault, source := source 1 n sub, tenant := s.coreTenant n,
            detail := knot % 2 ^ 17 + s.knotCount knot * 2 ^ 32 + value % 2 ^ 32 * 2 ^ 64,
            counters := [Reg.KNOT_WAIT_LIMIT (n / 16)] }

/-- A front that has reached WAIT_LIMIT completes ABORTED (R189): at once where nothing of its queue is in flight, else in its turn
(R89). -/
def State.abortWait (s : State) (n e : Nat) (x : QEntry) : State :=
  if s.inFlight n e = 0 then ((s.abortCmd n e x { cause := 8 } false).checkDrains n).releaseHold
  else s.putEntryQ n e { x.fail { cause := 8 } with started := true }

/-- WAIT_LIMIT (R189) of an engine's front (sub 0 to 3) or of the shuttle (sub 4). -/
def execWaitLimit (n : Fin 128) (sub : Fin 5) (s : State) : Result :=
  let s := s.begin
  finish (if sub.val < 4 then
      match s.waitingFront n sub with
      | some x =>
        (match x.waitSince with
          | some since =>
            if since + s.waitLimit n ≤ s.stitchClock then
              (s.raiseWaitLimit n sub (cmdWaitKnot x.cmd) (cmdWaitValue x.cmd)).abortWait n sub x
            else s
          | none => s)
      | none => s
    else
      match (s.shuttle n).wait with
      | some (k, cond, value, since) =>
        if s.coresRun = true ∧ s.shuttleState n = 2 ∧ s.knotError k = false ∧ condHolds cond (s.knotCount k) value = false
            ∧ since + s.waitLimit n ≤ s.stitchClock then (s.raiseWaitLimit n 4 k value).stopShuttle n 10
        else s
      | none => s)

/-! ### The tangle detector (R199 to R201) -/

/-- Whether a queued command sets the local knot k (R199). -/
def setsKnot (k : Nat) (x : QEntry) : Bool := cmdSetPeer x.cmd == 0 && cmdSetOp x.cmd != 0 && cmdSetKnot x.cmd == k

/-- The queues that hold commands, by 4 × core + engine, as far as the controller of their cluster scans them (R199, R102). -/
def State.busyQueues (s : State) : List Nat := (s.core.queues.map (·.1)).filter (fun q => s.clusterState (q / 64) == 0)

/-- A queue by its number 4 × core + engine. -/
def State.queueAt (s : State) (q : Nat) : List QEntry := s.queue (q / 4) (q % 4)

/-- The queues that hold a setter of knot k. -/
def State.setterQueues (s : State) (k : Nat) : List Nat :=
  s.busyQueues.filter (fun q => (s.queueAt q).any (setsKnot k))

/-- The knot that a queue's waiting front waits on, where the controller of its cluster scans it (R199, R102). -/
def State.waitKnotOf (s : State) (q : Nat) : Option Nat :=
  if s.clusterState (q / 64) = 0 then (s.waitingFront (q / 4) (q % 4)).map (fun x => cmdWaitKnot x.cmd) else none

/-- The start of the search for tenant t: waiting fronts whose knot has setters, none of them started. -/
def State.tangleStart (s : State) (t : Nat) : List Nat :=
  s.busyQueues.filter (fun q =>
    s.coreTenant (q / 4) == some t &&
      match s.waitKnotOf q with
      | some k => !(s.setterQueues k).isEmpty
          && !(s.setterQueues k).any (fun r => (s.queueAt r).any (fun x => setsKnot k x && x.started))
      | none => false)

/-- Removes queues with a setter outside the set until none is removed; n bounds the rounds. -/
def State.tangleSearch (s : State) : (n : Nat) → List Nat → List Nat
  | 0, qs => qs
  | n + 1, qs =>
    let keep := qs.filter (fun q =>
      match s.waitKnotOf q with
      | some k => (s.setterQueues k).all (fun r => qs.contains r)
      | none => false)
    if keep.length = qs.length then qs else State.tangleSearch s n keep

/-- The tangle of tenant t: its queues with the numbers of their fronts. -/
def State.tangleOf (s : State) (t : Nat) : List (Nat × Nat) :=
  let start := s.tangleStart t
  (s.tangleSearch start.length start).filterMap (fun q =>
    (s.waitingFront (q / 4) (q % 4)).map (fun x => (q, x.uid)))

/-- The acting cluster of a tangle (R199). -/
def State.actingCluster (s : State) (qs : List Nat) : Option Nat :=
  (List.range 8).find? (fun c => qs.any (fun q => q / 64 == c)
    && s.flag (Reg.KNOT_TANGLE_CONTROL c) Fl.KNOT_TANGLE_CONTROL_ENABLE && s.clusterState c == 0)

/-- The position of the first setter of knot k in a queue, counted from its front. -/
def setterPosition (k : Nat) (xs : List QEntry) : Option Nat :=
  let i := (xs.filter (fun x => !x.started)).findIdx (setsKnot k)
  if i < (xs.filter (fun x => !x.started)).length then some i else none

/-- The setter nearest the front among the queues of a tangle: position and queue; ties go to the lower queue (R201). -/
def State.nearestSetter (s : State) (k : Nat) : List Nat → Option (Nat × Nat)
  | [] => none
  | q :: rest =>
    match setterPosition k (s.queueAt q), State.nearestSetter s k rest with
    | some i, some (j, r) => if i ≤ j then some (i, q) else some (j, r)
    | some i, none => some (i, q)
    | none, r => r

/-- The TANGLE_EDGE word of a queue of a tangle (R205). -/
def State.tangleEdge (s : State) (qs : List Nat) (q : Nat) : Nat :=
  let k := (s.waitKnotOf q).getD 0
  let (i, r) := (s.nearestSetter k qs).getD (0, 0)
  q % 512 + k % 2 ^ 17 * 2 ^ 9 + i % 512 * 2 ^ 26 + r % 512 * 2 ^ 35

/-- Writes the edges of a report; entries beyond a report of fewer queues keep their words (notes/assumptions/101). -/
def State.writeEdges (s : State) (c : Nat) : List Nat → Nat → State
  | [], _ => s
  | w :: rest, i => State.writeEdges (s.wr (Reg.KNOT_TANGLE_EDGE c i) (BitVec.ofNat 64 w)) c rest (i + 1)

/-- Drains the queues of a tangle (R200). -/
def State.drainTangle (s : State) : List Nat → State
  | [] => s
  | q :: rest => State.drainTangle (s.drainQueue (q / 4) (q % 4) (some 9)) rest

/-- The acting cluster c acts on a confirmed tangle of tenant t (R200, R201): `qs` are the queues whose fronts still wait, of the
queues `all` that the scans found. -/
def State.actOnTangle (s : State) (c t : Nat) (all qs : List Nat) : State :=
  let edges := qs.map (s.tangleEdge all)
  let st := Reg.KNOT_TANGLE_STATUS c
  let s1 := (s.drainTangle qs).writeEdges c (edges.take 8) 0
  let s2 := ((s1.setFld st Fl.KNOT_TANGLE_STATUS_VALID 1).setFld st Fl.KNOT_TANGLE_STATUS_TRUNCATED
    (decide (8 < qs.length)).toNat).setFld st Fl.KNOT_TANGLE_STATUS_SIZE qs.length
  s2.raise { cond := .tangle, ribbon := .fault, source := source 2 c 0, tenant := some t,
             detail := edges.headD 0 + qs.length % 1024 * 2 ^ 44, counters := [Reg.KNOT_TANGLE c] }

/-- What the scans of tenant t's queues hold: the tangle that the last scans found and how many in a row have found it. -/
def State.setTangle (s : State) (t : Nat) (x : Option (List (Nat × Nat) × Nat)) : State :=
  let others := s.core.tangles.filter (fun y => y.1 != t)
  { s with core := { s.core with tangles := others ++ (x.map (fun p => (t, p))).toList } }

/-- The tangle that tenant t's last scans found, and how many in a row have found it. -/
def State.tangleSeen (s : State) (t : Nat) : List (Nat × Nat) × Nat :=
  match s.core.tangles.find? (fun x => x.1 == t) with | some (_, p) => p | none => ([], 0)

/-- The action on what tenant t's scans have confirmed (R199): a tangle found PERSIST times in a row with the same fronts; queues
whose fronts no longer wait leave it, and the rest is acted on (R190). -/
def State.actTenant (s : State) (t : Nat) : State :=
  let (was, k) := s.tangleSeen t
  let all := was.map (·.1)
  match s.actingCluster all with
  | none => s
  | some c =>
    if k < max 1 (s.fld (Reg.KNOT_TANGLE_CONTROL c) Fl.KNOT_TANGLE_CONTROL_PERSIST) then s
    else
      let rest := (was.filter (fun x => (s.waitingFront (x.1 / 4) (x.1 % 4)).any (fun y => y.uid == x.2))).map (·.1)
      let s1 := s.setTangle t none
      if rest = [] then s1 else s1.actOnTangle c t all rest

/-- One scan for tenant t ends and the next begins (R199): the action on what the scan has confirmed, then what the next one
samples. The search, the count and the acting cluster are the tenant's own (notes/assumptions/100, 108). -/
def State.scanTenant (s : State) (t : Nat) : State :=
  let s1 := s.actTenant t
  let now := s1.tangleOf t
  let (was, k) := s1.tangleSeen t
  s1.setTangle t (if now = [] then none else some (now, if was = now then k + 1 else 1))

/-- TANGLE_SCAN (R199): the scans of the cluster controllers end, and the search runs for each tenant; a scan holds what stood in
the queues when it began (notes/assumptions/108). -/
def execTangleScan (s : State) : Result :=
  let s := s.begin
  finish ((iterate (fun t s => s.scanTenant t) 32 0 s).releaseHold)

end Sys2Proof.Machine
end

