-- ==== Sys2Proof/Machine/Matrix.lean ====
section
/-! DEFINITION. The matrix engine (R131 to R149): element decoding, narrow accumulators, promotion, special values, the
three-pass split, spills, drain, save and load. -/

namespace Sys2Proof.Machine

/-! ### Elements (R133) -/

/-- A decoded element: |x| = m × 2^(e − f), or a non-finite value. -/
inductive MxElem where
  | num (neg : Bool) (m : Nat) (e : Int) (f : Nat)
  | inf (neg : Bool)
  | nan
  deriving DecidableEq, Repr

/-- The float format of a matrix element code. -/
def mxFmt (code : Nat) : FloatFmt :=
  match code with
  | 0 => fmt32 | 1 => fmtBF16 | 2 => fmtFP16 | 3 => fmtE4M3 | 4 => fmtE5M2 | 5 => fmtE4M3 | 6 => fmtE5M2
  | 7 => fmtE3M2 | 8 => fmtE2M3 | _ => fmtE2M1

/-- Decodes an encoding in a float format. -/
def FloatFmt.elem (f : FloatFmt) (bits : Nat) : MxElem :=
  match f.decode bits with
  | .nan => .nan
  | .inf neg => .inf neg
  | .num neg m e => .num neg m (e + (f.fbits : Int)) f.fbits

/-- Decodes an element of a format code without its scale. -/
def mxElem (code bits : Nat) : MxElem :=
  if code = 9 then
    let i := signedOf 8 bits
    .num (decide (i < 0)) i.natAbs 0 6
  else (mxFmt code).elem bits

/-- Applies an E8M0 scale byte; 0xFF makes the element NaN. -/
def MxElem.scaled (x : MxElem) (scale : Nat) : MxElem :=
  if scale = 0xFF then .nan
  else match x with
    | .num neg m e f => .num neg m (e + (scale : Int) - 127) f
    | y => y

/-- The safe interval of a format code (R133). -/
def safeInterval (code : Nat) : Nat :=
  match code with
  | 3 => 9 | 4 => 10 | 5 => 9 | 6 => 10 | 7 => 10 | 8 => 9 | 9 => 7 | 10 => 28 | _ => 4

/-- An operand element as the passes take it: as it is, and its parts hi and lo in FP32_THREE_PASS (R138). -/
structure MxOperand where
  orig : MxElem
  hi : MxElem
  lo : MxElem
  deriving DecidableEq, Repr

/-- Splits an FP32 encoding into its BF16 parts (R138). -/
def splitF32 (bits : Nat) : MxOperand :=
  let orig := fmt32.elem bits
  match fmt32.decode bits with
  | .num _ _ _ =>
    let hiBits := bits / 2 ^ 16 % 2 ^ 16
    let rest := fAdd (fmt32.decode bits) (match fmtBF16.decode hiBits with | .num neg m e => .num (!neg) m e | v => v)
    { orig := orig, hi := fmtBF16.elem hiBits, lo := fmtBF16.elem (to16 fmtBF16 rest.val).val }
  | _ => { orig := orig, hi := orig, lo := .num false 0 0 0 }

/-- An operand element of a format code with its scale byte. -/
def mxOperand (code bits scale : Nat) : MxOperand :=
  if code = 0 then splitF32 bits
  else
    let x := if formatScaled code then (mxElem code bits).scaled scale else mxElem code bits
    { orig := x, hi := x, lo := x }

/-- Row r of an operand tile. -/
def State.operandRow (s : State) (n : Nat) (t : Tile) (r : Nat) : List MxOperand :=
  (List.range t.cols).map (fun k =>
    mxOperand t.format (s.element n t r k) (if formatScaled t.format then s.scaleOf n t r k else 0))

/-! ### Narrow accumulators (R134, R139) -/

/-- Group size of a mode (R132). -/
def groupSize (mode : Nat) : Nat := match mode with | 1 => 8 | 2 => 16 | _ => 4

/-- F of a mode (R134). -/
def narrowF (mode : Nat) : Nat := match mode with | 1 => 12 | 2 => 10 | _ => 14

/-- A live product: sign, exact product, exponent sum, fraction sum. -/
structure Product where
  neg : Bool
  p : Nat
  e : Int
  f : Nat
  deriving DecidableEq, Repr

/-- The live product of two factors, if any (R134). -/
def liveProduct (a b : MxElem) : Option Product :=
  match a, b with
  | .num na ma ea fa, .num nb mb eb fb =>
    if ma = 0 ∨ mb = 0 then none else some ⟨na != nb, ma * mb, ea + eb, fa + fb⟩
  | _, _ => none

/-- The largest exponent of a list of products. -/
def topExponent : List Product → Option Int
  | [] => none
  | p :: rest => match topExponent rest with | none => some p.e | some e => some (max p.e e)

/-- Truncation toward zero of an integer shifted right. -/
def shiftTrunc (a : Int) (k : Nat) : Int := if a < 0 then -((a.natAbs / 2 ^ k : Nat) : Int) else ((a.natAbs / 2 ^ k : Nat) : Int)

/-- Product p aligned to E_n and truncated. -/
def Product.aligned (p : Product) (en : Int) (f : Nat) : Int :=
  let sh : Int := en - p.e + (p.f : Int) - (f : Int)
  let t := if sh ≤ 0 then p.p * 2 ^ sh.natAbs else p.p / 2 ^ sh.natAbs
  if p.neg then -(t : Int) else (t : Int)

/-- The numeric part of process_group for one narrow accumulator (R134). -/
def Narrow.group (x : Narrow) (f : Nat) (first : Bool) (live : List Product) : Narrow :=
  let eg := topExponent live
  let y : Narrow :=
    if first then { a := 0, en := eg, sp := .none }
    else match eg, x.en with
      | some g, none => { x with en := some g }
      | some g, some e => if e < g then { x with a := shiftTrunc x.a (g - e).natAbs, en := some g } else x
      | none, _ => x
  match y.en with
  | some e => { y with a := live.foldl (fun acc p => acc + p.aligned e f) y.a }
  | none => y

/-- The special value of a product of two factors, with its flag (R139). -/
def specialProduct (a b : MxElem) : Special × Flags :=
  match a, b with
  | .nan, _ => (.nan, { nanInput := true })
  | _, .nan => (.nan, { nanInput := true })
  | .inf x, .inf y => (.inf (x != y), { infinity := true })
  | .inf x, .num y m _ _ => if m = 0 then (.nan, { invalid := true }) else (.inf (x != y), { infinity := true })
  | .num y m _ _, .inf x => if m = 0 then (.nan, { invalid := true }) else (.inf (x != y), { infinity := true })
  | .num .., .num .. => (.none, {})

/-- Combines two special values (R139). -/
def Special.combine (a b : Special) : Special × Flags :=
  match a, b with
  | .none, y => (y, {})
  | x, .none => (x, {})
  | .nan, _ => (.nan, {})
  | _, .nan => (.nan, {})
  | .inf x, .inf y => if x = y then (.inf x, {}) else (.nan, { invalid := true })

/-- The special-value rules for the pairs of a group (R139). -/
def specials : List (MxElem × MxElem) → Special → Flags → Special × Flags
  | [], sp, fl => (sp, fl)
  | (a, b) :: rest, sp, fl =>
    let p := specialProduct a b
    let c := sp.combine p.1
    specials rest c.1 ((fl.or p.2).or c.2)

/-- Promotion of one narrow accumulator into the wide value (R135, R139). -/
def promoteOne (f : Nat) (w : W32) (x : Narrow) : Res W32 :=
  match x.sp with
  | .nan => { val := nan32 }
  | .inf neg => let r := add32 w (BitVec.ofNat 32 (fmt32.infBits neg)); { val := r.val, flags := { invalid := r.flags.invalid } }
  | .none =>
    match x.en with
    | none => { val := w }
    | some e =>
      if x.a = 0 then { val := w }
      else (fAdd (ofF32 w) (.num (decide (x.a < 0)) x.a.natAbs (e - (f : Int)))).toF32

/-- Promotion of the narrow accumulators of a lane in order (R135, R138). -/
def promoteAll (f : Nat) (w : W32) : List Narrow → Res W32
  | [] => { val := w }
  | x :: rest =>
    let r := promoteOne f w x
    let q := promoteAll f r.val rest
    { val := q.val, flags := r.flags.or q.flags }

/-! ### Lanes -/

/-- A lane while it takes groups: its narrow accumulators, its wide value, the groups of the interval, its flags. -/
structure Lane where
  narrow : List Narrow
  wide : W32
  count : Nat
  flags : Flags := {}
  deriving DecidableEq, Repr

/-- One group into the narrow accumulators of a lane: one pass, or the three of R138. -/
def Lane.take (x : Lane) (mode : Nat) (pairs : List (MxOperand × MxOperand)) : Lane :=
  let f := narrowF mode
  let first := x.count == 0
  let live := fun (sa sb : MxOperand → MxElem) => pairs.filterMap (fun p => liveProduct (sa p.1) (sb p.2))
  let special := fun (y : Narrow) => specials (pairs.map (fun p => (p.1.orig, p.2.orig))) y.sp x.flags
  let get := fun i => (x.narrow.getD i {})
  if mode = 3 then
    let finite := fun (sa sb : MxOperand → MxElem) => pairs.filterMap (fun p =>
      match p.1.orig, p.2.orig with
      | .num .., .num .. => liveProduct (sa p.1) (sb p.2)
      | _, _ => none)
    let y1 := (get 0).group f first (finite (·.lo) (·.hi))
    let y2 := (get 1).group f first (finite (·.hi) (·.lo))
    let y3 := (get 2).group f first (finite (·.hi) (·.hi))
    let sp := special y3
    { x with narrow := [y1, y2, { y3 with sp := sp.1 }], count := x.count + 1, flags := sp.2 }
  else
    let y := (get 0).group f first (live (·.orig) (·.orig))
    let sp := special y
    { x with narrow := [{ y with sp := sp.1 }], count := x.count + 1, flags := sp.2 }

/-- Promotes a lane and starts a new interval. -/
def Lane.promote (x : Lane) (mode : Nat) : Lane :=
  let r := promoteAll (narrowF mode) x.wide x.narrow
  { narrow := [], wide := r.val, count := 0, flags := x.flags.or r.flags }

/-- Takes groups one after the other, promoting after each P of them; n bounds the groups. -/
def Lane.run (x : Lane) (mode p : Nat) : (n : Nat) → List (MxOperand × MxOperand) → Lane
  | 0, _ => x
  | n + 1, pairs =>
    let g := groupSize mode
    let y := x.take mode (pairs.take g)
    Lane.run (if y.count = p then y.promote mode else y) mode p n (pairs.drop g)

/-- Groups of a step of K elements (R132). -/
def groupsOf (mode k : Nat) : Nat := (k + groupSize mode - 1) / groupSize mode

/-- The narrow accumulators of a lane. -/
def State.narrowAt (s : State) (n r c : Nat) : List Narrow :=
  (List.range 3).map (fun i => Sparse.get (fun _ => ({} : Narrow)) s.core.narrow (3 * (512 * n + 16 * r + c) + i))

/-- Writes the narrow accumulators of a lane. -/
def State.setNarrow (s : State) (n r c : Nat) (xs : List Narrow) : State :=
  iterate (fun i s =>
    let table := Sparse.set (fun _ => ({} : Narrow)) s.core.narrow (3 * (512 * n + 16 * r + c) + i) (xs.getD i {})
    { s with core := { s.core with narrow := table } }) 3 0 s

/-- Drops the narrow accumulators of core n. -/
def State.clearNarrow (s : State) (n : Nat) : State :=
  { s with core := { s.core with narrow := Sparse.drop (fun k => k / 1536 == n) s.core.narrow } }

/-- One lane takes the groups of a step; a last step ends with a promotion. -/
def State.laneStep (s : State) (n mode p count : Nat) (last : Bool) (a b : List MxOperand) (r c : Nat) : State :=
  let x : Lane := { narrow := s.narrowAt n r c, wide := s.wideAt n r c, count := count }
  let y := x.run mode p (groupsOf mode a.length) (a.zip b)
  let z := if last && y.count != 0 then y.promote mode else y
  ((s.setWide n r c z.wide).setNarrow n r c z.narrow).mxFlags n z.flags

/-- The lanes of row r. -/
def State.rowStep (s : State) (n mode p count : Nat) (last : Bool) (a : List MxOperand) (r : Nat) :
    List (List MxOperand) → Nat → State
  | [], _ => s
  | b :: rest, c => State.rowStep (s.laneStep n mode p count last a b r c) n mode p count last a r rest (c + 1)

/-- Every lane with operands. -/
def State.lanesStep (s : State) (n mode p count : Nat) (last : Bool) (bs : List (List MxOperand)) :
    List (List MxOperand) → Nat → State
  | [], _ => s
  | a :: rest, r => State.lanesStep (s.rowStep n mode p count last a r bs 0) n mode p count last bs rest (r + 1)

/-! ### MATRIX_PASS (R131 to R138, R147) -/

/-- The operand of a step: the tile moved to the address its port gives, or the failure of R126. -/
def stepTile (t : Tile) (port : Nat) (a : Option Nat) : Except StepFail Tile :=
  match a with
  | none => if t.inHoop then .ok t else .error { cause := 1, port := port, address := t.base }
  | some x =>
    match t.rebase x with
    | some u => if u.inHoop then .ok u else .error { cause := 1, port := port, address := x }
    | none => .error { cause := 1, port := port, address := x }

/-- The front entry of a queue that has started and has work left, of opcode op. -/
def State.headWork (s : State) (n e op : Nat) : Option QEntry :=
  match s.queue n e with
  | x :: _ => if s.coresRun && x.started && !x.workDone && !x.spillDue && isOp op x then some x else none
  | [] => none

/-- The field of MX.PROMOTE for a mode (R155). -/
def promoteField (mode : Nat) : Fld :=
  match mode with
  | 0 => Fl.MX_PROMOTE_HALF | 1 => Fl.MX_PROMOTE_BYTE | 2 => Fl.MX_PROMOTE_MXFP4 | _ => Fl.MX_PROMOTE_THREE_PASS

/-- MODE of a MATRIX_PASS. -/
def passMode (x : QEntry) : Nat := cmdField x.cmd 24 3

/-- The effective promotion interval (R136). -/
def State.effectiveP (s : State) (n : Nat) (x : QEntry) : Nat :=
  min (s.fld (Reg.MX_PROMOTE n) (promoteField (passMode x)) + 1)
    (min (safeInterval (x.tile (cmdField x.cmd 6 6)).format) (safeInterval (x.tile (cmdField x.cmd 12 6)).format))

/-- A MATRIX_PASS starts (R89): it samples MX.PROMOTE and MX.SPILL; with spilling on, VALID clears and a wrong spill tile
fails the command before it reads any operand (R136, R147). -/
def State.startPass (s : State) (n : Nat) (x : QEntry) : State :=
  let period := s.fld (Reg.MX_SPILL n) Fl.MX_SPILL_STITCHES
  let tc := x.tile (cmdField x.cmd 18 6)
  let y := { x with promote := s.effectiveP n x, spillPeriod := period, startStitch := s.stitch, threshold := s.stitch + period }
  let s1 := if period = 0 then s else s.setFld (Reg.MX_SPILL_RECORD n) Fl.MX_SPILL_RECORD_VALID 0
  if period ≠ 0 ∧ tc.isSpill = false then s1.startCmd n 0 (y.fail { cause := 3, address := hoopAddr n tc.base })
  else s1.startCmd n 0 y

/-- A failed matrix command (R126): its narrow accumulators are dropped, and it will complete ABORTED. -/
def State.failMatrix (s : State) (n : Nat) (x : QEntry) (f : StepFail) : State :=
  (s.putEntryQ n 0 (x.fail f)).clearNarrow n

/-- Whether a spill falls due at the end of a step of a pass, which then has taken `groups` groups: it waits for the spill
(R147). -/
def QEntry.duesSpill (x : QEntry) (groups stitch : Nat) : Bool :=
  decide (0 < x.spillPeriod) && groups % x.promote == 0 && decide (x.threshold ≤ stitch)

/-- One step of a MATRIX_PASS at the head of its queue (R120, R131). -/
def State.passStep (s : State) (n : Nat) (x : QEntry) : State :=
  let a0 := portAddress x.s0
  let a1 := portAddress x.s1
  match stepTile (x.tile (cmdField x.cmd 6 6)) 0 a0, stepTile (x.tile (cmdField x.cmd 12 6)) 1 a1 with
  | .error f, _ => s.failMatrix n x f
  | .ok _, .error f => s.failMatrix n x f
  | .ok ta, .ok tb =>
    let who := s.coreTenant n
    let l := s.loadSpans who .urgent (ta.spans n ++ tb.spans n)
    if l.2 then l.1.failMatrix n x { cause := 7, address := hoopAddr n ta.base }
    else
      let mode := passMode x
      let s1 := if x.steps = 0 ∧ cmdField x.cmd 27 1 = 0 then (l.1.setAllWide n (fun _ => 0)).clearNarrow n else l.1
      let (y, last) := x.stepPorts
      let as_ := (List.range ta.rows).map (s1.operandRow n ta)
      let bs := (List.range tb.rows).map (s1.operandRow n tb)
      let g := groupsOf mode ta.cols
      let s2 := s1.lanesStep n mode x.promote (x.groups % x.promote) last bs as_ 0
      let passes := if mode = 3 then 3 else 1
      let s3 := (s2.addWrap (Reg.MX_GROUP_CYCLES n) (g * passes)).addWrap (Reg.MX_STALL_CYCLES n)
        (if x.promote = 1 then g * passes else 0)
      s3.putEntryQ n 0
        { y with groups := x.groups + g, workDone := last, spillDue := x.duesSpill (x.groups + g) s3.stitch }

/-- Up to k steps of the MATRIX_PASS at the head of the queue. -/
def State.passSteps (s : State) (n : Nat) : (k : Nat) → State
  | 0 => s
  | k + 1 =>
    match s.headWork n 0 2 with
    | some x => State.passSteps (s.passStep n x) n k
    | none => s

/-- MATRIX_PASS (R134): the front pass starts if it may, and the pass at the head of the queue makes up to `steps` steps. -/
def execMatrixPass (n : Fin 128) (steps : Nat) (s : State) : Result :=
  let s := s.begin
  finish ((match s.startable n 0 (isOp 2) with | some x => s.startPass n x | none => s).passSteps n steps)

/-! ### Tiles written by the engine -/

/-- The bytes of a row of encodings of a format. -/
def rowBytesOf (code : Nat) (vals : List Nat) : List Byte := vals.flatMap (fun v => bytesLE (formatBits code / 8) v)

/-- Writes rows of encodings into a tile of core n, row r up. -/
def State.writeRows (s : State) (n : Nat) (t : Tile) : List (List Nat) → Nat → State
  | [], _ => s
  | vals :: rest, r =>
    State.writeRows (s.store (hoopAddr n (t.base + r * t.stride)) (rowBytesOf t.format vals) []) n t rest (r + 1)

/-- The wide values of row r, columns 0 to c − 1. -/
def State.wideRow (s : State) (n c r : Nat) : List W32 := (List.range c).map (s.wideAt n r)

/-- Writes the accumulators bit for bit into an FP32 tile of 32 rows by 16 (R145). -/
def State.saveWide (s : State) (n : Nat) (t : Tile) : State :=
  s.writeRows n t ((List.range 32).map (fun r => (s.wideRow n 16 r).map (·.toNat))) 0

/-- The first threshold S_0 + j × STITCHES greater than a stitch (R147). -/
def nextThreshold (start period now : Nat) : Nat := start + ((now - start) / period + 1) * period

/-- The spill of a pass: the wide values to TC, the record, 8 cycles, and the next threshold (R147). -/
def State.spill (s : State) (n : Nat) (x : QEntry) : State :=
  let s1 := s.saveWide n (x.tile (cmdField x.cmd 18 6))
  let r := Reg.MX_SPILL_RECORD n
  let s2 := ((s1.setFld r Fl.MX_SPILL_RECORD_STEPS x.steps).setFld r Fl.MX_SPILL_RECORD_STITCH s.stitch).setFld r
    Fl.MX_SPILL_RECORD_VALID 1
  (s2.addWrap (Reg.MX_STALL_CYCLES n) 8).putEntryQ n 0
    { x with threshold := nextThreshold x.startStitch x.spillPeriod s.stitch, spillDue := false }

/-- The spill that is due in core n's matrix engine, if one is (R147). -/
def State.takeSpill (s : State) (n : Nat) : State :=
  match s.queue n 0 with
  | x :: _ => if x.spillDue ∧ x.failed = none then s.spill n x else s
  | [] => s

/-- SPILL (R147): the pass at the head of the queue has reached the step end at which a spill falls due, and waits for it. -/
def execSpill (n : Fin 128) (s : State) : Result :=
  let s := s.begin
  finish (if s.coresRun then s.takeSpill n else s)

/-! ### MATRIX_DRAIN (R142 to R144) -/

/-- ROWMAX (R144). -/
def rowMax : W32 → List W32 → W32
  | m, [] => m
  | m, v :: rest =>
    rowMax (if isNaN m || isNaN v then nan32
      else if less32 m v || (v == 0 && m == 0x80000000) then v else m) rest

/-- A product of R144: the flags are those of R139's table. -/
def sideMul (a b : W32) : Res W32 :=
  { val := (mul32 a b).val, flags := (specialProduct (fmt32.elem a.toNat) (fmt32.elem b.toNat)).2 }

/-- A sum of R144: opposite infinities are invalid, and no other flag is set (R139, R155). -/
def sideAdd (a b : W32) : Res W32 :=
  let r := add32 a b
  { val := r.val, flags := { invalid := r.flags.invalid } }

/-- ROWSUM (R144). -/
def rowSum : W32 → Flags → List W32 → Res W32
  | acc, fl, [] => { val := acc, flags := fl }
  | acc, fl, v :: rest => let r := sideAdd acc v; rowSum r.val (fl.or r.flags) rest

/-- ROWSUMEXP (R144): running maximum and sum. The exponential sets no flag: R139 and R155 name none for it. -/
def rowSumExp (scale : W32) : (m acc : W32) → Flags → List W32 → Res W32
  | _, acc, fl, [] => { val := acc, flags := fl }
  | m, acc, fl, v :: rest =>
    let x := sideMul v scale
    let fl1 := fl.or x.flags
    if isNaN x.val then rowSumExp scale m nan32 fl1 rest
    else if x.val = BitVec.ofNat 32 (fmt32.infBits true) then rowSumExp scale m acc fl1 rest
    else if less32 m x.val then
      let d := sideAdd m (neg32 x.val)
      let p := sideMul acc (exp2F d.val).val
      let q := sideAdd p.val 0x3F800000
      rowSumExp scale x.val q.val (fl1.or (d.flags.or (p.flags.or q.flags))) rest
    else
      let d := sideAdd x.val (neg32 m)
      let q := sideAdd acc (exp2F d.val).val
      rowSumExp scale m q.val (fl1.or (d.flags.or q.flags)) rest

/-- The drain scale is finite and positive (R144). -/
def scaleOk (scale : W32) : Bool :=
  match ofF32 scale with | .num neg m _ => !neg && m != 0 | _ => false

/-- A NaN written to a side column is canonical (R144). -/
def canonical (x : W32) : W32 := if isNaN x then nan32 else x

/-- The selected side values of a row (R144). -/
def sideValues (scale : W32) (side : Nat) (v : List W32) : Res (List W32) :=
  let v0 := v.headD 0
  let a := if side % 2 = 1 then [canonical (rowMax v0 v.tail)] else []
  let sum := rowSum v0 {} v.tail
  let b := if side / 2 % 2 = 1 then [canonical sum.val] else []
  let ex := if scaleOk scale then rowSumExp scale (BitVec.ofNat 32 (fmt32.infBits true)) 0 {} v
    else { val := nan32, flags := { invalid := true } }
  let c := if side / 4 % 2 = 1 then [canonical ex.val] else []
  { val := a ++ b ++ c,
    flags := (if side / 2 % 2 = 1 then sum.flags else {}).or (if side / 4 % 2 = 1 then ex.flags else {}) }

/-- The converted row of a drain and its flags (R143). -/
def drainRow (code : Nat) (v : List W32) : List Nat × Flags :=
  v.foldr (fun x acc => let r := drainTo code x; (r.val :: acc.1, r.flags.or acc.2)) ([], {})

/-- The drain of the accumulators (R143, R144). -/
def State.drainWide (s : State) (n : Nat) (x : QEntry) : State :=
  let tout := x.tile (cmdField x.cmd 6 6)
  let tside := x.tile (cmdField x.cmd 12 6)
  let side := cmdField x.cmd 18 3
  let scale := x.drainScale
  let rows := (List.range tout.rows).map (s.wideRow n tout.cols)
  let conv := rows.map (drainRow tout.format)
  let sides := rows.map (sideValues scale side)
  let fl := (conv.foldl (fun a c => a.or c.2) ({} : Flags)).or
    (if side = 0 then {} else sides.foldl (fun a c => a.or c.flags) ({} : Flags))
  let s1 := s.writeRows n tout (conv.map (·.1)) 0
  let s2 := if side = 0 then s1 else s1.writeRows n tside (sides.map (fun r => r.val.map (·.toNat))) 0
  let s3 := if cmdField x.cmd 21 1 = 1 then s2 else s2.setAllWide n (fun _ => 0)
  s3.mxFlags n fl

/-- The front command of opcode op of the matrix queue starts if it may, with `MX.DRAIN_SCALE` as it then stands (R151), and works
when it is at the head (R141). -/
def State.matrixWork (s : State) (n op : Nat) (f : QEntry → State → State) : State :=
  let s1 := match s.startable n 0 (isOp op) with
    | some x => s.startCmd n 0 { x with drainScale := BitVec.ofNat 32 (s.fld (Reg.MX_DRAIN_SCALE n) Fl.MX_DRAIN_SCALE_SCALE) }
    | none => s
  match s1.headWork n 0 op with
  | some x => f x s1
  | none => s1

/-- The one step of a command without ports has been made. -/
def State.doneOne (s : State) (n e : Nat) (x : QEntry) : State := s.putEntryQ n e { x with steps := 1, workDone := true }

/-- MATRIX_DRAIN (R143). -/
def execMatrixDrain (n : Fin 128) (s : State) : Result :=
  finish (s.begin.matrixWork n 3 fun x s => (s.drainWide n x).doneOne n 0 x)

/-- MATRIX_SAVE (R145). -/
def execMatrixSave (n : Fin 128) (s : State) : Result :=
  finish (s.begin.matrixWork n 4 fun x s => (s.saveWide n (x.tile (cmdField x.cmd 18 6))).doneOne n 0 x)

/-- MATRIX_LOAD (R145). -/
def execMatrixLoad (n : Fin 128) (s : State) : Result :=
  finish (s.begin.matrixWork n 5 fun x s =>
    let t := x.tile (cmdField x.cmd 6 6)
    let l := s.loadSpans (s.coreTenant n) .urgent (t.spans n)
    if l.2 then l.1.failMatrix n x { cause := 7, address := hoopAddr n t.base }
    else ((l.1.setAllWide n (fun i => BitVec.ofNat 32 (l.1.element n t (i / 16) (i % 16)))).clearNarrow n).doneOne n 0 x)

end Sys2Proof.Machine
end

