-- ==== Sys2Proof/Machine/Vector.lean ====
section
/-! DEFINITION. The vector engine (R156 to R176): blocks, fused chains, element programs, VLEN, and the slots' validation. -/

namespace Sys2Proof.Machine

/-! ### Vector tile registers and VLEN (R156) -/

/-- VLEN of core n: rows and columns. -/
def State.vlenOf (s : State) (n : Nat) : Nat × Nat := Sparse.get (fun _ => (16, 16)) s.core.vlen n

/-- Sets VLEN of core n. -/
def State.setVlen (s : State) (n rows cols : Nat) : State :=
  let table := Sparse.set (fun _ => (16, 16)) s.core.vlen n (rows, cols)
  { s with core := { s.core with vlen := table } }

/-! ### One element -/

/-- What one element's computation holds: the running value, the temporaries, its writes to vector tile registers, latest
first, and its flags. -/
structure VElem where
  x : W32 := 0
  temps : List W32 := List.replicate 16 0
  writes : List (Nat × W32) := []
  flags : Flags := {}
  deriving DecidableEq, Repr

/-- Vector tile register v as this element sees it. -/
def VElem.vreg (e : VElem) (v0 : Nat → W32) (v : Nat) : W32 :=
  match e.writes.find? (fun w => w.1 == v) with
  | some w => w.2
  | none => v0 v

/-- minimum(maximum(x, lo), hi) (R167, R170). -/
def clamp32 (x lo hi : W32) : W32 := min32 (max32 x lo) hi

/-- A stage operation (R167). -/
def stageOp (w : Nat) (x y k0 k1 : W32) : Res W32 :=
  match bitsOf w 0 4 with
  | 0x1 => fma32 x k0 k1
  | 0x2 => add32 x y
  | 0x3 => mul32 x y
  | 0x4 => { val := max32 x y }
  | 0x5 => { val := min32 x y }
  | 0x6 => exp2F x
  | 0x7 => log2F x
  | 0x8 => recipF x
  | 0x9 => rsqrtF x
  | 0xA => convert32 (bitsOf w 19 3) x
  | 0xB => { val := clamp32 x k0 k1 }
  | 0xC => { val := if mask32 y then x else k0 }
  | _ => { val := x }

/-- A stage negates its y operand: NEGATE in ADD, MULTIPLY, MAXIMUM, MINIMUM (R168). -/
def stageNegates (w : Nat) : Bool := bitsOf w 7 1 == 1 && decide (2 ≤ bitsOf w 0 4) && decide (bitsOf w 0 4 ≤ 5)

/-- One stage of a chain on one element (R166). -/
def VElem.stage (e : VElem) (w : Nat) (k0 k1 a b : W32) (v0 : Nat → W32) : VElem :=
  let y := match bitsOf w 4 3 with
    | 0 => a
    | 1 => b
    | 2 => e.vreg v0 (bitsOf w 8 5)
    | _ => k0
  let r := stageOp w e.x (if stageNegates w then neg32 y else y) k0 k1
  { e with x := r.val, flags := e.flags.or r.flags,
           writes := if bitsOf w 13 1 = 1 then (bitsOf w 14 5, r.val) :: e.writes else e.writes }

/-- The stages of a chain, each with its K0 and K1. -/
def VElem.stages (e : VElem) (a b : W32) (v0 : Nat → W32) : List (Nat × W32 × W32) → VElem
  | [] => e
  | (w, k0, k1) :: rest => VElem.stages (e.stage w k0 k1 a b v0) a b v0 rest

/-- A source of an operation (R169). -/
def VElem.source (e : VElem) (code : Nat) (ks : List W32) (a b : W32) (v0 : Nat → W32) : W32 :=
  if code < 16 then e.temps.getD code 0
  else if code = 16 then a
  else if code = 17 then b
  else if code < 32 then ks.getD (code - 24) 0
  else e.vreg v0 (code - 32)

/-- 1.0 or +0. -/
def truth32 (p : Bool) : W32 := if p then 0x3F800000 else 0

/-- The value of an operation on its sources (R170). A NaN that a constant or a V register holds passes unchanged where the
operation only copies it (notes/assumptions/104). -/
def opValue (w : Nat) (s1 s2 s3 : W32) : Res W32 :=
  match bitsOf w 0 6 with
  | 0x01 => { val := s1 }
  | 0x02 => add32 s1 s2
  | 0x03 => add32 s1 (neg32 s2)
  | 0x04 => mul32 s1 s2
  | 0x05 => fma32 s1 s2 s3
  | 0x06 => { val := max32 s1 s2 }
  | 0x07 => { val := min32 s1 s2 }
  | 0x08 => { val := abs32 s1 }
  | 0x09 => { val := neg32 s1 }
  | 0x0A => exp2F s1
  | 0x0B => log2F s1
  | 0x0C => recipF s1
  | 0x0D => rsqrtF s1
  | 0x0E => convert32 (bitsOf w 28 4) s1
  | 0x0F => { val := clamp32 s1 s2 s3 }
  | 0x10 => { val := if mask32 s1 then s2 else s3 }
  | 0x11 => { val := truth32 (less32 s1 s2) }
  | 0x12 => { val := truth32 (less32 s1 s2 || eq32 s1 s2) }
  | 0x13 => { val := truth32 (eq32 s1 s2) }
  | 0x14 => { val := if isNaN s1 then nan32 else (s1 &&& 0x7FFFFFFF) ||| (s2 &&& 0x80000000) }
  | _ => { val := s1 }

/-- One operation of a program on one element (R170). -/
def VElem.op (e : VElem) (w : Nat) (ks : List W32) (a b : W32) (v0 : Nat → W32) : VElem :=
  let src := fun i => e.source (opSource w i) ks a b v0
  let r := opValue w (src 0) (src 1) (src 2)
  if bitsOf w 0 6 = 0x15 then { e with writes := (opSource w 1 - 32, src 0) :: e.writes }
  else { e with temps := e.temps.set (bitsOf w 6 4) r.val, flags := e.flags.or r.flags }

/-- The operations of a program. -/
def VElem.ops (e : VElem) (ks : List W32) (a b : W32) (v0 : Nat → W32) : List Nat → VElem
  | [] => e
  | w :: rest => VElem.ops (e.op w ks a b v0) ks a b v0 rest

/-! ### Slots -/

/-- INDEX of a vector command. -/
def slotIndex (x : QEntry) : Nat := cmdField x.cmd 24 4

/-- The stages of chain slot i. -/
def State.chainStages (s : State) (n i : Nat) : List (Nat × W32 × W32) :=
  (List.range (s.fld (Reg.VX_CHAIN_HEAD n i) Fl.VX_CHAIN_HEAD_STAGES)).map (fun k =>
    let c := (s.rd (Reg.VX_CHAIN_CONSTANT n i k)).toNat
    (s.stageWord n i k, BitVec.ofNat 32 c, BitVec.ofNat 32 (c / 2 ^ 32)))

/-- The operations of program slot i. -/
def State.programOps (s : State) (n i : Nat) : List Nat :=
  (List.range (s.fld (Reg.VX_PROGRAM_HEAD n i) Fl.VX_PROGRAM_HEAD_LENGTH + 1)).map (s.opWord n i)

/-- The constants k0 to k7 of program slot i. -/
def State.programConstants (s : State) (n i : Nat) : List W32 :=
  (List.range 8).map (fun k => BitVec.ofNat 32 (s.rd (Reg.VX_PROGRAM_CONSTANT n i k)).toNat)

/-- The registers of a slot up to its length (R171). -/
def State.slotRegs (s : State) (n : Nat) (program : Bool) (i : Nat) : List Nat :=
  if program then
    Reg.VX_PROGRAM_HEAD n i :: (List.range 8).map (Reg.VX_PROGRAM_CONSTANT n i)
      ++ (List.range ((s.programOps n i).length / 2 + 1)).map (fun k => Reg.VX_PROGRAM_OP n i (min k 31))
  else
    Reg.VX_CHAIN_HEAD n i :: (List.range (s.fld (Reg.VX_CHAIN_HEAD n i) Fl.VX_CHAIN_HEAD_STAGES)).flatMap (fun k =>
      [Reg.VX_CHAIN_STAGE n i (min k 7), Reg.VX_CHAIN_CONSTANT n i (min k 7)])

/-- The vector tile registers that a slot's taps or WRITE_V operations name (R175). -/
def State.slotWrites (s : State) (n : Nat) (program : Bool) (i : Nat) : List Nat :=
  if program then
    (s.programOps n i).filterMap (fun w => if bitsOf w 0 6 = 0x15 then some (opSource w 1 - 32) else none)
  else (s.chainStages n i).filterMap (fun st => if bitsOf st.1 13 1 = 1 then some (bitsOf st.1 14 5) else none)

/-- The vector tile registers that a slot reads (R166, R169). -/
def State.slotVregs (s : State) (n : Nat) (program : Bool) (i : Nat) : List Nat :=
  if program then
    (s.programOps n i).flatMap (fun w => (List.range (opSources (bitsOf w 0 6))).filterMap (fun j =>
      if 32 ≤ opSource w j then some (opSource w j - 32) else none))
  else
    (if s.fld (Reg.VX_CHAIN_HEAD n i) Fl.VX_CHAIN_HEAD_INITIAL = 2 then
        [s.fld (Reg.VX_CHAIN_HEAD n i) Fl.VX_CHAIN_HEAD_INITIAL_VREG] else [])
      ++ (s.chainStages n i).filterMap (fun st =>
        if stageUsesY (bitsOf st.1 0 4) = true ∧ bitsOf st.1 4 3 = 2 then some (bitsOf st.1 8 5) else none)

/-- Word `key` of the vector tile registers holds elements of a block of registers of core n: with `whole`, both of its elements
(R156, R369). -/
def pairInBlock (n rows cols : Nat) (vs : List Nat) (whole : Bool) (key : Nat) : Bool :=
  let w := key - pathBase
  let c := 2 * (w % 8) + whole.toNat
  decide (pathBase ≤ key) && w / 4096 == n && vs.contains (w % 4096 / 128) && decide (w % 128 / 8 < rows) && decide (c < cols)

/-- Reads a block of vector tile registers; the second part says that a word of it is lost (R376, R380). -/
def State.readVregs (s : State) (who : Option Nat) (n rows cols : Nat) (vs : List Nat) : State × Bool :=
  let es := s.mem.upsets.filter (fun e => pairInBlock n rows cols vs false e.1)
  (s.readUpsets who es, es.any (fun e => upsetLost e.1 e.2))

/-- Words of vector tile registers that a block writes whole hold no error any more (R370, R372). -/
def State.healVregs (s : State) (n rows cols : Nat) (vs : List Nat) : State :=
  { s with mem := { s.mem with upsets := s.mem.upsets.filter (fun e => !pairInBlock n rows cols vs true e.1) } }

/-! ### Blocks (R157) -/

/-- The element of B that element (r, c) uses (R158): row and column of TB. -/
def bPlace (mode index r c : Nat) : Nat × Nat :=
  match mode with
  | 0 => (r, c)
  | 1 => (r, index)
  | 2 => (index, c)
  | _ => (0, index)

/-- The B operand's row spans of a block of R rows and C columns: row, first column and columns. -/
def bSpans (mode index rows cols : Nat) : List (Nat × Nat × Nat) :=
  match mode with
  | 0 => (List.range rows).map (fun r => (r, 0, cols))
  | 1 => (List.range rows).map (fun r => (r, index, 1))
  | 2 => [(index, 0, cols)]
  | _ => [(0, index, 1)]

/-- Bytes per element of a vector format. -/
def vxBytes (t : Tile) : Nat := formatBits t.format / 8

/-- The hoop bytes of columns c to c + k − 1 of row r of a tile. -/
def Tile.span (t : Tile) (n r c k : Nat) : Nat × Nat := (hoopAddr n (t.base + r * t.stride + c * vxBytes t), k * vxBytes t)

/-- The hoop bytes that a block reads. -/
def blockReads (n : Nat) (ta tb : Tile) (readsB : Bool) (mode index rows cols : Nat) : List (Nat × Nat) :=
  (List.range rows).map (fun r => ta.span n r 0 cols)
    ++ (if readsB then (bSpans mode index rows cols).map (fun p => tb.span n p.1 p.2.1 p.2.2) else [])

/-- One element of a block: its operands, its program, its flags (R157, R161). -/
def State.blockElement (s : State) (n : Nat) (x : QEntry) (ta tb : Tile) (readsB : Bool) (r c : Nat) : VElem :=
  let i := slotIndex x
  let program := isOp 3 x
  let head := slotHead n program i
  let a := vxRead ta.format (s.element n ta r c)
  let p := bPlace (s.fld head ⟨11, 2⟩) (s.fld head ⟨13, 4⟩) r c
  let b : Res W32 := if readsB then vxRead tb.format (s.element n tb p.1 p.2) else { val := 0 }
  let v0 := fun v => s.vreg n v r c
  let start : VElem := { flags := a.flags.or b.flags }
  if program then
    let e := start.ops (s.programConstants n i) a.val b.val v0 (s.programOps n i)
    { e with x := e.temps.headD 0 }
  else
    let x0 := match s.fld head Fl.VX_CHAIN_HEAD_INITIAL with
      | 0 => a.val
      | 1 => b.val
      | 2 => v0 (s.fld head Fl.VX_CHAIN_HEAD_INITIAL_VREG)
      | _ => BitVec.ofNat 32 (s.fld head Fl.VX_CHAIN_HEAD_INITIAL_CONSTANT)
    { start with x := x0 }.stages a.val b.val v0 (s.chainStages n i)

/-- Applies an element's writes to the vector tile registers, oldest first. -/
def State.applyVregs (s : State) (n r c : Nat) : List (Nat × W32) → State
  | [] => s
  | w :: rest => State.applyVregs (s.setVreg n w.1 r c w.2) n r c rest

/-- The elements of row r from column c: the state with their taps and flags, and the encodings written to TC. -/
def State.blockRow (s : State) (n : Nat) (x : QEntry) (ta tb tc : Tile) (readsB out : Bool) (r : Nat) :
    (k c : Nat) → State × List Nat
  | 0, _ => (s, [])
  | k + 1, c =>
    let e := s.blockElement n x ta tb readsB r c
    let w : Res Nat := if out then vxWrite tc.format e.x else { val := 0 }
    let s1 := (s.applyVregs n r c e.writes.reverse).vxFlags n (e.flags.or w.flags)
    let rest := State.blockRow s1 n x ta tb tc readsB out r k (c + 1)
    (rest.1, w.val :: rest.2)

/-- Rows r, …, r + k − 1 of a block, every element computed from what the block read: the rows of encodings. -/
def State.blockRows (s : State) (n : Nat) (x : QEntry) (ta tb tc : Tile) (readsB out : Bool) (cols : Nat) :
    (k r : Nat) → State × List (List Nat)
  | 0, _ => (s, [])
  | k + 1, r =>
    let row := s.blockRow n x ta tb tc readsB out r cols 0
    let rest := State.blockRows row.1 n x ta tb tc readsB out cols k (r + 1)
    (rest.1, row.2 :: rest.2)

/-- The cost of a stage or an operation by its function (R170, R176). -/
def functionCost (exp log recip rsqrt op : Nat) : Nat :=
  if op = exp ∨ op = log then 4 else if op = recip ∨ op = rsqrt then 2 else 1

/-- Rounded-up quotient by 1,024. -/
def kibs (bytes : Nat) : Nat := (bytes + 1023) / 1024

/-- The cost c of a block (R176), for the shape of TC, since VLEN does not change it (notes/assumptions/18). -/
def State.blockCost (s : State) (n : Nat) (x : QEntry) (ta tb tc : Tile) (readsB out : Bool) : Nat :=
  let i := slotIndex x
  let head := slotHead n (isOp 3 x) i
  let work := if isOp 3 x then ((s.programOps n i).map (fun w => functionCost 0x0A 0x0B 0x0C 0x0D (bitsOf w 0 6))).sum
    else ((s.chainStages n i).map (fun st => functionCost 6 7 8 9 (bitsOf st.1 0 4))).sum
  let reads := ((blockReads n ta tb readsB (s.fld head ⟨11, 2⟩) (s.fld head ⟨13, 4⟩) tc.rows tc.cols).map (·.2)).sum
  max (max work (kibs reads)) (max (if out then kibs (tc.rows * tc.cols * vxBytes tc) else 0) 1)

/-- Undefined bytes in rows of a tile, as correct code words (R175, R98). -/
def State.freeRows (s : State) (n : Nat) (t : Tile) (cols : Nat) : (k r : Nat) → State
  | 0, _ => s
  | k + 1, r =>
    let p := t.span n r 0 cols
    let f := s.freshBytes p.2
    State.freeRows (f.2.store p.1 f.1 []) n t cols k (r + 1)

/-- The rows and columns of a block (R157). -/
def State.blockShape (s : State) (n : Nat) (tc : Tile) : Nat × Nat :=
  (min (s.vlenOf n).1 tc.rows, min (s.vlenOf n).2 tc.cols)

/-- A vector command with the shape of its present block and the vector tile registers that its slot writes (R175). -/
def State.inBlock (s : State) (n : Nat) (x : QEntry) (tc : Option Tile) : QEntry :=
  { x with block := s.blockShape n (tc.getD (x.tile (cmdField x.cmd 18 6))),
           vregs := s.slotWrites n (isOp 3 x) (slotIndex x) }

/-- What a vector command that ends in a step leaves (R175): the elements of TC that the step was writing, where it has an output
tile, and the block's elements of the vector tile registers its slot writes. -/
def State.scrambleVector (s : State) (n : Nat) (x : QEntry) (tc : Option Tile) : State :=
  let y := s.inBlock n x tc
  let s1 := match tc with
    | some t => if s.flag (slotHead n (isOp 3 x) (slotIndex x)) ⟨17, 1⟩ then s.freeRows n t y.block.2 y.block.1 0 else s
    | none => s
  s1.freeVregs n y.block.1 y.block.2 y.vregs

/-- A failed vector command (R126, R175). -/
def State.failVector (s : State) (n : Nat) (x : QEntry) (tc : Option Tile) (f : StepFail) : State :=
  (s.putEntryQ n 1 ((s.inBlock n x tc).fail f)).scrambleVector n x tc

/-- One block of a VECTOR_CHAIN or VECTOR_ELEMENT (R157, R173): operands are read, every element is computed, and the output
is written. -/
def State.vectorBlock (s : State) (n : Nat) (x : QEntry) : State :=
  match stepTile (x.tile (cmdField x.cmd 6 6)) 0 (portAddress x.s0),
    stepTile (x.tile (cmdField x.cmd 18 6)) 1 (portAddress x.s1) with
  | .error f, .error _ => s.failVector n x none f
  | .error f, .ok tc => s.failVector n x (some tc) f
  | .ok _, .error f => s.failVector n x none f
  | .ok ta, .ok tc =>
    let i := slotIndex x
    let program := isOp 3 x
    let head := slotHead n program i
    let tb := x.tile (cmdField x.cmd 12 6)
    let readsB := s.slotReadsB n program i
    let out := s.flag head ⟨17, 1⟩
    let who := s.coreTenant n
    let shape := s.blockShape n tc
    let slot := s.readArrays who (s.slotRegs n program i)
    let l := slot.1.loadSpans who .urgent
      (blockReads n ta tb readsB (s.fld head ⟨11, 2⟩) (s.fld head ⟨13, 4⟩) shape.1 shape.2)
    let v := l.1.readVregs who n shape.1 shape.2 (s.slotVregs n program i)
    if slot.2 || l.2 || v.2 then v.1.failVector n x (some tc) { cause := 7, address := hoopAddr n ta.base }
    else
      let b := v.1.blockRows n x ta tb tc readsB out shape.2 shape.1 0
      let s1 := (if out then b.1.writeRows n tc b.2 0 else b.1).healVregs n shape.1 shape.2 (s.slotWrites n program i)
      let s2 := s1.addWrap (Reg.VX_BLOCK_CYCLES n) (v.1.blockCost n x ta tb tc readsB out)
      let s3 := (s2.setFld (Reg.VX_VLEN n) Fl.VX_VLEN_ROWS ((s2.vlenOf n).1 - 1)).setFld (Reg.VX_VLEN n)
        Fl.VX_VLEN_COLUMNS ((s2.vlenOf n).2 - 1)
      let y := (s.inBlock n x (some tc)).stepPorts
      let wrote := if out then (List.range shape.1).map (fun r => tc.span n r 0 shape.2) else []
      s3.putEntryQ n 1 { y.1 with workDone := y.2, wrote := x.wrote ++ wrote }

/-- A vector command that takes blocks. -/
def takesBlocks (x : QEntry) : Bool := isOp 2 x || isOp 3 x

/-- The next block in queue order, if the oldest command at work takes blocks (R173). -/
def State.nextBlock (s : State) (n : Nat) : State :=
  match s.running n 1 (fun _ => true) with
  | some x => if takesBlocks x then s.vectorBlock n x else s
  | none => s

/-- Up to k blocks. -/
def State.nextBlocks (s : State) (n : Nat) : (k : Nat) → State
  | 0 => s
  | k + 1 => State.nextBlocks (s.nextBlock n) n k

/-- The front vector command of an opcode starts if it may. -/
def State.startVector (s : State) (n op : Nat) : State :=
  match s.startable n 1 (isOp op) with
  | some x => s.startCmd n 1 x
  | none => s

/-- VECTOR_CHAIN (R166): the front chain starts if it may, and the unit takes up to `blocks` blocks in queue order. -/
def execVectorChain (n : Fin 128) (blocks : Nat) (s : State) : Result :=
  finish ((s.begin.startVector n 2).nextBlocks n blocks)

/-- VECTOR_ELEMENT (R170). -/
def execVectorElement (n : Fin 128) (blocks : Nat) (s : State) : Result :=
  finish ((s.begin.startVector n 3).nextBlocks n blocks)

/-- VECTOR_SET_LENGTH (R160): VLEN for the blocks that follow it in the queue. -/
def execVectorSetLength (n : Fin 128) (s : State) : Result :=
  let s := s.begin.startVector n 4
  finish (match s.running n 1 (fun _ => true) with
    | some x =>
      if isOp 4 x then
        (s.setVlen n (cmdField x.cmd 6 4 + 1) (cmdField x.cmd 10 4 + 1)).putEntryQ n 1
          { x with steps := 1, workDone := true }
      else s
    | none => s)

/-- The hoop bytes that the next block of a vector command reads; none where a port's address fails. -/
def State.nextReads (s : State) (n : Nat) (x : QEntry) : List (Nat × Nat) :=
  match stepTile (x.tile (cmdField x.cmd 6 6)) 0 (portAddress x.s0),
    stepTile (x.tile (cmdField x.cmd 18 6)) 1 (portAddress x.s1) with
  | .ok ta, .ok tc =>
    let program := isOp 3 x
    let head := slotHead n program (slotIndex x)
    let shape := s.blockShape n tc
    blockReads n ta (x.tile (cmdField x.cmd 12 6)) (s.slotReadsB n program (slotIndex x)) (s.fld head ⟨11, 2⟩)
      (s.fld head ⟨13, 4⟩) shape.1 shape.2
  | _, _ => []

/-- Whether two lists of spans, each an address and a length, have a byte in common. -/
def spansMeet (xs ys : List (Nat × Nat)) : Bool :=
  xs.any (fun p => ys.any (fun q => decide (p.1 < q.1 + q.2) && decide (q.1 < p.1 + p.2)))

/-- The next block reads bytes that an earlier command of the queue, still in flight, has written (R174). -/
def State.hazard (s : State) (n : Nat) (x : QEntry) : Bool :=
  spansMeet (s.nextReads n x) (((s.queue n 1).takeWhile (fun y => y.uid != x.uid)).flatMap (·.wrote))

/-- VECTOR_BLOCK (R173, R174): the next block enters the unit. Where it reads what an earlier command still in flight has written,
the unit held it for `held` cycles. -/
def execVectorBlock (n : Fin 128) (held : Nat) (s : State) : Result :=
  let s := s.begin
  finish (match s.running n 1 (fun _ => true) with
    | some x =>
      if takesBlocks x then (if s.hazard n x then s.addWrap (Reg.VX_HAZARD_CYCLES n) held else s).vectorBlock n x else s
    | none => s)

/-! ### Slot registers (R171, R172) -/

/-- Slot writes are ignored while the vector queue holds commands and the engine is not DISABLED (R172). -/
def State.slotsBusy (s : State) (n : Nat) : Bool := !(s.queue n 1).isEmpty && s.queueState n 1 != 2

/-- An ignored slot write (R172). -/
def State.slotIgnored (s : State) (n : Nat) : State := s.setFld (Reg.VX_STATUS n) Fl.VX_STATUS_WRITE_IGNORED 1

/-- The position of the first word that fails. -/
def firstBad (ok : Nat → Bool) : List Nat → Nat → Option Nat
  | [], _ => none
  | w :: rest, i => if ok w then firstBad ok rest (i + 1) else some i

/-- What validation finds: the position of the first failing word, 127 for the HEAD itself (R171). -/
def State.slotFault (s : State) (n : Nat) (program : Bool) (i : Nat) : Option Nat :=
  if program then firstBad opOk (s.programOps n i) 0
  else if 8 < s.fld (Reg.VX_CHAIN_HEAD n i) Fl.VX_CHAIN_HEAD_STAGES then some 127
  else firstBad stageOk ((s.chainStages n i).map (·.1)) 0

/-- The bits of a HEAD register that a write sets, VALID apart (R179). -/
def headBits (program : Bool) : Word := if program then 0x000000000003F83F else 0xFFFFFFFF0003FFFF

/-- A write of a HEAD register (R171, R172). -/
def State.writeHead (s : State) (n : Nat) (program : Bool) (i : Nat) (v : Word) : State :=
  if s.slotsBusy n then s.slotIgnored n
  else
    let off := slotHead n program i
    let s1 := (s.wr off (v &&& headBits program)).healArray off
    if Fld.read ⟨24, 1⟩ v = 0 then s1
    else
      match s1.slotFault n program i with
      | none => s1.setFld off ⟨24, 1⟩ 1
      | some k =>
        let st := Reg.VX_STATUS n
        (((s1.setFld st Fl.VX_STATUS_SLOT_ERR 1).setFld st Fl.VX_STATUS_ERR_PROGRAM program.toNat).setFld st
          Fl.VX_STATUS_ERR_SLOT i).setFld st Fl.VX_STATUS_ERR_POSITION k

/-- SLOT_VALIDATE (R171): a HEAD write. -/
def execSlotValidate (who : Requester) (n : Fin 128) (program : Bool) (slot : Fin 16) (v : Word) (s : State) : Result :=
  finish (s.begin.guarded who (slotHead n program slot) fun s => s.writeHead n program slot v)

/-- The word registers of a slot: kind (0 stage or operation, 1 constant) and number. -/
def slotWordReg (n : Nat) (program constant : Bool) (i k : Nat) : Nat :=
  match program, constant with
  | false, false => Reg.VX_CHAIN_STAGE n i (k % 8)
  | false, true => Reg.VX_CHAIN_CONSTANT n i (k % 8)
  | true, false => Reg.VX_PROGRAM_OP n i (k % 32)
  | true, true => Reg.VX_PROGRAM_CONSTANT n i (k % 8)

/-- An operation word without its reserved bits: MOD belongs to CONVERT alone (R169, R20). -/
def opWordBits (w : Nat) : Nat := if bitsOf w 0 6 = 0x0E then w % 2 ^ 32 else w % 2 ^ 28

/-- What a word register takes of a written value: constants whole, a stage word without its reserved bits [31:22] (R168), two
operation words without theirs (R169, R178). -/
def slotWordValue (program constant : Bool) (v : Word) : Word :=
  if constant then v &&& (if program then 0x00000000FFFFFFFF else 0xFFFFFFFFFFFFFFFF)
  else if program then BitVec.ofNat 64 (opWordBits (bitsOf v.toNat 0 32) + 2 ^ 32 * opWordBits (bitsOf v.toNat 32 32))
  else v &&& 0x00000000003FFFFF

/-- A write of a stage, constant or operation word (R171, R172). -/
def State.writeSlotWord (s : State) (n : Nat) (program constant : Bool) (i k : Nat) (v : Word) : State :=
  if s.slotsBusy n then s.slotIgnored n
  else
    let off := slotWordReg n program constant i k
    ((s.wr off (slotWordValue program constant v)).healArray off).setFld (slotHead n program i) ⟨24, 1⟩ 0

/-- SLOT_WORD_WRITE (R171, R172). -/
def execSlotWordWrite (who : Requester) (n : Fin 128) (program constant : Bool) (slot : Fin 16) (k : Fin 32) (v : Word)
    (s : State) : Result :=
  finish (s.begin.guarded who (slotWordReg n program constant slot k) fun s => s.writeSlotWord n program constant slot k v)

end Sys2Proof.Machine
end

