-- ==== Sys2Proof/Machine/Mover.lean ====
section
/-! DEFINITION. The movers (R125, R126, R207 to R213, R243, R346, R352, R353, R380 to R385, R418 to R420, R489). -/

namespace Sys2Proof.Machine

/-! ### Fields and images -/

/-- CHECK, ORDER, PRIORITY, ADD_OP and SWATCH of a mover command (R125). -/
def moverCheck (x : QEntry) : Nat := cmdField x.cmd 18 2
def moverOrder (x : QEntry) : Nat := cmdField x.cmd 20 2
def moverAddOp (x : QEntry) : Nat := cmdField x.cmd 22 3
def moverSwatch (x : QEntry) : Bool := isOp 2 x && cmdField x.cmd 25 1 == 1

/-- The read class of a PRIORITY value (R125, R240). -/
def readClassOf (p : Nat) : ReadClass := match p with | 0 => .urgent | 1 => .stream | _ => .bulk

/-- The read class of a mover command. -/
def moverClass (x : QEntry) : ReadClass := readClassOf (cmdField x.cmd 16 2)

/-- TT of a mover command. -/
def moverTile (x : QEntry) : Tile := x.tile (cmdField x.cmd 6 6)

/-- The memory side of a command lies on this device: PEER 0, or an entry that carries this device's own ID (R207). -/
def State.moverLocal (s : State) (x : QEntry) : Bool := cmdPeer x.cmd == 0 || (s.idValid && x.peerDevice == s.deviceId)

/-- The part of ranges that lies in [off, off + len), from off. -/
def clipRanges (off len : Nat) (bad : List (Nat × Nat)) : List (Nat × Nat) :=
  bad.filterMap (fun r =>
    let lo := max r.1 off
    let hi := min (r.1 + r.2) (off + len)
    if lo < hi then some (lo - off, hi - lo) else none)

/-- Reads spans one after the other into one image: its bytes and its poisoned ranges; `off` is the length so far. -/
def State.readImage (s : State) (who : Option Nat) (x : ReadClass) : List (Nat × Nat) → Nat → State × List Byte × List (Nat × Nat)
  | [], _ => (s, [], [])
  | (a, len) :: rest, off =>
    let l := s.load who x a len
    let r := State.readImage l.s who x rest (off + len)
    let bad := l.poison.map (fun line => let p := partOf a len line; (off + p.1 - a, p.2))
    (r.1, l.bytes ++ r.2.1, bad ++ r.2.2)

/-- Writes an image over spans one after the other, with its poisoned ranges. -/
def State.writeImage (s : State) : List (Nat × Nat) → List Byte → List (Nat × Nat) → State
  | [], _, _ => s
  | (a, len) :: rest, bytes, bad =>
    let here := clipRanges 0 len bad
    State.writeImage (s.store a (bytes.take len) (badLinesAt a here)) rest (bytes.drop len)
      (clipRanges len (bytes.length - len) bad)

/-! ### The check unit (R381 to R385) -/

/-- A REPORT command. -/
def reports (x : QEntry) : Bool := moverCheck x == 2

/-- Bytes with their poisoned ranges as 0xFF (R382). -/
def maskPoison (bytes : List Byte) (bad : List (Nat × Nat)) : List Byte :=
  bytes.zipIdx.map (fun p => if bad.any (fun r => decide (r.1 ≤ p.2) && decide (p.2 < r.1 + r.2)) then 0xFF else p.1)

/-- The whole lines of the memory side that ranges of its bytes touch, as ranges of those bytes (R382). -/
def wholeLines (mem len : Nat) (bad : List (Nat × Nat)) : List (Nat × Nat) :=
  (badLinesAt mem bad).map (fun line => let p := partOf mem len line; (p.1 - mem, p.2))

/-- Hands a step's memory-side address and bytes to the check of a REPORT command, which takes them when the step's `waiting`
transactions are answered (R382). -/
def State.feedReport (s : State) (x : QEntry) (step mem : Nat) (bytes : List Byte) (bad : List (Nat × Nat)) (waiting : Nat) :
    QEntry :=
  if reports x then
    let device := if isOp 4 x || s.moverLocal x then s.deviceId else x.peerDevice
    let data := maskPoison bytes (wholeLines mem bytes.length bad)
    x.takeChecks (x.checks ++ [⟨step, device * 2 ^ 48 + mem % 2 ^ 48, data, !bad.isEmpty, waiting, false⟩])
  else x

/-- The check's value when a command begins (R382). -/
def State.reportStart (s : State) (n e : Nat) : Nat :=
  if s.flag (Reg.MV_CHECK_CONTROL n (e - 2)) Fl.MV_CHECK_CONTROL_CHAIN then
    s.fld (Reg.MV_CHECK_RUNNING n (e - 2)) Fl.MV_CHECK_RUNNING_CRC
  else 0xFFFFFFFF

/-- A chained REPORT command makes its first step after every earlier REPORT command of its queue (R382). -/
def State.reportTurn (s : State) (n e : Nat) (x : QEntry) : Bool :=
  !reports x || x.steps != 0 || !s.flag (Reg.MV_CHECK_CONTROL n (e - 2)) Fl.MV_CHECK_CONTROL_CHAIN
    || !((s.queue n e).takeWhile (fun y => y.uid != x.uid)).any reports

/-- A swatch header that agrees with a tile: VERSION, FORMAT, ROWS, COLS (R213). -/
def headerOk (t : Tile) (image : List Byte) : Bool :=
  natLE (image.take 1) == t.format && natLE ((image.drop 1).take 1) == 1 && natLE ((image.drop 2).take 1) + 1 == t.rows
    && natLE ((image.drop 4).take 2) + 1 == t.cols

/-- The CHECK field of a swatch. -/
def headerCheck (image : List Byte) : Nat := natLE ((image.drop 60).take 4)

/-- Whether the check of a MOVE_READ swatch fails (R213, R384; a header in a poisoned line does not agree:
notes/assumptions/20). -/
def swatchFails (x : QEntry) (g : Gather) : Bool :=
  !g.unwritten &&
    (!(clipRanges 0 64 g.bad).isEmpty || !headerOk (moverTile x) g.bytes
      || (moverCheck x == 1 && (!g.bad.isEmpty || headerCheck g.bytes != swatchCheck g.mem g.bytes)))

/-- The CHECK_MISMATCH occurrence of a mover (R384, R455): the computed check is free where the swatch holds poison. -/
def State.moverMismatch (s : State) (n e : Nat) (g : Gather) : State :=
  let r := if g.bad.isEmpty then (swatchCheck g.mem g.bytes, s) else s.freshNat 32
  r.2.raise { cond := .checkMismatch, ribbon := .fault, source := source 1 n e, tenant := s.coreTenant n,
              detail := g.mem % 2 ^ 48 + r.1 * 2 ^ 64,
              counters := [Reg.INTEGRITY_CHECK_MISMATCH] }

/-! ### Writing out -/

/-- Cuts a run of bytes into transactions of at most 4,096 bytes (R346); n bounds how many. -/
def txnChunks : (n off : Nat) → List Byte → List (Nat × List Byte)
  | 0, _, _ => []
  | n + 1, off, bs => if bs = [] then [] else (off, bs.take 4096) :: txnChunks n (off + 4096) (bs.drop 4096)

/-- The TILE_WRITE transactions of a write: offset, bytes, POISON (R346, R489). -/
def writeTxns (dst : Nat) (bytes : List Byte) (bad : List (Nat × Nat)) : List (Nat × List Byte × Bool) :=
  (poisonRuns dst bytes (badLinesAt dst bad)).flatMap (fun r =>
    (txnChunks (r.2.1.length / 4096 + 1) r.1 r.2.1).map (fun c => (c.1, c.2, r.2.2)))

/-- A transaction of a command to the device of its PEER. -/
def State.moverTxn (s : State) (n : Nat) (x : QEntry) (typ address arg : Nat) (payload : List Byte) (poison : Bool) : Txn :=
  { dest := x.peerDevice, src := 0, typ := typ, tenant := (s.coreTenant n).getD 0, address := address, arg := arg,
    payload := payload, poison := poison, cls := moverOrder x }

/-- Sends TILE_WRITE transactions for a command. -/
def State.sendTileWrites (s : State) (n e : Nat) (x : QEntry) (step dst : Nat) : List (Nat × List Byte × Bool) → State
  | [] => s
  | (off, bs, p) :: rest =>
    State.sendTileWrites (s.sendTxn (s.moverTxn n x 1 (dst + off) 0 bs p) (.step n e x.uid step)) n e x step dst rest

/-- The failure of a step whose host request cannot issue (R420). -/
def State.hostRefused (s : State) (x : QEntry) (a port : Nat) : State × QEntry :=
  let h := s.hostAddress a
  (s.dmaError h.1, x.fail { cause := 6, port := port, address := h.2.2 % 2 ^ 48 })

/-- Writes a step's bytes to the memory side of a command, on this device by the step's translation of host windows, or on another,
and what the command and its check then wait for. `mem` is the address that the check takes. -/
def State.writeOut (s : State) (n e : Nat) (x : QEntry) (step port : Nat) (m : HostMap) (mem dst : Nat) (bytes : List Byte)
    (bad : List (Nat × Nat)) : State × QEntry :=
  if s.moverLocal x then
    if inHost dst then
      if s.piecesOpen (s.writePieces m dst bytes.length) then
        (s.hostStore m dst bytes (badLinesAt dst bad),
          s.feedReport { x with hostTail := some (m.last dst bytes.length) } step mem bytes bad 0)
      else
        let h := m.find dst
        (s.dmaError h.1, if x.failed.isSome then x else x.fail { cause := 6, port := port, address := h.2.2 % 2 ^ 48 })
    else (s.store dst bytes (badLinesAt dst bad), s.feedReport x step mem bytes bad 0)
  else
    let ts := writeTxns dst bytes bad
    (s.sendTileWrites n e x step dst ts,
      s.feedReport { x with outstanding := x.outstanding + ts.length } step mem bytes bad ts.length)

/-! ### Gathered steps -/

/-- Delivers a step whose bytes have all arrived: to hoop memory (MOVE_READ) or to the second address (MOVE_COPY). -/
def State.deliverGather (s : State) (n e : Nat) (x : QEntry) (g : Gather) : State × QEntry :=
  if isOp 4 x then s.writeOut n e x g.step 1 g.windows g.mem g.dest g.bytes g.bad
  else
    let tile := { moverTile x with base := g.dest, scales := (moverTile x).scales + g.dest - (moverTile x).base }
    if moverSwatch x then
      if swatchFails x g then
        (s.moverMismatch n e g, { x.fail { cause := 10, address := g.mem } with gathers := [] })
      else
        (s.writeImage (tile.spans n) ((g.bytes.drop 64).take tile.dense) (clipRanges 64 tile.dense g.bad),
          s.feedReport x g.step g.mem g.bytes g.bad 0)
    else (s.writeImage (tile.spans n) g.bytes g.bad, s.feedReport x g.step g.mem g.bytes g.bad 0)

/-- Delivers the gathered steps at the head of a command's list, in step order; k bounds how many. -/
def State.flushGathers (s : State) (n e : Nat) (x : QEntry) : (k : Nat) → State × QEntry
  | 0 => (s, x)
  | k + 1 =>
    match x.gathers with
    | [] => (s, x)
    | g :: rest =>
      if g.need = 0 then
        let r := s.deliverGather n e { x with gathers := rest } g
        State.flushGathers r.1 n e r.2 k
      else (s, x)

/-- Delivers what can be delivered of a command and puts it back into its queue. -/
def State.settleMover (s : State) (n e : Nat) (x : QEntry) : State :=
  let r := s.flushGathers n e x (x.gathers.length + 1)
  let q := r.1.moverTail n e r.2
  q.1.putEntryQ n e q.2

/-- The bytes of a list with a part replaced. -/
def splice (bytes : List Byte) (off : Nat) (part : List Byte) : List Byte :=
  bytes.take off ++ part ++ bytes.drop (off + part.length)

/-- Bytes arrive for a gathered step. -/
def Gather.fill (g : Gather) (off : Nat) (part : List Byte) (bad : List (Nat × Nat)) (unwritten : Bool) : Gather :=
  { g with need := g.need - part.length, bytes := splice g.bytes off part, bad := g.bad ++ bad,
           unwritten := g.unwritten && unwritten }

/-- Bytes arrive for step `step` of a command, from offset `off` on. -/
def State.fillStep (s : State) (n e uid step off : Nat) (part : List Byte) (bad : List (Nat × Nat)) (unwritten : Bool) :
    State :=
  match s.entryUid n e uid with
  | some x =>
    let gs := x.gathers.map (fun g => if g.step = step then g.fill off part bad unwritten else g)
    s.settleMover n e { x with gathers := gs }
  | none => s

/-! ### Steps -/

/-- The TILE_READ transactions of a read: at most 4,096 bytes and 64 lines each (R346); n bounds how many. -/
def readChunks : (n a len : Nat) → List (Nat × Nat)
  | 0, _, _ => []
  | n + 1, a, len =>
    if len = 0 then []
    else
      let k := min len (4096 - a % 64)
      (a, k) :: readChunks n (a + k) (len - k)

/-- Sends TILE_READ transactions for a step. -/
def State.sendTileReads (s : State) (n e : Nat) (x : QEntry) (step : Nat) : List (Nat × Nat) → State
  | [] => s
  | (a, k) :: rest =>
    let t := s.moverTxn n x 2 a (k % 2 ^ 13 + cmdField x.cmd 16 2 * 2 ^ 15) [] false
    State.sendTileReads (s.sendTxn t (.read n e x.uid step)) n e x step rest

/-- Begins to read `len` bytes of the memory side of a step of `y`, which has been advanced past the step. -/
def State.readIn (s : State) (n e : Nat) (x y : QEntry) (mem len dest : Nat) (remote : Bool) : State :=
  let who := s.coreTenant n
  let g : Gather := { step := x.steps, mem := mem, dest := dest, need := len, bytes := List.replicate len 0,
                      unwritten := true, windows := if isOp 4 x then s.hostMap dest len else [] }
  if remote then
    let cs := readChunks (len / 64 + 2) mem len
    (s.putEntryQ n e { y with gathers := y.gathers ++ [g], outstanding := y.outstanding + cs.length }).sendTileReads n e y
      x.steps cs
  else if !s.tenantMay who mem len false then s.putEntryQ n e (y.fail { cause := 2, port := 0, address := mem })
  else if inHost mem then
    let ps := s.readPieces mem len
    if s.piecesOpen ps then
      (s.putEntryQ n e { y with gathers := y.gathers ++ [{ g with unwritten := false }],
                                outstanding := y.outstanding + 1 }).startReads
        (.moverRead n e x.uid x.steps) (who.getD 0) len ps
    else
      let r := s.hostRefused y mem 0
      r.1.putEntryQ n e r.2
  else
    let l := s.load who (moverClass x) mem len
    let bad := l.poison.map (fun line => let p := partOf mem len line; (p.1 - mem, p.2))
    l.s.settleMover n e { y with gathers := y.gathers ++
      [{ g with need := 0, bytes := l.bytes, bad := bad, unwritten := l.unwritten }] }

/-- One step of MOVE_READ. -/
def State.moveReadStep (s : State) (n e : Nat) (x y : QEntry) : State :=
  let mem := (portAddress x.s0).getD 0
  match stepTile (moverTile x) 1 (portAddress x.s1) with
  | .error f => s.putEntryQ n e (y.fail f)
  | .ok t =>
    if moverSwatch x ∧ mem % 4096 ≠ 0 then s.putEntryQ n e (y.fail { cause := 2, port := 0, address := mem })
    else s.readIn n e x y mem (if moverSwatch x then 4096 else t.dense) t.base (!s.moverLocal x)

/-- One step of MOVE_COPY: its source is on this device. -/
def State.moveCopyStep (s : State) (n e : Nat) (x y : QEntry) : State :=
  let mem := (portAddress x.s0).getD 0
  let dst := (portAddress x.s1).getD 0
  let len := (moverTile x).dense
  if s.moverLocal x && !s.tenantMay (s.coreTenant n) dst len true then
    s.putEntryQ n e (y.fail { cause := 2, port := 1, address := dst })
  else s.readIn n e x y mem len dst false

/-- One step of MOVE_WRITE. -/
def State.moveWriteStep (s : State) (n e : Nat) (x y : QEntry) : State :=
  let mem := (portAddress x.s0).getD 0
  match stepTile (moverTile x) 1 (portAddress x.s1) with
  | .error f => s.putEntryQ n e (y.fail f)
  | .ok t =>
    if s.moverLocal x && !s.tenantMay (s.coreTenant n) mem t.dense true then
      s.putEntryQ n e (y.fail { cause := 2, port := 0, address := mem })
    else
      let r := s.readImage (s.coreTenant n) (moverClass x) (t.spans n) 0
      let w := r.1.writeOut n e y x.steps 0 (s.hostMap mem t.dense) mem mem r.2.1 r.2.2
      w.1.settleMover n e w.2

/-- The REDUCE transactions of a step: target address and addends (R346); n bounds how many. -/
def reduceChunks (op fmt : Nat) : (n a : Nat) → List Byte → List (Nat × List Byte)
  | 0, _, _ => []
  | n + 1, a, bs =>
    if bs = [] then []
    else (a, bs.take 4096) :: reduceChunks op fmt n (a + 4096 / max 1 (addendBytes fmt) * cellBytes op fmt) (bs.drop 4096)

/-- Sends REDUCE transactions for a command. -/
def State.sendReduces (s : State) (n e : Nat) (x : QEntry) (step op fmt : Nat) : List (Nat × List Byte) → State
  | [] => s
  | (a, bs) :: rest =>
    State.sendReduces (s.sendTxn (s.moverTxn n x 4 a (op % 8 + fmt % 16 * 16) bs false) (.step n e x.uid step)) n e x step op
      fmt rest

/-- One step of MOVE_REDUCE (R243, R244, R380). -/
def State.moveReduceStep (s : State) (n e : Nat) (x y : QEntry) : State :=
  let mem := (portAddress x.s0).getD 0
  let op := moverAddOp x
  let fmt := (moverTile x).format
  match stepTile (moverTile x) 1 (portAddress x.s1) with
  | .error f => s.putEntryQ n e (y.fail f)
  | .ok t =>
    let r := s.readImage (s.coreTenant n) (moverClass x) (t.spans n) 0
    if !r.2.2.isEmpty then r.1.putEntryQ n e (y.fail { cause := 7, port := 1, address := hoopAddr n t.base })
    else if s.moverLocal x then
      let q := r.1.reduce (s.coreTenant n) op fmt mem r.2.1
      match q.2 with
      | some c => q.1.putEntryQ n e (y.fail { cause := c, port := 0, address := mem })
      | none => q.1.putEntryQ n e (q.1.feedReport y x.steps mem r.2.1 [] 0)
    else
      let cs := reduceChunks op fmt (r.2.1.length / 4096 + 1) mem r.2.1
      (r.1.sendReduces n e y x.steps op fmt cs).putEntryQ n e
        (r.1.feedReport { y with outstanding := y.outstanding + cs.length } x.steps mem r.2.1 [] cs.length)

/-- One step of a mover command. -/
def State.moverStep (s : State) (n e : Nat) (x : QEntry) : State :=
  let x1 := if x.steps = 0 then { x with crc := s.reportStart n e } else x
  let p := x1.stepPorts
  let y := { p.1 with workDone := p.2 }
  match cmdOpcode x.cmd with
  | 2 => s.moveReadStep n e x1 y
  | 3 => s.moveWriteStep n e x1 y
  | 4 => s.moveCopyStep n e x1 y
  | 5 => s.moveReduceStep n e x1 y
  | _ => s

/-- Up to k steps of the oldest command of an opcode that has steps left. -/
def State.moverSteps (s : State) (n e op : Nat) : (k : Nat) → State
  | 0 => s
  | k + 1 =>
    match s.running n e (isOp op) with
    | some x => if s.reportTurn n e x then State.moverSteps (s.moverStep n e x) n e op k else s
    | none => s

/-- A mover row: the front command of its opcode starts if it may, and up to `steps` steps are made. -/
def State.moverWork (s : State) (n e op steps : Nat) : State :=
  (match s.startable n e (isOp op) with | some x => s.startCmd n e x | none => s).moverSteps n e op steps

/-- MOVE_READ (R125). -/
def execMoveRead (n : Fin 128) (m : Fin 2) (steps : Nat) (s : State) : Result := finish (s.begin.moverWork n (2 + m) 2 steps)

/-- MOVE_WRITE (R125). -/
def execMoveWrite (n : Fin 128) (m : Fin 2) (steps : Nat) (s : State) : Result := finish (s.begin.moverWork n (2 + m) 3 steps)

/-- MOVE_COPY (R125). -/
def execMoveCopy (n : Fin 128) (m : Fin 2) (steps : Nat) (s : State) : Result := finish (s.begin.moverWork n (2 + m) 4 steps)

/-- MOVE_REDUCE (R243). -/
def execMoveReduce (n : Fin 128) (m : Fin 2) (steps : Nat) (s : State) : Result :=
  finish (s.begin.moverWork n (2 + m) 5 steps)

/-! ### Check registers (R385) -/

/-- The check registers of mover m may change: its queue is empty or the mover is DISABLED. -/
def State.checkOpen (s : State) (n m : Nat) : Bool := (s.queue n (2 + m)).isEmpty || s.queueState n (2 + m) == 2

/-- An ignored write of a check register. -/
def State.checkIgnored (s : State) (n m : Nat) : State :=
  s.setFld (Reg.MV_CHECK_CONTROL n m) Fl.MV_CHECK_CONTROL_WRITE_IGNORED 1

/-- CHECK_RUNNING_WRITE (R385). -/
def execCheckRunningWrite (who : Requester) (n : Fin 128) (m : Fin 2) (v : Word) (s : State) : Result :=
  finish (s.begin.guarded who (Reg.MV_CHECK_RUNNING n m) fun s =>
    if s.checkOpen n m then
      s.setFld (Reg.MV_CHECK_RUNNING n m) Fl.MV_CHECK_RUNNING_CRC (Fl.MV_CHECK_RUNNING_CRC.read v)
    else s.checkIgnored n m)

/-- Clears W1C fields of a register where a written value has ones. -/
def State.clearOnes (s : State) (off : Nat) (v : Word) : List Fld → State
  | [] => s
  | f :: rest => State.clearOnes (s.wr off (s.rd off &&& ~~~(v &&& f.mask))) off v rest

/-- A write of CHECK_CONTROL: the W1C bits as written, then CHAIN and RECORD_EN or WRITE_IGNORED (R385). -/
def State.writeCheckControl (s : State) (n m : Nat) (v : Word) : State :=
  let off := Reg.MV_CHECK_CONTROL n m
  let s1 := s.clearOnes off v [Fl.MV_CHECK_CONTROL_REPORT_LOST, Fl.MV_CHECK_CONTROL_WRITE_IGNORED]
  let chain := Fl.MV_CHECK_CONTROL_CHAIN.read v
  let en := Fl.MV_CHECK_CONTROL_RECORD_EN.read v
  if s.checkOpen n m then (s1.setFld off Fl.MV_CHECK_CONTROL_CHAIN chain).setFld off Fl.MV_CHECK_CONTROL_RECORD_EN en
  else if chain = s.fld off Fl.MV_CHECK_CONTROL_CHAIN ∧ en = s.fld off Fl.MV_CHECK_CONTROL_RECORD_EN then s1
  else s1.checkIgnored n m

/-- CHECK_CONTROL_WRITE (R385). -/
def execCheckControlWrite (who : Requester) (n : Fin 128) (m : Fin 2) (v : Word) (s : State) : Result :=
  finish (s.begin.guarded who (Reg.MV_CHECK_CONTROL n m) fun s => s.writeCheckControl n m v)

end Sys2Proof.Machine
end

