-- ==== Sys2Proof/Machine/Events.lean ====
section
/-! DEFINITION. The commands of the event block (R448 to R464): acknowledging ribbon entries, clearing sticky bits, and the
end of a fold window. -/

namespace Sys2Proof.Machine

/-- A write of a ribbon's POINTERS: ACK_PTR moves unless it would pass WRITE_PTR, and a flood may end (R457, R458). -/
def State.writeAck (s : State) (rb : Nat) (v : Word) : State :=
  let ack := Fl.RIBBON_POINTERS_ACK_PTR.read v
  let step := (ack + 65536 - s.fld (Reg.RIBBON_POINTERS rb) Fl.RIBBON_POINTERS_ACK_PTR) % 65536
  if s.unacked rb < step then s
  else ((s.setFld (Reg.RIBBON_POINTERS rb) Fl.RIBBON_POINTERS_ACK_PTR ack).syncUnacked rb).endFlood rb

/-- RIBBON_ACK (R458). -/
def execRibbonAck (who : Requester) (r : Fin 4) (v : Word) (s : State) : Result :=
  finish (s.begin.guarded who (Reg.RIBBON_POINTERS r) fun s => s.writeAck r v)

/-- The registers that STICKY_CLEAR writes: `EVENT.STICKY` (0), `EVENT.ALERT` (1) and `EVENT.TENANT[t].STICKY` (2 + t). -/
def stickyReg (x : Nat) : Nat :=
  if x = 0 then Reg.EVENT_STICKY else if x = 1 then Reg.EVENT_ALERT else Reg.EVTENANT_STICKY (x - 2)

/-- The W1C bits of a sticky register (R464). -/
def stickyBits (x : Nat) : Fld :=
  if x = 0 then Fl.EVENT_STICKY_BITS else if x = 1 then Fl.EVENT_ALERT_CRITICAL else Fl.EVTENANT_STICKY_BITS

/-- A W1C write of a sticky register; ALERT# follows its causes (R449, R461). -/
def State.writeSticky (s : State) (x : Nat) (v : Word) : State :=
  (s.clearOnes (stickyReg x) v [stickyBits x]).driveAlert

/-- STICKY_CLEAR (R449). -/
def execStickyClear (who : Requester) (x : Fin 34) (v : Word) (s : State) : Result :=
  finish (s.begin.guarded who (stickyReg x) fun s => s.writeSticky x v)

/-- FOLD_WINDOW_CLOSE (R456). -/
def execFoldWindowClose (s : State) : Result :=
  let s := s.begin
  finish (s.closeFolds s.folds)

end Sys2Proof.Machine
end

