-- ==== Sys2Proof/Machine/Drains.lean ====
section
/-! DEFINITION. What reaches DRAIN_LIMIT in a core (R98, R146, R175): the undefined values an aborted command leaves, and the
end of the drain. -/

namespace Sys2Proof.Machine

/-- Undefined bytes of correct code words over spans (R98). -/
def State.freeSpans (s : State) : List (Nat × Nat) → State
  | [] => s
  | (a, len) :: rest =>
    let f := s.freshBytes len
    State.freeSpans (f.2.store a f.1 []) rest

/-- Undefined values for the tiles an aborted matrix command was writing (R98); its completion makes the accumulators undefined
(R146). -/
def State.scrambleMatrix (s : State) (n : Nat) (x : QEntry) : State :=
  match cmdOpcode x.cmd with
  | 2 => s.clearNarrow n
  | 3 =>
    let side := if cmdField x.cmd 18 3 = 0 then [] else (x.tile (cmdField x.cmd 12 6)).spans n
    s.freeSpans ((x.tile (cmdField x.cmd 6 6)).spans n ++ side)
  | 4 => s.freeSpans ((x.tile (cmdField x.cmd 18 6)).spans n)
  | _ => s

/-- Undefined values for what an aborted vector command was writing (R175). -/
def State.abortVector (s : State) (n : Nat) (x : QEntry) : State :=
  if takesBlocks x && !x.workDone then
    match stepTile (x.tile (cmdField x.cmd 18 6)) 1 (portAddress x.s1) with
    | .ok t => s.scrambleVector n x (some t)
    | .error _ => s.scrambleVector n x none
  else s

/-- The device bytes that a mover command was writing: the steps whose data has not been delivered, and the step after them
(R98). -/
def State.moverTargets (s : State) (n : Nat) (x : QEntry) : List (Nat × Nat) :=
  let t := moverTile x
  let hoop := fun base => ({ t with base := base, scales := t.scales + base - t.base } : Tile).spans n
  let memory := fun a len => if s.moverLocal x && s.tenantMay (s.coreTenant n) a len true && !inHost a then [(a, len)] else []
  let late := x.gathers.flatMap (fun g => if isOp 4 x then memory g.dest t.dense else hoop g.dest)
  let next :=
    if x.workDone then []
    else
      match cmdOpcode x.cmd with
      | 2 => (match stepTile t 1 (portAddress x.s1) with | .ok u => u.spans n | .error _ => [])
      | 3 => memory ((portAddress x.s0).getD 0) t.dense
      | 4 => memory ((portAddress x.s1).getD 0) t.dense
      | 5 => memory ((portAddress x.s0).getD 0)
          (t.dense / max 1 (addendBytes t.format) * cellBytes (moverAddOp x) t.format)
      | _ => []
  late ++ next

/-- Undefined values for what an aborted command of engine e was writing. -/
def State.scramble (s : State) (n e : Nat) (x : QEntry) : State :=
  if e = 0 then s.scrambleMatrix n x
  else if e = 1 then s.abortVector n x
  else s.freeSpans (s.moverTargets n x)

/-- Scrambles for a list of commands. -/
def State.scrambleAll (s : State) (n e : Nat) : List QEntry → State
  | [] => s
  | x :: rest => State.scrambleAll (s.scramble n e x) n e rest

/-- A queue of a drain that has reached DRAIN_LIMIT: a spill that is due finishes first (R148), and what is in flight is
aborted. -/
def State.limitQueue (s : State) (n e : Nat) : State :=
  let s1 := if e = 0 then s.takeSpill n else s
  (s1.scrambleAll n e (s1.abortable n e)).abortQueue n e

/-- Marks a drain as having reached its limit. -/
def State.markTimedOut (s : State) (u : DrainUnit) : State :=
  let ds := s.core.drains.map (fun d => if d.what = u then { d with timedOut := true } else d)
  { s with core := { s.core with drains := ds } }

/-- The unit of a DRAIN_LIMIT row: engine 0 to 3, or 4 for the core as a whole. -/
def limitUnit (n : Nat) (sub : Fin 5) : DrainUnit := if sub.val < 4 then .queue n sub else .core n

/-- A drain that has reached its limit and has not been reported (R98). -/
def State.limitDue (s : State) (u : DrainUnit) (limit : Nat) : Option Drain :=
  match s.drainOf u with
  | some d => if d.timedOut = false ∧ d.since + min limit (d.cap.getD limit) ≤ s.stitchClock then some d else none
  | none => none

/-- An engine's drain is older than the drain of its core. -/
def State.startedAlone (s : State) (n : Nat) (d : Drain) : Bool :=
  match s.drainOf (.core n) with
  | some c => decide (d.since < c.since)
  | none => true

/-- DRAIN_LIMIT (R98, R101, R103): of one engine drained alone, or of a core as a whole. -/
def execDrainLimit (n : Fin 128) (sub : Fin 5) (s : State) : Result :=
  let s := s.begin
  finish (match s.limitDue (limitUnit n sub) (s.drainLimit n) with
    | none => s
    | some d =>
      if sub.val < 4 then
        if s.coreState n = 1 ∧ s.startedAlone n d = false then s
        else
          let s1 := (s.limitQueue n sub).markTimedOut (limitUnit n sub)
          (((s1.drainTimeout n sub d.entry).checkDrains n).releaseHold)
      else
        let s1 := (iterate (fun e s => s.limitQueue n e) 4 0 s).markTimedOut (limitUnit n sub)
        (((s1.drainTimeout n 6 d.entry).checkDrains n).releaseHold))

end Sys2Proof.Machine
end

