-- ==== Sys2Proof/Machine/TierObjects.lean ====
section
/-! DEFINITION. Tier objects: the object table (R214), quotas, pins and borrowing (R222 to R224), the residency states (R225,
R226), and how entries complete (R219). -/

namespace Sys2Proof.Machine

/-! ### The object table (R214) -/

/-- A byte of the object's entry is lost (R380). -/
def State.objectLost (s : State) (o : Nat) : Bool :=
  s.mem.arrayUpsets.any (fun e => byteLost e.2 && e.1 / 0x80 == Reg.TIER_OBJECT_CONTROL o / 0x80)

/-- A field of the object's CONTROL. -/
def State.objFld (s : State) (o : Nat) (f : Fld) : Nat := s.fld (Reg.TIER_OBJECT_CONTROL o) f

/-- The object exists. -/
def State.objectValid (s : State) (o : Nat) : Bool := s.objFld o Fl.TIER_OBJECT_CONTROL_VALID == 1 && !s.objectLost o

/-- The number of swatches n. -/
def State.swatches (s : State) (o : Nat) : Nat := s.objFld o Fl.TIER_OBJECT_CONTROL_SWATCHES + 1

/-- The home tier: 0 T0, 1 T1, 2 T2. -/
def State.homeTier (s : State) (o : Nat) : Nat := s.objFld o Fl.TIER_OBJECT_CONTROL_HOME_TIER

/-- The up tier, 2 for none. -/
def State.upTier (s : State) (o : Nat) : Nat := s.objFld o Fl.TIER_OBJECT_CONTROL_UP_TIER

/-- WRITABLE. -/
def State.writable (s : State) (o : Nat) : Bool := s.objFld o Fl.TIER_OBJECT_CONTROL_WRITABLE == 1

/-- The home copy's base. -/
def State.homeBase (s : State) (o : Nat) : Nat := s.fld (Reg.TIER_OBJECT_HOME_BASE o) Fl.TIER_OBJECT_HOME_BASE_ADDR

/-- The up copy's base. -/
def State.upBase (s : State) (o : Nat) : Nat := s.fld (Reg.TIER_OBJECT_UP_BASE o) Fl.TIER_OBJECT_UP_BASE_ADDR

/-- The shape of the object's swatches as a tile. -/
def State.shape (s : State) (o : Nat) : Tile :=
  { base := 0, rows := s.objFld o Fl.TIER_OBJECT_CONTROL_ROWS + 1, cols := s.objFld o Fl.TIER_OBJECT_CONTROL_COLS + 1,
    format := s.objFld o Fl.TIER_OBJECT_CONTROL_FORMAT, stride := 0, scales := 0 }

/-- A field of the object's STATUS. -/
def State.objStatus (s : State) (o : Nat) (f : Fld) : Nat := s.fld (Reg.TIER_OBJECT_STATUS o) f

/-- Writes a field of the object's STATUS. -/
def State.setObj (s : State) (o : Nat) (f : Fld) (v : Nat) : State := s.setFld (Reg.TIER_OBJECT_STATUS o) f v

/-- The residency state: 0 HOME, 1 PROMOTING, 2 RESIDENT, 3 EVICTING (R232). -/
def State.residency (s : State) (o : Nat) : Nat := s.objStatus o Fl.TIER_OBJECT_STATUS_STATE

/-- Moves an object to a residency state. -/
def State.setResidency (s : State) (o r : Nat) : State := s.setObj o Fl.TIER_OBJECT_STATUS_STATE r

/-- EVICT_PENDING. -/
def State.evictPending (s : State) (o : Nat) : Bool := s.objStatus o Fl.TIER_OBJECT_STATUS_EVICT_PENDING == 1

/-- A charge holder carries the up copy (R224). -/
def State.holderCharged (s : State) (o : Nat) : Bool := s.objStatus o Fl.TIER_OBJECT_STATUS_BORROW_CHARGED == 1

/-- The charge holder. -/
def State.holder (s : State) (o : Nat) : Nat := s.objStatus o Fl.TIER_OBJECT_STATUS_CHARGE_HOLDER

/-- The mask of pins. -/
def State.pins (s : State) (o : Nat) : Nat := s.objStatus o Fl.TIER_OBJECT_STATUS_PINS

/-- Tenant u holds a pin. -/
def State.pinned (s : State) (o u : Nat) : Bool := bitsOf (s.pins o) u 1 == 1

/-- Records or removes tenant u's pin. -/
def State.setPin (s : State) (o u : Nat) (on : Bool) : State :=
  s.setObj o Fl.TIER_OBJECT_STATUS_PINS (s.pins o - (s.pinned o u).toNat * 2 ^ u + on.toNat * 2 ^ u)

/-- The owner of an object, as a number. -/
def State.ownerNum (s : State) (o : Nat) : Nat := (s.objectTenant o).getD 0

/-! ### Quotas (R222, R223) -/

/-- Tenant t may be charged n more swatches of tier r. -/
def State.quotaFits (s : State) (t r n : Nat) : Bool :=
  decide (s.fld (Reg.TIER_TENANT_CHARGED t r) Fl.TIER_TENANT_CHARGED_SWATCHES + n
    ≤ s.fld (Reg.TIER_TENANT_QUOTA t r) Fl.TIER_TENANT_QUOTA_SWATCHES)

/-- Tenant u may reserve n more swatches of tier r. -/
def State.borrowFits (s : State) (u r n : Nat) : Bool :=
  decide (s.fld (Reg.TIER_TENANT_BORROWED u r) Fl.TIER_TENANT_BORROWED_SWATCHES + n
    ≤ s.fld (Reg.TIER_TENANT_BORROW_LIMIT u r) Fl.TIER_TENANT_BORROW_LIMIT_SWATCHES)

/-- Charges n swatches of tier r to tenant t. -/
def State.charge (s : State) (t r n : Nat) : State :=
  s.setFld (Reg.TIER_TENANT_CHARGED t r) Fl.TIER_TENANT_CHARGED_SWATCHES
    (s.fld (Reg.TIER_TENANT_CHARGED t r) Fl.TIER_TENANT_CHARGED_SWATCHES + n)

/-- Ends a charge of n swatches. -/
def State.uncharge (s : State) (t r n : Nat) : State :=
  s.setFld (Reg.TIER_TENANT_CHARGED t r) Fl.TIER_TENANT_CHARGED_SWATCHES
    (s.fld (Reg.TIER_TENANT_CHARGED t r) Fl.TIER_TENANT_CHARGED_SWATCHES - n)

/-- Reserves n swatches of tenant u's borrow limit in tier r. -/
def State.reserve (s : State) (u r n : Nat) : State :=
  s.setFld (Reg.TIER_TENANT_BORROWED u r) Fl.TIER_TENANT_BORROWED_SWATCHES
    (s.fld (Reg.TIER_TENANT_BORROWED u r) Fl.TIER_TENANT_BORROWED_SWATCHES + n)

/-- Ends a reservation of n swatches. -/
def State.unreserve (s : State) (u r n : Nat) : State :=
  s.setFld (Reg.TIER_TENANT_BORROWED u r) Fl.TIER_TENANT_BORROWED_SWATCHES
    (s.fld (Reg.TIER_TENANT_BORROWED u r) Fl.TIER_TENANT_BORROWED_SWATCHES - n)

/-- A failed charge (borrow false) or reservation (true) of tenant t's entry (R223, R455). -/
def State.quotaExceeded (s : State) (src t o r : Nat) (borrow : Bool) : State :=
  s.raise { cond := .quotaExceeded, ribbon := .fault, source := src, tenant := some t,
            detail := o % 2 ^ 14 + r % 4 * 2 ^ 16 + borrow.toNat * 2 ^ 18, counters := [Reg.TIER_TENANT_QUOTA_EXCEEDED t] }

/-- An eviction of object o is deferred (R224, R455): its charge holder is `h`. -/
def State.evictionDeferred (s : State) (src t o h : Nat) : State :=
  s.raise { cond := .evictionDeferred, ribbon := .notice, source := src, tenant := some t,
            detail := o % 2 ^ 14 + h % 32 * 2 ^ 16, counters := [Reg.TIER_TENANT_EVICTION_DEFERRED t] }

/-! ### Completion of entries (R219) -/

/-- Frays or signals DONE_KNOT. A knot that is not the queue's tenant's is left alone (notes/assumptions/22). -/
def State.tierSignal (s : State) (q : Nat) (e : TierEntry) (st : Nat) : State :=
  match e.done with
  | some k =>
    if s.knotOwned k (s.tierQueueTenant q) then
      s.knotDo k (if st = 0 then .add 1 else .fray (match st with | 1 => 0 | 3 => 2 | _ => 1))
    else s
  | none => s

/-- An entry completes with a status: 0 OK, 1 CANCELLED, 2 ABORTED, 3 FRAYED_KNOT, 4 QUOTA_EXCEEDED, 5 CHECK_MISMATCH, 6
INVALID (R219, R232). -/
def State.endEntry (s : State) (q : Nat) (e : TierEntry) (st : Nat) : State :=
  let s1 := s.setFld (Reg.TIER_QUEUE_STATUS q) Fl.TIER_QUEUE_STATUS_LAST_STATUS st
  let s2 := if st = 0 then s1
    else (s1.setFld (Reg.TIER_QUEUE_ERROR q) Fl.TIER_QUEUE_ERROR_ENTRY e.index).setFld (Reg.TIER_QUEUE_ERROR q)
      Fl.TIER_QUEUE_ERROR_STATUS st
  s2.tierSignal q e st

/-- A draining tier queue with nothing in flight is DISABLED (R221, R98). -/
def State.checkTierQ (s : State) (q : Nat) : State :=
  if s.tierState q = 1 ∧ (s.tierQ q).flight = [] then
    (s.setFld (Reg.TIER_QUEUE_STATUS q) Fl.TIER_QUEUE_STATUS_STATE 2).drainEnded (.tierQueue q)
  else s

/-- An entry in flight completes and leaves its queue. -/
def State.endRun (s : State) (q : Nat) (r : TierRun) (st : Nat) : State :=
  let x := s.tierQ q
  ((s.setTierQ q { x with flight := x.flight.filter (fun y => y.uid != r.uid) }).endEntry q r.entry st).checkTierQ q

/-- Every entry in flight with its queue. -/
def State.tierRuns (s : State) : List (Nat × TierRun) := s.tier.queues.flatMap (fun p => p.2.flight.map (fun r => (p.1, r)))

/-- Completes a list of entries with a status. -/
def State.endRuns (s : State) (st : Nat) : List (Nat × TierRun) → State
  | [] => s
  | (q, r) :: rest => State.endRuns (s.endRun q r st) st rest

/-- The entries in flight for an object that wait for w. -/
def State.waitingRuns (s : State) (o : Nat) (w : TierWait) : List (Nat × TierRun) :=
  s.tierRuns.filter (fun p => p.2.entry.op != 1 && p.2.entry.object == o && p.2.wait == w)

/-- Says what an entry in flight waits for. -/
def State.setWait (s : State) (q uid : Nat) (w : TierWait) : State :=
  let x := s.tierQ q
  s.setTierQ q { x with flight := x.flight.map (fun r => if r.uid = uid then { r with wait := w } else r) }

/-! ### Moves -/

/-- The moves of an object: one that carries its data, and the header writes of a PLACE (R225). -/
def State.movesOf (s : State) (o : Nat) : List TierMove := s.tier.moves.filter (fun m => m.object == o)

/-- The write-back of an object that is in progress. -/
def State.writesBack (s : State) (o : Nat) : Bool := (s.movesOf o).any (fun m => m.kind == .writeBack)

/-- The move of an order. -/
def State.moveAt (s : State) (order : Nat) : Option TierMove := s.tier.moves.find? (fun m => m.order == order)

/-- Starts a move: moves stand in the order of entry start (R220). -/
def State.startMove (s : State) (m : TierMove) : State :=
  let ms := s.tier.moves
  { s with tier := { s.tier with
      moves := ms.takeWhile (fun x => decide (x.order ≤ m.order)) ++ m :: ms.dropWhile (fun x => decide (x.order ≤ m.order)) } }

/-- Starts a move for an entry, or for none: a deferred eviction and a unit's request take their place behind what has started. -/
def State.startMoveFor (s : State) (o : Nat) (kind : MoveKind) (cls : Nat) (entry : Option (Nat × Nat)) : State :=
  match entry with
  | some (q, uid) => s.startMove { object := o, kind := kind, cls := cls, order := uid, entry := some (q, uid) }
  | none =>
    let uid := s.tier.nextUid
    { s with tier := { s.tier with nextUid := uid + 1 } }.startMove { object := o, kind := kind, cls := cls, order := uid }

/-- Forgets a move. -/
def State.dropMove (s : State) (m : TierMove) : State :=
  { s with tier := { s.tier with moves := s.tier.moves.filter (fun x => x.order != m.order) } }

/-- Replaces a move. -/
def State.setMove (s : State) (m : TierMove) : State :=
  { s with tier := { s.tier with moves := s.tier.moves.map (fun x => if x.order = m.order then m else x) } }

/-- The read class that the entry of a pending eviction gave (R220). -/
def State.evictClass (s : State) (o : Nat) : Nat := Sparse.get (fun _ => 0) s.tier.classes o

/-- Keeps the read class of an eviction that is pending. -/
def State.setEvictClass (s : State) (o cls : Nat) : State :=
  { s with tier := { s.tier with classes := Sparse.set (fun _ => 0) s.tier.classes o cls } }

/-- A pending eviction was asked for by DISCARD. -/
def State.setDiscard (s : State) (o : Nat) (on : Bool) : State :=
  let d := s.tier.discards
  { s with tier := { s.tier with discards := if on then NatSet.add d o else NatSet.del d o } }

/-! ### Residency (R225, R226) -/

/-- A charge holder without a pin lets its reservation go (R223). -/
def State.releaseHolder (s : State) (o : Nat) : State :=
  let s1 := if s.holderCharged o && !s.pinned o (s.holder o) then s.unreserve (s.holder o) (s.upTier o) (s.swatches o) else s
  s1.setObj o Fl.TIER_OBJECT_STATUS_BORROW_CHARGED 0

/-- The object returns to HOME: EVICT_PENDING, the charge and the last reservation end, and RELEASE_KNOT counts (R225, R232). -/
def State.toHome (s : State) (o : Nat) : State :=
  let s1 := if s.holderCharged o then s.releaseHolder o else s.uncharge (s.ownerNum o) (s.upTier o) (s.swatches o)
  let s2 := ((s1.setResidency o 0).setObj o Fl.TIER_OBJECT_STATUS_EVICT_PENDING 0).setDiscard o false
  if s2.flag (Reg.TIER_OBJECT_SHARE o) Fl.TIER_OBJECT_SHARE_RELEASE_EN then
    s2.knotDo (s2.fld (Reg.TIER_OBJECT_SHARE o) Fl.TIER_OBJECT_SHARE_RELEASE_KNOT) (.add 1)
  else s2

/-- The owner carries the up copy again, beyond its quota if need be, and the eviction is no longer pending (R226). -/
def State.ownerCarries (s : State) (o : Nat) : State :=
  let s1 := if s.holderCharged o then (s.releaseHolder o).charge (s.ownerNum o) (s.upTier o) (s.swatches o) else s
  (s1.setObj o Fl.TIER_OBJECT_STATUS_EVICT_PENDING 0).setDiscard o false

/-- An update group takes its state from the object and is APPLYING or WAITING_STATE (R282). -/
def State.groupHolds (s : State) (o : Nat) : Bool :=
  s.validGroups.any (fun g =>
    s.flag (Reg.GROUP_CONTROL g) Fl.GROUP_CONTROL_STATE_IN_OBJECT
      && s.fld (Reg.GROUP_ELEMENTS g) Fl.GROUP_ELEMENTS_STATE_OBJECT == o
      && (s.fld (Reg.GROUP_STATUS g) Fl.GROUP_STATUS_PHASE == 1 || s.fld (Reg.GROUP_STATUS g) Fl.GROUP_STATUS_PHASE == 2))

/-- A group's wait for its object ends: it is APPLYING, and no longer late (R273, R283). -/
def State.endWait (s : State) (g : Nat) : State :=
  (s.setFld (Reg.GROUP_STATUS g) Fl.GROUP_STATUS_PHASE 1).setFld (Reg.GROUP_STATUS g) Fl.GROUP_STATUS_STATE_LATE 0

/-- Groups that wait for an object enter APPLYING (R273, R282). -/
def State.wakeGroups (s : State) (o : Nat) : List Nat → State
  | [] => s
  | g :: rest =>
    State.wakeGroups
      (if s.fld (Reg.GROUP_STATUS g) Fl.GROUP_STATUS_PHASE = 2 ∧ s.fld (Reg.GROUP_ELEMENTS g) Fl.GROUP_ELEMENTS_STATE_OBJECT = o
        then s.endWait g else s) o rest

/-- The eviction begins: a WRITABLE object that is not discarded is written back, any other copy is released (R225). -/
def State.startEvict (s : State) (o cls : Nat) (entry : Option (Nat × Nat)) (discard : Bool) : State :=
  let s1 := s.setResidency o 3
  if s.writable o && !discard then s1.startMoveFor o .writeBack cls entry else s1

/-- A pending eviction of a RESIDENT object without pins proceeds, unless a group holds the object (R225, R282). -/
def State.pendingEvict (s : State) (o : Nat) : State :=
  if s.evictPending o && s.pins o == 0 && s.residency o == 2 && !s.groupHolds o then
    let entry := (s.waitingRuns o .home).head?.map (fun p => (p.1, p.2.uid))
    s.startEvict o (s.evictClass o) entry (NatSet.has s.tier.discards o)
  else s

/-- The object becomes RESIDENT: what waited for it completes, groups wake, and a pending eviction without pins begins (R225,
R282). -/
def State.toResident (s : State) (o : Nat) : State :=
  let s1 := (s.setResidency o 2).wakeGroups o s.validGroups
  (s1.endRuns 0 (s1.waitingRuns o .resident)).pendingEvict o

/-- The entries of tenant u in flight for an object took no pin any more. -/
def State.forgetPin (s : State) (o u : Nat) : State :=
  let clear := fun (r : TierRun) => if r.entry.object = o then { r with tookPin := false } else r
  { s with tier := { s.tier with queues := s.tier.queues.map (fun p =>
      if s.tierQueueTenant p.1 = some u then (p.1, { p.2 with flight := p.2.flight.map clear }) else p) } }

/-- Tenant u's pin on an object ends (R224, R225). The reservation ends with it unless it carries the charge and no other pin
takes it over. -/
def State.unpin (s : State) (o u : Nat) : State :=
  let s1 := (s.setPin o u false).forgetPin o u
  let n := s.swatches o
  let r := s.upTier o
  if s.holderCharged o && s.holder o == u then
    if s1.pins o = 0 then s1
    else
      let after := (List.range 32).filter (fun v => s1.pinned o v && decide (u < v))
      let all := (List.range 32).filter (fun v => s1.pinned o v)
      (s1.unreserve u r n).setObj o Fl.TIER_OBJECT_STATUS_CHARGE_HOLDER ((after ++ all).head?.getD 0)
  else s1.unreserve u r n

end Sys2Proof.Machine
end

