-- ==== Sys2Proof/Machine/Tier.lean ====
section
/-! DEFINITION. The tier engine: its queues (R217, R219, R221), operations (R218, R225), swatch moves (R213, R220), aborts
(R226), and the objects' creation and deletion (R215). -/

namespace Sys2Proof.Machine

/-! ### Lists and doorbells (R217, R96) -/

/-- The ring size of a tier queue. -/
def State.ringSize (s : State) (q : Nat) : Nat := 2 ^ s.fld (Reg.TIER_QUEUE_LIST_SIZE q) Fl.TIER_QUEUE_LIST_SIZE_SIZE

/-- DOORBELL.WRITE_PTR of a tier queue. -/
def State.tierWp (s : State) (q : Nat) : Nat :=
  s.fld (Reg.TIER_QUEUE_DOORBELL q) Fl.TIER_QUEUE_DOORBELL_WRITE_PTR % s.ringSize q

/-- Fetches the entry at ring index `fetch` (R217): at once from T0 or T1, through the host links from a window; an entry
outside populated memory reads as one that is INVALID. -/
def State.fetchOne (s : State) (q : Nat) : State :=
  let x := s.tierQ q
  let i := x.fetch
  let a := s.fld (Reg.TIER_QUEUE_LIST_BASE q) Fl.TIER_QUEUE_LIST_BASE_ADDR + i * 32
  let t := s.tierQueueTenant q
  let put := fun (s : State) (bytes : List Byte) =>
    s.setTierQ q { s.tierQ q with staged := (s.tierQ q).staged ++ [{ index := i, bytes := bytes }],
                                  fetch := (i + 1) % s.ringSize q }
  if !s.tenantMay t a 32 false then put s (List.replicate 32 0)
  else if inHost a then
    if s.piecesOpen (s.readPieces a 32) then (put s []).startReads (.tierList q i) (t.getD 0) 32 (s.readPieces a 32)
    else put (s.dmaError (s.hostAddress a).1) (List.replicate 32 0)
  else
    let l := s.load t .stream a 32
    put l.s (if l.poison.isEmpty then l.bytes else List.replicate 32 0)

/-- Fetches entries up to WRITE_PTR; n bounds how many, as the staging area of 16,384 entries does (R230). -/
def State.fetchTier (s : State) (q : Nat) : (n : Nat) → State
  | 0 => s
  | n + 1 => if (s.tierQ q).fetch = s.tierWp q then s else (s.fetchOne q).fetchTier q n

/-- Room in the staging area. -/
def State.stagingRoom (s : State) (q : Nat) : Nat := 16384 - (s.tierQ q).staged.length

/-- The CANCELLED record of a tier queue (R221, R455). -/
def State.tierCancelled (s : State) (q count entry : Nat) : State :=
  if count = 0 then s
  else s.raise { cond := .cancelled, ribbon := .notice, source := source 3 q 0, tenant := s.tierQueueTenant q,
                 detail := count % 2 ^ 32 + entry % 2 ^ 64 * 2 ^ 32 }

/-- The ABORTED record of a tier queue: cause, address and how many (R455). -/
def State.tierAborted (s : State) (q cause address count : Nat) : State :=
  s.raise { cond := .aborted, ribbon := .fault, source := source 3 q 0, tenant := s.tierQueueTenant q,
            detail := address % 2 ^ 48 + cause % 256 * 2 ^ 56 + count % 65536 * 2 ^ 64 }

/-- Takes the front entry out of the staging area; READ_PTR moves past it. -/
def State.popTier (s : State) (q : Nat) (e : TierEntry) : State :=
  let x := s.tierQ q
  (s.setTierQ q { x with staged := x.staged.drop 1 }).setFld (Reg.TIER_QUEUE_STATUS q) Fl.TIER_QUEUE_STATUS_READ_PTR
    ((e.index + 1) % s.ringSize q)

/-- Cancels the entries at the front that have been fetched (R221); n bounds how many. The second part counts them. -/
def State.cancelStagedTier (s : State) (q : Nat) : (n : Nat) → State × Nat
  | 0 => (s, 0)
  | n + 1 =>
    match (s.tierQ q).staged with
    | [] => (s, 0)
    | e :: _ =>
      if e.here then
        let r := ((s.popTier q e).endEntry q e 1).cancelStagedTier q n
        (r.1, r.2 + 1)
      else (s, 0)

/-- Cancels every entry of a queue that has not started and has arrived; the rest follow as they arrive. -/
def State.cancelTier (s : State) (q : Nat) : State :=
  let s1 := s.fetchTier q 65536
  let r := s1.cancelStagedTier q (s1.tierQ q).staged.length
  r.1.tierCancelled q r.2 (r.1.entryStitch (.tierQueue q))

/-- A doorbell of a tier queue (R217, R96). -/
def State.ringTier (s : State) (q ptr : Nat) : State :=
  if s.tierQueueAbsent q then
    s.raise { cond := .absentUnit, ribbon := .fault, source := source 3 q 0, tenant := s.tierQueueTenant q,
              detail := source 3 q 0 }
  else
    let s1 := s.setFld (Reg.TIER_QUEUE_DOORBELL q) Fl.TIER_QUEUE_DOORBELL_WRITE_PTR (ptr % s.ringSize q)
    if s1.tierState q = 0 then s1.fetchTier q (s1.stagingRoom q) else s1.cancelTier q

/-- Who may ring a doorbell: the owner's function, Tambour, or the debug port with its scope (R416, R469). -/
def State.mayRing (s : State) (who : Requester) (owner : Option Nat) (off : Nat) : Bool :=
  s.mayDoorbell who owner || (who == .debugPort && s.mayWrite who off)

/-- TIER_DOORBELL (R217). -/
def execTierDoorbell (who : Requester) (q : Fin 32) (ptr : BitVec 16) (s : State) : Result :=
  let s := s.begin
  finish (if s.mayRing who (s.tierQueueTenant q) (Reg.TIER_QUEUE_DOORBELL q) then s.ringTier q ptr.toNat else s)

/-! ### Starting entries (R219, R225) -/

/-- A reserved value in any field of an entry (R218). -/
def TierEntry.reserved (x : TierEntry) : Bool :=
  x.op == 0 || decide (7 < x.op) || decide (2 < x.trigger) || x.field 2 1 % 4 == 3 || x.field 2 1 / 8 != 0
    || x.field 3 1 != 0 || x.field 4 2 / 2 ^ 14 != 0 || x.field 6 2 != 0 || bitsOf (x.field 16 4) 17 14 != 0
    || x.field 20 12 != 0 || (x.trigger == 2 && bitsOf (x.field 8 8) 17 15 != 0)

/-- The entry's queue belongs to the object's owner. -/
def State.byOwner (s : State) (q : Nat) (e : TierEntry) : Bool :=
  (s.tierQueueTenant q).isSome && s.objectTenant e.object == s.tierQueueTenant q

/-- The object part of order 1 of R219. -/
def State.objectInvalid (s : State) (q : Nat) (e : TierEntry) : Bool :=
  let o := e.object
  let share := match s.tierQueueTenant q with
    | some t => bitsOf (s.fld (Reg.TIER_OBJECT_SHARE o) Fl.TIER_OBJECT_SHARE_MASK) t 1 == 1
    | none => false
  !s.objectValid o || !(s.byOwner q e || share)
    || ((e.op == 3 || e.op == 4 || e.op == 5) && !s.byOwner q e)
    || ((e.op == 2 || e.op == 4 || e.op == 6) && decide (2 ≤ s.upTier o))
    || (e.op == 4 && s.residency o != 0)

/-- Order 1 of R219. -/
def State.entryInvalid (s : State) (q : Nat) (e : TierEntry) : Bool :=
  e.reserved || s.badTrigger (s.tierQueueTenant q) e
    || (match e.done with | some k => !s.knotOwned k (s.tierQueueTenant q) | none => false)
    || (e.op != 1 && s.objectInvalid q e)

/-- Marks that a PROMOTE took its tenant's pin. -/
def State.tookPin (s : State) (q uid : Nat) : State :=
  let x := s.tierQ q
  s.setTierQ q { x with flight := x.flight.map (fun r => if r.uid = uid then { r with tookPin := true } else r) }

/-- Tenant u has a reservation for the object: its pin's, or that of a charge it carries on after its pin has gone (R223). -/
def State.reserved (s : State) (o u : Nat) : Bool := s.pinned o u || (s.holderCharged o && s.holder o == u)

/-- Takes tenant u's pin, with its reservation unless it has one. -/
def State.takePin (s : State) (o u : Nat) : State :=
  if s.pinned o u then s
  else (if s.reserved o u then s else s.reserve u (s.upTier o) (s.swatches o)).setPin o u true

/-- Tenant u has a reservation or room for one. -/
def State.pinFits (s : State) (o u : Nat) : Bool := s.reserved o u || s.borrowFits u (s.upTier o) (s.swatches o)

/-- An entry fails its quota or borrow check. -/
def State.failQuota (s : State) (q : Nat) (r : TierRun) (t : Nat) (borrow : Bool) : State :=
  (s.quotaExceeded (source 3 q 0) t r.entry.object (s.upTier r.entry.object) borrow).endRun q r 4

/-- The read class of an entry's PRIORITY, as a number of `readClassOf`. -/
def TierEntry.cls (x : TierEntry) : Nat := x.field 2 1 % 4

/-- PROMOTE by the owner (R225). -/
def State.promoteOwner (s : State) (q : Nat) (r : TierRun) (t : Nat) : State :=
  let o := r.entry.object
  let n := s.swatches o
  let fits := s.quotaFits t (s.upTier o) n
  if s.residency o = 3 then s.setWait q r.uid .again
  else if s.residency o = 0 then
    if fits then
      (((s.charge t (s.upTier o) n).setResidency o 1).startMoveFor o .promote r.entry.cls (some (q, r.uid))).setWait q r.uid
        .resident
    else s.failQuota q r t false
  else if s.holderCharged o && !fits then s.failQuota q r t false
  else
    let s1 := s.ownerCarries o
    if s1.residency o = 1 then s1.setWait q r.uid .resident else s1.endRun q r 0

/-- PROMOTE by another tenant u (R225). -/
def State.promoteOther (s : State) (q : Nat) (r : TierRun) (u : Nat) : State :=
  let o := r.entry.object
  let n := s.swatches o
  let mine := !s.pinned o u
  let pin := fun (s : State) => if mine then (s.takePin o u).tookPin q r.uid else s
  if s.residency o = 3 then s.setWait q r.uid .again
  else if s.residency o = 0 ∧ s.quotaFits (s.ownerNum o) (s.upTier o) n = false then s.failQuota q r u false
  else if s.pinFits o u = false then s.failQuota q r u true
  else if s.residency o = 0 then
    (((pin (s.charge (s.ownerNum o) (s.upTier o) n)).setResidency o 1).startMoveFor o .promote r.entry.cls
      (some (q, r.uid))).setWait q r.uid .resident
  else if s.residency o = 1 then (pin s).setWait q r.uid .resident
  else (s.takePin o u).endRun q r 0

/-- PLACE (R218, R225). -/
def State.placeEntry (s : State) (q : Nat) (r : TierRun) (t : Nat) : State :=
  let o := r.entry.object
  if s.quotaFits t (s.upTier o) (s.swatches o) then
    (((s.charge t (s.upTier o) (s.swatches o)).setResidency o 2).startMoveFor o .place r.entry.cls
      (some (q, r.uid))).setWait q r.uid .headers
  else s.failQuota q r t false

/-- EVICT or DISCARD (R224, R225, R282). -/
def State.evictEntry (s : State) (q : Nat) (r : TierRun) (t : Nat) (discard : Bool) : State :=
  let o := r.entry.object
  let st := s.residency o
  if st = 0 ∨ st = 3 then s.endRun q r 0
  else if s.groupHolds o then s.setWait q r.uid .held
  else if s.pins o ≠ 0 then
    if s.holderCharged o then s.endRun q r 0
    else
      let h := ((List.range 32).find? (fun u => s.pinned o u)).getD 0
      let s1 := (s.uncharge t (s.upTier o) (s.swatches o)).setObj o Fl.TIER_OBJECT_STATUS_EVICT_PENDING 1
      let s2 := (s1.setObj o Fl.TIER_OBJECT_STATUS_CHARGE_HOLDER h).setObj o Fl.TIER_OBJECT_STATUS_BORROW_CHARGED 1
      (((s2.setDiscard o discard).setEvictClass o r.entry.cls).evictionDeferred (source 3 q 0) t o h).endRun q r 0
  else if st = 1 then
    let s1 := if s.evictPending o then s
      else
        (((s.setObj o Fl.TIER_OBJECT_STATUS_EVICT_PENDING 1).setDiscard o discard).setEvictClass o r.entry.cls).evictionDeferred
          (source 3 q 0) t o t
    s1.setWait q r.uid .home
  else (s.startEvict o r.entry.cls (some (q, r.uid)) discard).setWait q r.uid .home

/-- PIN by another tenant (R225). -/
def State.pinEntry (s : State) (q : Nat) (r : TierRun) (u : Nat) : State :=
  let o := r.entry.object
  if s.residency o = 3 then s.setWait q r.uid .again
  else if s.pinFits o u = false then s.failQuota q r u true
  else if s.residency o = 1 then (s.takePin o u).setWait q r.uid .resident
  else (s.takePin o u).endRun q r 0

/-- What an entry in flight does (R219, R225); `again` says that it proceeds after a wait. -/
def State.applyRun (s : State) (q : Nat) (r : TierRun) (again : Bool) : State :=
  let e := r.entry
  let t := (s.tierQueueTenant q).getD 0
  let own := s.byOwner q e
  if s.entryInvalid q e then s.endRun q r 6
  else if !again && e.trigger == 2 && s.knotError e.knot then (s.takeKnotError e.knot).endRun q r 3
  else
    match e.op with
    | 2 => if own then s.promoteOwner q r t else s.promoteOther q r t
    | 3 => s.evictEntry q r t false
    | 4 => s.placeEntry q r t
    | 5 => s.evictEntry q r t true
    | 6 => if own then s.endRun q r 0 else s.pinEntry q r t
    | 7 =>
      if own || !s.pinned e.object t then s.endRun q r 0
      else ((s.unpin e.object t).pendingEvict e.object).endRun q r 0
    | _ => s.endRun q r 0

/-- The oldest of a list of entries in flight. -/
def oldestRun : List (Nat × TierRun) → Option (Nat × TierRun)
  | [] => none
  | p :: rest =>
    match oldestRun rest with
    | some p2 => if p2.2.uid < p.2.uid then some p2 else some p
    | none => some p

/-- An entry in flight for an object that may proceed now (R225, R282). -/
def State.nextRun (s : State) (o : Nat) : Option (Nat × TierRun) :=
  let a := if s.residency o = 3 then [] else s.waitingRuns o .again
  let h := if s.groupHolds o then [] else s.waitingRuns o .held
  oldestRun (a ++ h)

/-- An update unit asks for a promotion on behalf of the owner (R282): from HOME it starts at once, while the object is
EVICTING it waits for HOME; a refusal for quota is not retried. -/
def State.unitPromote (s : State) (u o : Nat) : State :=
  let t := s.ownerNum o
  let n := s.swatches o
  match s.residency o with
  | 0 =>
    if s.quotaFits t (s.upTier o) n then
      ((s.charge t (s.upTier o) n).setResidency o 1).startMoveFor o .promote 0 none
    else s.quotaExceeded (source 4 u 0) t o (s.upTier o) false
  | 3 => { s with tier := { s.tier with wants := NatSet.add s.tier.wants o } }
  | _ => s

/-- The unit of a group that waits for an object. -/
def State.waitingUnit (s : State) (o : Nat) : Nat :=
  match s.validGroups.find? (fun g => s.fld (Reg.GROUP_STATUS g) Fl.GROUP_STATUS_PHASE == 2
      && s.fld (Reg.GROUP_ELEMENTS g) Fl.GROUP_ELEMENTS_STATE_OBJECT == o) with
  | some g => s.groupUnit g
  | none => 0

/-- A unit's request that waited for HOME is made. -/
def State.takeWant (s : State) (o : Nat) : State :=
  if NatSet.has s.tier.wants o then
    ({ s with tier := { s.tier with wants := NatSet.del s.tier.wants o } }).unitPromote (s.waitingUnit o) o
  else s

/-- Takes an object to where its state lets it go: an EVICTING object without a write-back is HOME, entries that waited proceed,
and a pending eviction that nothing holds begins (R225, R282). n bounds the steps. -/
def State.settleObject (s : State) (o : Nat) : (n : Nat) → State
  | 0 => s
  | n + 1 =>
    if s.residency o = 3 ∧ s.writesBack o = false then
      let s1 := s.toHome o
      ((s1.endRuns 0 (s1.waitingRuns o .home)).takeWant o).settleObject o n
    else
      match s.nextRun o with
      | some (q, r) => ((s.setWait q r.uid .resident).applyRun q r true).settleObject o n
      | none =>
        let s1 := s.pendingEvict o
        if s1.residency o = s.residency o then s1 else s1.settleObject o n

/-- A bound on the steps of one object: at most 512 entries are in flight, and each proceeds at most twice. -/
def settleBound : Nat := 1030

/-- Starts the front entry of tier queue q (R219). -/
def State.startEntry (s : State) (q : Nat) (e : TierEntry) : State :=
  let uid := s.tier.nextUid
  let s1 := s.popTier q e
  let s2 := { s1 with tier := { s1.tier with nextUid := uid + 1 } }
  let r : TierRun := { entry := e, uid := uid, wait := .resident }
  let x := s2.tierQ q
  let s3 := (s2.setTierQ q { x with flight := x.flight ++ [r] }).applyRun q r false
  (s3.settleObject e.object settleBound).fetchTier q (s3.stagingRoom q)

/-- A row of R218: the front entry of queue q starts when it has the row's OP and its trigger holds. -/
def State.tierRow (s : State) (q : Nat) (p : Nat → Bool) : State :=
  match s.tierFront q with
  | some e => if p e.op && s.triggerHolds (s.tierQueueTenant q) e then s.startEntry q e else s
  | none => s

/-- TIER_NOP (R218); the reserved operations are entries that complete INVALID (R219; notes/assumptions/23). -/
def execTierNop (q : Fin 32) (s : State) : Result :=
  finish (s.begin.tierRow q fun op => op == 1 || op == 0 || decide (7 < op))

/-- PROMOTE (R225). -/
def execPromote (q : Fin 32) (s : State) : Result := finish (s.begin.tierRow q (· == 2))

/-- EVICT (R224, R225). -/
def execEvict (q : Fin 32) (s : State) : Result := finish (s.begin.tierRow q (· == 3))

/-- PLACE (R218, R225). -/
def execPlace (q : Fin 32) (s : State) : Result := finish (s.begin.tierRow q (· == 4))

/-- DISCARD (R225). -/
def execDiscard (q : Fin 32) (s : State) : Result := finish (s.begin.tierRow q (· == 5))

/-- PIN (R225). -/
def execPin (q : Fin 32) (s : State) : Result := finish (s.begin.tierRow q (· == 6))

/-- UNPIN (R225). -/
def execUnpin (q : Fin 32) (s : State) : Result := finish (s.begin.tierRow q (· == 7))

/-! ### Swatch moves (R213, R220) -/

/-- A swatch header built from an object, with CHECK still zero (R211, R213). -/
def State.headerOf (s : State) (o i seq : Nat) : List Byte :=
  let t := s.shape o
  bytesLE 1 t.format ++ bytesLE 1 1 ++ bytesLE 1 (t.rows - 1) ++ bytesLE 1 0 ++ bytesLE 2 (t.cols - 1) ++ bytesLE 2 0
    ++ bytesLE 4 o ++ bytesLE 4 i ++ bytesLE 8 seq ++ List.replicate 40 0

/-- A swatch with CHECK computed for an address (R212). -/
def withCheck (a : Nat) (image : List Byte) : List Byte :=
  image.take 60 ++ bytesLE 4 (swatchCheck a image) ++ image.drop 64

/-- SEQUENCE of a swatch (R211). -/
def sequenceOf (image : List Byte) : Nat := natLE ((image.drop 16).take 8)

/-- The SOURCE of what a move reports: its entry's queue, or the device. -/
def moveSource (m : TierMove) : Nat := match m.entry with | some (q, _) => source 3 q 0 | none => source 0 0 0

/-- Ends entries of an aborted move, each losing the pin its PROMOTE took (R226). -/
def State.abortRuns (s : State) (o st : Nat) : List (Nat × TierRun) → State
  | [] => s
  | (q, r) :: rest =>
    let s1 := if r.tookPin then s.unpin o ((s.tierQueueTenant q).getD 0) else s
    State.abortRuns (s1.endRun q r st) o st rest

/-- The entry whose headers a PLACE writes. -/
def State.placeRuns (s : State) (m : TierMove) : List (Nat × TierRun) :=
  (s.waitingRuns m.object .headers).filter (fun p => some (p.1, p.2.uid) == m.entry)

/-- A move ends before its last swatch, with the status of its entries (R226). -/
def State.abortMove (s : State) (m : TierMove) (st : Nat) : State :=
  let o := m.object
  let s0 := s.dropMove m
  (match m.kind with
    | .promote =>
      let s1 := (s0.freeSpans [(s0.upBase o, 4096 * s0.swatches o)]).abortRuns o st (s0.waitingRuns o .resident)
      let s2 := s1.toHome o
      s2.endRuns 0 (s2.waitingRuns o .home)
    | .writeBack =>
      let s1 := (s0.setResidency o 2).ownerCarries o
      s1.endRuns st (s1.waitingRuns o .home)
    | .place => s0.endRuns st (s0.placeRuns m)).settleObject o settleBound

/-- A swatch failed its check (R213, R219). -/
def State.failSwatch (s : State) (m : TierMove) (a computed : Nat) : State :=
  (s.raise { cond := .checkMismatch, ribbon := .fault, source := moveSource m, tenant := s.objectTenant m.object,
             detail := a % 2 ^ 48 + computed % 2 ^ 32 * 2 ^ 64, counters := [Reg.INTEGRITY_CHECK_MISMATCH] }).abortMove m 5

/-- A move could not reach memory or the host: cause 2 MEMORY_RANGE or 6 HOST (R208, R420, R455). -/
def State.failMove (s : State) (m : TierMove) (cause a : Nat) : State :=
  (match m.entry with | some (q, _) => s.tierAborted q cause a 1 | none => s).abortMove m 2

/-- The last swatch of a move is readable. -/
def State.finishMove (s : State) (m : TierMove) : State :=
  let o := m.object
  let s0 := s.dropMove m
  (match m.kind with
    | .promote => s0.toResident o
    | .writeBack => s0
    | .place => s0.endRuns 0 (s0.placeRuns m)).settleObject o settleBound

/-- Ends a move whose last swatch has gone: writes to a host window are made visible first, where the function may issue the read
(R419, R420). -/
def State.checkMove (s : State) (order : Nat) : State :=
  match s.moveAt order with
  | none => s
  | some m =>
    let n := s.swatches m.object
    if m.next < n ∨ m.outside ≠ [] then s
    else
      match m.hostTail with
      | some (f, w, h) =>
        if s.canDma f then
          (s.setMove { m with outside := [(n, [])], hostTail := none }).flushHost (.tierFlush order) (s.ownerNum m.object) f w h
        else (s.dmaError f).failMove m 6 h
      | none => s.finishMove m

/-- Whether a swatch that a promotion read fails: header, CHECK, or poison (R213, R380). -/
def State.promoteFails (s : State) (o a : Nat) (image : List Byte) (bad : Bool) : Bool :=
  bad || !headerOk (s.shape o) image || headerCheck image != swatchCheck a image

/-- A swatch of a promotion has been read (R213). -/
def State.promoteSwatch (s : State) (m : TierMove) (i : Nat) (image : List Byte) (bad unwritten : Bool) : State :=
  let o := m.object
  let src := s.homeBase o + 4096 * i
  let dst := s.upBase o + 4096 * i
  if unwritten then s.store dst (withCheck dst (s.headerOf o i 0 ++ List.replicate 4032 0)) []
  else if s.promoteFails o src image bad then s.failSwatch m src (swatchCheck src image)
  else s.store dst (withCheck dst image) []

/-- A swatch of a write-back is written home with a rebuilt header; `seq` is the home copy's SEQUENCE (R213). The header of
the up copy is compared; its CHECK is not, as engines write payloads without it (notes/assumptions/24). An unwritten up copy takes the home copy's SEQUENCE + 1 too
(notes/assumptions/103). -/
def State.writeBackSwatch (s : State) (m : TierMove) (map : HostMap) (i seq : Nat) : State :=
  let o := m.object
  let src := s.upBase o + 4096 * i
  let dst := s.homeBase o + 4096 * i
  let l := s.load (s.objectTenant o) (readClassOf m.cls) src 4096
  if !l.unwritten && (!l.poison.isEmpty || !headerOk (s.shape o) l.bytes) then
    l.s.failSwatch m src (swatchCheck src l.bytes)
  else
    let image := withCheck dst (s.headerOf o i ((seq + 1) % 2 ^ 64) ++ l.bytes.drop 64)
    if inHost dst then
      if l.s.piecesOpen (l.s.writePieces map dst 4096) then
        (l.s.setMove { m with hostTail := some (map.last dst 4096) }).hostStore map dst image []
      else (l.s.dmaError (map.find dst).1).failMove m 6 (map.find dst).2.2
    else l.s.store dst image []

/-- A header of a PLACE is written over the payload that lies there, which is read for CHECK; over a lost payload CHECK is a free
value (R218; notes/assumptions/112). -/
def State.placeSwatch (s : State) (m : TierMove) (i : Nat) : State :=
  let o := m.object
  let dst := s.upBase o + 4096 * i
  let l := s.load (s.objectTenant o) (readClassOf m.cls) (dst + 64) 4032
  let image := s.headerOf o i 0 ++ l.bytes
  let c := if l.poison.isEmpty then (swatchCheck dst image, l.s) else l.s.freshNat 32
  c.2.store dst ((image.take 60) ++ bytesLE 4 c.1) []

/-- Reads of the host for a swatch: the whole swatch of a promotion, the header of a write-back's home copy. -/
def State.readOutside (s : State) (m : TierMove) (a len i : Nat) : State :=
  let ps := s.readPieces a len
  if s.piecesOpen ps then
    (s.setMove { m with outside := m.outside ++ [(i, s.hostMap a 4096)] }).startReads (.tierRead m.order i)
      (s.ownerNum m.object) len ps
  else (s.dmaError (s.hostAddress a).1).failMove m 6 (s.hostAddress a).2.2

/-- Begins swatch i of a move, which has been advanced past it. -/
def State.beginSwatch (s : State) (m : TierMove) (i : Nat) : State :=
  let o := m.object
  let home := s.homeBase o + 4096 * i
  let up := s.upBase o + 4096 * i
  let t := s.objectTenant o
  match m.kind with
  | .promote =>
    if !s.tenantMay t home 4096 false then s.failMove m 2 home
    else if !s.tenantMay t up 4096 true then s.failMove m 2 up
    else if inHost home then s.readOutside m home 4096 i
    else
      let l := s.load t (readClassOf m.cls) home 4096
      l.s.promoteSwatch m i l.bytes (!l.poison.isEmpty) l.unwritten
  | .writeBack =>
    if !s.tenantMay t up 4096 false then s.failMove m 2 up
    else if !s.tenantMay t home 4096 true then s.failMove m 2 home
    else if inHost home then s.readOutside m home 64 i
    else
      let l := s.load t (readClassOf m.cls) home 64
      if l.poison.isEmpty then l.s.writeBackSwatch m [] i (sequenceOf l.bytes)
      else l.s.failSwatch m home (swatchCheck home (l.s.bytesAt home 4096))
  | .place => if !s.tenantMay t up 4096 true then s.failMove m 2 up else s.placeSwatch m i

/-- The half that carries an object's moves: 0 West, 1 East (R220). -/
def State.halfOf (s : State) (o : Nat) : Nat :=
  match placeOf (s.homeBase o) with
  | .far k => k / 4
  | .host f _ _ => f / 16
  | _ => 0

/-- SWATCH_MOVE (R220): the half's oldest move that has swatches to start makes its next one. -/
def execSwatchMove (half : Fin 2) (s : State) : Result :=
  let s := s.begin
  finish (if !s.clocked then s
    else
      match s.tier.moves.find? (fun m => s.halfOf m.object == half.val && decide (m.next < s.swatches m.object)) with
      | none => s
      | some m =>
        let m1 := { m with next := m.next + 1 }
        ((s.setMove m1).beginSwatch m1 m.next).checkMove m.order)

/-- A host read of a move has returned: bytes and whether any of them is poisoned (R420). -/
def State.tierReadDone (s : State) (order i : Nat) (bytes : List Byte) (bad : Bool) : State :=
  match s.moveAt order with
  | none => s
  | some m =>
    let map := ((m.outside.find? (fun x => x.1 == i)).map (·.2)).getD []
    let m1 := { m with outside := m.outside.filter (fun x => x.1 != i) }
    let s1 := s.setMove m1
    let home := s.homeBase m.object + 4096 * i
    (match m.kind with
      | .promote => s1.promoteSwatch m1 i bytes bad false
      | _ => if bad then s1.failSwatch m1 home 0 else s1.writeBackSwatch m1 map i (sequenceOf bytes)).checkMove order

/-- The zero-length read that ends a write-back to the host has returned. -/
def State.tierFlushDone (s : State) (order : Nat) : State :=
  match s.moveAt order with
  | some m => s.finishMove m
  | none => s

/-- The read of a list entry has returned; the second argument is empty where the read failed or brought poison. -/
def State.tierListDone (s : State) (q i : Nat) (bytes : List Byte) : State :=
  let b := if bytes.length = 32 then bytes else List.replicate 32 0
  let x := s.tierQ q
  let s1 := s.setTierQ q { x with staged := x.staged.map (fun e => if e.index = i ∧ e.here = false then { e with bytes := b } else e) }
  if s1.tierState q = 0 then s1 else s1.cancelTier q

/-! ### Limits and drains (R219, R221) -/

/-- TIER_TRIGGER_WAIT_LIMIT (R219): the front entry's KNOT trigger has not held for WAIT_LIMIT stitches. -/
def execTierTriggerWaitLimit (q : Fin 32) (s : State) : Result :=
  let s := s.begin
  let limit := max 1 (s.fld Reg.TIER_WAIT_LIMIT_STITCHES Fl.TIER_WAIT_LIMIT_STITCHES_STITCHES)
  finish (match s.tierWaiting q with
    | none => s
    | some e =>
      match e.since with
      | none => s
      | some since =>
        if since + limit ≤ s.stitchClock then
          let s1 := s.raise { cond := .waitLimit, ribbon := .fault, source := source 3 q 0, tenant := s.tierQueueTenant q,
                              detail := e.knot + s.knotCount e.knot * 2 ^ 32 + e.value * 2 ^ 64,
                              counters := [Reg.KNOT_WAIT_LIMIT (bankOf e.knot)] }
          let s2 := ((s1.popTier q e).tierAborted q 8 0 1).endEntry q e 2
          s2.fetchTier q (s2.stagingRoom q)
        else s)

/-- Moves tier queue q into DRAINING (R221). -/
def State.drainTier (s : State) (q : Nat) : State :=
  if s.tierState q = 0 then
    ((s.setFld (Reg.TIER_QUEUE_STATUS q) Fl.TIER_QUEUE_STATUS_STATE 1).beginDrain (.tierQueue q)).cancelTier q |>.checkTierQ q
  else s

/-- A tier queue takes REQ = ENABLE: it is DISABLED with nothing in it, and not retired (R98). -/
def State.tierEnables (s : State) (q : Nat) : Bool :=
  s.tierState q == 2 && (s.tierQ q).staged.isEmpty && (s.tierQ q).flight.isEmpty && !s.tierQueueAbsent q

/-- A write of CONTROL.REQ = ENABLE (R98). -/
def State.enableTier (s : State) (q : Nat) : State :=
  if s.tierEnables q then
    s.setFld (Reg.TIER_QUEUE_STATUS q) Fl.TIER_QUEUE_STATUS_STATE 0
  else s

/-- TIER_QUEUE_DRAIN_REQ (R221). -/
def execTierQueueDrainReq (who : Requester) (q : Fin 32) (s : State) : Result :=
  finish (s.begin.guarded who (Reg.TIER_QUEUE_CONTROL q) fun s => s.drainTier q)

/-- TIER_QUEUE_ENABLE_REQ (R221). -/
def execTierQueueEnableReq (who : Requester) (q : Fin 32) (s : State) : Result :=
  finish (s.begin.guarded who (Reg.TIER_QUEUE_CONTROL q) fun s => s.enableTier q)

/-- Aborts one entry in flight at DRAIN_LIMIT: its move ends as R226 states; an entry that only waits leaves. -/
def State.abortRun (s : State) (q : Nat) (r : TierRun) : State :=
  let o := r.entry.object
  match (s.movesOf o).find? (fun m => m.entry == some (q, r.uid)) with
  | some m => s.abortMove m 2
  | none => s.abortRuns o 2 [(q, r)]

/-- Aborts every entry in flight of a queue; n bounds how many. -/
def State.abortTier (s : State) (q : Nat) : (n : Nat) → State
  | 0 => s
  | n + 1 =>
    match (s.tierQ q).flight with
    | [] => s
    | r :: _ => (s.abortRun q r).abortTier q n

/-- The DRAIN_LIMIT of tier queues; 0 acts as 1 (R232). -/
def State.tierLimit (s : State) : Nat := max 1 (s.fld Reg.TIER_DRAIN_LIMIT Fl.TIER_DRAIN_LIMIT_STITCHES)

/-- The DRAIN_TIMEOUT record of a unit (R98, R455). -/
def State.unitTimeout (s : State) (src entry : Nat) (t : Option Nat) (counters : List Nat) : State :=
  s.raise { cond := .drainTimeout, ribbon := .fault, source := src, tenant := t, detail := entry % 2 ^ 64,
            counters := counters }

/-- TIER_DRAIN_LIMIT (R221). -/
def execTierDrainLimit (q : Fin 32) (s : State) : Result :=
  let s := s.begin
  finish (match s.limitDue (.tierQueue q) s.tierLimit with
    | none => s
    | some d =>
      let count := (s.tierQ q).flight.length
      let s1 := (s.markTimedOut (.tierQueue q)).abortTier q (count + 1)
      let s2 := if count = 0 then s1 else s1.tierAborted q 0 0 count
      (s2.unitTimeout (source 3 q 0) d.entry (s2.tierQueueTenant q) []).checkTierQ q)

/-! ### Creation and deletion (R215) -/

/-- The tier of a device address: 0 T0, 1 T1, 2 T2. -/
def tierAt (a : Nat) : Option Nat :=
  match placeOf a with | .near => some 0 | .far _ => some 1 | .host .. => some 2 | _ => none

/-- A copy of n swatches at a base lies in populated memory of a tier that tenant t may write. -/
def State.copyOk (s : State) (t base tier n : Nat) : Bool :=
  tierAt base == some tier && tierAt (base + 4096 * n - 1) == some tier && s.extentOk t base (4096 * n) true

/-- The first refusal of a creation by tenant `t` of object o as its registers hold it: 1 SEGMENT, 2 FIELD, 3 RANGE, 4 QUOTA;
0 for none (R215). -/
def State.createError (s : State) (t : Option Nat) (o : Nat) : Nat :=
  let home := s.homeTier o
  let up := s.upTier o
  let sh := s.shape o
  if t.isNone || s.objectTenant o != t then 1
  else if home = 3 ∨ up = 3 ∨ (home = 0 ∧ up ≠ 2) ∨ (home = 1 ∧ up = 1) ∨ s.homeBase o % 4096 ≠ 0 ∨ s.upBase o % 4096 ≠ 0
      ∨ sh.format = 15 ∨ 4032 < sh.dense then 2
  else if !s.copyOk (t.getD 0) (s.homeBase o) home (s.swatches o)
      || (up != 2 && !s.copyOk (t.getD 0) (s.upBase o) up (s.swatches o)) then 3
  else if !s.quotaFits (t.getD 0) home (s.swatches o) then 4
  else 0

/-- The tenant a requester's function acts for. -/
def State.actsFor (s : State) (who : Requester) : Option Nat :=
  match who with | .function f => s.fnTenant f.val | _ => none

/-- Writes CREATE_ERR of an object. -/
def State.objectError (s : State) (o code : Nat) : State := s.setObj o Fl.TIER_OBJECT_STATUS_CREATE_ERR code

/-- The fields of CONTROL (R232). -/
def objectControlMask : Word := 0x003FFFFF0FFFFF3F

/-- A write of OBJECT.CONTROL with VALID = 1 (R215). -/
def State.createObject (s : State) (who : Requester) (o : Nat) (v : Word) : State :=
  if s.objFld o Fl.TIER_OBJECT_CONTROL_VALID = 1 then s.objectError o 6
  else
    let s1 := (s.wrArray (Reg.TIER_OBJECT_CONTROL o) (v &&& objectControlMask)).setFld (Reg.TIER_OBJECT_CONTROL o)
      Fl.TIER_OBJECT_CONTROL_VALID 0
    let t := s.actsFor who
    match s1.createError t o with
    | 0 => (s1.setFld (Reg.TIER_OBJECT_CONTROL o) Fl.TIER_OBJECT_CONTROL_VALID 1).charge (t.getD 0) (s1.homeTier o) (s1.swatches o)
    | 4 => (s1.objectError o 4).quotaExceeded (source 0 0 0) (t.getD 0) o (s1.homeTier o) false
    | c => s1.objectError o c

/-- Ends an object: its home charge is released (R223). -/
def State.removeObject (s : State) (o : Nat) : State :=
  (s.uncharge (s.ownerNum o) (s.homeTier o) (s.swatches o)).setFld (Reg.TIER_OBJECT_CONTROL o) Fl.TIER_OBJECT_CONTROL_VALID 0

/-- An entry in flight names the object. -/
def State.objectInFlight (s : State) (o : Nat) : Bool :=
  s.tierRuns.any (fun p => p.2.entry.op != 1 && p.2.entry.object == o)

/-- A write of OBJECT.CONTROL with VALID = 0 (R215); on an entry that is not VALID it writes the fields. -/
def State.deleteObject (s : State) (o : Nat) (v : Word) : State :=
  if s.objFld o Fl.TIER_OBJECT_CONTROL_VALID = 0 then s.wrArray (Reg.TIER_OBJECT_CONTROL o) (v &&& objectControlMask)
  else if s.residency o = 0 ∧ s.pins o = 0 ∧ s.objectInFlight o = false then s.removeObject o
  else s.objectError o 5

/-- A write of OBJECT.CONTROL. -/
def State.writeObjectControl (s : State) (who : Requester) (o : Nat) (v : Word) : State :=
  if Fl.TIER_OBJECT_CONTROL_VALID.read v = 1 then s.createObject who o v else s.deleteObject o v

/-- The requester is a bound function, and the entry's segment belongs to no tenant: its creation is refused with SEGMENT (R215,
R266; notes/assumptions/25), while every other access of it has no effect (R232, R264). -/
def State.stranger (s : State) (who : Requester) (owner : Option Nat) : Bool :=
  match who with
  | .function f =>
    match s.fnTenant f.val with
    | some t => owner.isNone && s.barOpen f.val t && s.ready
    | none => false
  | _ => false

/-- A write of CONTROL of object o by a requester (R215, R232). -/
def State.accessObject (s : State) (who : Requester) (o : Nat) (v : Word) : State :=
  if s.mayWrite who (Reg.TIER_OBJECT_CONTROL o) then s.writeObjectControl who o v
  else if Fl.TIER_OBJECT_CONTROL_VALID.read v = 1 ∧ s.stranger who (s.objectTenant o) = true then s.objectError o 1
  else s

/-- OBJECT_CREATE (R215). -/
def execObjectCreate (who : Requester) (o : Fin 16384) (v : Word) (s : State) : Result :=
  finish (s.begin.accessObject who o (Fl.TIER_OBJECT_CONTROL_VALID.write v 1))

/-- OBJECT_DELETE (R215). -/
def execObjectDelete (who : Requester) (o : Fin 16384) (v : Word) (s : State) : Result :=
  finish (s.begin.accessObject who o (Fl.TIER_OBJECT_CONTROL_VALID.write v 0))

end Sys2Proof.Machine
end

