-- ==== Sys2Proof/Machine/UpdateOps.lean ====
section
/-! DEFINITION. What an update unit does: the schedule engine (R271, R272), the scalars and the update of a parameter (R274 to
R276), the ledger and its tiles (R277 to R281), and the phases of a group (R273, R281, R282). -/

namespace Sys2Proof.Machine

/-! ### Division and square root (R161, R274, R275) -/

/-- a / b in FP32, rounded once. -/
def div32 (a b : W32) : W32 :=
  match ofF32 a, ofF32 b with
  | .nan, _ => nan32
  | _, .nan => nan32
  | .inf _, .inf _ => nan32
  | .inf x, .num y _ _ => BitVec.ofNat 32 (fmt32.infBits (x != y))
  | .num x _ _, .inf y => BitVec.ofNat 32 (fmt32.pack (x != y) 0 0)
  | .num x ma ea, .num y mb eb =>
    if mb = 0 then (if ma = 0 then nan32 else BitVec.ofNat 32 (fmt32.infBits (x != y)))
    else
      let q := ma * 2 ^ 100 / mb
      (toF32 (.num (x != y) (2 * q + (if q * mb = ma * 2 ^ 100 then 0 else 1)) (ea - eb - 101))).val

/-- The square root of x in FP32, rounded once. -/
def sqrt32 (x : W32) : W32 :=
  match ofF32 x with
  | .nan => nan32
  | .inf neg => if neg then nan32 else x
  | .num neg m e =>
    if m = 0 then x
    else if neg then nan32
    else
      let m2 := if e % 2 = 0 then m else 2 * m
      let e2 := if e % 2 = 0 then e else e - 1
      let r := isqrt (m2 * 2 ^ 200)
      (toF32 (.num false (2 * r + (if r * r = m2 * 2 ^ 200 then 0 else 1)) (e2 / 2 - 101))).val

/-- 2^k as FP32. -/
def pow2F (k : Int) : W32 := (toF32 (.num false 1 k)).val

/-- a − b in FP32. -/
def sub32 (a b : W32) : W32 := (add32 a (neg32 b)).val

/-! ### The schedule engine (R271) -/

/-- arctan(1/x) over n terms in fixed point. -/
def atanInv (x : Nat) : (n k pow : Nat) → Int
  | 0, _, _ => 0
  | n + 1, k, pow => (pow / (2 * k + 1) : Nat) - atanInv x n (k + 1) (pow / (x * x))

/-- π in fixed point, by Machin's formula. -/
def piFixed : Nat := (16 * atanInv 5 100 0 (2 ^ wp / 5) - 4 * atanInv 239 40 0 (2 ^ wp / 239)).toNat

/-- Σ (−1)^k y^(2k) / (2k)! over n terms in fixed point; `term` is y^(2k) / (2k)!. -/
def cosSum (y2 : Nat) : (n k term : Nat) → Int
  | 0, _, _ => 0
  | n + 1, k, term => (term : Int) - cosSum y2 n (k + 1) (term * y2 / 2 ^ wp / ((2 * k + 1) * (2 * k + 2)))

/-- cos_table[j]: the integer nearest to 2^31 × cos(πj / 1,024). -/
def cosTable (j : Nat) : Int :=
  let y := piFixed * j / 1024
  (cosSum (y * y / 2 ^ wp) 70 0 (2 ^ wp) + 2 ^ (wp - 32)) / 2 ^ (wp - 31)

/-- exp_table[j]: the integer nearest to 2^31 × 2^(−j / 1,024). -/
def expTable (j : Nat) : Int :=
  if j = 0 then 2 ^ 31 else ((exp2Fixed ((1024 - j) * 2 ^ wp / 1024) + 2 ^ (wp - 31)) / 2 ^ (wp - 30) : Nat)

/-- interp(table, p) of R271. -/
def interp (table : Nat → Int) (p : Nat) : Int :=
  let j := p / 1024
  if j = 1024 then table 1024 else table j + (table (j + 1) - table j) * (p % 1024 : Nat) / 1024

/-- A schedule (R286): kind, floor, warm-up, decay length, restart period. -/
structure Schedule where
  kind : Nat
  floor : Nat
  warmup : Nat
  decayLen : Nat
  restart : Nat
  deriving DecidableEq, Repr

/-- r of R271. -/
def Schedule.shape (k : Schedule) (x : Nat) : Int :=
  let len := k.decayLen
  if k.kind = 0 ∨ len = 0 then 2 ^ 31
  else if k.kind = 1 then 2 ^ 31 - (min x len * 2 ^ 31 / len : Nat)
  else if k.kind = 2 then (2 ^ 31 + interp cosTable (min x len * 2 ^ 20 / len)) / 2
  else if k.kind = 3 then (isqrt (2 ^ 62 * len / (len + x)) : Nat)
  else
    let h := x / len
    if 32 ≤ h then 0 else interp expTable (x % len * 2 ^ 20 / len) / 2 ^ h

/-- multiplier(k, t) of R271. -/
def Schedule.multiplier (k : Schedule) (t : Nat) : Nat :=
  let tau := if 0 < k.restart then t % k.restart else t
  if tau < k.warmup then (tau + 1) * 2 ^ 31 / k.warmup
  else
    let f : Int := (min k.floor (2 ^ 31) : Nat)
    (f + (2 ^ 31 - f) * k.shape (tau - k.warmup) / 2 ^ 31).toNat

/-- Schedule k as its registers hold it. -/
def State.schedule (s : State) (k : Nat) : Schedule :=
  { kind := s.fld (Reg.SCHEDULE_CONFIG k) Fl.SCHEDULE_CONFIG_KIND,
    floor := s.fld (Reg.SCHEDULE_CONFIG k) Fl.SCHEDULE_CONFIG_FLOOR,
    warmup := s.fld (Reg.SCHEDULE_LENGTHS k) Fl.SCHEDULE_LENGTHS_WARMUP,
    decayLen := s.fld (Reg.SCHEDULE_LENGTHS k) Fl.SCHEDULE_LENGTHS_DECAY_LEN,
    restart := s.fld (Reg.SCHEDULE_RESTART k) Fl.SCHEDULE_RESTART_PERIOD }

/-! ### Groups as a unit uses them -/

/-- RULE as the unit uses it: 0 FROZEN, 1 PLAIN, 2 SIGNED, 3 MOMENTUM, 4 ADAPTIVE. -/
def State.ruleOf (s : State) (g : Nat) : Nat := s.groupUse g 0 Fl.GROUP_CONTROL_RULE

/-- The tiles of a group. -/
def State.tileCount (s : State) (g : Nat) : Nat := (s.groupCount g + 255) / 256

/-- The parameters of tile j. -/
def State.tileSize (s : State) (g j : Nat) : Nat := min 256 (s.groupCount g - 256 * j)

/-- PHASE: 0 IDLE, 1 APPLYING, 2 WAITING_STATE, 3 APPLIED, 4 HELD (R265). -/
def State.phaseOf_ (s : State) (g : Nat) : Nat := s.fld (Reg.GROUP_STATUS g) Fl.GROUP_STATUS_PHASE

/-- Moves a group to a phase. -/
def State.setGroupPhase (s : State) (g p : Nat) : State := s.setFld (Reg.GROUP_STATUS g) Fl.GROUP_STATUS_PHASE p

/-- Samples the fields of a group (R267). -/
def State.sampleGroup (s : State) (g : Nat) : State :=
  s.setGroupRun g { s.groupRun g with words := (List.range 16).map (fun i => s.rd (Reg.GROUP_CONTROL g + 8 * i)) }

/-- The state object of a group, when STATE_IN_OBJECT is 1. -/
def State.stateObject (s : State) (g : Nat) : Option Nat :=
  if s.flag (Reg.GROUP_CONTROL g) Fl.GROUP_CONTROL_STATE_IN_OBJECT then
    some (s.fld (Reg.GROUP_ELEMENTS g) Fl.GROUP_ELEMENTS_STATE_OBJECT)
  else none

/-- The start of M (R265; notes/assumptions/26). -/
def State.stateBase (s : State) (g : Nat) : Nat :=
  match s.stateObject g with
  | some o => s.upBase o
  | none => s.fld (Reg.GROUP_STATE_BASE g) Fl.GROUP_STATE_BASE_ADDR

/-- The start of V. -/
def State.stateV (s : State) (g : Nat) : Nat := s.stateBase g + 4 * padded (s.groupCount g)

/-- The master base. -/
def State.masterBase (s : State) (g : Nat) : Nat := s.fld (Reg.GROUP_MASTER_BASE g) Fl.GROUP_MASTER_BASE_ADDR

/-- The pending area's base. -/
def State.pendingBase (s : State) (g : Nat) : Nat := s.fld (Reg.GROUP_PENDING_BASE g) Fl.GROUP_PENDING_BASE_ADDR

/-- η of R272: the step size of a group for its next APPLY, from its registers. -/
def State.stepSize (s : State) (g : Nat) : W32 :=
  let m := (s.schedule (s.groupUse g 0 Fl.GROUP_CONTROL_SCHEDULE)).multiplier
    (s.fld (Reg.GROUP_STEP g) Fl.GROUP_STEP_APPLIED)
  (fMul (ofF32 (BitVec.ofNat 32 (s.groupUse g 8 Fl.GROUP_HYPER_LR_BASE))) (.num false m (-31))).toF32.val

/-- The scalars of R274 of a group whose fields have been sampled. -/
def State.groupScalars (s : State) (g : Nat) (x : GroupRun) : GroupRun :=
  let one : W32 := 0x3F800000
  let b1 := BitVec.ofNat 32 (s.groupUse g 9 Fl.GROUP_BETAS_BETA1)
  let b2 := BitVec.ofNat 32 (s.groupUse g 9 Fl.GROUP_BETAS_BETA2)
  let eta := s.stepSize g
  let p1 := (mul32 (BitVec.ofNat 32 (s.fld (Reg.GROUP_POWERS g) Fl.GROUP_POWERS_POW1)) b1).val
  let p2 := (mul32 (BitVec.ofNat 32 (s.fld (Reg.GROUP_POWERS g) Fl.GROUP_POWERS_POW2)) b2).val
  { x with eta := eta, d := sub32 one (mul32 eta (BitVec.ofNat 32 (s.groupUse g 8 Fl.GROUP_HYPER_DECAY))).val,
           p1 := p1, p2 := p2, c1 := sub32 one b1, c2 := sub32 one b2, k1 := div32 eta (sub32 one p1),
           k2 := div32 one (sub32 one p2) }

/-! ### One parameter (R275) -/

/-- g of a long cell; the second part says that it saturated. -/
def gradient (window : Int) (gamma : W32) (cell : Nat) : W32 × Bool :=
  let n := signedOf 128 cell
  let r := (fMul (.num (decide (n < 0)) n.natAbs (window - 96)) (ofF32 gamma)).toF32
  if r.flags.overflow then (if r.val = 0xFF800000 then (0xFF7FFFFF, true) else (0x7F7FFFFF, true)) else (r.val, false)

/-- sgn(g): 0 for either zero. -/
def sgn32 (g : W32) : W32 := if isNaN g then nan32 else if isZero32 g then 0 else (g &&& 0x80000000) ||| 0x3F800000

/-- The hyperparameters a tile is updated with. -/
structure Hyper where
  rule : Nat
  beta1 : W32
  beta2 : W32
  epsilon : W32
  x : GroupRun

/-- w′, m′ and v′ of a parameter (R275). -/
def Hyper.update (h : Hyper) (w m v g : W32) : W32 × W32 × W32 :=
  let x := (mul32 w h.x.d).val
  let eta := neg32 h.x.eta
  match h.rule with
  | 1 => ((fma32 eta g x).val, m, v)
  | 2 => ((fma32 eta (sgn32 g) x).val, m, v)
  | 3 =>
    let m' := (fma32 h.beta1 m g).val
    ((fma32 eta m' x).val, m', v)
  | _ =>
    let m' := (fma32 h.x.c1 g (mul32 h.beta1 m).val).val
    let v' := (fma32 h.x.c2 (mul32 g g).val (mul32 h.beta2 v).val).val
    let q := div32 m' (add32 (sqrt32 (mul32 v' h.x.k2).val) h.epsilon).val
    ((fma32 (neg32 h.x.k1) q x).val, m', v')

/-- The hyperparameters of a group. -/
def State.hyper (s : State) (g : Nat) : Hyper :=
  { rule := s.ruleOf g, beta1 := BitVec.ofNat 32 (s.groupUse g 9 Fl.GROUP_BETAS_BETA1),
    beta2 := BitVec.ofNat 32 (s.groupUse g 9 Fl.GROUP_BETAS_BETA2),
    epsilon := BitVec.ofNat 32 (s.groupUse g 10 Fl.GROUP_EPSILON_EPSILON), x := s.groupRun g }

/-! ### Tiles (R277 to R280) -/

/-- n little-endian FP32 values of a byte string. -/
def f32s : (n : Nat) → List Byte → List W32
  | 0, _ => []
  | n + 1, bs => BitVec.ofNat 32 (natLE (bs.take 4)) :: f32s n (bs.drop 4)

/-- n long cells of a byte string. -/
def cells : (n : Nat) → List Byte → List Nat
  | 0, _ => []
  | n + 1, bs => natLE (bs.take 16) :: cells n (bs.drop 16)

/-- The bytes of FP32 values. -/
def f32Bytes (xs : List W32) : List Byte := xs.flatMap (fun x => bytesLE 4 x.toNat)

/-- An entry of a list of FP32 values; 0 beyond its end. -/
def at32 (xs : List W32) (i : Nat) : W32 := xs.getD i 0

/-- New values of a tile: w′, m′ and v′ lists. -/
def Hyper.tile (h : Hyper) (e : LedgerEntry) : List W32 × List W32 × List W32 :=
  let r := (List.range e.w.length).map (fun i => h.update (at32 e.w i) (at32 e.m i) (at32 e.v i) (at32 e.g i))
  (r.map (·.1), r.map (·.2.1), r.map (·.2.2))

/-- Whether the page of an address takes writes: a far page of a RETIRING or RETIRED region does not (R256). -/
def State.takesWrites (s : State) (a : Nat) : Bool :=
  match placeOf a with
  | .far _ => (s.retirement a).isNone
  | _ => true

/-- A write of an update unit of at most 4 KiB: its part in a page that takes no writes is refused (R256). -/
def State.unitStore (s : State) (a : Nat) (bs : List Byte) : State :=
  let k := 4096 - a % 4096
  let s1 := if s.takesWrites a then s.store a (bs.take k) [] else s
  if bs.length ≤ k ∨ s1.takesWrites (a + k) = false then s1 else s1.store (a + k) (bs.drop k) []

/-- Emits the working copies of a tile (R276). -/
def State.emitCopies (s : State) (g j : Nat) (w : List W32) : State :=
  let u := s.groupUnit g
  let conv := fun (f : W32 → Res Nat) => w.foldr (fun x acc => let r := f x; (r.val :: acc.1, r.flags.or acc.2)) ([], {})
  let note := fun (s : State) (f : Flags) =>
    let s1 := if f.overflow then s.setFld (Reg.UNIT_STATUS u) Fl.UNIT_STATUS_OVERFLOW 1 else s
    if f.flushed then s1.setFld (Reg.UNIT_STATUS u) Fl.UNIT_STATUS_FLUSHED 1 else s1
  let s1 := if s.groupUse g 0 Fl.GROUP_CONTROL_EMIT_BF16 = 1 then
      let c := conv (drainTo 1)
      note (s.unitStore (s.fld (Reg.GROUP_WC_BF16_BASE g) Fl.GROUP_WC_BF16_BASE_ADDR + 512 * j) (c.1.flatMap (bytesLE 2))) c.2
    else s
  if s.groupUse g 0 Fl.GROUP_CONTROL_EMIT_FP8 = 1 then
    let code := 3 + s.groupUse g 0 Fl.GROUP_CONTROL_FP8_FORMAT
    let scale := BitVec.ofNat 32 (s.groupUse g 10 Fl.GROUP_EPSILON_FP8_SCALE)
    let c := conv (fun x =>
      let p := mul32 x scale
      let r := drainTo code p.val
      { r with flags := r.flags.or { overflow := p.flags.overflow } })
    note (s1.unitStore (s1.fld (Reg.GROUP_WC_FP8_BASE g) Fl.GROUP_WC_FP8_BASE_ADDR + 256 * j) (c.1.flatMap (bytesLE 1))) c.2
  else s1

/-- Clears the accumulator of tile j: near cells as zeros, a far page unwritten (R277); a page that
takes no writes stays as it is (R256). -/
def State.clearTile (s : State) (g j : Nat) : State :=
  let a := s.accBase g + 4096 * j
  match placeOf a with
  | .far _ => if s.takesWrites a then s.eraseExtent a 4096 else s
  | _ => s.unitStore a (List.replicate (16 * s.tileSize g j) 0)

/-- Step 4 of R279: M′ and V′, then w′, then the copies. -/
def State.writeTile (s : State) (e : LedgerEntry) : State :=
  let g := e.group
  let r := (s.hyper g).tile e
  let off := 1024 * e.tile
  let s1 := if 3 ≤ e.rule then s.unitStore (s.stateBase g + off) (f32Bytes r.2.1) else s
  let s2 := if e.rule = 4 then s1.unitStore (s1.stateV g + off) (f32Bytes r.2.2) else s1
  (s2.unitStore (s2.masterBase g + off) (f32Bytes r.1)).emitCopies g e.tile r.1

/-- Steps 3 and 4 of R279 for a LOGGED entry: a tile read from the pending area clears nothing. -/
def State.applyEntry (s : State) (e : LedgerEntry) : State :=
  (if e.pending then s else s.clearTile e.group e.tile).writeTile e

/-- The ledger of unit u, oldest entry first. -/
def State.ledger (s : State) (u : Nat) : List LedgerEntry := Sparse.get (fun _ => []) s.upd.ledgers u

/-- Writes a ledger, with LOGGED. -/
def State.setLedger (s : State) (u : Nat) (l : List LedgerEntry) : State :=
  ({ s with upd := { s.upd with ledgers := Sparse.set (fun _ => []) s.upd.ledgers u l } }).setFld (Reg.UNIT_STATUS u)
    Fl.UNIT_STATUS_LOGGED l.length

/-- STATUS.STATE of unit u. -/
def State.unitState (s : State) (u : Nat) : Nat := s.fld (Reg.UNIT_STATUS u) Fl.UNIT_STATUS_STATE

/-- Tiles of the current step whose writes are readable. -/
def State.tilesDone (s : State) (g : Nat) : Nat := s.fld (Reg.GROUP_STATUS g) Fl.GROUP_STATUS_TILES_DONE

/-- Signals or frays DONE_KNOT when it is enabled. -/
def State.doneKnot (s : State) (g : Nat) (op : KnotChange) : State :=
  if s.flag (Reg.GROUP_WINDOW g) Fl.GROUP_WINDOW_DONE_EN then
    s.knotDo (s.fld (Reg.GROUP_WINDOW g) Fl.GROUP_WINDOW_DONE_KNOT) op
  else s

/-- A group has left APPLYING: an eviction of its state object that it held proceeds (R282). -/
def State.letObjectGo (s : State) (g : Nat) : State :=
  match s.stateObject g with
  | some o => s.settleObject o settleBound
  | none => s

/-- A group whose tiles are all readable is APPLIED (R273). -/
def State.checkGroup (s : State) (g : Nat) : State :=
  if s.phaseOf_ g = 1 ∧ s.tilesDone g = s.tileCount g then
    ((s.setGroupPhase g 3).doneKnot g (.add 1)).letObjectGo g
  else s

/-- Step 5 of R279 for entry e of unit u: it is freed, and its tile is done. -/
def State.freeEntry (s : State) (u : Nat) (e : LedgerEntry) : State :=
  (((s.setLedger u ((s.ledger u).erase e)).addWrap (Reg.UNIT_APPLIED_TILES u) 1).setFld (Reg.GROUP_STATUS e.group)
    Fl.GROUP_STATUS_TILES_DONE (s.tilesDone e.group + 1)).checkGroup e.group

/-- Frees the oldest entry of unit u. -/
def State.freeOldest (s : State) (u : Nat) : State :=
  match s.ledger u with
  | [] => s
  | e :: _ => s.freeEntry u e

/-- A tile met poison in step 1 of R279: the group is HELD (R281). -/
def State.poisonHold (s : State) (g : Nat) : State :=
  ((s.setGroupPhase g 4).setFld (Reg.GROUP_STATUS g) Fl.GROUP_STATUS_POISONED 1).letObjectGo g

/-- The sums U and V of R303 with the parameters of a tile added in order. -/
def telltaleSums : List W32 → List W32 → W32 × W32 → W32 × W32
  | w :: ws, x :: xs, (u, v) =>
    let d := sub32 x w
    telltaleSums ws xs ((add32 u (mul32 d d).val).val, (add32 v (mul32 w w).val).val)
  | _, _, r => r

/-- The values of g of a tile from its accumulator, with SATURATED counted. -/
def State.gradients (s : State) (g : Nat) (cs : List Nat) : State × List W32 :=
  let r := cs.map (gradient (s.windowBase g) (s.groupRun g).gamma)
  (s.countN (Reg.UNIT_SATURATED (s.groupUnit g)) (r.filter (·.2)).length, r.map (·.1))

/-- Takes tile j of group g: step 1 to 4 of R279 with the telltale sums (R303). -/
def State.takeTile (s : State) (g j : Nat) : State :=
  let n := s.tileSize g j
  let who := s.groupTenant g
  let rule := s.ruleOf g
  let x := s.groupRun g
  let a := if x.pending then s.load who .urgent (s.pendingBase g + 1024 * j) (4 * n)
    else s.load who .urgent (s.accBase g + 4096 * j) (16 * n)
  let w := a.s.load who .urgent (s.masterBase g + 1024 * j) (4 * n)
  let m := if 3 ≤ rule then w.s.load who .urgent (s.stateBase g + 1024 * j) (4 * n) else ⟨w.s, [], [], false⟩
  let v := if rule = 4 then m.s.load who .urgent (s.stateV g + 1024 * j) (4 * n) else ⟨m.s, [], [], false⟩
  if !(a.poison.isEmpty && w.poison.isEmpty && m.poison.isEmpty && v.poison.isEmpty) then v.s.poisonHold g
  else
    let gs := if x.pending then (v.s, f32s n a.bytes) else v.s.gradients g (cells n a.bytes)
    let e : LedgerEntry := { group := g, step := s.fld (Reg.GROUP_STEP g) Fl.GROUP_STEP_STEP, tile := j, rule := rule,
                             w := f32s n w.bytes, m := f32s n m.bytes, v := f32s n v.bytes, g := gs.2, pending := x.pending }
    let s1 := gs.1.setLedger (s.groupUnit g) (gs.1.ledger (s.groupUnit g) ++ [e])
    let uv := telltaleSums e.w ((s1.hyper g).tile e).1 (x.u, x.v)
    let s2 := s1.setGroupRun g { s1.groupRun g with next := j + 1, u := uv.1, v := uv.2 }
    s2.applyEntry e

/-- A group that only clears (R273, R277). -/
def State.clearOnly (s : State) (g : Nat) : Bool := (s.groupRun g).decision == 2 || s.ruleOf g == 0

/-- Clears a whole accumulator and finishes the group. -/
def State.clearGroup (s : State) (g : Nat) : State :=
  let n := s.tileCount g
  let s1 := iterate (fun j s => s.clearTile g j) n 0 s
  ((s1.setGroupRun g { s1.groupRun g with next := n }).setFld (Reg.GROUP_STATUS g) Fl.GROUP_STATUS_TILES_DONE n).checkGroup g

/-- The lowest group of unit u that is APPLYING with tiles to take. -/
def State.nextGroup (s : State) (u : Nat) : Option Nat :=
  s.validGroups.find? (fun g => s.groupUnit g == u && s.phaseOf_ g == 1 && decide ((s.groupRun g).next < s.tileCount g))

/-- Takes up to n further tiles of unit u, in order, while the ledger has room (R273). -/
def State.takeTiles (s : State) (u : Nat) : (n : Nat) → State
  | 0 => s
  | n + 1 =>
    match s.nextGroup u with
    | none => s
    | some g =>
      if s.clearOnly g then (s.clearGroup g).takeTiles u n
      else if 256 ≤ (s.ledger u).length then s
      else (s.takeTile g (s.groupRun g).next).takeTiles u n

/-! ### Phases (R273, R281, R282) -/

/-- A group waits for its state object from now (R273, R283). -/
def State.awaitState (s : State) (g : Nat) : State :=
  ((s.setGroupRun g { s.groupRun g with holdSince := some s.stitchClock }).setFld (Reg.GROUP_STATUS g)
    Fl.GROUP_STATUS_STATE_LATE 0).setGroupPhase g 2

/-- Writes bytes to a pending area, 1,024 of each tile; n bounds the tiles. -/
def State.writePending (s : State) (a : Nat) : (n : Nat) → List Byte → State
  | 0, _ => s
  | n + 1, bs => State.writePending (s.unitStore a (bs.take 1024)) (a + 1024) n (bs.drop 1024)

/-- Computes g of every tile into the pending area, clears the accumulator and asks for the object (R282); a poisoned line
holds the group instead. -/
def State.toPending (s : State) (g o : Nat) : State :=
  let n := s.groupCount g
  let l := s.load (s.groupTenant g) .urgent (s.accBase g) (16 * n)
  if !l.poison.isEmpty then l.s.poisonHold g
  else
    let gs := l.s.gradients g (cells n l.bytes)
    let s1 := gs.1.writePending (gs.1.pendingBase g) (gs.1.tileCount g) (f32Bytes gs.2)
    let s2 := iterate (fun j s => s.clearTile g j) (s1.tileCount g) 0 s1
    let s3 := (s2.setGroupRun g { s2.groupRun g with pending := true }).awaitState g
    s3.unitPromote (s3.groupUnit g) o

/-- A group begins or goes on applying the decision it holds. -/
def State.proceedGroup (s : State) (g : Nat) : State :=
  match s.stateObject g with
  | some o =>
    if s.clearOnly g || (s.groupRun g).pending || s.residency o == 2 then
      if (s.groupRun g).pending && s.residency o != 2 then s.awaitState g else s.setGroupPhase g 1
    else s.toPending g o
  | none => s.setGroupPhase g 1

/-- The decision (1 APPLY, 2 SKIP) reaches a group with γ (R273, R274, R281); both sample the fields of R267
(notes/assumptions/90). -/
def State.startGroup (s : State) (g decision : Nat) (gamma : W32) : State :=
  let s1 := s.sampleGroup g
  let x := s1.groupRun g
  let y := { x with decision := decision, gamma := gamma, next := 0, pending := false, holdSince := none, u := 0, v := 0 }
  let s2 := (s1.setGroupRun g (s1.groupScalars g y)).setFld (Reg.GROUP_STATUS g) Fl.GROUP_STATUS_TILES_DONE 0
  if s2.unitState (s2.groupUnit g) = 0 then s2.proceedGroup g else (s2.setGroupPhase g 4).doneKnot g (.fray 0)

/-- The unit of a group leaves ENABLED: an APPLYING group with tiles owed is HELD; the second part counts the tiles (R281). -/
def State.holdGroup (s : State) (g : Nat) : State × Nat :=
  let owed := s.tileCount g - (s.groupRun g).next
  if s.phaseOf_ g = 1 ∧ 0 < owed then (((s.setGroupPhase g 4).doneKnot g (.fray 0)).letObjectGo g, owed) else (s, 0)

/-- Holds the groups of a list; the number of tiles owed. -/
def State.holdGroups (s : State) : List Nat → State × Nat
  | [] => (s, 0)
  | g :: rest =>
    let r := s.holdGroup g
    let q := State.holdGroups r.1 rest
    (q.1, r.2 + q.2)

/-- The valid groups of unit u. -/
def State.unitGroups (s : State) (u : Nat) : List Nat := s.validGroups.filter (fun g => s.groupUnit g == u)

/-- Keeps the range table's size in STATUS.GROUPS. -/
def State.syncUnit (s : State) (u : Nat) : State :=
  s.setFld (Reg.UNIT_STATUS u) Fl.UNIT_STATUS_GROUPS (s.unitGroups u).length

/-- Ends a group: its entry is free, and an eviction that it held proceeds (R266, R282). -/
def State.removeGroup (s : State) (g : Nat) : State :=
  let u := s.groupUnit g
  let t := (s.groupTenant g).getD 0
  let s1 := (s.setFld (Reg.GROUP_CONTROL g) Fl.GROUP_CONTROL_VALID 0).setFld (Reg.GROUP_STATUS g) Fl.GROUP_STATUS_STATE_LATE 0
  (((s1.setGroupRun g {}).syncUnit u).staleDigest t).letObjectGo g

/-- A draining unit whose ledger is empty is DISABLED (R281, R98). -/
def State.checkUnit (s : State) (u : Nat) : State :=
  if s.unitState u = 1 ∧ s.ledger u = [] then
    (s.setFld (Reg.UNIT_STATUS u) Fl.UNIT_STATUS_STATE 2).drainEnded (.updateUnit u)
  else s

/-- Writes the master, state and copy lines of a tile poisoned (R281). -/
def State.poisonTile (s : State) (e : LedgerEntry) : State :=
  let s1 := s.applyEntry e
  let g := e.group
  let n := e.w.length
  let mark := fun (s : State) (a len : Nat) =>
    (linesOf a len).foldl (fun s line => if s.takesWrites (64 * line) then s.setPoison line true else s) s
  let s2 := mark s1 (s1.masterBase g + 1024 * e.tile) (4 * n)
  let s3 := if 3 ≤ e.rule then mark s2 (s2.stateBase g + 1024 * e.tile) (4 * n) else s2
  let s4 := if e.rule = 4 then mark s3 (s3.stateV g + 1024 * e.tile) (4 * n) else s3
  let s5 := if s4.groupUse g 0 Fl.GROUP_CONTROL_EMIT_BF16 = 1 then
      mark s4 (s4.fld (Reg.GROUP_WC_BF16_BASE g) Fl.GROUP_WC_BF16_BASE_ADDR + 512 * e.tile) (2 * n) else s4
  let s6 := if s5.groupUse g 0 Fl.GROUP_CONTROL_EMIT_FP8 = 1 then
      mark s5 (s5.fld (Reg.GROUP_WC_FP8_BASE g) Fl.GROUP_WC_FP8_BASE_ADDR + 256 * e.tile) n else s5
  s6.setFld (Reg.GROUP_STATUS g) Fl.GROUP_STATUS_POISONED 1

/-- The die whose ground SRAM holds the ledger of unit u: 0 West, 1 East (R262). -/
def ledgerDie (u : Nat) : Nat := if u < 8 then u / 4 else (u - 8) % 16 / 8

/-- An uncorrectable read of the ledger (R281, R376). -/
def State.ledgerLost (s : State) (u : Nat) (e : LedgerEntry) : State :=
  (s.lastError 2 2 (ledgerDie u) 0 0).raise
    { cond := .uncorrectableNear, ribbon := .fault, source := source 14 (ledgerDie u) 0, tenant := s.groupTenant e.group,
      detail := 2 * 2 ^ 48, counters := [Reg.INTEGRITY_UNCORRECTABLE_NEAR] }

/-- Replays an entry of unit u: steps 3 to 5 again, the clear included (R280; notes/assumptions/113); where the read of the
entry is uncorrectable, its lines are written poisoned (R281). -/
def State.replayEntry (s : State) (u : Nat) (lost : Bool) (e : LedgerEntry) : State :=
  ((if lost then (s.ledgerLost u e).poisonTile e else s.applyEntry e).count (Reg.UNIT_REPLAYED u)).freeEntry u e

/-- Replays entries of unit u in order (R280), bit i of `lost` with the i-th. -/
def State.replay (s : State) (u lost : Nat) : List LedgerEntry → State
  | [] => s
  | e :: rest => State.replay (s.replayEntry u (lost % 2 == 1) e) u (lost / 2) rest

end Sys2Proof.Machine
end

