-- ==== Sys2Proof/Machine/GateOps.lean ====
section
/-! DEFINITION. What a step machine does: the scan's gate vector (R291, R292), the totals (R293), the decision (R294, R295,
R298), the commit (R297, R301) and the telltales (R303 to R306). -/

namespace Sys2Proof.Machine

/-! ### Registers of a step machine -/

/-- Moves a step machine to a state. -/
def State.setGateState (s : State) (t v : Nat) : State := s.setFld (Reg.GATE_STATE t) Fl.GATE_STATE_STATE v

/-- The gate step k. -/
def State.gateStep (s : State) (t : Nat) : Nat := s.fld (Reg.GATE_STEP t) Fl.GATE_STEP_STEP

/-- A write had no effect (R289). -/
def State.gateIgnored (s : State) (t : Nat) : State := s.setFld (Reg.GATE_STATE t) Fl.GATE_STATE_WRITE_IGNORED 1

/-- The wait value of the trigger: PER_STEP × (k + 1) mod 2^32 (R290). -/
def State.gateTarget (s : State) (t : Nat) : Nat :=
  max 1 (s.fld (Reg.GATE_TRIGGER t) Fl.GATE_TRIGGER_PER_STEP) * (s.gateStep t + 1) % 2 ^ 32

/-- The trigger holds (R290). -/
def State.gateTriggered (s : State) (t : Nat) : Bool :=
  !s.knotError (s.gateKnot t) && knotGe (s.knotCount (s.gateKnot t)) (s.gateTarget t)

/-- The valid groups of a tenant, in ascending order. -/
def State.tenantGroups (s : State) (t : Nat) : List Nat := s.validGroups.filter (fun g => s.groupTenant g == some t)

/-- A group has left the step; one that was deleted during it ends now (R300; notes/assumptions/114). -/
def State.endLeaving (s : State) (g : Nat) : State := if (s.groupRun g).leaving then s.removeGroup g else s

/-- The groups that take part in the step (R300). -/
def State.gateMembers (s : State) (t : Nat) : List Nat := (s.tenantGroups t).filter (fun g => (s.groupRun g).member)

/-- MIN and MAX of the loss scale, signed. -/
def State.scaleBounds (s : State) (t : Nat) : Int × Int :=
  (signedOf 8 (s.fld (Reg.LOSS_SCALE t) Fl.LOSS_SCALE_MIN), signedOf 8 (s.fld (Reg.LOSS_SCALE t) Fl.LOSS_SCALE_MAX))

/-- E of the loss scale: values beyond MIN and MAX act as the nearer limit (R309). -/
def State.lossExp (s : State) (t : Nat) : Int :=
  let b := s.scaleBounds t
  min (max (signedOf 8 (s.fld (Reg.LOSS_SCALE t) Fl.LOSS_SCALE_EXP)) b.1) b.2

/-! ### The scan (R291) -/

/-- Bytes of whole cells that lie in lines without poison. -/
def cleanCells (bad : List Nat) : (n a : Nat) → List Byte → List Nat
  | 0, _, _ => []
  | n + 1, a, bs =>
    let rest := cleanCells bad n (a + 16) (bs.drop 16)
    if bad.contains (a / 64) then rest else natLE (bs.take 16) :: rest

/-- The nearest integer to q × 2^k, ties to even. -/
def scaleRound (q : Nat) (k : Int) : Nat := roundMant q k 0

/-- The contributions of a group to a gate vector, with what the scan latches and the group's POISONED. -/
def State.scanGroup (s : State) (t g : Nat) (v : GateVector) : State × GateVector :=
  let x := s.groupRun g
  let n := s.groupCount g
  let l := s.load (some t) .stream (s.accBase g) (16 * n)
  let cs := cleanCells l.poison n (s.accBase g) l.bytes
  let good := cs.filter (fun c => c != longMarker)
  let bad := !l.poison.isEmpty
  let q := good.foldl (fun acc c => acc + (signedOf 128 c).natAbs ^ 2) 0
  let add := (scaleRound q (2 * s.windowBase g - (s.gateRun t).gw - 96) : Nat)
  let global := s.groupUse g 0 Fl.GROUP_CONTROL_CLIP_POLICY == 0
  let skewed := s.fld (Reg.GROUP_STEP g) Fl.GROUP_STEP_STEP != s.gateStep t
  let w : GateVector :=
    { v with skew := v.skew + skewed.toNat,
             strict := v.strict + (s.flag (Reg.GROUP_STATUS g) Fl.GROUP_STATUS_STRICT_FAIL).toNat,
             nonfinite := v.nonfinite + (x.nonfinite || bad).toNat,
             overflow := v.overflow + (cs.length - good.length),
             sumSq := if global then (longAdd v.sumSq add).1 else v.sumSq }
  let s1 := l.s.setGroupRun g { x with latchedZero := x.zeroAdds, allZero := !bad && cs.all (fun c => c == 0) }
  (if bad then s1.setFld (Reg.GROUP_STATUS g) Fl.GROUP_STATUS_POISONED 1 else s1, w)

/-- The gate vector of a list of groups. -/
def State.scanGroups (s : State) (t : Nat) (v : GateVector) : List Nat → State × GateVector
  | [] => (s, v)
  | g :: rest =>
    let r := s.scanGroup t g v
    State.scanGroups r.1 t r.2 rest

/-! ### The decision (R294, R295) -/

/-- x × 2^a > y × 2^b, exactly. -/
def gtScaled (x : Nat) (a : Int) (y : Nat) (b : Int) : Bool :=
  if b ≤ a then decide (y < x * 2 ^ (a - b).toNat) else decide (y * 2 ^ (b - a).toNat < x)

/-- T > (f × 2^E)² for a finite positive f; a factor that is not finite, not positive or NaN disables the row (R294). -/
def normBeyond (sumSq : Nat) (gw e : Int) (f : W32) : Bool :=
  match ofF32 f with
  | .num false m x => m != 0 && gtScaled sumSq (gw - 96) (m * m) (2 * x + 2 * e)
  | _ => false

/-- L of R294 stands: finite, positive and no NaN. A row whose limit does not stand gives nothing, the marker included
(notes/assumptions/28). -/
def limitStands (f : W32) : Bool :=
  match ofF32 f with
  | .num false m _ => m != 0
  | _ => false

/-- The mask of the causes that hold (R294, R309). -/
def causeMask (v : GateVector) (x : GateRun) : Nat :=
  (decide (0 < v.skew)).toNat + 2 * (decide (0 < v.mismatch)).toNat + 4 * (decide (0 < v.strict)).toNat
    + 8 * (decide (0 < v.nonfinite)).toNat + 16 * (decide (0 < v.overflow)).toNat
    + 32 * (limitStands x.limit && (v.sumSq == longMarker || normBeyond v.sumSq x.gw x.e x.limit)).toNat

/-- The decision of a mask: 1 APPLY, 2 SKIP, 3 REFUSE. -/
def decisionOf (mask : Nat) : Nat := if mask % 8 ≠ 0 then 3 else if mask ≠ 0 then 2 else 1

/-- The condition, counter and ribbon of cause i of R294. -/
def gateCause (t i : Nat) : Cond × Nat × Ribbon :=
  match i with
  | 0 => (.stepSkew, Reg.GATE_STEP_SKEW t, .fault)
  | 1 => (.samplerMismatch, Reg.GATE_SAMPLER_MISMATCH t, .fault)
  | 2 => (.frozenWrite, Reg.GATE_FROZEN_WRITE t, .fault)
  | 3 => (.nonfiniteGradient, Reg.GATE_NONFINITE_GRADIENT t, .notice)
  | 4 => (.longOverflow, Reg.GATE_LONG_OVERFLOW t, .notice)
  | _ => (.normLimit, Reg.GATE_NORM_LIMIT t, .fault)

/-- Reports causes (R294, R455): each that holds is counted, the first writes the record. -/
def State.reportCauses (s : State) (t mask : Nat) (first : Bool) : List Nat → State
  | [] => s
  | i :: rest =>
    if mask / 2 ^ i % 2 = 0 then State.reportCauses s t mask first rest
    else
      let c := gateCause t i
      let detail := s.gateStep t + mask * 2 ^ 32 + decisionOf mask * 2 ^ 40
      let o : Occurrence := { cond := c.1, ribbon := c.2.2, source := source 9 t 0, tenant := some t, detail := detail,
                              counters := [c.2.1] }
      State.reportCauses (if first then s.raise o else (s.tally o).driveAlert) t mask false rest

/-- Frays STEP_KNOT when it is enabled (R298, R299). -/
def State.frayStep (s : State) (t : Nat) : State :=
  if s.flag (Reg.GATE_CONTROL t) Fl.GATE_CONTROL_STEP_KNOT_EN then
    s.knotDo (s.fld (Reg.GATE_CONTROL t) Fl.GATE_CONTROL_STEP_KNOT) (.fray 1)
  else s

/-- Writes GATE_LAST's STEP, DECISION and CLIPPED. -/
def State.gateLast (s : State) (t k decision : Nat) (clipped : Bool) : State :=
  let r := Reg.GATE_LAST t
  ((s.setFld r Fl.GATE_LAST_STEP k).setFld r Fl.GATE_LAST_DECISION decision).setFld r Fl.GATE_LAST_CLIPPED clipped.toNat

/-- Takes every group out of the step. -/
def State.leaveStep (s : State) : List Nat → State
  | [] => s
  | g :: rest => State.leaveStep ((s.setGroupRun g { s.groupRun g with member := false }).endLeaving g) rest

/-- The machine is REFUSED for causes: its groups leave the step and STEP_KNOT is frayed (R298, R299). -/
def State.refuseStep (s : State) (t mask : Nat) : State :=
  let s1 := s.setFld (Reg.GATE_LAST t) Fl.GATE_LAST_CAUSES mask
  let s2 := s1.leaveStep (s1.gateMembers t)
  let s3 := s2.setGateRun t { s2.gateRun t with since := none, unsent := false, raised := false }
  (s3.frayStep t).setGateState t 5

/-- nrm and the GLOBAL γ of a clipped APPLY (R295). -/
def clipFactor (sumSq : Nat) (x : GateRun) : W32 × W32 :=
  let nrm := sqrt32 (toF32 (.num false sumSq (x.gw - 96))).val
  (nrm, min32 (div32 x.clip nrm) (pow2F (-x.e)))

/-- Delivers a decision to every member (R296), with γ by the CLIP_POLICY that its APPLY start samples (R267). -/
def State.startGroups (s : State) (decision : Nat) (global exempt : W32) : List Nat → State
  | [] => s
  | g :: rest =>
    let gamma := if s.fld (Reg.GROUP_CONTROL g) Fl.GROUP_CONTROL_CLIP_POLICY = 0 then global else exempt
    State.startGroups (s.startGroup g decision gamma) decision global exempt rest

/-! ### Telltales (R303 to R306) -/

/-- U compared with r² × V, exactly: greater, or less. -/
def ratioHit (high : Bool) (u v r : W32) : Bool :=
  match ofF32 u, ofF32 v, ofF32 r with
  | .num _ mu eu, .num false mv ev, .num _ mr er =>
    if mv = 0 ∨ mr = 0 then false
    else if high then gtScaled mu eu (mr * mr * mv) (2 * er + ev)
    else gtScaled (mr * mr * mv) (2 * er + ev) mu eu
  | _, _, _ => false

/-- The ratio telltales and NORMS of a group after APPLY (R303). -/
def State.ratioTelltale (s : State) (g : Nat) : State :=
  let x := s.groupRun g
  let r := Reg.TELLTALE_STATUS g
  let s1 := (s.setFld (Reg.TELLTALE_NORMS g) Fl.TELLTALE_NORMS_U x.u.toNat).setFld (Reg.TELLTALE_NORMS g)
    Fl.TELLTALE_NORMS_V x.v.toNat
  let low := BitVec.ofNat 32 (s.groupUse g 12 Fl.GROUP_TELLTALE_RATIO_LOW)
  let high := BitVec.ofNat 32 (s.groupUse g 12 Fl.GROUP_TELLTALE_RATIO_HIGH)
  let s2 := if ratioHit false x.u x.v low then s1.setFld r Fl.TELLTALE_STATUS_RATIO_LOW_HIT 1 else s1
  if ratioHit true x.u x.v high then s2.setFld r Fl.TELLTALE_STATUS_RATIO_HIGH_HIT 1 else s2

/-- The count of zero addends (R304). -/
def State.zeroTelltale (s : State) (g : Nat) : State :=
  let n := (s.groupRun g).latchedZero
  let limit := s.fld (Reg.TELLTALE_ZERO g) Fl.TELLTALE_ZERO_LIMIT
  let s1 := s.setFld (Reg.TELLTALE_ZERO g) Fl.TELLTALE_ZERO_COUNT (min n 0xFFFFFFFF)
  if limit ≠ 0 ∧ limit < n then s1.setFld (Reg.TELLTALE_STATUS g) Fl.TELLTALE_STATUS_ZERO_HIT 1 else s1

/-- The silent-layer telltale (R305). -/
def State.silentTelltale (s : State) (t g : Nat) : State :=
  let r := Reg.TELLTALE_STATUS g
  if (s.groupRun g).allZero then
    let n := min 65535 (s.fld r Fl.TELLTALE_STATUS_ZERO_STEPS + 1)
    let limit := s.fld (Reg.GROUP_WINDOW g) Fl.GROUP_WINDOW_SILENT_STEPS
    let s1 := s.setFld r Fl.TELLTALE_STATUS_ZERO_STEPS n
    if limit ≠ 0 ∧ limit ≤ n ∧ s.flag r Fl.TELLTALE_STATUS_SILENT = false then
      (s1.setFld r Fl.TELLTALE_STATUS_SILENT 1).raise
        { cond := .silentLayer, ribbon := .notice, source := source 4 (s.groupUnit g) 0, tenant := some t,
          detail := g + s.fld (Reg.GROUP_STEP g) Fl.GROUP_STEP_STEP * 2 ^ 32, counters := [Reg.GATE_SILENT_LAYER t] }
    else s1
  else (s.setFld r Fl.TELLTALE_STATUS_ZERO_STEPS 0).setFld r Fl.TELLTALE_STATUS_SILENT 0

/-- The four telltale bits of a group. -/
def State.telltaleBits (s : State) (g : Nat) : Nat := (s.rd (Reg.TELLTALE_STATUS g)).toNat % 16

/-- Evaluates the telltales of a group at its commit; a bit that turns to 1 counts at TELLTALE_KNOT (R303 to R307). -/
def State.telltales (s : State) (t g decision : Nat) : State :=
  let frozen := s.groupFrozen g
  let s1 := if decision = 1 ∧ frozen = false then s.ratioTelltale g else s
  let s2 := s1.zeroTelltale g
  let s3 := if frozen then s2 else s2.silentTelltale t g
  let rose := (List.range 4).any (fun i => bitsOf (s3.telltaleBits g) i 1 == 1 && bitsOf (s.telltaleBits g) i 1 == 0)
  if rose && s3.flag (Reg.TELLTALE_CONTROL g) Fl.TELLTALE_CONTROL_EN then
    s3.knotDo (s3.fld (Reg.TELLTALE_CONTROL g) Fl.TELLTALE_CONTROL_KNOT) (.add 1)
  else s3

/-! ### The commit (R273, R297, R301) -/

/-- Commits a group: STEP and APPLIED, POWERS, its telltales, and the end of its indications. -/
def State.commitGroup (s : State) (t g decision : Nat) : State :=
  let x := s.groupRun g
  let r := Reg.GROUP_STEP g
  let s1 := s.setFld r Fl.GROUP_STEP_STEP (s.fld r Fl.GROUP_STEP_STEP + 1)
  let s2 := if decision = 1 then
      ((s1.setFld r Fl.GROUP_STEP_APPLIED (s1.fld r Fl.GROUP_STEP_APPLIED + 1)).setFld (Reg.GROUP_POWERS g)
        Fl.GROUP_POWERS_POW1 x.p1.toNat).setFld (Reg.GROUP_POWERS g) Fl.GROUP_POWERS_POW2 x.p2.toNat
    else s1
  let s3 := ((s2.setGroupPhase g 0).telltales t g decision).setFld (Reg.GROUP_STATUS g) Fl.GROUP_STATUS_STRICT_FAIL 0
  (s3.setGroupRun g { s3.groupRun g with nonfinite := false, zeroAdds := 0, member := false }).endLeaving g

/-- Commits a list of groups. -/
def State.commitGroups (s : State) (t decision : Nat) : List Nat → State
  | [] => s
  | g :: rest => State.commitGroups (s.commitGroup t g decision) t decision rest

/-- The loss scale after a commit (R301). -/
def State.stepScale (s : State) (t decision : Nat) : State :=
  let e := s.lossExp t
  let b := s.scaleBounds t
  let clean := s.fld (Reg.CLEAN_STEPS t) Fl.CLEAN_STEPS_COUNT
  let put := fun (e : Int) (c : Nat) => (s.setFld (Reg.LOSS_SCALE t) Fl.LOSS_SCALE_EXP (unsignedOf 8 e)).setFld
    (Reg.CLEAN_STEPS t) Fl.CLEAN_STEPS_COUNT c
  if decision = 2 then put (max (e - 1) b.1) 0
  else if max 1 (s.fld (Reg.LOSS_SCALE t) Fl.LOSS_SCALE_GROWTH_STEPS) ≤ clean + 1 then put (min (e + 1) b.2) 0
  else s.setFld (Reg.CLEAN_STEPS t) Fl.CLEAN_STEPS_COUNT (clean + 1)

/-- Writes 2^E to SCALE_ADDR when it is enabled (R297); nothing is written outside T0 and T1 or where the tenant may not
write (notes/assumptions/29). -/
def State.writeScale (s : State) (t : Nat) : State :=
  let a := s.fld (Reg.SCALE_ADDR t) Fl.SCALE_ADDR_ADDR / 4 * 4
  if s.flag (Reg.SCALE_ADDR t) Fl.SCALE_ADDR_EN && (tierAt a == some 0 || tierAt a == some 1) && s.tenantMay (some t) a 4 true
  then s.store a (bytesLE 4 (pow2F (s.lossExp t)).toNat) []
  else s

/-- The commit of a step (R297). The machine is in REDUCE for the next one; STEP_KNOT follows by STEP_KNOT_ADD. -/
def State.commitStep (s : State) (t : Nat) : State :=
  let x := s.gateRun t
  let k := s.gateStep t
  let s1 := ((s.commitGroups t x.decision (s.gateMembers t)).stepScale t x.decision).setFld (Reg.GATE_STEP t)
    Fl.GATE_STEP_STEP (k + 1)
  let s2 := ((s1.gateLast t k x.decision x.clipped).staleDigest t).writeScale t
  let owed := (s.flag (Reg.GATE_CONTROL t) Fl.GATE_CONTROL_STEP_KNOT_EN).toNat
  (s2.setGateRun t { s2.gateRun t with since := none, raised := false, due := x.due + owed }).setGateState t 1

/-- Commits when every member is APPLIED. -/
def State.checkGate (s : State) (t : Nat) : State :=
  if s.gateState t = 4 ∧ (s.gateMembers t).all (fun g => s.phaseOf_ g == 3) = true then s.commitStep t else s

/-- Commits every step whose last group has been applied. -/
def State.checkGates (s : State) : State := iterate (fun t s => s.checkGate t) 32 0 s

/-- The totals are held: the decision (R294 to R296, R298). -/
def State.decideStep (s : State) (t : Nat) (v : GateVector) : State :=
  let x := s.gateRun t
  let mask := causeMask v x
  let decision := decisionOf mask
  let s1 := (s.wr (Reg.GATE_SUM_LOW t) (BitVec.ofNat 64 v.sumSq)).wr (Reg.GATE_SUM_HIGH t)
    (BitVec.ofNat 64 (v.sumSq / 2 ^ 64))
  let s2 := (s1.setFld (Reg.GATE_LAST t) Fl.GATE_LAST_CAUSES mask).reportCauses t mask true (List.range 6)
  if decision = 3 then (s2.gateLast t (s2.gateStep t) 3 false).refuseStep t mask
  else
    let clipped := decision == 1 && normBeyond v.sumSq x.gw x.e x.clip
    let c := clipFactor v.sumSq x
    let one := pow2F (-x.e)
    let s3 := if clipped then (s2.setFld (Reg.GATE_NORM t) Fl.GATE_NORM_NORM c.1.toNat).setFld (Reg.GATE_NORM t)
        Fl.GATE_NORM_GAMMA c.2.toNat
      else s2
    let s4 := (s3.setGateRun t { s3.gateRun t with since := none, decision := decision, clipped := clipped }).setGateState t 4
    (s4.startGroups decision (if clipped then c.2 else one) one (s4.gateMembers t)).checkGate t

/-! ### The gate channel (R292, R293, R362) -/

/-- The 64 bytes of a gate vector (R292). -/
def GateVector.bytes (v : GateVector) : List Byte :=
  bytesLE 16 v.sumSq ++ bytesLE 8 v.nonfinite ++ bytesLE 8 v.overflow ++ bytesLE 8 v.strict ++ bytesLE 8 v.skew
    ++ bytesLE 8 v.mismatch ++ bytesLE 4 v.step ++ bytesLE 4 0

/-- The gate vector of 64 bytes. -/
def GateVector.ofBytes (bs : List Byte) : GateVector :=
  let f := fun (lo n : Nat) => natLE ((bs.drop lo).take n)
  { sumSq := f 0 16, nonfinite := f 16 8, overflow := f 24 8, strict := f 32 8, skew := f 40 8, mismatch := f 48 8,
    step := f 56 4 }

/-- The shape bytes of the gate channel: ALL_REDUCE, LONG_CELL, DIRECT, one element (notes/assumptions/27). -/
def gateShape : List Byte := [3, 0, 1, 0, 0, 0, 0, 0]

/-- Adds one contribution to totals (R292, R293). -/
def GateVector.combine (k : Nat) (v : GateVector) (p : GatePart) : GateVector :=
  let x := p.vec
  let skewed := (!p.replaced && x.step != k).toNat
  { sumSq := (longAdd v.sumSq (signedOf 128 x.sumSq)).1, nonfinite := (v.nonfinite + x.nonfinite) % 2 ^ 64,
    overflow := (v.overflow + x.overflow) % 2 ^ 64, strict := (v.strict + x.strict) % 2 ^ 64,
    skew := (v.skew + x.skew + skewed) % 2 ^ 64, mismatch := (v.mismatch + x.mismatch) % 2 ^ 64, step := k }

/-- The group ID that GATE_WINDOW.GROUP names: a group number, or an ID from 65,280 up (notes/assumptions/27). -/
def gateGroup (g : Nat) : Nat := if 65280 ≤ g then g else 65280 + g % 256

/-- The totals are held when every member of the group has contributed (R293). -/
def State.gatherGate (s : State) (t : Nat) : State :=
  let x := s.gateRun t
  match x.group with
  | none => s
  | some g =>
    let seq := (x.sent + 65535) % 65536
    let mine := x.parts.filter (fun p => p.seq == seq)
    let m := s.fld (Reg.MCAST (gateGroup g - 65280)) Fl.MCAST_MEMBERS + 1
    if s.gateState t = 3 ∧ x.unsent = false ∧ m ≤ mine.length then
      (s.setGateRun t { x with parts := x.parts.filter (fun p => p.seq != seq) }).decideStep t
        (mine.foldl (fun v p => v.combine (s.gateStep t) p) {})
    else s

/-- A contribution to tenant t's gate (R293); a second one of a device for the same gate is left out. -/
def State.takePart (s : State) (t : Nat) (p : GatePart) : State :=
  let x := s.gateRun t
  if x.parts.any (fun q => q.seq == p.seq && q.device == p.device) then s
  else (s.setGateRun t { x with parts := x.parts ++ [p] }).gatherGate t

/-- The shared digest of a tenant is CURRENT (R365). -/
def State.digestCurrent (s : State) (t : Nat) : Bool := s.flag (Reg.DIGEST_STATUS t) Fl.DIGEST_STATUS_CURRENT

/-- Sends the device's own vector once its digest is CURRENT (R293, R362, R363, R365); a device that is no member of the group
has none to send (notes/assumptions/27). -/
def State.sendGate (s : State) (t : Nat) : State :=
  let x := s.gateRun t
  match x.group with
  | none => s
  | some g =>
    if x.unsent = false ∨ s.digestCurrent t = false
        ∨ s.flag (Reg.MCAST (gateGroup g - 65280)) Fl.MCAST_MEMBER = false then s
    else
      let body := s.digestBytes (Reg.DIGEST t) ++ gateShape ++ x.own.bytes
      (s.setGateRun t { x with unsent := false, sent := (x.sent + 1) % 65536 }).sendTxn
        { dest := gateGroup g, src := 0, typ := 7, digest := true, tenant := t, arg := x.sent, payload := body, cls := 0 }
        (.collective (16 + t) x.sent)

/-- The scan is complete: the vector is the totals, or goes to the group (R293). -/
def State.scanDone (s : State) (t : Nat) (v : GateVector) : State :=
  match (s.gateRun t).group with
  | none => ((s.setGateRun t { s.gateRun t with own := v }).setGateState t 3).decideStep t v
  | some _ => ((s.setGateRun t { s.gateRun t with own := v, unsent := true }).setGateState t 3).sendGate t

end Sys2Proof.Machine
end

