-- ==== Sys2Proof/Machine/Gate.lean ====
section
/-! DEFINITION. The step machine's commands (R289 to R301). -/

namespace Sys2Proof.Machine

/-- The fields of GATE_CONTROL that a write sets. -/
def State.writeGateFields (s : State) (t : Nat) (v : Word) : State :=
  let r := Reg.GATE_CONTROL t
  ((s.setFld r Fl.GATE_CONTROL_TRIGGER_KNOT (Fl.GATE_CONTROL_TRIGGER_KNOT.read v)).setFld r Fl.GATE_CONTROL_STEP_KNOT
    (Fl.GATE_CONTROL_STEP_KNOT.read v)).setFld r Fl.GATE_CONTROL_STEP_KNOT_EN (Fl.GATE_CONTROL_STEP_KNOT_EN.read v)

/-- REQ = ARM (R289). -/
def State.armGate (s : State) (t : Nat) : State :=
  if s.gateState t = 0 ∨ s.gateState t = 5 then (s.setGateRun t { s.gateRun t with since := none, raised := false }).setGateState t 1
  else s.gateIgnored t

/-- REQ = DISARM (R289). -/
def State.disarmGate (s : State) (t : Nat) : State :=
  if s.gateState t = 1 ∨ s.gateState t = 5 then
    (s.setGateRun t { s.gateRun t with since := none, raised := false }).setGateState t 0
  else s.gateIgnored t

/-- REQ = ABANDON (R299): effective from REDUCE, SCANNING and GATHERING. No decision has been taken, so GATE_LAST keeps its STEP
and DECISION. -/
def State.abandonGate (s : State) (t : Nat) : State :=
  if 1 ≤ s.gateState t ∧ s.gateState t ≤ 3 then (s.count (Reg.GATE_ABANDONED t)).refuseStep t 64
  else s.gateIgnored t

/-- A write of GATE_CONTROL. -/
def State.writeGateControl (s : State) (t : Nat) (v : Word) : State :=
  let s1 := s.writeGateFields t v
  match Fl.GATE_CONTROL_REQ.read v with
  | 1 => s1.armGate t
  | 2 => s1.disarmGate t
  | 3 => s1.abandonGate t
  | _ => s1

/-- GATE_ARM (R289). -/
def execGateArm (who : Requester) (t : Fin 32) (v : Word) (s : State) : Result :=
  finish (s.begin.guarded who (Reg.GATE_CONTROL t) fun s => s.writeGateControl t (Fl.GATE_CONTROL_REQ.write v 1))

/-- GATE_DISARM (R289). -/
def execGateDisarm (who : Requester) (t : Fin 32) (v : Word) (s : State) : Result :=
  finish (s.begin.guarded who (Reg.GATE_CONTROL t) fun s => s.writeGateControl t (Fl.GATE_CONTROL_REQ.write v 2))

/-- GATE_ABANDON (R299). -/
def execGateAbandon (who : Requester) (t : Fin 32) (v : Word) (s : State) : Result :=
  finish (s.begin.guarded who (Reg.GATE_CONTROL t) fun s => s.writeGateControl t (Fl.GATE_CONTROL_REQ.write v 3))

/-- Takes every valid group of a tenant into the step (R300). -/
def State.joinStep (s : State) : List Nat → State
  | [] => s
  | g :: rest => State.joinStep (s.setGroupRun g { s.groupRun g with member := true }) rest

/-- GATE_TRIGGER (R290, R300, R301): the scan starts with the E, C, L, GW and group that stand now. -/
def execGateTrigger (t : Fin 32) (s : State) : Result :=
  let s := s.begin
  finish (if s.clocked = false ∨ s.gateState t ≠ 1 ∨ s.gateTriggered t = false then s
    else
      let w := Reg.GATE_WINDOW t
      let x : GateRun :=
        { s.gateRun t with
            since := some s.stitchClock, e := s.lossExp t, gw := signedOf 16 (s.fld w Fl.GATE_WINDOW_GW),
            clip := BitVec.ofNat 32 (s.fld (Reg.GATE_LIMITS t) Fl.GATE_LIMITS_CLIP_NORM),
            limit := BitVec.ofNat 32 (s.fld (Reg.GATE_LIMITS t) Fl.GATE_LIMITS_NORM_LIMIT),
            group := if s.flag w Fl.GATE_WINDOW_GROUP_VALID then some (s.fld w Fl.GATE_WINDOW_GROUP) else none,
            own := {}, unsent := false }
      ((s.setGateRun t x).joinStep (s.tenantGroups t)).setGateState t 2)

/-- GATE_SCAN_COMPLETE (R291, R293): a unit that is not ENABLED suspends the scan. -/
def execGateScanComplete (t : Fin 32) (s : State) : Result :=
  let s := s.begin
  finish (if s.clocked = false ∨ s.gateState t ≠ 2
        ∨ (s.gateMembers t).all (fun g => s.unitState (s.groupUnit g) == 0) = false then s
    else
      let r := s.scanGroups t { step := s.gateStep t } (s.gateMembers t)
      r.1.scanDone t r.2)

/-- STEP_KNOT_ADD (R297). -/
def execStepKnotAdd (t : Fin 32) (s : State) : Result :=
  let s := s.begin
  let x := s.gateRun t
  finish (if x.due = 0 then s
    else (s.setGateRun t { x with due := x.due - 1 }).knotDo (s.fld (Reg.GATE_CONTROL t) Fl.GATE_CONTROL_STEP_KNOT) (.add 1))

/-- GATE_WAIT_LIMIT (R299, R189). -/
def execGateWaitLimit (t : Fin 32) (s : State) : Result :=
  let s := s.begin
  let x := s.gateRun t
  let limit := max 1 (s.fld (Reg.GATE_WAIT_LIMIT t) Fl.GATE_WAIT_LIMIT_STITCHES)
  finish (match x.since with
    | none => s
    | some since =>
      if x.raised = false ∧ since + limit ≤ s.stitchClock then
        let k := s.gateKnot t
        (s.setGateRun t { x with raised := true }).raise
          { cond := .waitLimit, ribbon := .fault, source := source 9 t 0, tenant := some t.val,
            detail := k + s.knotCount k * 2 ^ 32 + s.gateTarget t * 2 ^ 64, counters := [Reg.KNOT_WAIT_LIMIT (bankOf k)] }
      else s)

end Sys2Proof.Machine
end

