-- ==== Sys2Proof/Machine/KnotCmd.lean ====
section
/-! DEFINITION. Commands on knots: register writes (R105, R205), remote operations at the destination (R193 to R197), the
application of accepted updates (R195), and the delivery of waiting notifications (R192). -/

namespace Sys2Proof.Machine

/-! ### Transactions that have arrived -/

/-- Whether two arrivals belong to one flow (R345). -/
def sameFlow (a b : Arrival) : Bool :=
  numberedType a.txn.typ && numberedType b.txn.typ && a.txn.src == b.txn.src && a.txn.dest == b.txn.dest
    && a.txn.cls == b.txn.cls

/-- The first arrival that passes a test with no earlier one of its flow before it (R354), and the others. -/
def takeArrival (p : Txn → Bool) (before : List Arrival) : List Arrival → Option (Arrival × List Arrival)
  | [] => none
  | a :: rest =>
    if p a.txn && !before.any (sameFlow a) then some (a, before ++ rest) else takeArrival p (before ++ [a]) rest

/-- The flow of a transaction (R345). -/
def flowOf (t : Txn) : Nat × Nat × Nat := (t.src, t.dest, t.cls)

/-- A host access of an earlier transaction of a flow is still to be answered. -/
def State.hostOwed (s : State) (flow : Nat × Nat × Nat) : Bool :=
  s.dma.any (fun j => match j.owner with
    | .remoteFlush u => flowOf u == flow
    | .remoteRead u => flowOf u == flow
    | _ => false)

/-- Every earlier transaction of its flow is readable or applied, as an update needs; a TEST and a TILE_READ wait for none
(R354). -/
def State.flowReady (s : State) (t : Txn) : Bool :=
  let waits := t.typ == 1 || t.typ == 4 || t.typ == 6 || t.typ == 7
  let knot := t.typ == 5 && bitsOf t.address 17 3 != 3
  !((waits || knot) && s.hostOwed (flowOf t)) && !(waits && s.remoteQ.any (fun u => u.flow == flowOf t))

/-- Handles the first arrival that passes a test, once its flow lets it take effect. -/
def State.onArrival (s : State) (p : Txn → Bool) (f : Arrival → State → State) : State :=
  match takeArrival (fun t => p t && s.flowReady t) [] s.net.arrived with
  | some (a, rest) => f a { s with net := { s.net with arrived := rest } }
  | none => s

/-- Whether a transaction is a KNOT_OP of an operation: 0 SET, 1 ADD, 2 FRAY, 3 TEST, 4 ARM (R352). -/
def isKnotOp (op : Nat) (t : Txn) : Bool := t.typ == 5 && bitsOf t.address 17 3 == op

/-- The knot a KNOT_OP names. -/
def opKnot (t : Txn) : Nat := bitsOf t.address 0 17

/-! ### Remote operations (R193, R195 to R197) -/

/-- Answers a KNOT_OP in the reply slot of its port of arrival, or directly where it came from this device (R197, R328). -/
def State.replyKnot (s : State) (a : Arrival) (outcome : Nat) (ge : Bool) : State :=
  let k := opKnot a.txn
  match a.port with
  | none => ((s.answered a.txn.tag s.deviceId (.replied outcome)).settle).releaseHold
  | some p =>
    let r : ReplyEntry := { device := a.txn.src, tag := a.txn.tag, count := s.knotCount k,
                            word := k + outcome % 4 * 2 ^ 17 + ge.toNat * 2 ^ 19, flags := s.knotFlags k }
    s.setPort p { s.port p with replies := (s.port p).replies ++ [r] }

/-- A remote update (R195): refused and counted, or accepted and forwarded to its bank; a duplicate is only answered (R349). -/
def State.remoteUpdate (s : State) (a : Arrival) (ok : Bool) (op : RemoteOp) : State :=
  let k := opKnot a.txn
  if s.remoteAccepted k a.txn.tenant && ok then
    (if a.dup then s else { s with remoteQ := s.remoteQ ++ [⟨k, op, flowOf a.txn⟩] }).replyKnot a 0 false
  else (if a.dup then s else s.count (Reg.KNOT_REMOTE_REFUSED (bankOf k))).replyKnot a 1 false

/-- KNOT_SET (R195). -/
def execKnotSet (s : State) : Result :=
  finish (s.begin.onArrival (isKnotOp 0) fun a s => s.remoteUpdate a true (.set (BitVec.ofNat 32 a.txn.arg)))

/-- KNOT_ADD (R195). -/
def execKnotAdd (s : State) : Result :=
  finish (s.begin.onArrival (isKnotOp 1) fun a s => s.remoteUpdate a true (.add (BitVec.ofNat 32 a.txn.arg)))

/-- KNOT_FRAY (R195). -/
def execKnotFray (s : State) : Result := finish (s.begin.onArrival (isKnotOp 2) fun a s => s.remoteUpdate a true .fray)

/-- KNOT_TEST (R195, R196): the answer of the shadow; a knot that R185 refuses is answered REFUSED. -/
def execKnotTest (s : State) : Result :=
  finish (s.begin.onArrival (isKnotOp 3) fun a s =>
    let k := opKnot a.txn
    if s.remoteAccepted k a.txn.tenant then s.replyKnot a 2 (knotGe (s.knotCount k) a.txn.arg)
    else (if a.dup then s else s.count (Reg.KNOT_REMOTE_REFUSED (bankOf k))).replyKnot a 1 false)

/-- KNOT_ARM (R193, R195). -/
def execKnotArm (s : State) : Result :=
  finish (s.begin.onArrival (isKnotOp 4) fun a s =>
    let ret := bitsOf a.txn.address 32 17
    let target := bitsOf a.txn.address 49 2
    s.remoteUpdate a (s.armTargetOk (opKnot a.txn) target ret)
      (.arm (BitVec.ofNat 32 a.txn.arg) target ret a.txn.src))

/-- The knot operation of an accepted update. -/
def remoteChange : RemoteOp → KnotChange
  | .set v => .set v.toNat
  | .add v => .add v.toNat
  | .fray => .fray 3
  | .arm threshold target returnKnot device => .arm threshold.toNat target (some returnKnot) (some device)

/-- REMOTE_UPDATE_APPLY (R195): the oldest accepted update reaches its bank. -/
def execRemoteUpdateApply (s : State) : Result :=
  let s := s.begin
  finish (match s.remoteQ with
    | u :: rest => ({ s with remoteQ := rest }).knotDo u.knot (remoteChange u.op)
    | [] => s)

/-- NOTIFY_PENDING_DELIVER (R192): waiting records of tenant t are delivered while the ring has space. -/
def execNotifyPendingDeliver (t : Fin 32) (s : State) : Result :=
  let s := s.begin
  finish (s.deliverPending t s.notifies.length)

/-! ### Register writes -/

/-- GEN_INDEX_WRITE (R105, R72): INDEX, or INDEX_HI with `hi`; either clears END. A running shuttle's core ignores it. -/
def execGenIndexWrite (who : Requester) (n : Fin 128) (g : Fin 8) (hi : Bool) (v : Word) (s : State) : Result :=
  let off := if hi then Reg.GEN_INDEX_HI n g else Reg.GEN_INDEX n g
  finish (s.begin.guarded who off fun s =>
    if s.shuttleState n = 1 ∨ s.shuttleState n = 2 then
      s.setFld (Reg.SHUTTLE_STATUS n) Fl.SHUTTLE_STATUS_WRITE_IGNORED 1
    else
      let s1 := if hi then s.setFld off Fl.GEN_INDEX_HI_IDX (Fl.GEN_INDEX_HI_IDX.read v) else s.wr off v
      (s1.healArray off).setFld (Reg.GEN_CONFIG n g) Fl.GEN_CONFIG_END 0)

/-- KNOT_STATE_WRITE (R203, R205). -/
def execKnotStateWrite (who : Requester) (k : Fin 131072) (v : Word) (s : State) : Result :=
  finish (s.begin.guarded who (knotStateReg k) fun s =>
    s.knotDo k (.write (Fl.KNOT_STATE_COUNT.read v) (Fl.KNOT_STATE_FRAYED.read v == 1)))

/-- A write of KNOT ARM (R192, R205): TARGET 2 or 3 has no effect; ARM = 1 arms; ARM = 0 writes the fields and clears ARMED
without a notification. -/
def State.writeKnotArm (s : State) (k : Nat) (v : Word) : State :=
  let target := Fl.KNOT_ARM_TARGET.read v
  let a := knotArmReg k
  if 2 ≤ target then s
  else if Fl.KNOT_ARM_ARM.read v = 1 then
    s.knotDo k (.arm (Fl.KNOT_ARM_THRESHOLD.read v) target (some (Fl.KNOT_ARM_RETURN_KNOT.read v)) none)
  else
    ((((s.readKnot k).setFld a Fl.KNOT_ARM_THRESHOLD (Fl.KNOT_ARM_THRESHOLD.read v)).setFld a Fl.KNOT_ARM_RETURN_KNOT
      (Fl.KNOT_ARM_RETURN_KNOT.read v)).setFld a Fl.KNOT_ARM_TARGET target).disarm k

/-- KNOT_ARM_WRITE (R205): a write with ARM = 1. -/
def execKnotArmWrite (who : Requester) (k : Fin 131072) (v : Word) (s : State) : Result :=
  finish (s.begin.guarded who (knotArmReg k) fun s => s.writeKnotArm k (Fl.KNOT_ARM_ARM.write v 1))

/-- KNOT_DISARM_WRITE (R205): a write with ARM = 0. -/
def execKnotDisarmWrite (who : Requester) (k : Fin 131072) (v : Word) (s : State) : Result :=
  finish (s.begin.guarded who (knotArmReg k) fun s => s.writeKnotArm k (Fl.KNOT_ARM_ARM.write v 0))

end Sys2Proof.Machine
end

