-- ==== Sys2Proof/Machine/Collective.lean ====
section
/-! DEFINITION. The collective engines (R359 to R363, R368), the gate channel's arrivals (R293), and the answers of the
transport that collectives wait for. -/

namespace Sys2Proof.Machine

/-! ### Descriptors (R360) -/

/-- Bytes of an element: LONG_CELL, INT64, BYTE. -/
def elementSize (element : Nat) : Nat := match element with | 0 => 16 | 1 => 8 | _ => 1

/-- ELEMENT of a descriptor. -/
def TierEntry.element (d : TierEntry) : Nat := d.field 2 1
/-- ALGORITHM: 0 RING, 1 DIRECT. -/
def TierEntry.algorithm (d : TierEntry) : Nat := d.field 3 1
/-- The device address SOURCE. -/
def TierEntry.source (d : TierEntry) : Nat := d.field 16 6
/-- The device address DEST. -/
def TierEntry.dest (d : TierEntry) : Nat := d.field 24 6
/-- L of a descriptor. -/
def TierEntry.elements (d : TierEntry) : Nat := d.field 32 4 + 1
/-- DONE_KNOT of a descriptor, when it is enabled. -/
def TierEntry.doneKnot (d : TierEntry) : Option Nat :=
  if bitsOf (d.field 36 4) 31 1 = 1 then some (bitsOf (d.field 36 4) 0 17) else none

/-- A reserved value in a descriptor, BYTE outside ALL_GATHER, or a DIRECT collective beyond 4,096 bytes (R360, R362). -/
def TierEntry.badDescriptor (d : TierEntry) : Bool :=
  d.op == 0 || decide (3 < d.op) || decide (2 < d.element) || (d.element == 2 && d.op != 2) || decide (1 < d.algorithm)
    || decide (4 ≤ d.field 5 1) || d.field 6 2 != 0 || d.field 22 2 != 0 || d.field 30 2 != 0
    || bitsOf (d.field 36 4) 17 14 != 0 || d.field 40 24 != 0
    || (d.algorithm == 1 && decide (4096 < d.elements * elementSize d.element))

/-- The first element of chunk j of L elements over M members (R361). -/
def chunkLo (l m j : Nat) : Nat := j * l / m

/-- The elements of chunk j. -/
def chunkLen (l m j : Nat) : Nat := chunkLo l m (j + 1) - chunkLo l m j

/-! ### Collectives in progress -/

/-- The descriptor as an entry. -/
def CollRun.entry (r : CollRun) : TierEntry := { index := r.index, bytes := r.desc }
/-- Bytes of an element. -/
def CollRun.size (r : CollRun) : Nat := elementSize r.entry.element
/-- L. -/
def CollRun.total (r : CollRun) : Nat := r.entry.elements
/-- First element of chunk j. -/
def CollRun.lo (r : CollRun) (j : Nat) : Nat := chunkLo r.total r.members j
/-- Elements of chunk j. -/
def CollRun.len (r : CollRun) (j : Nat) : Nat := chunkLen r.total r.members j

/-- The bytes that the operation reads at SOURCE: one chunk for ALL_GATHER, L elements otherwise (notes/assumptions/30). -/
def CollRun.srcLen (r : CollRun) : Nat := (if r.entry.op = 2 then r.len r.me else r.total) * r.size

/-- The bytes that the operation writes at DEST: one chunk for REDUCE_SCATTER, L elements otherwise (notes/assumptions/30). -/
def CollRun.destLen (r : CollRun) : Nat := (if r.entry.op = 1 then r.len r.me else r.total) * r.size

/-- Whether a sequence number belongs to the collective: its own, and for ALL_REDUCE by RING the next one, which its
ALL_GATHER takes (notes/assumptions/27). -/
def CollRun.hasSeq (r : CollRun) (q : Nat) : Bool :=
  q == r.seq || (r.entry.op == 3 && r.entry.algorithm == 0 && q == (r.seq + 1) % 65536)

/-- Adds elements of n bytes: long_add for LONG_CELL, addition modulo 2^64 for INT64 (R360). -/
def addElements (element : Nat) : (n : Nat) → List Byte → List Byte → List Byte
  | 0, _, _ => []
  | n + 1, xs, ys =>
    let k := elementSize element
    let x := natLE (xs.take k)
    let y := natLE (ys.take k)
    let z := if element = 0 then (longAdd x (signedOf 128 y)).1 else (x + y) % 2 ^ 64
    bytesLE k z ++ addElements element n (xs.drop k) (ys.drop k)

/-- Replaces the collective of engine e. -/
def State.setRun (s : State) (e : Nat) (r : CollRun) : State := s.setCollE e { s.collE e with run := some r }

/-- The SAMPLER_MISMATCH of the fabric (R366, R455): occasion 0 reference, 1 beacon, 2 collective; 4 added for the device
digest. -/
def State.samplerMismatch (s : State) (t : Option Nat) (other occasion : Nat) : State :=
  s.raise { cond := .samplerMismatch, ribbon := .fault, source := source 0 0 0, tenant := t,
            detail := other % 2 ^ 16 + occasion * 2 ^ 16, counters := [Reg.ROUTE_SAMPLER_MISMATCH] }

/-- A descriptor completes with a status (R359, R368): 0 OK, 1 CANCELLED, 2 ABORTED, 3 FRAYED_KNOT, 4 SAMPLER_MISMATCH, 5
INVALID. A knot that is not the tenant's is left alone (notes/assumptions/22). -/
def State.endDescriptor (s : State) (e : Nat) (d : TierEntry) (st : Nat) : State :=
  let s1 := s.setFld (Reg.COLLECTIVE_STATUS e) Fl.COLLECTIVE_STATUS_LAST_STATUS st
  match d.doneKnot with
  | some k =>
    if s1.knotOwned k (s1.collectiveTenant e) then
      s1.knotDo k (if st = 0 then .add 1 else .fray (match st with | 1 => 0 | 3 => 2 | _ => 1))
    else s1
  | none => s1

/-- A draining engine that runs nothing is DISABLED (R98). -/
def State.checkCollUnit (s : State) (e : Nat) : State :=
  if s.collUnit e = 1 ∧ (s.collE e).run.isNone = true then
    (s.setFld (Reg.COLLECTIVE_STATUS e) Fl.COLLECTIVE_STATUS_STATE 2).drainEnded (.collective e)
  else s

/-- The ABORTED record of an engine (R455). -/
def State.collAborted (s : State) (e cause address device count : Nat) : State :=
  s.raise { cond := .aborted, ribbon := .fault, source := source 8 e 0, tenant := s.collectiveTenant e,
            detail := address % 2 ^ 48 + cause % 256 * 2 ^ 56 + count % 65536 * 2 ^ 64 + device % 65536 * 2 ^ 80 }

/-- Forgets what is stored for a collective. -/
def State.dropStored (s : State) (r : CollRun) : State :=
  { s with coll := { s.coll with
      stored := s.coll.stored.filter (fun t => !(t.tenant == r.tenant && r.hasSeq (t.arg % 65536))),
      refused := s.coll.refused.filter (fun x => !(x.1 == r.tenant && r.hasSeq x.2)) } }

/-- Ends the collective of engine e; one that does not end OK leaves undefined values at DEST (R359). -/
def State.endColl (s : State) (e : Nat) (r : CollRun) (st : Nat) : State :=
  let s1 := if st = 0 ∨ inHost r.entry.dest = true then s else s.freeSpans [(r.entry.dest, r.destLen)]
  let s2 := (s1.setCollE e { s1.collE e with run := none }).dropStored r
  (s2.endDescriptor e r.entry st).checkCollUnit e

/-- Completes a collective when every element has arrived, every transaction has been answered, and what it wrote to the host
is visible (R359, R419). -/
def State.checkColl (s : State) (e : Nat) : State :=
  match (s.collE e).run with
  | none => s
  | some r =>
    if r.begun = false ∨ r.due ≠ 0 ∨ r.outstanding ≠ 0 ∨ r.flushing = true then s
    else
      match r.hostTail with
      | some (f, w, a) =>
        if s.canDma f then (s.setRun e { r with flushing := true }).flushHost (.collectiveFlush e) r.tenant f w a
        else ((s.dmaError f).collAborted e 6 a 0 1).endColl e r 2
      | none => s.endColl e r 0

/-- Writes elements at DEST from element `pos` on; where the host cannot be reached the collective ends (R420). -/
def State.writeDest (s : State) (e : Nat) (r : CollRun) (pos : Nat) (bytes : List Byte) : State :=
  let a := r.entry.dest + pos * r.size
  if bytes = [] then s
  else if inHost a then
    if s.piecesOpen (s.writePieces r.map a bytes.length) then
      (s.hostStore r.map a bytes []).setRun e { r with hostTail := some (HostMap.last r.map a bytes.length) }
    else ((s.dmaError (HostMap.find r.map a).1).collAborted e 6 (HostMap.find r.map a).2.2 0 1).endColl e r 2
  else (s.store a bytes []).setRun e r

/-- The shape bytes (R363). -/
def CollRun.shapeBytes (r : CollRun) : List Byte :=
  [BitVec.ofNat 8 r.entry.op, BitVec.ofNat 8 r.entry.element, BitVec.ofNat 8 r.entry.algorithm, 0] ++ (r.desc.drop 32).take 4

/-- Sends one COLLECTIVE transaction of engine e: the first one carries the digest and the shape (R352, R363). -/
def State.sendPart (s : State) (e seq step chunk off : Nat) (data : List Byte) : State :=
  match (s.collE e).run with
  | none => s
  | some r =>
    let dest := if r.entry.algorithm = 1 then 65280 + r.group else r.next
    let body := if r.first then s.digestBytes (Reg.DIGEST r.tenant) ++ r.shapeBytes ++ data else data
    (s.setRun e { r with first := false, outstanding := r.outstanding + 1 }).sendTxn
      { dest := dest, src := 0, typ := 7, digest := r.first, tenant := r.tenant, address := off,
        arg := seq + step % 256 * 2 ^ 16 + chunk % 256 * 2 ^ 24, payload := body, cls := r.entry.field 5 1 % 4 }
      (.collective e r.seq)

/-- Sends a run of elements in transactions of at most 4,096 bytes; n bounds how many. -/
def State.sendParts (s : State) (e seq step chunk size : Nat) : (n off : Nat) → List Byte → State
  | 0, _, _ => s
  | n + 1, off, bytes =>
    if bytes = [] then s
    else
      let k := 4096 / size
      State.sendParts (s.sendPart e seq step chunk off (bytes.take (k * size))) e seq step chunk size n (off + k)
        (bytes.drop (k * size))

/-! ### Contributions -/

/-- The part of SOURCE that holds elements of chunk j from `off`. -/
def CollRun.srcPart (r : CollRun) (j off n : Nat) : List Byte := (r.src.drop ((r.lo j + off) * r.size)).take n

/-- A contribution under RING (R361): in the reduce-scatter it is added to the chunk's elements of SOURCE and goes on, or is
the total; in the all-gather it is written and goes on. -/
def State.ringPart (s : State) (e : Nat) (r : CollRun) (t : Txn) (data : List Byte) : State :=
  let step := bitsOf t.arg 16 8
  let chunk := bitsOf t.arg 24 8 % r.members
  let off := t.address % 2 ^ 48
  let n := data.length / r.size
  let q := { r with due := r.due - n, last := s.stitchClock }
  let lastStep := decide (r.members ≤ step + 2)
  if r.entry.op ≠ 2 ∧ t.arg % 65536 = r.seq then
    let sum := addElements r.entry.element n (r.srcPart chunk off data.length) data
    if lastStep = false then (s.setRun e q).sendPart e r.seq (step + 1) chunk off sum
    else if r.entry.op = 1 then s.writeDest e q off sum
    else (s.writeDest e q (r.lo chunk + off) sum).sendPart e ((r.seq + 1) % 65536) 0 chunk off sum
  else
    let s1 := s.writeDest e q (r.lo chunk + off) data
    if lastStep then s1 else s1.sendPart e (t.arg % 65536) (step + 1) chunk off data

/-- A contribution under DIRECT (R362): each one is an addend to a cell that begins at zero, so that their order does not matter. -/
def State.directPart (s : State) (e : Nat) (r : CollRun) (t : Txn) (data : List Byte) : State :=
  if r.from_.contains t.src then s
  else
    let chunk := bitsOf t.arg 24 8 % r.members
    let n := data.length / r.size
    let sums := addElements r.entry.element n (if r.from_ = [] then List.replicate data.length 0 else r.sums) data
    let q := { r with from_ := r.from_ ++ [t.src], due := r.due - 1, last := s.stitchClock, sums := sums }
    if r.entry.op = 2 then (s.setRun e q).writeDest e q (r.lo chunk) data
    else if q.due ≠ 0 then s.setRun e q
    else if r.entry.op = 1 then
      (s.setRun e q).writeDest e q 0 ((sums.drop (r.lo r.me * r.size)).take (r.len r.me * r.size))
    else (s.setRun e q).writeDest e q 0 sums

/-- The data of a contribution, without the digest and the shape. -/
def collData (t : Txn) : List Byte := if t.digest then t.payload.drop 72 else t.payload

/-- A contribution to the collective of engine e. -/
def State.takeContribution (s : State) (e : Nat) (r : CollRun) (t : Txn) : State :=
  (if r.entry.algorithm = 1 then s.directPart e r t (collData t) else s.ringPart e r t (collData t)).checkColl e

/-- Tells the members of the group that the collective has ended (R363). -/
def State.abortGroup (s : State) (r : CollRun) : State :=
  s.sendTxn { dest := 65280 + r.group, src := 0, typ := 7, abort := true, tenant := r.tenant, arg := r.seq,
              cls := r.entry.field 5 1 % 4 } .nobody

/-- The digest or the shape differs (R363): reported; under REFUSE the collective ends, at once or when it starts here. The second
part says REFUSE. -/
def State.mismatch (s : State) (t : Txn) (run : Option (Nat × CollRun)) : State × Bool :=
  let s1 := s.samplerMismatch (some t.tenant) t.src 2
  if s1.fld Reg.BRIDE_ROUTE_CONTROL Fl.BRIDE_ROUTE_CONTROL_DIGEST_POLICY = 1 then (s1, false)
  else
    match run with
    | some (e, r) => ((s1.endColl e r 4).abortGroup r, true)
    | none => ({ s1 with coll := { s1.coll with refused := s1.coll.refused ++ [(t.tenant, t.arg % 65536)] } }, true)

/-- The engine whose collective a transaction belongs to. -/
def State.collOf (s : State) (t : Txn) : Option (Nat × CollRun) :=
  s.coll.engines.findSome? (fun p =>
    match p.2.run with
    | some r => if r.tenant = t.tenant ∧ r.hasSeq (t.arg % 65536) = true then some (p.1, r) else none
    | none => none)

/-- The stored transaction of a collective that came first, and the others. -/
def takeStored (r : CollRun) : List Txn → Option (Txn × List Txn)
  | [] => none
  | t :: rest =>
    if t.tenant = r.tenant ∧ r.hasSeq (t.arg % 65536) = true then some (t, rest)
    else
      match takeStored r rest with
      | some (u, others) => some (u, t :: others)
      | none => none

/-- Takes what was stored for the collective of engine e; n bounds how many. -/
def State.drainStored (s : State) (e : Nat) : (n : Nat) → State
  | 0 => s
  | n + 1 =>
    match (s.collE e).run with
    | none => s
    | some r =>
      match takeStored r s.coll.stored with
      | none => s
      | some (t, rest) =>
        let s1 := { s with coll := { s.coll with stored := rest } }
        if t.abort then s1.endColl e r 4
        else if t.digest && (t.payload.drop 64).take 8 != r.shapeBytes then
          let m := s1.mismatch t (some (e, r))
          if m.2 then m.1 else (m.1.takeContribution e r t).drainStored e n
        else (s1.takeContribution e r t).drainStored e n

/-- The first step of a collective once SOURCE has been read and the digest is CURRENT (R361, R362, R365). -/
def State.beginColl (s : State) (e : Nat) : State :=
  match (s.collE e).run with
  | none => s
  | some r =>
    if r.ready = false ∨ r.begun = true ∨ s.digestCurrent r.tenant = false then s
    else
      if s.coll.refused.any (fun x => x.1 == r.tenant && r.hasSeq x.2) then (s.endColl e r 4).abortGroup r
      else
      let q := { r with begun := true, last := s.stitchClock }
      let s1 := s.setRun e q
      let whole := r.srcLen
      let s2 :=
        if r.entry.algorithm = 1 then s1.sendPart e r.seq 0 r.me 0 r.src
        else if r.entry.op = 2 then
          (s1.writeDest e q (r.lo r.me) r.src).sendParts e r.seq 0 r.me r.size (if r.members = 1 then 0 else whole) 0 r.src
        else if r.members = 1 then s1.writeDest e q 0 r.src
        else
          let j := (r.me + r.members - 1) % r.members
          s1.sendParts e r.seq 0 j r.size whole 0 (r.srcPart j 0 (r.len j * r.size))
      (s2.drainStored e s2.coll.stored.length).checkColl e

/-! ### Starting descriptors (R359) -/

/-- Takes the front descriptor out of the ring. -/
def State.popColl (s : State) (e : Nat) (d : TierEntry) : State :=
  let x := s.collE e
  let size := 2 ^ s.fld (Reg.COLLECTIVE_LIST_SIZE e) Fl.COLLECTIVE_LIST_SIZE_SIZE
  (s.setCollE e { x with staged := x.staged.drop 1 }).setFld (Reg.COLLECTIVE_STATUS e) Fl.COLLECTIVE_STATUS_READ_PTR
    ((d.index + 1) % size)

/-- The elements that a member awaits (R361, R362). -/
def CollRun.awaited (r : CollRun) : Nat :=
  if r.entry.algorithm = 1 then r.members
  else if r.members = 1 then 0
  else
    let scatter := r.total - r.len ((r.me + r.members - 1) % r.members)
    let gather := r.total - r.len r.me
    match r.entry.op with | 1 => scatter | 2 => gather | _ => scatter + gather

/-- The ring of engine e. -/
def State.collRing (s : State) (e : Nat) : Nat := 2 ^ s.fld (Reg.COLLECTIVE_LIST_SIZE e) Fl.COLLECTIVE_LIST_SIZE_SIZE

/-- DOORBELL.WRITE_PTR. -/
def State.collWp (s : State) (e : Nat) : Nat :=
  s.fld (Reg.COLLECTIVE_DOORBELL e) Fl.COLLECTIVE_DOORBELL_WRITE_PTR % s.collRing e

/-- Fetches the descriptor at ring index `fetch`, as R217 states for schedule lists. -/
def State.fetchDescriptor (s : State) (e : Nat) : State :=
  let i := (s.collE e).fetch
  let a := s.fld (Reg.COLLECTIVE_LIST_BASE e) Fl.COLLECTIVE_LIST_BASE_ADDR + i * 64
  let t := s.collectiveTenant e
  let put := fun (s : State) (bytes : List Byte) =>
    s.setCollE e { s.collE e with staged := (s.collE e).staged ++ [{ index := i, bytes := bytes }],
                                  fetch := (i + 1) % s.collRing e }
  if !s.tenantMay t a 64 false then put s (List.replicate 64 0)
  else if inHost a then
    if s.piecesOpen (s.readPieces a 64) then (put s []).startReads (.collectiveList e i) (t.getD 0) 64 (s.readPieces a 64)
    else put (s.dmaError (s.hostAddress a).1) (List.replicate 64 0)
  else
    let l := s.load t .stream a 64
    put l.s (if l.poison.isEmpty then l.bytes else List.replicate 64 0)

/-- Fetches descriptors up to WRITE_PTR; n bounds how many. -/
def State.fetchColl (s : State) (e : Nat) : (n : Nat) → State
  | 0 => s
  | n + 1 => if (s.collE e).fetch = s.collWp e then s else (s.fetchDescriptor e).fetchColl e n

/-- A collective whose SOURCE or DEST cannot be reached completes ABORTED. -/
def State.failColl (s : State) (e : Nat) (d : TierEntry) (cause a : Nat) : State :=
  (s.collAborted e cause a 0 1).endDescriptor e d 2

/-- Reads SOURCE: at once from the device, through the host links from a window. -/
def State.readSource (s : State) (e : Nat) (r : CollRun) : State :=
  let d := r.entry
  if inHost d.source then
    let ps := s.readPieces d.source r.srcLen
    if s.piecesOpen ps then (s.setRun e r).startReads (.collectiveRead e) r.tenant r.srcLen ps
    else (s.dmaError (s.hostAddress d.source).1).failColl e d 6 (s.hostAddress d.source).2.2
  else
    let l := s.load (some r.tenant) .stream d.source r.srcLen
    if l.poison.isEmpty then (l.s.setRun e { r with ready := true, src := l.bytes }).beginColl e
    else l.s.failColl e d 7 d.source

/-- A descriptor completes INVALID (R360, R217). -/
def State.descriptorInvalid (s : State) (e : Nat) (d : TierEntry) : Bool :=
  d.badDescriptor || s.badTrigger (s.collectiveTenant e) d
    || (match d.doneKnot with | some k => !s.knotOwned k (s.collectiveTenant e) | none => false)
    || !s.flag (Reg.MCAST (d.field 4 1)) Fl.MCAST_MEMBER

/-- Starts the front descriptor of engine e. -/
def State.startColl (s : State) (e : Nat) (d : TierEntry) : State :=
  let s1 := s.popColl e d
  let t := s1.collectiveTenant e
  let u := t.getD 0
  if s1.descriptorInvalid e d then s1.endDescriptor e d 5
  else if d.trigger == 2 && s1.knotError d.knot then (s1.takeKnotError d.knot).endDescriptor e d 3
  else
    let g := d.field 4 1
    let m := Reg.MCAST g
    let seq := Sparse.get (fun _ => 0) s1.coll.seqs u
    let r0 : CollRun :=
      { desc := d.bytes, index := d.index, tenant := u, seq := seq, group := g, me := s1.fld m Fl.MCAST_INDEX,
        members := s1.fld m Fl.MCAST_MEMBERS + 1, next := s1.fld m Fl.MCAST_NEXT, last := s1.stitchClock }
    let r := { r0 with due := r0.awaited }
    let used := if d.op = 3 ∧ d.algorithm = 0 then 2 else 1
    let s2 := { s1 with coll := { s1.coll with seqs := Sparse.set (fun _ => 0) s1.coll.seqs u ((seq + used) % 65536) } }
    if !s2.tenantMay t d.source r.srcLen false then s2.failColl e d 2 d.source
    else if !s2.tenantMay t d.dest r.destLen true then s2.failColl e d 2 d.dest
    else s2.readSource e { r with map := s2.hostMap r.entry.dest r.destLen }

/-- A row of R360: the front descriptor of engine e starts when it has the row's OP and its trigger holds. -/
def State.collRow (s : State) (e : Nat) (p : Nat → Bool) : State :=
  match s.collFront e with
  | some d =>
    if p d.op && s.triggerHolds (s.collectiveTenant e) d then
      let s1 := s.startColl e d
      s1.fetchColl e (16384 - (s1.collE e).staged.length)
    else s
  | none => s

/-- REDUCE_SCATTER (R361); the reserved operations are descriptors that complete INVALID (R360; notes/assumptions/23). -/
def execReduceScatter (e : Fin 16) (s : State) : Result :=
  finish (s.begin.collRow e fun op => op == 1 || op == 0 || decide (3 < op))

/-- ALL_GATHER (R361). -/
def execAllGather (e : Fin 16) (s : State) : Result := finish (s.begin.collRow e (· == 2))

/-- ALL_REDUCE (R361). -/
def execAllReduce (e : Fin 16) (s : State) : Result := finish (s.begin.collRow e (· == 3))

/-! ### Service (R359, R98) -/

/-- Cancels the descriptors at the front that have been fetched; n bounds how many. -/
def State.cancelDescriptors (s : State) (e : Nat) : (n : Nat) → State × Nat
  | 0 => (s, 0)
  | n + 1 =>
    match (s.collE e).staged with
    | [] => (s, 0)
    | d :: _ =>
      if d.here then
        let r := ((s.popColl e d).endDescriptor e d 1).cancelDescriptors e n
        (r.1, r.2 + 1)
      else (s, 0)

/-- Cancels every descriptor that has not started and has arrived, with the CANCELLED record (R455). -/
def State.cancelColl (s : State) (e : Nat) : State :=
  let s1 := s.fetchColl e 65536
  let r := s1.cancelDescriptors e (s1.collE e).staged.length
  if r.2 = 0 then r.1
  else
    r.1.raise { cond := .cancelled, ribbon := .notice, source := source 8 e 0, tenant := r.1.collectiveTenant e,
                detail := r.2 % 2 ^ 32 + r.1.entryStitch (.collective e) % 2 ^ 64 * 2 ^ 32 }

/-- A doorbell of a collective engine (R359, R96). -/
def State.ringColl (s : State) (e ptr : Nat) : State :=
  if s.collectiveAbsent e then
    s.raise { cond := .absentUnit, ribbon := .fault, source := source 8 e 0, tenant := s.collectiveTenant e,
              detail := source 8 e 0 }
  else
    let s1 := s.setFld (Reg.COLLECTIVE_DOORBELL e) Fl.COLLECTIVE_DOORBELL_WRITE_PTR (ptr % s.collRing e)
    if s1.collUnit e = 0 then s1.fetchColl e (16384 - (s1.collE e).staged.length) else s1.cancelColl e

/-- COLLECTIVE_DOORBELL (R359). -/
def execCollectiveDoorbell (who : Requester) (e : Fin 16) (ptr : BitVec 16) (s : State) : Result :=
  let s := s.begin
  finish (if s.mayRing who (s.collectiveTenant e) (Reg.COLLECTIVE_DOORBELL e) then s.ringColl e ptr.toNat else s)

/-- The read of a descriptor has returned; the second argument is empty where it failed or brought poison. -/
def State.collListDone (s : State) (e i : Nat) (bytes : List Byte) : State :=
  let b := if bytes.length = 64 then bytes else List.replicate 64 0
  let x := s.collE e
  let s1 := s.setCollE e { x with staged := x.staged.map (fun d => if d.index = i ∧ d.here = false then { d with bytes := b } else d) }
  if s1.collUnit e = 0 then s1 else s1.cancelColl e

/-- The read of SOURCE has returned, `bad` where poison came with it. -/
def State.collReadDone (s : State) (e : Nat) (bytes : List Byte) (bad : Bool) : State :=
  match (s.collE e).run with
  | none => s
  | some r =>
    if bad then (s.collAborted e 7 r.entry.source 0 1).endColl e r 2
    else (s.setRun e { r with ready := true, src := bytes }).beginColl e

/-- A host access of the collective failed, at a host address (R420). -/
def State.collHostFail (s : State) (e addr : Nat) : State :=
  match (s.collE e).run with
  | none => s
  | some r => (s.collAborted e 6 (addr % 2 ^ 48) 0 1).endColl e r 2

/-- The read that ends the writes to the host has returned. -/
def State.collFlushDone (s : State) (e : Nat) : State :=
  match (s.collE e).run with
  | none => s
  | some r => (s.setRun e { r with flushing := false, hostTail := none }).checkColl e

/-- WAIT_LIMIT of engine e; 0 acts as 1. -/
def State.collLimit (s : State) (e : Nat) : Nat :=
  max 1 (s.fld (Reg.COLLECTIVE_LIMITS e) Fl.COLLECTIVE_LIMITS_WAIT_LIMIT)

/-- WAIT_LIMIT of an engine (R219, R368): of a trigger knot, or of a contribution, which names no knot. -/
def State.collWaitLimit (s : State) (e : Nat) (d : Option TierEntry) : State :=
  s.raise { cond := .waitLimit, ribbon := .fault, source := source 8 e 0, tenant := s.collectiveTenant e,
            detail := match d with | some x => x.knot + s.knotCount x.knot * 2 ^ 32 + x.value * 2 ^ 64 | none => 0,
            counters := match d with | some x => [Reg.KNOT_WAIT_LIMIT (bankOf x.knot)] | none => [] }

/-- COLLECTIVE_WAIT_LIMIT (R359, R368): a KNOT trigger, or an awaited contribution. -/
def execCollectiveWaitLimit (e : Fin 16) (s : State) : Result :=
  let s := s.begin
  finish (match (s.collE e).run, s.collWaiting e with
    | some r, _ =>
      if r.begun = true ∧ r.due ≠ 0 ∧ r.last + s.collLimit e ≤ s.stitchClock then
        ((s.collWaitLimit e none).collAborted e 8 0 0 1).endColl e r 2
      else s
    | none, some d =>
      match d.since with
      | some since =>
        if since + s.collLimit e ≤ s.stitchClock then
          (((s.collWaitLimit e (some d)).popColl e d).collAborted e 8 0 0 1).endDescriptor e d 2
        else s
      | none => s
    | none, none => s)

/-- REQ = DRAIN of engine e. -/
def State.drainColl (s : State) (e : Nat) : State :=
  if s.collUnit e = 0 then
    ((s.setFld (Reg.COLLECTIVE_STATUS e) Fl.COLLECTIVE_STATUS_STATE 1).beginDrain (.collective e)).cancelColl e
      |>.checkCollUnit e
  else s

/-- An engine takes REQ = ENABLE: it is DISABLED with nothing in it, and not retired (R98). -/
def State.collEnables (s : State) (e : Nat) : Bool :=
  s.collUnit e == 2 && (s.collE e).staged.isEmpty && (s.collE e).run.isNone && !s.collectiveAbsent e

/-- REQ = ENABLE of engine e. -/
def State.enableColl (s : State) (e : Nat) : State :=
  if s.collEnables e then
    s.setFld (Reg.COLLECTIVE_STATUS e) Fl.COLLECTIVE_STATUS_STATE 0
  else s

/-- COLLECTIVE_DRAIN_REQ (R359). -/
def execCollectiveDrainReq (who : Requester) (e : Fin 16) (s : State) : Result :=
  finish (s.begin.guarded who (Reg.COLLECTIVE_CONTROL e) fun s => s.drainColl e)

/-- COLLECTIVE_ENABLE_REQ (R359). -/
def execCollectiveEnableReq (who : Requester) (e : Fin 16) (s : State) : Result :=
  finish (s.begin.guarded who (Reg.COLLECTIVE_CONTROL e) fun s => s.enableColl e)

/-- COLLECTIVE_DRAIN_LIMIT (R359). -/
def execCollectiveDrainLimit (e : Fin 16) (s : State) : Result :=
  let s := s.begin
  let limit := max 1 (s.fld (Reg.COLLECTIVE_LIMITS e) Fl.COLLECTIVE_LIMITS_DRAIN_LIMIT)
  finish (match s.limitDue (.collective e) limit with
    | none => s
    | some d =>
      let s1 := (s.markTimedOut (.collective e)).unitTimeout (source 8 e 0) d.entry (s.collectiveTenant e) []
      match (s1.collE e).run with
      | some r => (s1.collAborted e 0 0 0 1).endColl e r 2
      | none => s1.checkCollUnit e)

/-! ### Answers and arrivals -/

/-- One answer of a contribution (R353, R363). -/
def State.collAnswered (s : State) (e seq : Nat) (a : Answer) : State :=
  match (s.collE e).run with
  | none => s
  | some r =>
    if r.seq ≠ seq then s
    else if a.result = .acked then (s.setRun e { r with outstanding := r.outstanding - 1 }).checkColl e
    else if a.result = .digest then s.endColl e r 4
    else (s.collAborted e (if a.result = .undeliverable then 5 else 4) a.address a.device 1).endColl e r 2

/-- Takes a list of answers of contributions; those of the gate channel change nothing (R293). -/
def State.collAnswers (s : State) : List Answer → State
  | [] => s
  | a :: rest =>
    State.collAnswers
      (match a.owner with
        | .collective e seq => if e < 16 then s.collAnswered e seq a else s
        | _ => s) rest

/-- Takes every answer that waits, of engine queues and of collectives; a boundary that was held for the last of them fires
(R58). -/
def State.settleAll (s : State) : State :=
  let s1 := s.settle
  let mine := s1.net.answers
  (({ s1 with net := { s1.net with answers := [] } }).collAnswers mine).releaseHold

/-- Answers a numbered transaction with ACK (0) or a NAK reason: 1 BUSY, 2 DIGEST, 3 RIGHTS (R352); one of this device's own
directly. -/
def State.answer (s : State) (a : Arrival) (nak : Nat) : State :=
  if a.txn.src = s.deviceId then
    (s.answered a.txn.tag s.deviceId
      (match nak with | 0 => .acked | 2 => .digest | 3 => .rights | _ => .undeliverable)).settleAll
  else s.sendPlain (s.answerTxn a.txn (if nak = 0 then 8 else 9) nak)

/-- Whether a COLLECTIVE is a contribution on the gate channel (notes/assumptions/27). -/
def isGatePart (t : Txn) : Bool := t.digest && t.payload.length == 136 && (t.payload.drop 64).take 8 == gateShape

/-- A contribution on the gate channel (R293, R363). -/
def State.gateArrival (s : State) (a : Arrival) : State :=
  let t := a.txn
  let vec := GateVector.ofBytes (t.payload.drop 72)
  let part : GatePart := { seq := t.arg % 65536, device := t.src, vec := vec }
  if s.digestMatches t.tenant (t.payload.take 64) then (s.answer a 0).takePart t.tenant part
  else
    let m := s.samplerMismatch (some t.tenant) t.src 2
    if m.fld Reg.BRIDE_ROUTE_CONTROL Fl.BRIDE_ROUTE_CONTROL_DIGEST_POLICY ≠ 1 then (m.answer a 2).takePart t.tenant { part with vec := { mismatch := 1 }, replaced := true }
    else (m.answer a 0).takePart t.tenant part

/-- Stores a transaction of a collective that has not started; one of a collective that has ended is left out. -/
def State.storeColl (s : State) (t : Txn) : State :=
  let next := Sparse.get (fun _ => 0) s.coll.seqs t.tenant
  if (t.arg % 65536 + 65536 - next) % 65536 < 32768 ∨ (s.collOf t).isSome = true then
    { s with coll := { s.coll with stored := s.coll.stored ++ [t] } }
  else s

/-- A transaction of a descriptor collective (R361 to R363). -/
def State.collArrival (s : State) (a : Arrival) : State :=
  let t := a.txn
  let run := s.collOf t
  let shapeBad := match run with | some (_, r) => (t.payload.drop 64).take 8 != r.shapeBytes | none => false
  if !((List.range 16).any (fun e => s.collectiveTenant e == some t.tenant)) then s.answer a 3
  else if t.abort then
    match run with
    | some (e, r) => (s.answer a 0).endColl e r 4
    | none => (s.answer a 0).storeColl t
  else
    let bad := t.digest && (!s.digestMatches t.tenant (t.payload.take 64) || shapeBad)
    let m := if bad then s.mismatch t run else (s, false)
    if m.2 then m.1.answer a 2
    else
      let s1 := m.1.answer a 0
      match s1.collOf t with
      | some (e, r) => if r.begun then s1.takeContribution e r t else s1.storeColl t
      | none => s1.storeColl t

/-- COLLECTIVE (R352, R353, R362, R363): a comparison waits until the tenant's digest is CURRENT (R365). -/
def execCollective (s : State) : Result :=
  let s := s.begin
  finish (s.onArrival (fun t => t.typ == 7 && (!t.digest || s.digestCurrent (t.tenant % 32))) fun a s =>
    if a.dup then s.answer a 0
    else if isGatePart a.txn then s.gateArrival a
    else s.collArrival a)

end Sys2Proof.Machine
end

