-- ==== Sys2Proof/Machine/Fec.lean ====
section
/-! DEFINITION. The forward error correction of a Bride lane (R314, R315): the field GF(2^10), the code RS(272, 256), codeword
pairs, and which pairs of a stripe a flit lies in. The code is linear, so what a decoder answers depends on the symbols that the
channel changed and not on the data (notes/assumptions/116). -/

namespace Sys2Proof.Machine

/-! ### GF(2^10) with x^10 + x^3 + 1 (R314) -/

/-- x times α. -/
def rsDouble (x : Nat) : Nat := if 512 ≤ x then (2 * x) ^^^ 0x409 else 2 * x

/-- The sum of x·α^i over the bits i of y; n bounds the bits. -/
def rsMulBits : (n x y : Nat) → Nat
  | 0, _, _ => 0
  | n + 1, x, y => (if y % 2 = 1 then x else 0) ^^^ rsMulBits n (rsDouble x) (y / 2)

/-- The product of two field elements. -/
def rsMul (x y : Nat) : Nat := rsMulBits 10 x y

/-- x^(2^i) multiplied over the bits i of a 10-bit exponent. -/
def rsPowBits : (n x e : Nat) → Nat
  | 0, _, _ => 1
  | n + 1, x, e => rsMul (if e % 2 = 1 then x else 1) (rsPowBits n (rsMul x x) (e / 2))

/-- α^e. -/
def rsExp (e : Nat) : Nat := rsPowBits 10 2 (e % 1023)

/-- 1 / x for x ≠ 0. -/
def rsInv (x : Nat) : Nat := rsPowBits 10 x 1022

/-! ### The decoder of one codeword -/

/-- The locator of place i of a codeword of 272 symbols: the first symbol is the coefficient of x^271 (notes/assumptions/116). -/
def rsExponent (i : Nat) : Nat := 271 - i

/-- Syndrome j of changed symbols (place, value): the value at α^j (R314: roots α^0 to α^15). -/
def rsSyndrome (errs : List (Nat × Nat)) (j : Nat) : Nat :=
  errs.foldl (fun acc e => acc ^^^ rsMul e.2 (rsExp (j * rsExponent e.1))) 0

/-- The sixteen syndromes. -/
def rsSyndromes (errs : List (Nat × Nat)) : List Nat := (List.range 16).map (rsSyndrome errs)

/-- a + x^m · k · b for polynomials with the constant first. -/
def polyAdd (a b : List Nat) (k m : Nat) : List Nat :=
  (List.range (max a.length (b.length + m))).map (fun i =>
    a.getD i 0 ^^^ (if i < m then 0 else rsMul k (b.getD (i - m) 0)))

/-- The state of the search for the error locator: the locator and the former one, the errors assumed, the places since the
former one, and its discrepancy. -/
structure Locator where
  poly : List Nat
  old : List Nat
  errors : Nat
  since : Nat
  delta : Nat
  deriving DecidableEq, Repr

/-- One step of the search (Berlekamp and Massey) with syndrome n. -/
def Locator.step (x : Locator) (syn : List Nat) (n : Nat) : Locator :=
  let d := (List.range (x.errors + 1)).foldl (fun acc i => acc ^^^ rsMul (x.poly.getD i 0) (syn.getD (n - i) 0)) 0
  if d = 0 then { x with since := x.since + 1 }
  else
    let next := polyAdd x.poly x.old (rsMul d (rsInv x.delta)) x.since
    if 2 * x.errors ≤ n then
      { poly := next, old := x.poly, errors := n + 1 - x.errors, since := 1, delta := d }
    else { x with poly := next, since := x.since + 1 }

/-- The error locator of sixteen syndromes. -/
def findLocator (syn : List Nat) : Locator :=
  (List.range 16).foldl (fun x n => x.step syn n) { poly := [1], old := [1], errors := 0, since := 1, delta := 1 }

/-- A polynomial at a field element. -/
def polyAt (p : List Nat) (x : Nat) : Nat := p.foldr (fun c acc => c ^^^ rsMul x acc) 0

/-- The places of a codeword where a locator has a root. -/
def locatorRoots (p : List Nat) : List Nat :=
  (List.range 272).filter (fun i => polyAt p (rsExp (1023 - rsExponent i % 1023)) == 0)

/-- What the decoder of one codeword makes of the changed symbols: the symbols that it corrects, or none where the word is
uncorrectable. Up to 8 changed symbols are corrected; of more, the decoder corrects to another codeword within 8 symbols where
there is one (R314). -/
def rsDecode (errs : List (Nat × Nat)) : Option Nat :=
  if errs.length ≤ 8 then some errs.length
  else
    let x := findLocator (rsSyndromes errs)
    if x.errors ≤ 8 ∧ (locatorRoots x.poly).length = x.errors then some x.errors else none

/-! ### Codeword pairs and stripes (R314 to R316) -/

/-- What the decoder makes of a pair: even symbols belong to the first codeword, odd ones to the second; the pair is
uncorrectable when either codeword is. -/
def pairDecode (errs : List (Nat × Nat)) : Option Nat :=
  let part := fun (k : Nat) => (errs.filter (fun e => e.1 % 2 == k)).map (fun e => (e.1 / 2, e.2))
  match rsDecode (part 0), rsDecode (part 1) with
  | some a, some b => some (a + b)
  | _, _ => none

/-- Bits of a stripe of a width: W × 5,120 (R315). -/
def stripeBits (w : Nat) : Nat := 5120 * w

/-- The stripe in which flit n ends, counted from where the stripes of the width began. -/
def stripeOf (n w : Nat) : Nat := (2048 * n + 2047) / stripeBits w

/-- Flit n is the first to touch the stripe in which it ends. -/
def beginsStripe (n w : Nat) : Bool := n == 0 || stripeOf (n - 1) w != stripeOf n w

/-- The active lanes of a map that hold a bit from bits lo to hi of a stripe: 10-bit symbols go round robin to the active lanes in
ascending order (R315). -/
def lanesTouched (lanes : List Nat) (lo hi : Nat) : List Nat :=
  let w := lanes.length
  let n := hi / 10 - lo / 10 + 1
  ((List.range (min n w)).map (fun i => lanes.getD ((lo / 10 + i) % w) 0))

/-- Flit n has a bit in an uncorrectable pair: the lanes of such pairs are `now` in the stripe where the flit ends and `before`
in the one before it (R316). -/
def flitLost (lanes : List Nat) (n : Nat) (now before : List Nat) : Bool :=
  let size := stripeBits lanes.length
  let lo := 2048 * n
  let hi := lo + 2047
  let here := (lanesTouched lanes (if lo / size = hi / size then lo % size else 0) (hi % size)).any now.contains
  here || (decide (lo / size ≠ hi / size) && (lanesTouched lanes (lo % size) (size - 1)).any before.contains)

end Sys2Proof.Machine
end

