-- ==== Sys2Proof/Machine/LinkOps.lean ====
section
/-! DEFINITION. The link layer of a Bride port: flits and their CRC (R318 to R320), numbering, acknowledgement and replay (R321
to R323), credits (R324), lanes, widths and the port's state (R312, R329 to R334). -/

namespace Sys2Proof

open Machine

/-! ### The wire form of a flit -/

/-- The 40 bytes of a tick block (R325). -/
def TickBlock.bytes (t : TickBlock) : List Byte :=
  bytesLE 8 t.count ++ bytesLE 4 t.phase ++ bytesLE 4 t.len ++ bytesLE 1 t.flags ++ bytesLE 3 t.reserved ++ bytesLE 4 t.slip
    ++ bytesLE 4 t.eventBoundary ++ bytesLE 4 t.lenNext ++ bytesLE 8 t.lenChangeAt

/-- The 12 bytes of a reply entry (R328). -/
def ReplyEntry.bytes (r : ReplyEntry) : List Byte :=
  bytesLE 2 r.device ++ bytesLE 2 r.tag ++ bytesLE 4 r.count ++ bytesLE 3 r.word ++ bytesLE 1 r.flags

/-- Bytes cut or padded with zeros to n. -/
def fitBytes (n : Nat) (bs : List Byte) : List Byte := bs.take n ++ List.replicate (n - bs.length) 0

/-- Bytes 12 to 251 of a control flit (R319). -/
def ControlBody.bytes (c : ControlBody) : List Byte :=
  fitBytes 8 (c.credits.flatMap (bytesLE 2)) ++ bytesLE 2 c.frame ++ bytesLE 1 c.rxLanes ++ bytesLE 1 c.txLanesNext
    ++ bytesLE 2 c.switchFrame ++ bytesLE 2 c.reserved ++ c.tick.bytes ++ fitBytes 180 (c.replies.flatMap ReplyEntry.bytes)
    ++ bytesLE 1 c.replyCount ++ bytesLE 3 (c.reserved / 65536)

/-- Bytes 12 to 251 of a flit. -/
def FlitBody.bytes : FlitBody → List Byte
  | .idle => List.replicate 240 0
  | .data bs => fitBytes 240 bs
  | .control c => c.bytes

/-- Bytes 0 to 251 of a flit (R318). -/
def Flit.bytes (f : Flit) : List Byte :=
  bytesLE 1 (f.kind % 8 + f.cls % 4 * 8) ++ bytesLE 2 f.seq ++ bytesLE 1 f.tickKind ++ bytesLE 4 f.tickArg ++ bytesLE 2 f.ack
    ++ bytesLE 2 f.edgeBoundary ++ f.body.bytes

/-- The link CRC (R320). -/
def Flit.computeCrc (f : Flit) : Nat := Machine.crcFeed 0xFFFFFFFF f.bytes ^^^ 0xFFFFFFFF

/-- KIND of a body. -/
def FlitBody.kind : FlitBody → Nat
  | .idle => 0 | .data _ => 1 | .control _ => 2

/-- Whether a flit is numbered: a DATA flit, or a control flit with replies (R321). -/
def Flit.numbered (f : Flit) : Bool :=
  match f.body with | .idle => false | .data _ => true | .control c => decide (0 < c.replyCount)

/-- Whether a field that R318 or R319 marks reserved holds a reserved value, or a reply has OUTCOME 3 (R320, R328). A
reserved TICK_KIND makes only the edge ignored (R327). -/
def Flit.reserved (f : Flit) : Bool :=
  f.kind != f.body.kind ||
    match f.body with
    | .control c => c.reserved != 0 || decide (16 ≤ c.replyCount)
        || (c.replies.take c.replyCount).any (fun r => bitsOf r.word 17 2 == 3)
    | _ => false

/-- Whether a received flit fails (R320). -/
def Flit.fails (f : Flit) (touched : Bool) : Bool := touched || f.crc != f.computeCrc || f.reserved

end Sys2Proof

namespace Sys2Proof.Machine

/-! ### Registers of a port -/

/-- STATUS.LINK: 0 DOWN, 1 TRAINING, 2 ACTIVE. -/
def State.linkState (s : State) (p : Nat) : Nat := s.fld (Reg.BRIDE_PORT_STATUS p) Fl.BRIDE_PORT_STATUS_LINK

/-- STATUS.UNIT_STATE. -/
def State.portState (s : State) (p : Nat) : Nat := s.fld (Reg.BRIDE_PORT_STATUS p) Fl.BRIDE_PORT_STATUS_UNIT_STATE

/-- The link layer of a port carries flits. -/
def State.linkUp (s : State) (p : Nat) : Bool := s.linkState p == 2 && s.clocked && !s.portAbsent p

/-- Keeps STATUS.RETRYING: a NAK outstanding in either direction (R336). -/
def State.syncRetry (s : State) (p : Nat) : State :=
  let x := s.port p
  s.setFld (Reg.BRIDE_PORT_STATUS p) Fl.BRIDE_PORT_STATUS_RETRYING (x.nak || x.nakFor.isSome).toNat

/-- Keeps STATUS.SWITCH_PENDING. -/
def State.syncSwitch (s : State) (p : Nat) : State :=
  let x := s.port p
  s.setFld (Reg.BRIDE_PORT_STATUS p) Fl.BRIDE_PORT_STATUS_SWITCH_PENDING (x.switchFrame.isSome || x.rxSwitchFrame.isSome).toNat

/-- The lanes 0 to 7 of a map. -/
def lanesOf (map : Nat) : List Nat := (List.range 8).filter (fun l => map / 2 ^ l % 2 == 1)

/-- The map of a list of lanes. -/
def mapOf (ls : List Nat) : Nat := ls.foldl (fun m l => m + 2 ^ l) 0

/-- The widest of 8, 7, 6 or 4 lanes that good lanes allow, the highest logical lanes left out first (R312, R330); no lanes
below four. -/
def useLanes (good : Nat) : Nat :=
  let ls := lanesOf good
  let w := if ls.length < 4 then 0 else if ls.length = 5 then 4 else ls.length
  mapOf (ls.take w)

/-- The number of lanes of a map. -/
def widthOf (map : Nat) : Nat := (lanesOf map).length

/-- Flits a frame group has at a width (R315). -/
def groupFrames (w : Nat) : Nat := if w = 7 then 35 else if w = 6 then 15 else 5

/-- Sets the receive map and the lanes' IN_USE. -/
def State.setRxMap (s : State) (p map : Nat) : State :=
  iterate (fun l s => s.setFld (Reg.BRIDE_PORT_LANE_STATUS p l) Fl.BRIDE_PORT_LANE_STATUS_IN_USE (map / 2 ^ l % 2)) 8 0
    ((s.setFld (Reg.BRIDE_PORT_LANES p) Fl.BRIDE_PORT_LANES_RX_MAP map).setFld (Reg.BRIDE_PORT_STATUS p)
      Fl.BRIDE_PORT_STATUS_RX_WIDTH (widthOf map))

/-- Sets the transmit map. -/
def State.setTxMap (s : State) (p map : Nat) : State :=
  (s.setFld (Reg.BRIDE_PORT_LANES p) Fl.BRIDE_PORT_LANES_TX_MAP map).setFld (Reg.BRIDE_PORT_STATUS p)
    Fl.BRIDE_PORT_STATUS_TX_WIDTH (widthOf map)

/-- The receive map. -/
def State.rxMap (s : State) (p : Nat) : Nat := s.fld (Reg.BRIDE_PORT_LANES p) Fl.BRIDE_PORT_LANES_RX_MAP

/-- The transmit map. -/
def State.txMap (s : State) (p : Nat) : Nat := s.fld (Reg.BRIDE_PORT_LANES p) Fl.BRIDE_PORT_LANES_TX_MAP

/-- Sets the lanes shed; a bit of CONTROL.SHED clears when its lane is shed (R336). -/
def State.setShed (s : State) (p map : Nat) : State :=
  let ctl := Reg.BRIDE_PORT_CONTROL p
  let s1 := (s.setFld (Reg.BRIDE_PORT_LANES p) Fl.BRIDE_PORT_LANES_RX_SHED map).setFld ctl Fl.BRIDE_PORT_CONTROL_SHED
    (mapOf ((lanesOf (s.fld ctl Fl.BRIDE_PORT_CONTROL_SHED)).filter (fun l => map / 2 ^ l % 2 == 0)))
  iterate (fun l s => s.setFld (Reg.BRIDE_PORT_LANE_STATUS p l) Fl.BRIDE_PORT_LANE_STATUS_SHED (map / 2 ^ l % 2)) 8 0 s1

/-- Reports a width reduction (R332): `dir` 0 receive, 1 transmit. -/
def State.linkShed (s : State) (p dir lanes width : Nat) : State :=
  s.raise { cond := .linkShed, ribbon := if width = 0 then .fault else .notice, source := source 5 p dir,
            detail := lanes % 256 + width % 16 * 2 ^ 8 + dir % 2 * 2 ^ 12, counters := [Reg.BRIDE_PORT_LINK_SHED p] }

/-- The port goes DOWN (R331): lanes out of use; replay buffers, numbers and credits stay. -/
def State.portDown (s : State) (p : Nat) : State :=
  let was := s.rxMap p
  let s1 := ((s.setFld (Reg.BRIDE_PORT_STATUS p) Fl.BRIDE_PORT_STATUS_LINK 0).setRxMap p 0).setTxMap p 0
  let s2 := iterate (fun l s => s.setFld (Reg.BRIDE_PORT_LANE_STATUS p l) Fl.BRIDE_PORT_LANE_STATUS_LOCKED 0) 8 0
    ((s1.setFld (Reg.BRIDE_PORT_CONTROL p) Fl.BRIDE_PORT_CONTROL_SHED 0).setFld (Reg.BRIDE_PORT_CONTROL p)
      Fl.BRIDE_PORT_CONTROL_RESTORE 0)
  let x := { s2.port p with switchFrame := none, rxSwitchFrame := none, goodLanes := 0, rxLanes := 0 }
  ((s2.setPort p x).syncSwitch p).linkShed p 0 was 0

/-- Receive lanes become failing (R329, R330): the receiver clears them, and further lanes down to the next width, from
RX_LANES; with fewer than four good lanes the port goes DOWN. A lane that RESTORE retrains is marked (R333). -/
def State.failLanes (s : State) (p : Nat) (bad : List Nat) : State :=
  let x0 := s.port p
  let again := bad.filter (fun l => s.fld (Reg.BRIDE_PORT_CONTROL p) Fl.BRIDE_PORT_CONTROL_RESTORE / 2 ^ l % 2 == 1)
  let x := { x0 with failing := x0.failing ||| mapOf again }
  if s.linkState p ≠ 2 ∨ bad.all (fun l => x.goodLanes / 2 ^ l % 2 == 0) = true then s.setPort p x
  else
    let use := useLanes (mapOf ((lanesOf x.goodLanes).filter (fun l => !bad.contains l)))
    if use = 0 then s.portDown p else s.setPort p { x with goodLanes := use, rxLanes := use }

/-! ### What the FEC reports (R316, R329) -/

/-- A pair of lane l has been decoded: with the symbols corrected, or as uncorrectable. -/
def State.takePair (s : State) (p l : Nat) (r : Option Nat) : State :=
  let off := Reg.BRIDE_PORT_LANE_STATUS p l
  let k := r.getD 0
  let lost := r.isNone.toNat
  let sy := s.fld off Fl.BRIDE_PORT_LANE_STATUS_WINDOW_SYMBOLS + k
  let un := s.fld off Fl.BRIDE_PORT_LANE_STATUS_WINDOW_UNCORRECTABLE + lost
  let s1 := (s.setFld off Fl.BRIDE_PORT_LANE_STATUS_WINDOW_SYMBOLS (min sy 0xFFFFFFFF)).setFld off
    Fl.BRIDE_PORT_LANE_STATUS_WINDOW_UNCORRECTABLE (min un 255)
  let s2 := (s1.countN (Reg.BRIDE_PORT_FEC_CORRECTED p) k).countN (Reg.BRIDE_PORT_FEC_UNCORRECTABLE p) lost
  let lim := Reg.BRIDE_PORT_SHED_LIMITS p
  if s.fld lim Fl.BRIDE_PORT_SHED_LIMITS_SYMBOLS < sy ∨ max 1 (s.fld lim Fl.BRIDE_PORT_SHED_LIMITS_UNCORRECTABLE) ≤ un then
    s2.failLanes p [l]
  else s2

/-- The pairs of a list of lanes have been decoded. -/
def State.takePairs (s : State) (p : Nat) (f : FecInfo) : List Nat → State
  | [] => s
  | l :: rest => State.takePairs (s.takePair p l (pairDecode (f.changed.getD l []))) p f rest

/-- The next flit arrives on port p: where it is the first to touch a stripe, the pairs of that stripe are decoded. The second
part says that an uncorrectable pair touches the flit (R314 to R316). -/
def State.takeFec (s : State) (p : Nat) (f : FecInfo) : State × Bool :=
  let lanes := lanesOf (s.rxMap p)
  let x := s.port p
  let n := x.rxFlits
  if beginsStripe n lanes.length then
    let lost := lanes.filter (fun l => (pairDecode (f.changed.getD l [])).isNone)
    ((s.setPort p { x with rxFlits := n + 1, lostNow := lost, lostBefore := x.lostNow }).takePairs p f lanes,
      flitLost lanes n lost x.lostNow)
  else (s.setPort p { x with rxFlits := n + 1 }, flitLost lanes n x.lostNow x.lostBefore)

/-! ### The drain of a port (R334) -/

/-- A port's first training attempt of stage 6 has ended (R40). -/
def State.attemptEnded (s : State) (p : Nat) : State :=
  { s with boot := { s.boot with firstTry := NatSet.del s.boot.firstTry p } }

/-- A draining port with nothing numbered unacknowledged is DISABLED, and its link goes DOWN: a training attempt ends with it. -/
def State.checkPort (s : State) (p : Nat) : State :=
  if s.portState p = 1 ∧ (s.port p).replay.isEmpty = true ∧ (s.port p).txQueue.isEmpty = true then
    let s1 := if s.linkState p = 2 then s.portDown p
      else (s.setFld (Reg.BRIDE_PORT_STATUS p) Fl.BRIDE_PORT_STATUS_LINK 0).attemptEnded p
    (s1.setFld (Reg.BRIDE_PORT_STATUS p) Fl.BRIDE_PORT_STATUS_UNIT_STATE 2).drainEnded (.port p)
  else s

/-! ### Acknowledgement (R322) -/

/-- Takes ACK and NAK of a received flit: entries up to ACK are freed, and the first NAK for an ACK starts a replay where flits
are left, counted in RETRY (R323). -/
def State.takeAck (s : State) (p ack : Nat) : State :=
  let x := s.port p
  let a := ack % 4096
  let left := x.replay.dropWhile (fun e => decide ((a + 4096 - e.flit.seq % 4096) % 4096 < 2048))
  let again := match x.resendFrom with
    | some n => if min n left.length = 0 then none else some (min n left.length)
    | none => none
  let x1 := { x with replay := left, resendFrom := again }
  if ack / 2 ^ 15 % 2 = 0 then (((s.setPort p { x1 with nakFor := none }).syncRetry p).checkPort p)
  else if x.nakFor = some a then s.setPort p x1
  else
    let x2 := { x1 with nakFor := some a, resendFrom := if left.isEmpty then none else some left.length }
    (if left.isEmpty then s.setPort p x2 else (s.setPort p x2).count (Reg.BRIDE_PORT_RETRY p)).syncRetry p

/-! ### Delivery -/

/-- A DATA body of a class has been passed on: when the transaction it belongs to is complete, the routing stage takes it
(R341, R346). -/
def State.deliverBody (s : State) (p cls : Nat) (body : List Byte) : State :=
  let x := s.port p
  let acc := x.assembly.getD cls [] ++ body
  let need := (32 + natLE ((acc.drop 12).take 2) % 8192 + 239) / 240
  let done := decide (need * 240 ≤ acc.length)
  let x1 := { x with freed := x.freed.set cls ((x.freed.getD cls 0 + 1) % 4096),
                     assembly := x.assembly.set cls (if done then [] else acc) }
  let s1 := s.setPort p x1
  if done then s1.route (some p) (parseTxn cls acc) else s1

/-- Routes a reply entry for another device (R355): to the reply slot of the port that R342 chooses; where its mask has no port
it is lost, and where none of them is up it is held (R341). -/
def State.routeReply (s : State) (h : HeldReply) : State :=
  let ports := (portsOf (s.fld (Reg.ROUTE h.reply.device) Fl.ROUTE_MASK)).filter (fun q => q != h.arrival)
  if ports = [] then s
  else
    match s.choosePort h.reply.device (ports.filter s.portUp) with
    | some q => (s.setPort q { s.port q with replies := (s.port q).replies ++ [h.reply] }).notePort h.reply.device q
    | none => { s with net := { s.net with heldReplies := s.net.heldReplies ++ [h] } }

/-- Takes a reply entry (R328, R355): the answer of this device's KNOT_OP, or one to forward. -/
def State.takeReply (s : State) (p : Nat) (r : ReplyEntry) : State :=
  if s.idValid = true ∧ r.device = s.deviceId then
    let from_ := match findEntry r.tag s.net.txFlows with | some (_, e) => 65536 + e.answered.length | none => 0
    s.answered r.tag from_ (.replied (bitsOf r.word 17 2))
  else if s.idValid = false then s
  else
    s.routeReply ⟨r, p, s.stitchClock⟩

/-- Takes reply entries in order. -/
def State.takeReplies (s : State) (p : Nat) : List ReplyEntry → State
  | [] => s
  | r :: rest => State.takeReplies (s.takeReply p r) p rest

/-- The first frame-group boundary of a width that is at least four frames on (R330). -/
def switchAt (frame w : Nat) : Nat := (frame + 4 + groupFrames w - 1) / groupFrames w * groupFrames w

/-- Takes the credits, lanes and tick block of a control flit (R319, R330). -/
def State.takeControl (s : State) (p : Nat) (c : ControlBody) : State :=
  let x := s.port p
  let x1 := { x with peerCredits := (List.range 4).map (fun i => c.credits.getD i 0 % 4096), peerRxLanes := c.rxLanes }
  let start := x.switchFrame.isNone && c.rxLanes != s.txMap p && decide (4 ≤ widthOf c.rxLanes)
    && widthOf c.rxLanes != 5
  let x2 := if start then { x1 with txMapNext := c.rxLanes, switchFrame := some (switchAt x.frame (s.width p)) } else x1
  let x3 := if c.switchFrame ≠ c.frame then { x2 with rxSwitchMap := c.txLanesNext, rxSwitchFrame := some c.switchFrame }
    else x2
  ((s.setPort p x3).syncSwitch p).takeTickBlock p c.tick

/-! ### Reception (R320, R322) -/

/-- A flit is received on port p. A failing flit gives nothing but its count and NAK. ACK, the tick edge and a control flit's
link fields are taken from every flit that passes, the body of a numbered flit only in order. -/
def State.receive (s : State) (p : Nat) (f : Flit) (fec : FecInfo) : State :=
  if s.linkUp p = false then s
  else
    let d := s.takeFec p fec
    let s0 := d.1
    if s0.linkUp p = false then s0
    else if f.fails d.2 then
      ((s0.count (Reg.BRIDE_PORT_FLIT_ERROR p)).setPort p { s0.port p with nak := true }).syncRetry p
    else
      let s1 := (s0.takeAck p f.ack).takeEdge p f.tickKind f.tickArg f.edgeBoundary
      let s2 := match f.body with | .control c => s1.takeControl p c | _ => s1
      if f.numbered = false then s2
      else if f.seq % 4096 ≠ (s2.port p).expected then (s2.setPort p { s2.port p with nak := true }).syncRetry p
      else
        let x := s2.port p
        let s3 := (s2.setPort p { x with expected := (x.expected + 1) % 4096, nak := false }).syncRetry p
        match f.body with
        | .data bs => s3.deliverBody p (f.cls % 4) (fitBytes 240 bs)
        | .control c => ((s3.takeReplies p (c.replies.take c.replyCount)).settle).releaseHold
        | .idle => s3

/-! ### Sending (R317, R321 to R328) -/

/-- Completes a flit for sending: ACK and NAK, the next tick edge, and the CRC (R322, R323, R327). -/
def State.stampFlit (s : State) (p : Nat) (f : Flit) : State × Flit :=
  let x := s.port p
  let e := x.edges.headD (0, 0, 0)
  let g := { f with ack := (x.expected + 4095) % 4096 + x.nak.toNat * 2 ^ 15, tickKind := e.1, tickArg := e.2.1,
                    edgeBoundary := e.2.2 }
  (s.setPort p { x with edges := x.edges.drop 1 }, { g with crc := g.computeCrc })

/-- The body of a control flit with given replies (R319). -/
def State.controlBody (s : State) (p phase : Nat) (rs : List ReplyEntry) : ControlBody :=
  let x := s.port p
  { credits := x.freed, frame := x.frame % 65536, rxLanes := x.rxLanes,
    txLanesNext := if x.switchFrame.isSome then x.txMapNext else s.txMap p,
    switchFrame := x.switchFrame.getD x.frame % 65536, tick := s.tickBlock p phase, replies := rs, replyCount := rs.length }

/-- The flit of a replay entry, its link fields rebuilt (R323). -/
def State.replayFlit (s : State) (p phase : Nat) (f : Flit) : Flit :=
  match f.body with
  | .control c => { f with body := .control (s.controlBody p phase (c.replies.take c.replyCount)) }
  | _ => f

/-- Whether a class has credit (R324). -/
def PortState.credit (x : PortState) (c : Nat) : Bool :=
  decide ((x.sent.getD c 0 + 4096 - x.peerCredits.getD c 0) % 4096 < 256)

/-- Takes the next flit body of the first transaction whose class has credit. -/
def PortState.takeBody (x : PortState) : List TxItem → List TxItem → Option (List Byte × Txn × List TxItem)
  | _, [] => none
  | before, i :: rest =>
    if x.credit i.txn.cls then
      match i.left with
      | [] => x.takeBody before rest
      | b :: more =>
        let left := if more.isEmpty then [] else [{ i with left := more, begun := true }]
        some (b, i.txn, before.reverse ++ left ++ rest)
    else x.takeBody (i :: before) rest

/-- Numbers a flit and puts it in the replay buffer (R321). -/
def State.numberFlit (s : State) (p : Nat) (f : Flit) (t : Option Txn) : State × Flit :=
  let x := s.port p
  let g := { f with seq := x.txSeq }
  (s.setPort p { x with txSeq := (x.txSeq + 1) % 4096, replay := x.replay ++ [{ flit := g, txn := t }] }, g)

/-- What goes in one slot: the state after it, the flit, and whether the frame's control flit has been sent. -/
def State.slotFlit (s : State) (p phase slot : Nat) (ctl : Bool) : State × Flit × Bool :=
  let x := s.port p
  let idle : Flit := { kind := 0, body := .idle, crc := 0 }
  let plain : Flit := { kind := 2, body := .control (s.controlBody p phase []), crc := 0 }
  let last := decide (slot = 15) && !ctl
  match x.resendFrom.bind (fun n => x.replay[x.replay.length - n]?) with
  | some e =>
    let n := x.resendFrom.getD 0
    let s1 := s.setPort p { x with resendFrom := if n ≤ 1 then none else some (n - 1) }
    if e.flit.kind = 2 then (if ctl then (s, idle, ctl) else (s1, s.replayFlit p phase e.flit, true))
    else if last then (s, plain, true)
    else (s1, e.flit, ctl)
  | none =>
    if !ctl && !x.replies.isEmpty && decide (x.replay.length < 1024) then
      let f : Flit := { kind := 2, body := .control (s.controlBody p phase (x.replies.take 15)), crc := 0 }
      let r := (s.setPort p { x with replies := x.replies.drop 15, deferred := x.deferred - 15 }).numberFlit p f none
      (r.1, r.2, true)
    else if last then (s, plain, true)
    else if x.replay.length < 1024 then
      match x.takeBody [] x.txQueue with
      | some (b, t, rest) =>
        let x1 := { x with txQueue := rest, sent := x.sent.set t.cls ((x.sent.getD t.cls 0 + 1) % 4096) }
        let r := (s.setPort p x1).numberFlit p { kind := 1, cls := t.cls, body := .data b, crc := 0 } (some t)
        (r.1, r.2, ctl)
      | none => (s, idle, ctl)
    else (s, idle, ctl)

/-- Fills n slots of a frame from slot i on. -/
def State.fillSlots (s : State) (p phase : Nat) : (n i : Nat) → Bool → State × List Flit
  | 0, _, _ => (s, [])
  | n + 1, i, ctl =>
    let a := s.slotFlit p phase i ctl
    let b := a.1.stampFlit p a.2.1
    let r := b.1.fillSlots p phase n (i + 1) a.2.2
    (r.1, b.2 :: r.2)

/-- One link frame (R317): sixteen flits, of which one is the control flit. A reply left for a later frame is counted. -/
def State.sendFrame (s : State) (p phase : Nat) : State :=
  let r := s.fillSlots p phase 16 0 false
  let x := r.1.port p
  let wait := x.replies.length
  let s1 := r.1.setPort p { x with frame := x.frame + 1, deferred := wait }
  (s1.countN (Reg.BRIDE_PORT_REPLY_DEFERRED p) (wait - x.deferred)).emit (.flits p r.2)

/-! ### Link-local transactions and held ones (R339, R344) -/

/-- Puts a link-local transaction on a port. -/
def State.sendLocal (s : State) (p : Nat) (t : Txn) : State :=
  s.setPort p { s.port p with txQueue := (s.port p).txQueue ++ [{ txn := t, left := t.bodies }] }

/-- The serial number's low 32 bits, the grade, the port and the device ID in the layout of NEIGHBOUR[p] (R339;
notes/assumptions/32). -/
def State.neighbourWord (s : State) (p : Nat) : Nat :=
  s.deviceId + 2 ^ 16 + s.idValid.toNat * 2 ^ 17 + p % 32 * 2 ^ 18 + s.is7160.toNat * 2 ^ 23
    + (s.rd Reg.DEVICE_SERIAL).toNat % 2 ^ 32 * 2 ^ 32

/-- Sends NEIGHBOUR on a port (R339). -/
def State.sendNeighbour (s : State) (p : Nat) : State :=
  s.sendLocal p ({ dest := 0, src := s.deviceId, typ := 0x0D, payload := bytesLE 8 (s.neighbourWord p) } : Txn).sealed

/-- Routes held transactions again, in order; those that still have no port are held again with their times. -/
def State.rerouteList (s : State) : List RouteHeld → State
  | [] => s
  | h :: rest =>
    let s1 := s.route h.arrival h.txn
    let held := s1.net.routeHeld.map (fun g => if g.txn = h.txn ∧ g.arrival = h.arrival then { g with since := h.since } else g)
    State.rerouteList { s1 with net := { s1.net with routeHeld := held } } rest

/-- A port has become ACTIVE: held transactions and replies are routed again (R344, R355). -/
def State.rerouteHeld (s : State) : State :=
  s.net.heldReplies.foldl (fun s h => s.routeReply h)
    (({ s with net := { s.net with routeHeld := [], heldReplies := [] } }).rerouteList s.net.routeHeld)

end Sys2Proof.Machine
end

