-- ==== Sys2Proof/Machine/Link.lean ====
section
/-! DEFINITION. The commands of a Bride port: training (R312, R313), frames sent and flits received (R317 to R328), lanes shed
and restored (R329 to R333), and the drain of a port (R334). -/

namespace Sys2Proof.Machine

/-! ### Training -/

/-- The lanes' status after training (R312, R313). -/
def State.setLanes (s : State) (p : Nat) (t : Training) : State :=
  iterate (fun l s =>
    let off := Reg.BRIDE_PORT_LANE_STATUS p l
    (((s.setFld off Fl.BRIDE_PORT_LANE_STATUS_LOCKED (t.rxGood.toNat / 2 ^ l % 2)).setFld off
      Fl.BRIDE_PORT_LANE_STATUS_INVERTED (t.inverted.toNat / 2 ^ l % 2)).setFld off
      Fl.BRIDE_PORT_LANE_STATUS_PHYSICAL (t.physical.getD l l % 8))) 8 0 s

/-- Step 6 of training: the sequence state and the credits (R312, R331). Numbers and credits survive; at the first training they
go on from the peer's (notes/assumptions/34). A replay that starts counts in RETRY (R323). -/
def State.resume (s : State) (p rx : Nat) (t : Training) : State :=
  let x := s.port p
  let left := x.replay.dropWhile (fun e => decide ((t.expected.toNat + 4095 - e.flit.seq % 4096) % 4096 < 2048))
  let none_ := left.isEmpty
  let c := (List.range 4).map (fun i => t.credits.getD i 0 % 4096)
  let x1 := { x with replay := left, resendFrom := if none_ then none else some left.length,
                     txSeq := if x.trained then x.txSeq else t.expected.toNat, sent := if x.trained then x.sent else c,
                     peerCredits := c, nak := false, nakFor := none, frame := 0, goodLanes := rx, rxLanes := rx,
                     rxBase := 0, rxFlits := 0, lostNow := [], lostBefore := [], trained := true, failing := 0 }
  (if none_ then s.setPort p x1 else (s.setPort p x1).count (Reg.BRIDE_PORT_RETRY p)).syncRetry p

/-- A width below 8 after training is reported as a shed (R312). -/
def State.shedAtTraining (s : State) (p dir map : Nat) : State :=
  if widthOf map < 8 then s.linkShed p dir (255 - map) (widthOf map) else s

/-- DELAY.ONE_WAY (R313): half of the measured round trip less the other end's turnaround, rounded down and at most 65,535
(notes/assumptions/119). -/
def oneWay (t : Training) : Nat := min 65535 ((t.roundTrip.toNat - t.turnaround.toNat) / 2)

/-- The receive lanes that a training takes: the good ones that are not shed (R312, R332). -/
def State.trainedLanes (s : State) (p : Nat) (t : Training) : Nat :=
  useLanes (mapOf ((lanesOf t.rxGood.toNat).filter (fun l =>
    s.fld (Reg.BRIDE_PORT_LANES p) Fl.BRIDE_PORT_LANES_RX_SHED / 2 ^ l % 2 == 0)))

/-- LINK_TRAINED (R312). -/
def execLinkTrained (p : Fin 24) (t : Training) (s : State) : Result :=
  let s0 := s.begin
  let s := if s0.linkState p = 1 then s0.attemptEnded p else s0
  let rx := s.trainedLanes p t
  let tx := useLanes t.txGood.toNat
  finish (
    if s.linkState p ≠ 1 ∨ s.portAbsent p = true ∨ s.clocked = false then s
    else if rx = 0 ∨ tx = 0 then s.setFld (Reg.BRIDE_PORT_STATUS p) Fl.BRIDE_PORT_STATUS_LINK 0
    else
      let s1 := (s.setFld (Reg.BRIDE_PORT_STATUS p) Fl.BRIDE_PORT_STATUS_LINK 2).setLanes p t
      let s2 := ((s1.setRxMap p rx).setTxMap p tx).setShed p (255 - rx)
      let s3 := (s2.setFld (Reg.BRIDE_PORT_DELAY p) Fl.BRIDE_PORT_DELAY_ONE_WAY (oneWay t)).resume p rx t
      let s4 := (s3.shedAtTraining p 0 rx).shedAtTraining p 1 tx
      ((s4.sendNeighbour p).rerouteHeld).checkPort p)

/-- AUTO_RETRAIN (R313): a DOWN port of a device that has reached stage 6 trains; at DISABLED the control is ignored. -/
def execAutoRetrain (p : Fin 24) (s : State) : Result :=
  let s := s.begin
  finish (
    if s.linkState p = 0 ∧ s.flag (Reg.BRIDE_PORT_CONTROL p) Fl.BRIDE_PORT_CONTROL_AUTO_RETRAIN = true
        ∧ s.portState p < 2 ∧ s.portAbsent p = false ∧ s.clocked = true
        ∧ 6 ≤ s.fld Reg.SECURITY_BOOT_STATUS Fl.SECURITY_BOOT_STATUS_STAGE then
      s.setFld (Reg.BRIDE_PORT_STATUS p) Fl.BRIDE_PORT_STATUS_LINK 1
    else s)

/-! ### Frames and flits -/

/-- LINK_FRAME (R317): the sender of an ACTIVE port emits a frame; `phase` is the time in arithmetic cycles since it fired
COUNT (R325). -/
def execLinkFrame (p : Fin 24) (phase : W32) (s : State) : Result :=
  let s := s.begin
  finish (if s.linkUp p then s.sendFrame p phase.toNat else s)

/-- IDLE_FLIT (R322). -/
def execIdleFlit (p : Fin 24) (f : Flit) (fec : FecInfo) (s : State) : Result :=
  finish (match f.body with | .idle => s.begin.receive p f fec | _ => s.begin)

/-- DATA_FLIT (R322). -/
def execDataFlit (p : Fin 24) (f : Flit) (fec : FecInfo) (s : State) : Result :=
  finish (match f.body with | .data _ => s.begin.receive p f fec | _ => s.begin)

/-- CONTROL_FLIT (R319). -/
def execControlFlit (p : Fin 24) (f : Flit) (fec : FecInfo) (s : State) : Result :=
  finish (match f.body with | .control _ => s.begin.receive p f fec | _ => s.begin)

/-! ### Lanes -/

/-- SHED_WINDOW (R329): a lane's window ends and its counts start again. -/
def execShedWindow (p : Fin 24) (l : Fin 8) (s : State) : Result :=
  let off := Reg.BRIDE_PORT_LANE_STATUS p l
  finish ((s.begin.setFld off Fl.BRIDE_PORT_LANE_STATUS_WINDOW_SYMBOLS 0).setFld off
    Fl.BRIDE_PORT_LANE_STATUS_WINDOW_UNCORRECTABLE 0)

/-- LANE_LOCK_LOSS (R329): a lane of an ACTIVE port loses lock; with `alignment`, the port has lost frame alignment and goes
DOWN (R331). -/
def execLaneLockLoss (p : Fin 24) (l : Fin 8) (alignment : Bool) (s : State) : Result :=
  let s := s.begin
  finish (
    if s.linkUp p = false then s
    else
      let s1 := s.setFld (Reg.BRIDE_PORT_LANE_STATUS p l) Fl.BRIDE_PORT_LANE_STATUS_LOCKED 0
      if alignment then s1.portDown p else s1.failLanes p [l.val])

/-- The frame being received (R319, R330). -/
def PortState.rxFrame (x : PortState) : Nat := x.rxBase + x.rxFlits / 16

/-- The frame being received lies before frame f, which is given modulo 65,536. -/
def PortState.rxBefore (x : PortState) (f : Nat) : Bool :=
  let d := (f + 65536 - x.rxFrame % 65536) % 65536
  decide (0 < d) && decide (d < 32768)

/-- The width change of one direction, from SWITCH_FRAME on (R330, R332). -/
def State.switchWidth (s : State) (p : Nat) (rx : Bool) : State :=
  let x := s.port p
  if rx then
    match x.rxSwitchFrame with
    | none => s
    | some f =>
      if x.rxBefore f then s
      else
      let old := s.rxMap p
      let map := x.rxSwitchMap % 256
      let s1 := (((s.setPort p { x with rxSwitchFrame := none, rxBase := x.rxFrame, rxFlits := 0, lostNow := [],
                                        lostBefore := [] }).setRxMap p map).setShed p (255 - map)).syncSwitch p
      if widthOf map < widthOf old then
        s1.linkShed p 0 (mapOf ((lanesOf old).filter (fun l => map / 2 ^ l % 2 == 0))) (widthOf map)
      else s1
  else
    match x.switchFrame with
    | none => s
    | some f =>
      if x.frame < f then s
      else
        let old := s.txMap p
        let map := x.txMapNext % 256
        let s1 := ((s.setPort p { x with switchFrame := none }).setTxMap p map).syncSwitch p
        if widthOf map < widthOf old then
          s1.linkShed p 1 (mapOf ((lanesOf old).filter (fun l => map / 2 ^ l % 2 == 0))) (widthOf map)
        else s1

/-- WIDTH_SWITCH (R330): of the receive direction (`rx`) or the transmit direction. -/
def execWidthSwitch (p : Fin 24) (rx : Bool) (s : State) : Result :=
  let s := s.begin
  finish (if s.linkUp p then s.switchWidth p rx else s)

/-- LANE_RETRAINED (R332): the retraining that RESTORE asked for ends; a lane that trained and is not failing again goes back
into RX_LANES (R333). -/
def execLaneRetrained (p : Fin 24) (l : Fin 8) (ok : Bool) (s : State) : Result :=
  let s := s.begin
  let ctl := Reg.BRIDE_PORT_CONTROL p
  finish (
    if s.fld ctl Fl.BRIDE_PORT_CONTROL_RESTORE / 2 ^ l.val % 2 = 0 ∨ s.linkUp p = false then s
    else
      let s1 := s.setFld ctl Fl.BRIDE_PORT_CONTROL_RESTORE
        (mapOf ((lanesOf (s.fld ctl Fl.BRIDE_PORT_CONTROL_RESTORE)).filter (fun m => m != l.val)))
      if ok && (s.port p).failing / 2 ^ l.val % 2 == 0 then
        let x := s1.port p
        let good := mapOf ((List.range 8).filter (fun m => m == l.val || x.goodLanes / 2 ^ m % 2 == 1))
        (s1.setPort p { x with goodLanes := good, rxLanes := useLanes good }).setFld (Reg.BRIDE_PORT_LANE_STATUS p l)
          Fl.BRIDE_PORT_LANE_STATUS_LOCKED 1
      else s1)

/-! ### Draining (R334) -/

/-- Routes transactions that return to the routing stage. -/
def State.routeAll (s : State) : List TxItem → State
  | [] => s
  | i :: rest => State.routeAll (s.route none i.txn) rest

/-- REQ = DRAIN: transactions none of whose flits is numbered return to the routing stage (R334; notes/assumptions/35). -/
def State.drainPort (s : State) (p : Nat) : State :=
  if s.portState p ≠ 0 ∨ s.portAbsent p = true then s
  else
    let s1 := (s.setFld (Reg.BRIDE_PORT_STATUS p) Fl.BRIDE_PORT_STATUS_UNIT_STATE 1).beginDrain (.port p)
    let x := s1.port p
    let back := x.txQueue.filter (fun i => !i.begun)
    ((s1.setPort p { x with txQueue := x.txQueue.filter (·.begun) }).routeAll back).checkPort p

/-- A port takes REQ = ENABLE: it is DISABLED and not retired (R98). -/
def State.portEnables (s : State) (p : Nat) : Bool := s.portState p == 2 && !s.portAbsent p

/-- REQ = ENABLE. -/
def State.enablePort (s : State) (p : Nat) : State :=
  if s.portEnables p then
    s.setFld (Reg.BRIDE_PORT_STATUS p) Fl.BRIDE_PORT_STATUS_UNIT_STATE 0
  else s

/-- RESTORE begins for lanes: they are not failing any more. -/
def State.clearFailing (s : State) (p : Nat) (ls : List Nat) : State :=
  let x := s.port p
  s.setPort p { x with failing := ls.foldl (fun m l => m - m / 2 ^ l % 2 * 2 ^ l) x.failing }

/-- A write of CONTROL of a port (R329, R332, R334, R336). On a port that is not ACTIVE, a bit of RESTORE lets the next training
take the lane (notes/assumptions/120). -/
def State.writePortControl (s : State) (p : Nat) (v : Word) : State :=
  let ctl := Reg.BRIDE_PORT_CONTROL p
  let s1 := s.setFld ctl Fl.BRIDE_PORT_CONTROL_AUTO_RETRAIN (Fl.BRIDE_PORT_CONTROL_AUTO_RETRAIN.read v)
  let up := s1.linkState p == 2
  let asked := lanesOf (Fl.BRIDE_PORT_CONTROL_SHED.read v)
  let shed := asked.filter (fun l => up && (s1.port p).goodLanes / 2 ^ l % 2 == 1)
  let restore := (lanesOf (Fl.BRIDE_PORT_CONTROL_RESTORE.read v)).filter
    (fun l => up && s1.fld (Reg.BRIDE_PORT_LANES p) Fl.BRIDE_PORT_LANES_RX_SHED / 2 ^ l % 2 == 1)
  let set := fun (s : State) (f : Fld) (ls : List Nat) =>
    s.setFld ctl f (mapOf ((List.range 8).filter (fun l => ls.contains l || s.fld ctl f / 2 ^ l % 2 == 1)))
  let s2 := set (set s1 Fl.BRIDE_PORT_CONTROL_SHED shed) Fl.BRIDE_PORT_CONTROL_RESTORE restore
  let s3 := if restore.isEmpty then s2 else s2.clearFailing p restore
  let s4 := if up then (if asked.isEmpty then s3 else s3.failLanes p asked)
    else if Fl.BRIDE_PORT_CONTROL_RESTORE.read v = 0 then s3
    else s3.setShed p (mapOf ((lanesOf (s3.fld (Reg.BRIDE_PORT_LANES p) Fl.BRIDE_PORT_LANES_RX_SHED)).filter
      (fun l => Fl.BRIDE_PORT_CONTROL_RESTORE.read v / 2 ^ l % 2 == 0)))
  match Fl.BRIDE_PORT_CONTROL_REQ.read v with
  | 1 => s4.drainPort p
  | 2 => s4.enablePort p
  | _ => s4

/-- LANE_SHED_REQ (R329). -/
def execLaneShedReq (who : Requester) (p : Fin 24) (v : Word) (s : State) : Result :=
  finish (s.begin.guarded who (Reg.BRIDE_PORT_CONTROL p) fun s =>
    s.writePortControl p (Fl.BRIDE_PORT_CONTROL_REQ.write v 0))

/-- LANE_RESTORE (R332). -/
def execLaneRestore (who : Requester) (p : Fin 24) (v : Word) (s : State) : Result :=
  finish (s.begin.guarded who (Reg.BRIDE_PORT_CONTROL p) fun s =>
    s.writePortControl p (Fl.BRIDE_PORT_CONTROL_REQ.write v 0))

/-- BRIDE_PORT_DRAIN_REQ (R334). -/
def execBridePortDrainReq (who : Requester) (p : Fin 24) (v : Word) (s : State) : Result :=
  finish (s.begin.guarded who (Reg.BRIDE_PORT_CONTROL p) fun s =>
    s.writePortControl p (Fl.BRIDE_PORT_CONTROL_REQ.write v 1))

/-- BRIDE_PORT_ENABLE_REQ (R334). -/
def execBridePortEnableReq (who : Requester) (p : Fin 24) (v : Word) (s : State) : Result :=
  finish (s.begin.guarded who (Reg.BRIDE_PORT_CONTROL p) fun s =>
    s.writePortControl p (Fl.BRIDE_PORT_CONTROL_REQ.write v 2))

/-- Reports the transactions of dropped flits undeliverable, each once (R334, R350). -/
def State.dropTxns (s : State) : List Txn → State
  | [] => s
  | t :: rest => State.dropTxns (if rest.contains t then s else s.undeliverable t) rest

/-- PORT_DRAIN_LIMIT (R334): flits still unacknowledged are dropped. -/
def execPortDrainLimit (p : Fin 24) (s : State) : Result :=
  let s := s.begin
  finish (match s.limitDue (.port p)
      (max 1 (s.fld (Reg.BRIDE_PORT_DRAIN_LIMIT p) Fl.BRIDE_PORT_DRAIN_LIMIT_STITCHES)) with
    | none => s
    | some d =>
      let x := s.port p
      let lost := x.replay.filterMap (·.txn) ++ x.txQueue.map (·.txn)
      let s1 := (s.markTimedOut (.port p)).setPort p { x with replay := [], resendFrom := none, txQueue := [] }
      ((((s1.syncRetry p).dropTxns lost).unitTimeout (source 5 p 0) d.entry none []).checkPort p))

end Sys2Proof.Machine
end

