-- ==== Sys2Proof/Machine/Transport.lean ====
section
/-! DEFINITION. The transport's commands: transactions handled at their destination (R352, R353, R489, R422), the answers at
the source (R350), link-local and directed transactions (R339, R340, R366), the timers (R344, R349 to R351), the device ID
(R337 to R339), and the digests (R364, R365). -/

namespace Sys2Proof.Machine

/-! ### TILE_WRITE -/

/-- TILE_WRITE (R352, R489): checked, written, acknowledged; a write to a host window is acknowledged once it is visible. -/
def State.tileWrite (s : State) (a : Arrival) : State :=
  let t := a.txn
  let addr := t.address % 2 ^ 48
  let n := t.payload.length
  if !s.extentOk t.tenant addr n true then s.answer a 3
  else if n = 0 then s.answer a 0
  else
    let bad := if t.poison then linesOf addr n else []
    if inHost addr then
      let map := s.hostMap addr n
      if s.piecesOpen (s.writePieces map addr n) then
        let h := map.last addr n
        (s.hostStore map addr t.payload bad).flushHost (.remoteFlush t) t.tenant h.1 h.2.1 h.2.2
      else (s.dmaError (s.hostAddress addr).1).answer a 3
    else (s.store addr t.payload bad).answer a 0

/-- Whether the zero-length read that a transaction's ACK waits for is out. -/
def State.flushPending (s : State) (t : Txn) : Bool :=
  s.dma.any (fun j => match j.owner with | .remoteFlush u => u.src == t.src && u.tag == t.tag | _ => false)

/-- TILE_WRITE (R489). -/
def execTileWrite (s : State) : Result :=
  finish (s.begin.onArrival (fun t => t.typ == 1) fun a s =>
    if a.dup then (if s.flushPending a.txn then s else s.answer a 0) else s.tileWrite a)

/-! ### TILE_READ and READ_RESPONSE -/

/-- The READ_RESPONSE of a TILE_READ: the poison map by lines and the unwritten pages (R352). -/
def State.readResponse (s : State) (t : Txn) (bytes : List Byte) (map arg : Nat) : State :=
  s.sendPlain ({ dest := t.src, src := s.deviceId, typ := 3, response := true, poison := decide (map ≠ 0), tag := t.tag,
                 seq := t.seq, tenant := t.tenant, address := map, arg := arg, payload := bytes, cls := t.cls } : Txn).sealed

/-- The poison map of lines: bit i for the i-th line from `first`. -/
def poisonMap (first : Nat) (lines : List Nat) : Nat := mapOf ((List.range 64).filter (fun i => lines.contains (first + i)))

/-- Whether the part of an extent in a page is unwritten (R248). -/
def State.partUnwritten (s : State) (a n page : Nat) : Bool :=
  match placeOf (page * 4096) with
  | .far _ => s.pageUnwritten page && ((linesOf a n).filter (fun l => l / 64 == page)).all (fun l => !s.lineHeld l)
  | _ => false

/-- TILE_READ (R352): an illegal byte count is refused as a failed check is (notes/assumptions/36). -/
def State.tileRead (s : State) (a : Arrival) : State :=
  let t := a.txn
  let addr := t.address % 2 ^ 48
  let n := bitsOf t.arg 0 13
  if n = 0 ∨ 4096 < n ∨ 64 < (linesOf addr n).length ∨ s.extentOk t.tenant addr n false = false then s.answer a 3
  else if inHost addr then
    let ps := s.readPieces addr n
    if s.piecesOpen ps then s.startReads (.remoteRead t) t.tenant n ps
    else (s.dmaError (s.hostAddress addr).1).answer a 3
  else
    let p0 := s.partUnwritten addr n (addr / 4096)
    let p1 := decide (addr / 4096 < (addr + n - 1) / 4096) && s.partUnwritten addr n (addr / 4096 + 1)
    let cls := readClassOf (bitsOf t.arg 15 2)
    let l := s.load (some t.tenant) cls addr n
    l.s.readResponse t l.bytes (poisonMap (addr / 64) l.poison) (p0.toNat + 2 * p1.toNat)

/-- TILE_READ (R352); a duplicate is answered again. -/
def execTileRead (s : State) : Result := finish (s.begin.onArrival (fun t => t.typ == 2) fun a s => s.tileRead a)

/-- The memory-side address of a gathered step of a command. -/
def State.gatherBase (s : State) (n e uid step : Nat) : Nat :=
  match s.entryUid n e uid with
  | some x => ((x.gathers.find? (fun g => decide (g.step = step))).map Gather.mem).getD 0
  | none => 0

/-- The ranges of a read's bytes that a poison map names: the read is of n bytes at `addr`, and lies at `off` in its step. -/
def mapRanges (addr n off map : Nat) : List (Nat × Nat) :=
  ((List.range 64).filter (fun i => map / 2 ^ i % 2 == 1)).map (fun i =>
    let p := partOf addr n (addr / 64 + i)
    (off + p.1 - addr, p.2))

/-- READ_RESPONSE (R352): the data goes to the step that asked for it. -/
def State.takeResponse (s : State) (t : Txn) (e : TxEntry) : State :=
  match e.owner with
  | .read n eng uid step =>
    let addr := e.txn.address
    let off := addr - s.gatherBase n eng uid step
    let one := decide (addr / 4096 = (addr + t.payload.length - 1) / 4096)
    s.fillStep n eng uid step off t.payload (mapRanges addr t.payload.length off t.address)
      (t.arg % 2 == 1 && (one || t.arg / 2 % 2 == 1))
  | _ => s

/-- READ_RESPONSE (R352). -/
def execReadResponse (s : State) : Result :=
  finish (s.begin.onArrival (fun t => t.typ == 3) fun a s =>
    match findEntry a.txn.tag s.net.txFlows with
    | some (_, e) =>
      if s.concerns a.txn then ((s.takeResponse a.txn e).answered a.txn.tag a.txn.src .acked).settleAll else s
    | none => s)

/-! ### REDUCE -/

/-- REDUCE (R352): the adder's refusals are final (notes/assumptions/36). -/
def execReduce (s : State) : Result :=
  finish (s.begin.onArrival (fun t => t.typ == 4) fun a s =>
    if a.dup then s.answer a 0
    else
      let t := a.txn
      let r := s.reduce (some t.tenant) (bitsOf t.arg 0 3) (bitsOf t.arg 4 4) (t.address % 2 ^ 48) t.payload
      match r.2 with
      | none => r.1.answer a 0
      | some _ => r.1.answer a 3)

/-! ### MAILBOX (R422) -/

/-- Writes bytes to a host bus address in requests of at most the Max Payload Size that cross no 4 KiB boundary (R419); n
bounds how many. -/
def State.busWrite (s : State) (f addr : Nat) (bytes : List Byte) : (n : Nat) → State
  | 0 => s
  | n + 1 =>
    if bytes = [] then s
    else
      let k := min (max 1 (s.cfg f).maxPayload) (4096 - addr % 4096)
      (s.hostWrite f addr (bytes.take k)).busWrite f (addr + k) (bytes.drop k) n

/-- The slot of a mailbox message. -/
def mailboxSlot (phase : Nat) (t : Txn) : List Byte :=
  bytesLE 2 t.src ++ bytesLE 1 t.tenant ++ bytesLE 1 (phase % 2) ++ bytesLE 2 t.payload.length ++ bytesLE 2 t.tag
    ++ bytesLE 4 t.seq ++ List.replicate 52 0 ++ t.payload

/-- A message for a tenant: stored in the mailbox ring of its primary function, or NAK BUSY. -/
def State.mailboxFor (s : State) (a : Arrival) (t : Nat) : State :=
  let busy := (s.markBusy a.txn).answer a 1
  match s.primaryFn t with
  | none => busy
  | some f =>
    let ring := Reg.FUNCTION_MAILBOX_RING f
    let size := 2 ^ s.fld ring Fl.FUNCTION_MAILBOX_RING_SIZE
    let wp := s.fld ring Fl.FUNCTION_MAILBOX_RING_WRITE_PTR % size
    let rp := s.fld (Reg.FUNCTION_MAILBOX_READ f) Fl.FUNCTION_MAILBOX_READ_READ_PTR % size
    if s.flag ring Fl.FUNCTION_MAILBOX_RING_EN = false ∨ (wp + 1) % size = rp ∨ s.canDma f = false then busy
    else
      let addr := s.fld (Reg.FUNCTION_MAILBOX_BASE f) Fl.FUNCTION_MAILBOX_BASE_ADDR * 4096 + wp * 8192
      let slot := mailboxSlot (s.phase ring) a.txn
      let s1 := (s.busWrite f addr slot slot.length).setFld ring Fl.FUNCTION_MAILBOX_RING_WRITE_PTR ((wp + 1) % size)
      let s2 := if (wp + 1) % size = 0 then s1.togglePhase ring else s1
      let s3 := if s2.flag ring Fl.FUNCTION_MAILBOX_RING_INT_EN then
          s2.ringInterrupt ring f (s2.fld ring Fl.FUNCTION_MAILBOX_RING_VECTOR)
            (s2.fld ring Fl.FUNCTION_MAILBOX_RING_HOLDOFF_US)
        else s2
      s3.flushHost (.remoteFlush a.txn) t f 0 (addr + slot.length - 1)

/-- MAILBOX (R422): ADDRESS 0 is Tambour's; 33 and up name no mailbox (notes/assumptions/36). -/
def execMailbox (s : State) : Result :=
  finish (s.begin.onArrival (fun t => t.typ == 6) fun a s =>
    let box := bitsOf a.txn.address 0 6
    if a.dup then (if s.flushPending a.txn then s else s.answer a 0)
    else if box = 0 then (s.emit (.toTambour a.txn)).answer a 0
    else if 32 < box then s.answer a 3
    else s.mailboxFor a (box - 1))

/-! ### Answers at the source (R350) -/

/-- ACK (R350). -/
def execAck (s : State) : Result :=
  finish (s.begin.onArrival (fun t => t.typ == 8) fun a s =>
    if s.concerns a.txn then (s.answered a.txn.tag a.txn.src .acked).settleAll else s)

/-- NAK (R350): BUSY resends; RIGHTS and DIGEST are final; other reasons are reserved. -/
def execNak (s : State) : Result :=
  finish (s.begin.onArrival (fun t => t.typ == 9) fun a s =>
    if s.concerns a.txn = false then s else
    match a.txn.arg with
    | 1 => (s.resend a.txn.tag true).settleAll
    | 2 => (s.answered a.txn.tag a.txn.src .digest).settleAll
    | 3 => (s.answered a.txn.tag a.txn.src .rights).settleAll
    | _ => s)

/-- UNDELIVERABLE (R350); a notice that concerns no unanswered transaction of this device is left out. -/
def execUndeliverable (s : State) : Result :=
  finish (s.begin.onArrival (fun t => t.typ == 0x0A) fun a s =>
    if s.concerns a.txn then (s.resend a.txn.tag true).settleAll else s)

/-- TRANSPORT_TIMEOUT (R350): no answer to the transaction with a TAG has come in time. -/
def execTransportTimeout (tag : BitVec 16) (s : State) : Result := finish ((s.begin.resend tag.toNat false).settleAll)

/-- REORDER_TIMEOUT (R349): a held transaction is discarded. -/
def execReorderTimeout (src dest : BitVec 16) (c : Fin 4) (seq : W32) (s : State) : Result :=
  let s := s.begin
  finish (match s.net.rxFlows.find? (fun f => f.src == src.toNat && f.dest == dest.toNat && f.cls == c.val) with
    | some f => s.setRx { f with held := f.held.filter (fun a => a.txn.seq != seq.toNat) }
    | none => s)

/-- FLOW_IDLE (R351): a flow whose transactions have all been answered. -/
def execFlowIdle (dest : BitVec 16) (c : Fin 4) (s : State) : Result :=
  let s := s.begin
  finish (match findTx dest.toNat c.val s.net.txFlows with
    | some f => if f.unacked.isEmpty && f.waiting.isEmpty then s.setTx { f with resync := true } else s
    | none => s)

/-- ROUTE_WAIT (R344): the first transaction that has been held for ROUTE_WAIT stitches is undeliverable; a reply held so long is
lost (R355). -/
def execRouteWait (s : State) : Result :=
  let s := s.begin
  let limit := max 1 (s.fld Reg.BRIDE_ROUTE_TRANSPORT Fl.BRIDE_ROUTE_TRANSPORT_ROUTE_WAIT)
  finish (match s.net.routeHeld.find? (fun h => decide (h.since + limit ≤ s.stitchClock)) with
    | some h => (({ s with net := { s.net with routeHeld := s.net.routeHeld.erase h } }).undeliverable h.txn).settleAll
    | none =>
      match s.net.heldReplies.find? (fun h => decide (h.since + limit ≤ s.stitchClock)) with
      | some h => { s with net := { s.net with heldReplies := s.net.heldReplies.erase h } }
      | none => s)

/-! ### Link-local and directed transactions -/

/-- A link-local or directed transaction that R347 or R348 discards is counted. -/
def State.checkedLocal (s : State) (t : Txn) (f : State → State) : State :=
  if t.malformed then s.count Reg.ROUTE_MALFORMED
  else if t.check ≠ t.computeCheck then s.count Reg.ROUTE_E2E_MISMATCH
  else f s

/-- NEIGHBOUR (R339). -/
def execNeighbour (s : State) : Result :=
  finish (s.begin.onArrival (fun t => t.typ == 0x0D) fun a s =>
    s.checkedLocal a.txn fun s =>
      match a.port with
      | some p =>
        let w := natLE (a.txn.payload.take 8)
        s.wr (Reg.NEIGHBOUR p) (BitVec.ofNat 64 (w % 2 ^ 24 + w / 2 ^ 32 * 2 ^ 32))
      | none => s)

/-- The payload of a BEACON (R366; notes/assumptions/32): the device digest, then for each tenant with a pricking its number,
the pricking identity and the shared digest. -/
def State.beaconPayload (s : State) : List Byte :=
  s.digestBytes Reg.DEVICE_DIGEST ++ (List.range 32).flatMap (fun t =>
    if s.rd (Reg.PRICKING t) = 0 then []
    else bytesLE 1 t ++ bytesLE 8 (s.rd (Reg.PRICKING t)).toNat ++ s.digestBytes (Reg.DIGEST t))

/-- BEACON_PERIOD (R366): a BEACON goes out on each ACTIVE port. -/
def execBeaconPeriod (s : State) : Result :=
  let s := s.begin
  finish (
    if s.fld Reg.BRIDE_ROUTE_BEACON Fl.BRIDE_ROUTE_BEACON_PERIOD = 0 then s
    else
      iterate (fun p s =>
        if s.linkUp p then
          s.sendLocal p ({ dest := 0, src := s.deviceId, typ := 0x0B, payload := s.beaconPayload } : Txn).sealed
        else s) 24 0 s)

/-- The tenants' entries of a BEACON: tenant, pricking, digest; n bounds how many. -/
def beaconEntries : (n : Nat) → List Byte → List (Nat × Nat × List Byte)
  | 0, _ => []
  | n + 1, bs =>
    if bs.length < 73 then []
    else (natLE (bs.take 1) % 32, natLE ((bs.drop 1).take 8), (bs.drop 9).take 64) :: beaconEntries n (bs.drop 73)

/-- The entries of a BEACON that this device compares: tenant number and pricking identity match (R366). -/
def State.beaconOurs (s : State) (t : Txn) : List (Nat × Nat × List Byte) :=
  (beaconEntries 32 (t.payload.drop 64)).filter (fun e => e.2.1 == (s.rd (Reg.PRICKING e.1)).toNat)

/-- Compares the entries of a BEACON from a device. -/
def State.compareBeacon (s : State) (other : Nat) : List (Nat × Nat × List Byte) → State
  | [] => s
  | e :: rest =>
    State.compareBeacon (if s.digestMatches e.1 e.2.2 then s else s.samplerMismatch (some e.1) other 1) other rest

/-- BEACON (R366): compared once every digest it concerns is CURRENT (R365). -/
def execBeacon (s : State) : Result :=
  let s := s.begin
  finish (s.onArrival (fun t => t.typ == 0x0B && (s.beaconOurs t).all (fun e => s.digestCurrent e.1)) fun a s =>
    s.checkedLocal a.txn fun s => s.compareBeacon a.txn.src (s.beaconOurs a.txn))

/-- Byte i of a transaction's payload; 0xFF beyond its end. -/
def payloadByte (t : Txn) (i : Nat) : Nat := ((t.payload[i]?).getD 0xFF).toNat

/-- The port that the list of a DIRECTED transaction holds at position HOPS; 0xFF at its end (R340). The list is payload bytes 0
to 15, the record 16 to 31. -/
def nextPort (t : Txn) : Nat := if t.hops < 16 then payloadByte t t.hops else 0xFF

/-- Sends a DIRECTED transaction on along its list, with the arrival port recorded and its check computed anew
(notes/assumptions/33). -/
def State.directedOn (s : State) (port : Option Nat) (t : Txn) : State :=
  let out := nextPort t
  if 24 ≤ out ∨ s.linkUp out = false then s.count Reg.ROUTE_UNDELIVERABLE
  else
    let back := (port.map (BitVec.ofNat 8)).getD 0xFF
    let u := { t with payload := t.payload.set (16 + t.hops) back, hops := t.hops + 1 }
    s.sendLocal out u.sealed

/-- Tambour's response to a DIRECTED transaction: its list is the recorded arrival ports in reverse order (R340;
notes/assumptions/121). -/
def directedAnswer (me : Nat) (t : Txn) : Txn :=
  let back := ((t.payload.drop 16).take (min 16 t.hops)).reverse
  { dest := t.src, src := me, typ := 0x0C, response := true, tag := t.tag, tenant := t.tenant,
    payload := back ++ List.replicate (32 - back.length) 0xFF }

/-- DIRECTED (R340): sent on along its list, or delivered at the list's end to Tambour, which answers. -/
def State.directed (s : State) (a : Arrival) : State :=
  let t := a.txn
  if nextPort t = 0xFF then
    let s1 := s.emit (.toTambour t)
    if t.response || t.hops == 0 then s1 else s1.directedOn none (directedAnswer s.deviceId t)
  else s.directedOn a.port t

/-- DIRECTED (R340). -/
def execDirected (s : State) : Result :=
  finish (s.begin.onArrival (fun t => t.typ == 0x0C) fun a s => s.checkedLocal a.txn fun s => s.directed a)

/-! ### The device ID (R337 to R339) -/

/-- Ends every transaction of this device that is in flight or waits for its window undeliverable (R338). -/
def State.failFlows (s : State) : List TxFlow → State
  | [] => s
  | f :: rest => State.failFlows
    ((s.setTx { f with unacked := [], waiting := [], resync := true }).failEntries (f.unacked ++ f.waiting)) rest

/-- Sends NEIGHBOUR on every ACTIVE port. -/
def State.sendNeighbours (s : State) : State := iterate (fun p s => if s.linkUp p then s.sendNeighbour p else s) 24 0 s

/-- A write of BRIDE_ROUTE.CONTROL: a change of the ID ends what is in flight and is told to the neighbours. -/
def State.writeRouteControl (s : State) (v : Word) : State :=
  let off := Reg.BRIDE_ROUTE_CONTROL
  let same := Fl.BRIDE_ROUTE_CONTROL_DEVICE_ID.read v = s.deviceId ∧ (Fl.BRIDE_ROUTE_CONTROL_ID_VALID.read v = 1 ↔ s.idValid = true)
  let s1 := (((s.setFld off Fl.BRIDE_ROUTE_CONTROL_DEVICE_ID (Fl.BRIDE_ROUTE_CONTROL_DEVICE_ID.read v)).setFld off
    Fl.BRIDE_ROUTE_CONTROL_ID_VALID (Fl.BRIDE_ROUTE_CONTROL_ID_VALID.read v)).setFld off
    Fl.BRIDE_ROUTE_CONTROL_HOP_LIMIT (Fl.BRIDE_ROUTE_CONTROL_HOP_LIMIT.read v)).setFld off
    Fl.BRIDE_ROUTE_CONTROL_DIGEST_POLICY (Fl.BRIDE_ROUTE_CONTROL_DIGEST_POLICY.read v)
  if same then s1
  else (((s1.staleDevice).failFlows s1.net.txFlows).settleAll).sendNeighbours

/-- DEVICE_ID_WRITE (R339). -/
def execDeviceIdWrite (who : Requester) (v : Word) (s : State) : Result :=
  finish (s.begin.guarded who Reg.BRIDE_ROUTE_CONTROL fun s => s.writeRouteControl v)

/-! ### Digests (R364, R365) -/

/-- A register word with only given bits. -/
def State.maskedWord (s : State) (off mask : Nat) : List Byte := bytesLE 8 ((s.rd off).toNat &&& mask)

/-- The inputs of tenant t's shared digest (R364). -/
def State.sharedInputs (s : State) (t : Nat) : List Byte :=
  s.digestBytes Reg.SECURITY_MEASUREMENT ++ s.maskedWord Reg.BRIDE_ROUTE_GENERATION (2 ^ 64 - 1)
    ++ s.maskedWord (Reg.PRICKING t) (2 ^ 64 - 1) ++ s.maskedWord (Reg.GATE_WINDOW t) 0xFFFF
    ++ s.maskedWord (Reg.GATE_LIMITS t) (2 ^ 64 - 1) ++ s.maskedWord (Reg.LOSS_SCALE t) (2 ^ 64 - 1)
    ++ s.maskedWord (Reg.GATE_STEP t) (2 ^ 64 - 1)
    ++ ((List.range 4096).filter (fun g =>
          s.groupTenant g == some t && s.flag (Reg.GROUP_CONTROL g) Fl.GROUP_CONTROL_VALID)).flatMap (fun g =>
        bytesLE 2 g ++ s.maskedWord (Reg.GROUP_CONTROL g) 0x3F0007FE ++ s.maskedWord (Reg.GROUP_HYPER g) (2 ^ 64 - 1)
          ++ s.maskedWord (Reg.GROUP_BETAS g) (2 ^ 64 - 1) ++ s.maskedWord (Reg.GROUP_EPSILON g) (2 ^ 64 - 1)
          ++ s.maskedWord (Reg.GROUP_WINDOW g) 0xFFFFFF ++ s.maskedWord (Reg.GROUP_TELLTALE g) (2 ^ 64 - 1)
          ++ s.maskedWord (Reg.GROUP_STEP g) (2 ^ 64 - 1) ++ s.maskedWord (Reg.GROUP_POWERS g) (2 ^ 64 - 1))
    ++ ((List.range 64).filter (fun k => s.fld (Reg.SCHEDULE_CONFIG k) Fl.SCHEDULE_CONFIG_OWNER == t)).flatMap (fun k =>
        bytesLE 1 k ++ s.maskedWord (Reg.SCHEDULE_CONFIG k) (2 ^ 64 - 1 - 0x1F00)
          ++ s.maskedWord (Reg.SCHEDULE_LENGTHS k) (2 ^ 64 - 1) ++ s.maskedWord (Reg.SCHEDULE_RESTART k) (2 ^ 64 - 1))

/-- The inputs of the device digest (R364). -/
def State.deviceInputs (s : State) : List Byte :=
  s.digestBytes Reg.SECURITY_MEASUREMENT ++ s.maskedWord Reg.BRIDE_ROUTE_CONTROL 0xFFFF
    ++ s.maskedWord Reg.DEVICE_FUSE_MAP (2 ^ 64 - 1) ++ s.maskedWord Reg.DEVICE_RETIRE_UNITS (2 ^ 64 - 1)
    ++ s.maskedWord Reg.DEVICE_RETIRE_UPDATE (2 ^ 64 - 1) ++ s.maskedWord Reg.DEVICE_RETIRE_QUEUES (2 ^ 64 - 1)
    ++ (List.range 2).flatMap (fun i => s.maskedWord (Reg.DEVICE_RETIRE_CORES i) (2 ^ 64 - 1))
    ++ (List.range 8).flatMap (fun i => s.maskedWord (Reg.DEVICE_RETIRE_ENGINES i) (2 ^ 64 - 1))
    ++ (List.range 65536).flatMap (fun i => s.maskedWord (Reg.ROUTE i) (2 ^ 64 - 1))

/-- Whether a digest agrees with its reference registers. -/
def State.refMatches (s : State) (d r : Nat → Nat) : Bool := (List.range 8).all (fun w => s.rd (d w) == s.rd (r w))

/-- Gates and collectives that waited for a digest go on (R365). -/
def State.digestReady (s : State) (t : Nat) : State := iterate (fun e s => s.beginColl e) 16 0 (s.sendGate t)

/-- DIGEST_REFRESH (R365): of tenant t's shared digest, or of the device digest (32). -/
def execDigestRefresh (t : Fin 33) (s : State) : Result :=
  let s := s.begin
  finish (
    if t.val < 32 then
      let s1 := (s.putDigest (Reg.DIGEST t) (sha512 (s.sharedInputs t))).setFld (Reg.DIGEST_STATUS t)
        Fl.DIGEST_STATUS_CURRENT 1
      let s2 :=
        if s1.flag (Reg.DIGEST_STATUS t) Fl.DIGEST_STATUS_REF_VALID then
          let ok := s1.refMatches (Reg.DIGEST t) (Reg.DIGEST_REF t)
          let s3 := s1.setFld (Reg.DIGEST_STATUS t) Fl.DIGEST_STATUS_REF_MATCH ok.toNat
          if ok then s3 else s3.samplerMismatch (some t.val) 0 0
        else s1
      s2.digestReady t
    else
      let s1 := (s.putDigest Reg.DEVICE_DIGEST (sha512 s.deviceInputs)).setFld Reg.DEVICE_DIGEST_STATUS
        Fl.DEVICE_DIGEST_STATUS_CURRENT 1
      if s1.flag Reg.DEVICE_DIGEST_STATUS Fl.DEVICE_DIGEST_STATUS_REF_VALID then
        let ok := s1.refMatches Reg.DEVICE_DIGEST Reg.DEVICE_REF
        let s3 := s1.setFld Reg.DEVICE_DIGEST_STATUS Fl.DEVICE_DIGEST_STATUS_REF_MATCH ok.toNat
        if ok then s3 else s3.samplerMismatch none 0 4
      else s1)

end Sys2Proof.Machine
end

