-- ==== Sys2Proof/Machine/Update.lean ====
section
/-! DEFINITION. The update units' commands: parameter groups (R266, R267), retry (R286), leaving and entering service (R280,
R281), tiles (R273, R279), late state (R283) and the schedule probe (R286). -/

namespace Sys2Proof.Machine

/-! ### Creating and deleting groups (R266, R267) -/

/-- The memory that unit u serves: base and length (R262). -/
def unitMemory (u : Nat) : Nat × Nat :=
  if u < 8 then (u * 0x002000000000, 0x002000000000)
  else (nearBase + (u - 8) / 16 * 0x80000000 + (u - 8) % 16 * 0x8000000, 0x8000000)

/-- An extent lies in the memory of unit u, in regions tenant t may write. -/
def State.inUnit (s : State) (u t a len : Nat) : Bool :=
  let m := unitMemory u
  decide (m.1 ≤ a) && decide (a + len ≤ m.1 + m.2) && s.extentOk t a len true

/-- An extent lies in one tier of a list, in regions tenant t may write. -/
def State.inTier (s : State) (tiers : List Nat) (t a len : Nat) : Bool :=
  tiers.any (fun r => tierAt a == some r && tierAt (a + len - 1) == some r) && s.extentOk t a len true

/-- The state lies where R265 and R266 require it: in the unit's memory, or in the up copy of a WRITABLE object of the tenant
that covers it. -/
def State.stateOk (s : State) (g t rule : Nat) : Bool :=
  let u := s.groupUnit g
  let len := (if rule = 4 then 8 else if rule = 3 then 4 else 0) * padded (s.groupCount g)
  match s.stateObject g with
  | some o =>
    s.objectValid o && s.objectTenant o == some t && s.writable o && s.upTier o != 2 && decide (len ≤ 4096 * s.swatches o)
      && s.inUnit u t (s.upBase o) (max 1 len)
  | none => len == 0 || s.inUnit u t (s.fld (Reg.GROUP_STATE_BASE g) Fl.GROUP_STATE_BASE_ADDR) len

/-- The BF16 copies lie in T0 or T1. -/
def State.bf16Ok (s : State) (g t : Nat) : Bool :=
  s.inTier [0, 1] t (s.fld (Reg.GROUP_WC_BF16_BASE g) Fl.GROUP_WC_BF16_BASE_ADDR) (2 * padded (s.groupCount g))

/-- The FP8 copies lie in T0 or T1. -/
def State.fp8Ok (s : State) (g t : Nat) : Bool :=
  s.inTier [0, 1] t (s.fld (Reg.GROUP_WC_FP8_BASE g) Fl.GROUP_WC_FP8_BASE_ADDR) (padded (s.groupCount g))

/-- Check 2 of R266 holds. -/
def State.groupFieldsOk (s : State) (g t : Nat) : Bool :=
  let c := Reg.GROUP_CONTROL g
  let u := s.groupUnit g
  let w := s.windowBase g
  decide (s.fld c Fl.GROUP_CONTROL_RULE ≤ 4) && decide (s.fld c Fl.GROUP_CONTROL_CLIP_POLICY ≤ 1) && decide (u < 40)
    && !s.updateUnitAbsent u
    && s.fld (Reg.SCHEDULE_CONFIG (s.fld c Fl.GROUP_CONTROL_SCHEDULE)) Fl.SCHEDULE_CONFIG_OWNER == t
    && decide (-4096 ≤ w) && decide (w ≤ 4095) && s.accBase g % 4096 == 0 && s.masterBase g % 1024 == 0
    && s.fld (Reg.GROUP_STATE_BASE g) Fl.GROUP_STATE_BASE_ADDR % 1024 == 0
    && s.fld (Reg.GROUP_WC_BF16_BASE g) Fl.GROUP_WC_BF16_BASE_ADDR % 256 == 0
    && s.fld (Reg.GROUP_WC_FP8_BASE g) Fl.GROUP_WC_FP8_BASE_ADDR % 256 == 0 && s.pendingBase g % 1024 == 0

/-- Check 3 of R266 holds. -/
def State.groupRangesOk (s : State) (g t : Nat) : Bool :=
  let c := Reg.GROUP_CONTROL g
  let rule := s.fld c Fl.GROUP_CONTROL_RULE
  let n := padded (s.groupCount g)
  s.inUnit (s.groupUnit g) t (s.accBase g) (16 * n)
    && (rule == 0
      || (s.inUnit (s.groupUnit g) t (s.masterBase g) (4 * n) && s.stateOk g t rule
        && (!s.flag c Fl.GROUP_CONTROL_EMIT_BF16 || s.bf16Ok g t) && (!s.flag c Fl.GROUP_CONTROL_EMIT_FP8 || s.fp8Ok g t)
        && ((s.stateObject g).isNone || s.inTier [1] t (s.pendingBase g) (4 * n))))

/-- The accumulator range overlaps that of another valid group. -/
def State.accOverlaps (s : State) (g : Nat) : Bool :=
  let a := s.accBase g
  let len := 16 * padded (s.groupCount g)
  s.validGroups.any (fun h => h != g && decide (s.accBase h < a + len)
    && decide (a < s.accBase h + 16 * padded (s.groupCount h)))

/-- The first refusal of a creation by tenant t: 1 SEGMENT, 2 FIELD, 3 RANGE, 4 OVERLAP, 5 TABLE_FULL; 0 for none (R266). -/
def State.groupError (s : State) (t : Option Nat) (g : Nat) : Nat :=
  match t with
  | none => 1
  | some u =>
    if s.groupTenant g ≠ t then 1
    else if s.groupFieldsOk g u = false then 2
    else if s.groupRangesOk g u = false then 3
    else if s.accOverlaps g then 4
    else if 256 ≤ (s.unitGroups (s.groupUnit g)).length then 5
    else 0

/-- Writes CREATE_ERR of a group. -/
def State.setGroupErr (s : State) (g code : Nat) : State :=
  s.setFld (Reg.GROUP_STATUS g) Fl.GROUP_STATUS_CREATE_ERR code

/-- The fields of CONTROL that a write sets (R265). -/
def groupControlMask : Word := 0x3F3F07FF

/-- The ranges that a creation checks, as `GroupRun.checked` holds them: master, M, V, BF16 and FP8 copies (R266). -/
def State.checkedRanges (s : State) (g : Nat) : Nat :=
  let c := Reg.GROUP_CONTROL g
  let rule := s.fld c Fl.GROUP_CONTROL_RULE
  if rule = 0 then 0
  else
    1 + 2 * (rule == 3 || rule == 4).toNat + 4 * (rule == 4).toNat + 8 * s.fld c Fl.GROUP_CONTROL_EMIT_BF16 + 16 * s.fld c Fl.GROUP_CONTROL_EMIT_FP8

/-- A write of CONTROL with VALID = 1 to a group that does not exist (R266). -/
def State.createGroup (s : State) (who : Requester) (g : Nat) (v : Word) : State :=
  let s1 := (s.wrArray (Reg.GROUP_CONTROL g) (v &&& groupControlMask)).setFld (Reg.GROUP_CONTROL g) Fl.GROUP_CONTROL_VALID 0
  let t := s.actsFor who
  match s1.groupError t g with
  | 0 =>
    let s2 := (s1.setFld (Reg.GROUP_CONTROL g) Fl.GROUP_CONTROL_VALID 1).setFld (Reg.GROUP_STATUS g)
      Fl.GROUP_STATUS_STRICT_FAIL 0
    let s3 := (s2.setGroupRun g { checked := s2.checkedRanges g }).sampleGroup g
    (s3.syncUnit (s3.groupUnit g)).staleDigest (t.getD 0)
  | c => s1.setGroupErr g c

/-- A write of CONTROL with VALID = 0 (R266); it writes the other fields of the word with it. A group that takes part in a step
leaves at the step's end (R300; notes/assumptions/114). -/
def State.deleteGroup (s : State) (g : Nat) (v : Word) : State :=
  if s.flag (Reg.GROUP_CONTROL g) Fl.GROUP_CONTROL_VALID = false then s.wrArray (Reg.GROUP_CONTROL g) (v &&& groupControlMask)
  else if s.phaseOf_ g = 0 ∧ (s.groupRun g).member = true then s.setGroupRun g { s.groupRun g with leaving := true }
  else if s.phaseOf_ g = 0 then (s.removeGroup g).wrArray (Reg.GROUP_CONTROL g) (v &&& groupControlMask)
  else s.setGroupErr g 6

/-- Whether a bit of the ranges checked at creation is set. -/
def State.rangeChecked (s : State) (g bit : Nat) : Bool := bitsOf (s.groupRun g).checked bit 1 == 1

/-- The rule needs only ranges checked at creation (R267). -/
def State.ruleAllowed (s : State) (g rule : Nat) : Bool :=
  match rule with
  | 0 => true
  | 1 => s.rangeChecked g 0
  | 2 => s.rangeChecked g 0
  | 3 => s.rangeChecked g 0 && s.rangeChecked g 1
  | 4 => s.rangeChecked g 0 && s.rangeChecked g 1 && s.rangeChecked g 2
  | _ => false

/-- Writes one field when it may change, and CREATE_ERR otherwise; an unchanged field is no refusal. -/
def State.groupField (s : State) (g off : Nat) (f : Fld) (v : Word) (ok : Bool) (code : Nat) : State :=
  if ok then s.setFld off f (f.read v)
  else if f.read v = s.fld off f then s
  else s.setGroupErr g code

/-- A write of CONTROL with VALID = 1 to a group that exists (R267). -/
def State.rewriteGroup (s : State) (g : Nat) (v : Word) : State :=
  let c := Reg.GROUP_CONTROL g
  let owner := s.fld (Reg.SCHEDULE_CONFIG (Fl.GROUP_CONTROL_SCHEDULE.read v)) Fl.SCHEDULE_CONFIG_OWNER
  let put := fun (s : State) (f : Fld) (ok : Bool) (code : Nat) => s.groupField g c f v ok code
  let s1 := put s Fl.GROUP_CONTROL_RULE (s.ruleAllowed g (Fl.GROUP_CONTROL_RULE.read v)) 2
  let s2 := put s1 Fl.GROUP_CONTROL_FROZEN_POLICY true 0
  let s3 := put s2 Fl.GROUP_CONTROL_CLIP_POLICY (decide (Fl.GROUP_CONTROL_CLIP_POLICY.read v ≤ 1)) 2
  let s4 := put s3 Fl.GROUP_CONTROL_EMIT_BF16 (Fl.GROUP_CONTROL_EMIT_BF16.read v == 0 || s.rangeChecked g 3) 2
  let s5 := put s4 Fl.GROUP_CONTROL_EMIT_FP8 (Fl.GROUP_CONTROL_EMIT_FP8.read v == 0 || s.rangeChecked g 4) 2
  let s6 := put s5 Fl.GROUP_CONTROL_FP8_FORMAT true 0
  let s7 := put s6 Fl.GROUP_CONTROL_SCHEDULE (s.groupTenant g == some owner) 2
  let s8 := put s7 Fl.GROUP_CONTROL_STATE_IN_OBJECT false 7
  ((put s8 Fl.GROUP_CONTROL_UNIT false 7).healArray c).staleDigest ((s.groupTenant g).getD 0)

/-- A write of CONTROL of a group. -/
def State.writeGroupControl (s : State) (who : Requester) (g : Nat) (v : Word) : State :=
  if Fl.GROUP_CONTROL_VALID.read v = 0 then s.deleteGroup g v
  else if s.flag (Reg.GROUP_CONTROL g) Fl.GROUP_CONTROL_VALID then s.rewriteGroup g v
  else s.createGroup who g v

/-- A write of WINDOW of a valid group (R267): W only while PHASE is IDLE and in its range; the other fields are locked. -/
def State.writeGroupWindow (s : State) (g : Nat) (v : Word) : State :=
  let r := Reg.GROUP_WINDOW g
  let w := signedOf 16 (Fl.GROUP_WINDOW_W.read v)
  let s1 := if s.phaseOf_ g = 0 then s.groupField g r Fl.GROUP_WINDOW_W v (decide (-4096 ≤ w) && decide (w ≤ 4095)) 2 else s
  ((s1.groupField g r Fl.GROUP_WINDOW_SILENT_STEPS v false 7).groupField g r Fl.GROUP_WINDOW_DONE_KNOT v false 7).groupField
    g r Fl.GROUP_WINDOW_DONE_EN v false 7 |>.healArray r

/-- A write of word i, 1 to 14, of a valid group (R267): the hyperparameters and thresholds are written, STEP and POWERS while
PHASE is IDLE, every other word is locked. -/
def State.writeValidWord (s : State) (g i : Nat) (v : Word) : State :=
  let r := Reg.GROUP_CONTROL g + 8 * i
  let t := (s.groupTenant g).getD 0
  if i = 8 ∨ i = 9 ∨ i = 10 ∨ i = 12 then (s.wrArray r v).staleDigest t
  else if i = 11 then (s.writeGroupWindow g v).staleDigest t
  else if i = 13 ∨ i = 14 then
    if s.phaseOf_ g = 0 then (s.wrArray r v).staleDigest t else if s.rd r = v then s else s.setGroupErr g 7
  else if s.rd r = v then s
  else s.setGroupErr g 7

/-- The fields of words 1 to 14 of a group (R265). -/
def groupWordMask (i : Nat) : Word :=
  if i = 1 then 0x3FFF0FFFFFFF else if 2 ≤ i ∧ i ≤ 7 then 0xFFFFFFFFFFFF else if i = 11 then 0x8001FFFF00FFFFFF
  else BitVec.allOnes 64

/-- A write of word i of a group (R265 to R267); in STATUS each 1 clears a W1C bit. -/
def State.writeGroupWord (s : State) (who : Requester) (g i : Nat) (v : Word) : State :=
  if i = 0 then s.writeGroupControl who g v
  else if i = 15 then s.clearOnes (Reg.GROUP_STATUS g) v [Fl.GROUP_STATUS_POISONED, Fl.GROUP_STATUS_CREATE_ERR]
  else if s.flag (Reg.GROUP_CONTROL g) Fl.GROUP_CONTROL_VALID then s.writeValidWord g i (v &&& groupWordMask i)
  else s.wrArray (Reg.GROUP_CONTROL g + 8 * i) (v &&& groupWordMask i)

/-- A write of word i of group g by a requester (R264): its own tenant's groups, and Tambour's writes. -/
def State.accessGroup (s : State) (who : Requester) (g i : Nat) (v : Word) : State :=
  if s.mayWrite who (Reg.GROUP_CONTROL g) then s.writeGroupWord who g i v
  else if i = 0 ∧ Fl.GROUP_CONTROL_VALID.read v = 1 ∧ s.stranger who (s.groupTenant g) = true then s.setGroupErr g 1
  else s

/-- GROUP_CREATE (R266). -/
def execGroupCreate (who : Requester) (g : Fin 4096) (v : Word) (s : State) : Result :=
  finish (s.begin.accessGroup who g 0 (Fl.GROUP_CONTROL_VALID.write v 1))

/-- GROUP_DELETE (R266). -/
def execGroupDelete (who : Requester) (g : Fin 4096) (v : Word) (s : State) : Result :=
  finish (s.begin.accessGroup who g 0 (Fl.GROUP_CONTROL_VALID.write v 0))

/-! ### Service (R280, R281, R286) -/

/-- RETRY of group g at unit u (R286). -/
def State.retryGroup (s : State) (u g : Nat) : State :=
  if s.validGroups.contains g && s.groupUnit g == u && s.phaseOf_ g == 4
      && s.flag (Reg.GROUP_STATUS g) Fl.GROUP_STATUS_POISONED
  then s.proceedGroup g else s

/-- UPDATE_RETRY (R286). -/
def execUpdateRetry (who : Requester) (u : Fin 40) (v : Word) (s : State) : Result :=
  finish (s.begin.guarded who (Reg.UNIT_RETRY u) fun s => s.retryGroup u (Fl.UNIT_RETRY_GROUP.read v))

/-- The tenant that a list of groups belongs to, when it is one tenant. -/
def State.soleTenant (s : State) : List Nat → Option Nat
  | [] => none
  | g :: rest => if rest.all (fun h => s.groupTenant h == s.groupTenant g) then s.groupTenant g else none

/-- Update unit u begins to drain (R281). -/
def State.drainUpdate (s : State) (u : Nat) : State :=
  if s.unitState u = 0 then
    let r := s.holdGroups (s.unitGroups u)
    let owing := (s.unitGroups u).filter (fun g => r.1.phaseOf_ g == 4 && s.phaseOf_ g == 1)
    let s1 := if r.2 = 0 then r.1
      else (r.1.countN (Reg.UNIT_CANCELLED u) (r.2 - 1)).raise
        { cond := .cancelled, ribbon := .notice, source := source 4 u 0, tenant := r.1.soleTenant owing,
          detail := r.2 % 2 ^ 32 + r.1.stitch % 2 ^ 64 * 2 ^ 32, counters := [Reg.UNIT_CANCELLED u] }
    ((s1.setFld (Reg.UNIT_STATUS u) Fl.UNIT_STATUS_STATE 1).beginDrain (.updateUnit u)).checkUnit u
  else s

/-- UPDATE_UNIT_DRAIN_REQ (R281). -/
def execUpdateUnitDrainReq (who : Requester) (u : Fin 40) (s : State) : Result :=
  finish (s.begin.guarded who (Reg.UNIT_CONTROL u) fun s => s.drainUpdate u)

/-- HELD groups of a unit that is ENABLED again go on (R273). -/
def State.resumeGroups (s : State) : List Nat → State
  | [] => s
  | g :: rest => State.resumeGroups (if s.phaseOf_ g = 4 then s.proceedGroup g else s) rest

/-- An update unit takes REQ = ENABLE: it is DISABLED and not retired (R98). -/
def State.updateEnables (s : State) (u : Nat) : Bool := s.unitState u == 2 && !s.updateUnitAbsent u

/-- Update unit u returns to ENABLED (R280): every LOGGED entry is replayed first. Bit i of `lost` says that the read of the
i-th entry is uncorrectable. -/
def State.enableUpdate (s : State) (u lost : Nat) : State :=
  if s.updateEnables u then
    let s1 := (s.replay u lost (s.ledger u)).setFld (Reg.UNIT_STATUS u) Fl.UNIT_STATUS_STATE 0
    (s1.resumeGroups (s1.unitGroups u)).checkGates
  else s

/-- UPDATE_UNIT_ENABLE_REQ (R280). -/
def execUpdateUnitEnableReq (who : Requester) (u : Fin 40) (lost : BitVec 256) (s : State) : Result :=
  finish (s.begin.guarded who (Reg.UNIT_CONTROL u) fun s => s.enableUpdate u lost.toNat)

/-- The DRAIN_LIMIT of update units; 0 acts as 1 (R286). -/
def State.updateLimit (s : State) : Nat := max 1 (s.fld Reg.UPDATE_DRAIN_LIMIT Fl.UPDATE_DRAIN_LIMIT_STITCHES)

/-- UPDATE_DRAIN_LIMIT (R281): the entries stay LOGGED, to be completed by replay. -/
def execUpdateDrainLimit (u : Fin 40) (s : State) : Result :=
  let s := s.begin
  finish (match s.limitDue (.updateUnit u) s.updateLimit with
    | none => s
    | some d =>
      let n := (s.ledger u).length
      let t := s.soleTenant ((s.ledger u).map (·.group))
      let s1 := s.markTimedOut (.updateUnit u)
      let s2 := if n = 0 then s1
        else (s1.countN (Reg.UNIT_ABORTED u) (n - 1)).raise
          { cond := .aborted, ribbon := .fault, source := source 4 u 0, tenant := t, detail := n % 65536 * 2 ^ 64,
            counters := [Reg.UNIT_ABORTED u] }
      let s3 := s2.unitTimeout (source 4 u 0) d.entry t [Reg.UNIT_DRAIN_TIMEOUT u]
      (s3.setFld (Reg.UNIT_STATUS u) Fl.UNIT_STATUS_STATE 2).drainEnded (.updateUnit u))

/-! ### Tiles (R273, R279, R283) -/

/-- TILE_DONE (R279): the writes of unit u's oldest entry are readable, and the unit then takes up to `take` further tiles. -/
def execTileDone (u : Fin 40) (take : Nat) (s : State) : Result :=
  let s := s.begin
  finish (if s.clocked = false ∨ 2 ≤ s.unitState u then s
    else
      let s1 := s.freeOldest u
      let s2 := if s1.unitState u = 0 then s1.takeTiles u take else s1
      (s2.checkUnit u).checkGates)

/-- STATE_NOT_RESIDENT (R283). -/
def execStateNotResident (g : Fin 4096) (s : State) : Result :=
  let s := s.begin
  let limit := max 1 (s.fld Reg.UPDATE_PROMOTE_LIMIT Fl.UPDATE_PROMOTE_LIMIT_STITCHES)
  finish (match (s.groupRun g).holdSince with
    | none => s
    | some since =>
      if s.phaseOf_ g = 2 ∧ since + limit ≤ s.stitchClock
          ∧ s.flag (Reg.GROUP_STATUS g) Fl.GROUP_STATUS_STATE_LATE = false then
        let u := s.groupUnit g
        (s.setFld (Reg.GROUP_STATUS g) Fl.GROUP_STATUS_STATE_LATE 1).raise
          { cond := .stateNotResident, ribbon := .fault, source := source 4 u 0, tenant := s.groupTenant g,
            detail := g + s.fld (Reg.GROUP_ELEMENTS g) Fl.GROUP_ELEMENTS_STATE_OBJECT * 2 ^ 16,
            counters := [Reg.UNIT_STATE_NOT_RESIDENT u] }
      else s)

/-! ### Schedules (R286) -/

/-- A write of PROBE: the engine computes M for the step. -/
def State.writeProbe (s : State) (k : Nat) (v : Word) : State :=
  let t := Fl.SCHEDULE_PROBE_STEP.read v
  (s.setFld (Reg.SCHEDULE_PROBE k) Fl.SCHEDULE_PROBE_STEP t).setFld (Reg.SCHEDULE_PROBE k) Fl.SCHEDULE_PROBE_VALUE
    ((s.schedule k).multiplier t)

/-- SCHEDULE_PROBE (R286). -/
def execScheduleProbe (who : Requester) (k : Fin 64) (v : Word) (s : State) : Result :=
  finish (s.begin.guarded who (Reg.SCHEDULE_PROBE k) fun s => s.writeProbe k v)

end Sys2Proof.Machine
end

