-- ==== Sys2Proof/Machine/Host.lean ====
section
/-! DEFINITION. The host attachment (R410 to R426): configuration, endpoint links, function-level reset, host reads and writes
of far memory through BAR4, completions of DMA, rings and interrupts. -/

namespace Sys2Proof.Machine

/-! ### Configuration (R410) -/

/-- Sends the pending MSI-X messages of a function that are no longer masked. -/
def State.releaseVectors (s : State) (f : Nat) : List Nat → State
  | [] => s
  | v :: rest =>
    let c := s.cfg f
    if c.msixEnable && !c.msixMaskAll && NatSet.has c.unmasked v && s.canDma f then
      State.releaseVectors ((s.setCfg f { c with pendingVectors := NatSet.del c.pendingVectors v }).emit (.msix f v)) f rest
    else State.releaseVectors s f rest

/-- The configuration space after a write. -/
def FnCfg.write (c : FnCfg) : ConfigWrite → FnCfg
  | .power d3 => { c with d3hot := d3 }
  | .command bm ms => { c with busMaster := bm, memSpace := ms }
  | .vfEnable on => { c with vfEnable := on }
  | .bar4 k => { c with bar4Log := 30 + k.val }
  | .vfBar4 _ => c
  | .deviceControl p r =>
    { c with maxPayload := if p.val ≤ 2 then 128 * 2 ^ p.val else c.maxPayload,
             maxRead := if r.val ≤ 5 then 128 * 2 ^ r.val else c.maxRead }
  | .msixControl en mask => { c with msixEnable := en, msixMaskAll := mask }
  | .msixMask v masked => { c with unmasked := if masked then NatSet.del c.unmasked v else NatSet.add c.unmasked v }
  | .msixEntry v a d => { c with msixTable := Sparse.set (fun _ => (0, 0)) c.msixTable v (a.toNat / 4 * 4, d.toNat) }
  | .numVfs n => if c.vfEnable then c else { c with numVfs := n }
  | .completionTimeout r d => { c with timeoutRange := r, timeoutDisable := d }
  | .aerClear b => { c with aer := c.aer &&& ~~~b }

/-- The identity that the configuration space of a function shows (R412, R4). -/
structure FnIdentity where
  vendor : Nat
  device : Nat
  classCode : Nat
  revision : Nat
  subVendor : Nat
  subsystem : Nat
  /-- Device Serial Number: the module serial number (R410). -/
  serial : Nat
  deriving DecidableEq, Repr

/-- The identity of function f (R412, R4). -/
def State.fnIdentity (s : State) (f : Nat) : FnIdentity :=
  { vendor := 0x1F6E, device := (if s.is7160 then 0x7160 else 0x7200) + (if f % 16 = 0 then 0 else 1), classCode := 0x120000,
    revision := s.fld Reg.DEVICE_IDENTITY Fl.DEVICE_IDENTITY_REVISION, subVendor := 0x1F6E, subsystem := f / 16 + 1,
    serial := (s.rd Reg.DEVICE_SERIAL).toNat }

/-- The configuration reset state of a function (R425): the size of a virtual function's BAR4 is its physical function's, and
returns with that. -/
def State.resetCfg (s : State) (f : Nat) : State :=
  if f % 16 = 0 then
    iterate (fun i s => s.setCfg (f + i) { s.cfg (f + i) with bar4Log := ({} : FnCfg).bar4Log }) 15 1 (s.setCfg f {})
  else s.setCfg f { bar4Log := (s.cfg f).bar4Log }

/-- Records an uncorrectable error of Advanced Error Reporting: 12 poisoned data received, 14 completion timeout, 20 unsupported
request (R410; notes/assumptions/111). -/
def State.aerError (s : State) (f bit : Nat) : State :=
  s.setCfg f { s.cfg f with aer := (s.cfg f).aer ||| BitVec.ofNat 32 (2 ^ bit) }

/-- A configuration write to function f. VF enable, NumVFs and the size of the virtual functions' BAR4 are the physical
function's. -/
def State.writeConfig (s : State) (f : Nat) (w : ConfigWrite) : State :=
  let s1 := match w with
    | .vfEnable _ | .numVfs _ => if f % 16 = 0 then s.setCfg f ((s.cfg f).write w) else s
    | .vfBar4 k =>
      if f % 16 = 0 then iterate (fun i s => s.setCfg (f + i) { s.cfg (f + i) with bar4Log := 30 + k.val }) 15 1 s else s
    | _ => s.setCfg f ((s.cfg f).write w)
  (s1.releaseVectors f (s1.cfg f).pendingVectors).checkNotifies

/-- CONFIGURATION_WRITE (R410). -/
def execConfigurationWrite (f : Fin 32) (w : ConfigWrite) (s : State) : Result := finish (s.begin.writeConfig f w)

/-! ### Function-level reset (R425, R228, R281, R289, R186, R156) -/

/-- The tenant that a drain concerns. -/
def State.drainTenant (s : State) : DrainUnit → Option Nat
  | .queue n _ => s.coreTenant n
  | .core n => s.coreTenant n
  | .tierQueue q => s.tierQueueTenant q
  | .collective e => s.collectiveTenant e
  | _ => none

/-- The drains of tenant t's units end within 1,024 stitches. -/
def State.capDrains (s : State) (t : Nat) : State :=
  let ds := s.core.drains.map (fun d => if s.drainTenant d.what = some t then { d with cap := some 1024 } else d)
  { s with core := { s.core with drains := ds } }

/-- Objects whose STATUS or CONTROL is not at its reset value. -/
def State.listedObjects (s : State) : List Nat :=
  s.regs.filterMap (fun e =>
    if 0x2E00000 ≤ e.1 ∧ e.1 < 0x3000000 ∧ e.1 = Reg.TIER_OBJECT_CONTROL ((e.1 - 0x2E00000) / 0x80)
    then some ((e.1 - 0x2E00000) / 0x80) else none)

/-- Tenant t releases its pins on a list of objects, as UNPIN does. -/
def State.releasePins (s : State) (t : Nat) : List Nat → State
  | [] => s
  | o :: rest =>
    State.releasePins (if s.pinned o t then ((s.unpin o t).pendingEvict o).settleObject o settleBound else s) t rest

/-- Replays tenant t's LOGGED entries in a ledger, in order; bit i of `lost` says that the read of the i-th is uncorrectable. -/
def State.replayTenant (s : State) (u t lost : Nat) : List LedgerEntry → State
  | [] => s
  | e :: rest =>
    if s.groupTenant e.group = some t then
      State.replayTenant (s.replayEntry u (lost % 2 == 1) e) u t (lost / 2) rest
    else State.replayTenant s u t lost rest

/-- The tiles of a group that are not logged are dropped: an APPLYING or waiting group is HELD (R281). -/
def State.dropTiles (s : State) (g : Nat) : State :=
  if s.phaseOf_ g = 1 ∨ s.phaseOf_ g = 2 then (s.setGroupPhase g 4).letObjectGo g else s

/-- The update units and the gate of tenant t: LOGGED entries are replayed, which may complete the step, unlogged tiles are
dropped, the groups are deleted, and the step machine becomes DISARMED (R281, R289; notes/assumptions/115). `lost` holds the
uncorrectable ledger reads of each unit. -/
def State.resetTraining (s : State) (t : Nat) (lost : List Nat) : State :=
  let s1 := (iterate (fun u s => s.replayTenant u t (lost.getD u 0) (s.ledger u)) 40 0 s).checkGate t
  let s2 := (s1.tenantGroups t).foldl (fun s g => ((s.dropTiles g).removeGroup g).setGroupPhase g 0) s1
  let s3 := iterate (fun u s => s.checkUnit u) 40 0 s2
  (s3.setGateRun t {}).setGateState t 0

/-- The reads of list entries and descriptors among discarded jobs end without data, so that their queues drain (R221, R425). -/
def State.loseLists (s : State) : List DmaJob → State
  | [] => s
  | j :: rest =>
    State.loseLists (match j.owner with
      | .tierList q i => s.tierListDone q i []
      | .collectiveList e i => s.collListDone e i []
      | _ => s) rest

/-- Starts the reset of tenant t for function f, or joins the one that runs (R425, R426). -/
def State.startReset (s : State) (t f : Nat) (lost : List Nat) : State :=
  if s.inReset t then
    { s with flrs := s.flrs.map (fun r =>
        if r.tenant = t ∧ r.starters.contains f = false then { r with starters := r.starters ++ [f] } else r) }
  else
    let fetch := s.dma.any (fun j => j.tenant == t && j.owner == .firmware)
    let s1 := { s with flrs := s.flrs ++ [(⟨t, [f], false, false⟩ : FlrState)], dma := s.dma.filter (fun j => j.tenant != t),
                       fw := { s.fw with fetchFailed := s.fw.fetchFailed || fetch } }.pumpReads
    let s2 := iterate (fun n s => if s.coreTenant n = some t ∧ s.coreAbsent n = false then s.drainCore n else s) 128 0 s1
    let s3 := iterate (fun q s => if s.tierQueueTenant q = some t then s.drainTier q else s) 32 0 s2
    let s4 := (iterate (fun e s => if s.collectiveTenant e = some t then s.drainColl e else s) 16 0 s3).capDrains t
    let s5 := s4.loseLists (s.dma.filter (fun j => j.tenant == t))
    ((s5.releasePins t s5.listedObjects).resetTraining t lost).releaseHold

/-- A function-level reset of function f: of its tenant, or of its configuration alone where it is not bound (R425, R426). -/
def State.resetFunction (s : State) (f : Nat) (lost : List Nat) : State :=
  match s.fnBound f with
  | some t => s.startReset t f lost
  | none => s.resetCfg f

/-- FUNCTION_LEVEL_RESET (R425). -/
def execFunctionLevelReset (f : Fin 32) (lost : List Nat) (s : State) : Result := finish (s.begin.resetFunction f lost)

/-- The registers of a function that a reset returns to their reset values: aperture base, rings and windows (R425). -/
def functionRegs (f off : Nat) : Bool :=
  off == Reg.FUNCTION_APERTURE f || (decide (Reg.FUNCTION_COMPLETION_BASE f ≤ off) && decide (off ≤ Reg.FUNCTION_MAILBOX_READ f))
    || (decide (Reg.FUNCTION_WINDOW_HOST_ADDR f 0 ≤ off) && decide (off ≤ Reg.FUNCTION_WINDOW_CONTROL f 15))

/-- The registers of tenant t's event ring (R462). -/
def eventRingRegs (t off : Nat) : Bool := decide (Reg.EVTENANT_RING_BASE t ≤ off) && decide (off ≤ Reg.EVTENANT_RING_DROPPED t)

/-- Returns one function of the tenant to its reset values; its MSI-X table is masked again. -/
def State.clearFunction (s : State) (f : Nat) : State :=
  let rings := [Reg.FUNCTION_COMPLETION_RING f, Reg.FUNCTION_MAILBOX_RING f]
  let s1 := s.resetRegs (functionRegs f)
  { s1.setCfg f { s1.cfg f with unmasked := [], pendingVectors := [], msixTable := [] } with
    phases := Sparse.drop (fun r => rings.contains r) s1.phases, intrs := s1.intrs.filter (fun i => !rings.contains i.ring) }

/-- Steps 5 and 6 of a reset whose drains have ended (R425). -/
def State.finishReset (s : State) (r : FlrState) : State :=
  if r.knotsDone && r.objectsDone then
    let t := r.tenant
    let ring := Reg.EVTENANT_RING_CONTROL t
    let fs := (List.range 32).filter (fun f => s.fnBound f == some t)
    let s1 := (fs.foldl (fun s f => s.clearFunction f) s).resetRegs (eventRingRegs t)
    let s2 := { s1 with phases := Sparse.drop (fun r => r == ring) s1.phases, intrs := s1.intrs.filter (fun i => i.ring != ring),
                        flrs := s1.flrs.filter (fun x => x.tenant != t) }
    (r.starters.foldl (fun s f => s.resetCfg f) s2).checkNotifies
  else { s with flrs := s.flrs.map (fun x => if x.tenant = r.tenant then r else x) }

/-- The reset of tenant t that runs. -/
def State.flrOf (s : State) (t : Nat) : Option FlrState := s.flrs.find? (fun r => r.tenant == t)

/-- Every core of tenant t is DISABLED or absent. -/
def State.coresDown (s : State) (t : Nat) : Bool :=
  (List.range 128).all (fun n => s.coreTenant n != some t || s.coreAbsent n || s.coreState n == 2)

/-- The registers of tenant t's knots. -/
def State.knotRegs (s : State) (t off : Nat) : Bool :=
  match regionOf off with | .knot k => s.knotTenant k == some t | _ => false

/-- Resets tenant t's knots, with the updates and notifications that wait for them, and its cores' vector engines (R186, R156). -/
def State.resetKnots (s : State) (t : Nat) : State :=
  let s1 := { s with remoteQ := s.remoteQ.filter (fun u => s.knotTenant u.knot != some t),
                     notifies := s.notifies.filter (fun x => s.knotTenant x.knot != some t),
                     core := { s.core with
                       vregs := Sparse.drop (fun k => s.coreTenant (k / 8192) == some t) s.core.vregs,
                       vlen := Sparse.drop (fun n => s.coreTenant n == some t) s.core.vlen } }
  ({ s1 with mem := { s1.mem with upsets := s1.mem.upsets.filter (fun e =>
      !(decide (pathBase ≤ e.1) && s.coreTenant ((e.1 - pathBase) / 4096) == some t)) } }).resetRegs (s.knotRegs t)

/-- FLR_KNOT_RESET (R186): once tenant t's cores are DISABLED. -/
def execFlrKnotReset (t : Fin 32) (s : State) : Result :=
  let s := s.begin
  finish (match s.flrOf t with
    | some r =>
      if r.knotsDone = false ∧ s.coresDown t = true then (s.resetKnots t).finishReset { r with knotsDone := true } else s
    | none => s)

/-- Deletes an object of a reset tenant without write-back: its charges and every reservation on it end (R228). Entries of
other tenants that wait on it complete ABORTED (notes/assumptions/40). -/
def State.eraseObject (s : State) (o : Nat) : State :=
  let s1 := ((s.movesOf o).foldl (fun s m => s.dropMove m) s).setDiscard o false
  let s2 := ((List.range 32).filter (fun u => s1.pinned o u)).foldl (fun s u => s.unpin o u) s1
  let s3 := if s2.residency o = 0 then s2
    else if s2.holderCharged o then s2.releaseHolder o else s2.uncharge (s2.ownerNum o) (s2.upTier o) (s2.swatches o)
  let s4 := (s3.removeObject o).wr (Reg.TIER_OBJECT_STATUS o) 0
  let s5 := { s4 with tier := { s4.tier with wants := NatSet.del s4.tier.wants o } }
  s5.endRuns 2 (s5.tierRuns.filter (fun p => p.2.entry.op != 1 && p.2.entry.object == o))

/-- FLR_OBJECT_DELETE (R228): once no entry of tenant t is in flight. -/
def execFlrObjectDelete (t : Fin 32) (s : State) : Result :=
  let s := s.begin
  finish (match s.flrOf t with
    | some r =>
      if r.objectsDone = false ∧ s.tierRuns.all (fun p => s.tierQueueTenant p.1 != some t.val) = true then
        let s := s.releasePins t.val s.listedObjects
        let os := s.listedObjects.filter (fun o => s.objectTenant o == some t.val && s.objFld o Fl.TIER_OBJECT_CONTROL_VALID == 1)
        (os.foldl (fun s o => s.eraseObject o) s).finishReset { r with objectsDone := true }
      else s
    | none => s)

/-! ### Endpoint links (R40, R411) -/

/-- The state of an endpoint's link: 0 DOWN, 1 TRAINING, 2 UP. -/
def State.endpointLink (s : State) (e : Nat) : Nat := s.fld (Reg.ENDPOINT_STATUS e) Fl.ENDPOINT_STATUS_LINK

/-- The link trains: PERST# is deasserted, stage 2 has started, and the endpoint has its clock (R40, R405). -/
def State.trainEndpoint (s : State) (e : Nat) : State :=
  let up := NatSet.has s.boot.perstHigh e && s.boot.powered && s.clocked
    && decide (2 ≤ s.fld Reg.SECURITY_BOOT_STATUS Fl.SECURITY_BOOT_STATUS_STAGE)
  s.wr (Reg.ENDPOINT_STATUS e) (if up then 1 else 0)

/-- Resets an endpoint: its link, and every function of it (R411). -/
def State.resetEndpoint (s : State) (e : Nat) (lost : List Nat) : State :=
  iterate (fun i s => s.resetFunction (16 * e + i) lost) 16 0 (s.trainEndpoint e)

/-- PERST_ASSERT (R411). -/
def execPerstAssert (e : Fin 2) (lost : List Nat) (s : State) : Result :=
  let s := s.begin
  let s1 := { s with boot := { s.boot with perstHigh := NatSet.del s.boot.perstHigh e } }
  finish (if s.boot.powered then s1.resetEndpoint e lost else s1)

/-- PERST_DEASSERT (R40). -/
def execPerstDeassert (e : Fin 2) (s : State) : Result :=
  let s := s.begin
  if NatSet.has s.boot.perstHigh e then finish s
  else finish (({ s with boot := { s.boot with perstHigh := NatSet.add s.boot.perstHigh e } }).trainEndpoint e)

/-- HOT_RESET (R411): of an endpoint whose link is up. -/
def execHotReset (e : Fin 2) (lost : List Nat) (s : State) : Result :=
  let s := s.begin
  finish (if s.endpointLink e = 2 then s.resetEndpoint e lost else s)

/-- PCIE_LINK_DOWN (R411). -/
def execPcieLinkDown (e : Fin 2) (lost : List Nat) (s : State) : Result :=
  let s := s.begin
  finish (if s.endpointLink e = 2 then s.resetEndpoint e lost else s)

/-- PCIE_LINK_UP (R40): training ends at a width of 1, 2, 4 or 8 lanes and a speed from 1 to 6 (R430). -/
def execPcieLinkUp (e : Fin 2) (width : Fin 4) (speed : Fin 6) (flit : Bool) (s : State) : Result :=
  let s := s.begin
  finish (
    if s.endpointLink e = 1 then
      let w := 2 + 2 ^ width.val * 2 ^ 4 + (speed.val + 1) * 2 ^ 8 + flit.toNat * 2 ^ 11
      s.wr (Reg.ENDPOINT_STATUS e) (BitVec.ofNat 64 w)
    else s)

/-! ### The aperture (R417) -/

/-- The device address of a BAR4 offset. -/
def State.apertureAddress (s : State) (f o : Nat) : Nat :=
  let size := 2 ^ (s.cfg f).bar4Log
  s.fld (Reg.FUNCTION_APERTURE f) Fl.FUNCTION_APERTURE_BASE * 2 ^ 30 / size * size + o

/-- An extent cut at 4 KiB boundaries: address, offset in the extent, length; n bounds how many. -/
def pageParts : (n a off len : Nat) → List (Nat × Nat × Nat)
  | 0, _, _, _ => []
  | n + 1, a, off, len =>
    if len = 0 then []
    else
      let k := min len (4096 - a % 4096)
      (a, off, k) :: pageParts n (a + k) (off + k) (len - k)

/-- Reads parts for tenant t at BULK; a part that fails its check reads zero: bytes, whether a part failed, whether a line was
poisoned. -/
def State.readParts (s : State) (t : Nat) : List (Nat × Nat × Nat) → State × List Byte × Bool × Bool
  | [] => (s, [], false, false)
  | (a, _, k) :: rest =>
    if s.mayAccess t a false then
      let l := s.load (some t) .bulk a k
      let r := State.readParts l.s t rest
      (r.1, l.bytes ++ r.2.1, r.2.2.1, !l.poison.isEmpty || r.2.2.2)
    else
      let r := State.readParts s t rest
      (r.1, List.replicate k 0 ++ r.2.1, true, r.2.2.2)

/-- Writes parts for tenant t; a part that fails its check is dropped. -/
def State.writeParts (s : State) (t : Nat) (bytes : List Byte) (ep : Bool) : List (Nat × Nat × Nat) → State × Bool
  | [] => (s, false)
  | (a, off, k) :: rest =>
    if s.mayAccess t a true then
      State.writeParts (s.store a ((bytes.drop off).take k) (if ep then linesOf a k else [])) t bytes ep rest
    else
      let r := State.writeParts s t bytes ep rest
      (r.1, true)

/-- Counts a refused aperture access. -/
def State.denied (s : State) (f : Nat) (d : Bool) : State := if d then s.count (Reg.FUNCTION_DENIED f) else s

/-- Whether a function decodes BAR4 accesses at all: in D0 with Memory Space Enable (R417). -/
def State.decodes (s : State) (f : Nat) : Bool := !(s.cfg f).d3hot && (s.cfg f).memSpace

/-- The tenant whose BAR4 accesses of function f reach memory: bound, no reset running, READY, not tripped (R413, R425, R432). -/
def State.apertureTenant (s : State) (f : Nat) : Option Nat :=
  match s.fnTenant f with
  | some t => if s.inReset t || !s.ready || !s.clocked then none else some t
  | none => none

/-- APERTURE_READ (R417): of `len` bytes from BAR4 offset o. -/
def execApertureRead (f : Fin 32) (o : BitVec 40) (len : Fin 4097) (s : State) : Result :=
  let s := s.begin
  finish (
    if 2 ^ (s.cfg f).bar4Log ≤ o.toNat then s
    else if !s.decodes f then (s.aerError f 20).emit (.unsupported f)
    else
      match s.apertureTenant f with
      | none => s.emit (.completion f (List.replicate len.val 0) false)
      | some t =>
        let r := s.readParts t (pageParts (len.val + 1) (s.apertureAddress f o.toNat) 0 len.val)
        let s1 := if r.2.2.2 then r.1.count (Reg.ENDPOINT_POISONED (f.val / 16)) else r.1
        (s1.denied f r.2.2.1).emit (.completion f r.2.1 r.2.2.2))

/-- APERTURE_WRITE (R417): of bytes from BAR4 offset o, `ep` the EP bit. -/
def execApertureWrite (f : Fin 32) (o : BitVec 40) (bytes : List Byte) (ep : Bool) (s : State) : Result :=
  let s := s.begin
  finish (
    if 2 ^ (s.cfg f).bar4Log ≤ o.toNat ∨ s.decodes f = false then s
    else
      let s := if ep then s.aerError f 12 else s
      match s.apertureTenant f with
      | none => s
      | some t =>
        let r := s.writeParts t bytes ep (pageParts (bytes.length + 1) (s.apertureAddress f o.toNat) 0 bytes.length)
        r.1.denied f r.2)

/-! ### Completions of DMA (R420) -/

/-- The job and the request that a completion answers. -/
def findPart (fn tag : Nat) : List DmaJob → Option (DmaJob × DmaPart)
  | [] => none
  | j :: rest =>
    match j.parts.find? (fun p => p.fn == fn && p.tag == tag) with
    | some p => some (j, p)
    | none => findPart fn tag rest

/-- An entry of an engine queue has one transfer less outstanding. -/
def State.lessOutstanding (s : State) (n e uid : Nat) : State :=
  match s.entryUid n e uid with
  | some x => s.putEntryQ n e { x with outstanding := x.outstanding - 1 }
  | none => s

/-- A read of host memory has returned whole. -/
def State.dmaDone (s : State) (j : DmaJob) : State :=
  let good := if j.bad.isEmpty then j.bytes else []
  match j.owner with
  | .moverRead n e uid step => (s.lessOutstanding n e uid).fillStep n e uid step 0 j.bytes j.bad false
  | .moverFlush n e uid => s.lessOutstanding n e uid
  | .remoteRead t =>
    let addr := t.address % 2 ^ 48
    s.readResponse t j.bytes (poisonMap (addr / 64) (j.bad.flatMap (fun r => linesOf (addr + r.1) r.2))) 0
  | .remoteFlush t => s.answer { port := none, txn := t } 0
  | .tierList q i => s.tierListDone q i good
  | .tierRead o i => s.tierReadDone o i j.bytes (!j.bad.isEmpty)
  | .tierFlush m => s.tierFlushDone m
  | .collectiveList e i => s.collListDone e i good
  | .collectiveRead e => s.collReadDone e j.bytes (!j.bad.isEmpty)
  | .collectiveFlush e => s.collFlushDone e
  | .firmware =>
    let staging : Sparse Byte := (j.bytes.zipIdx).filterMap (fun p => if p.1 = 0 then none else some (p.2, p.1))
    State.clearUpsets
      { s with fw := { s.fw with staging := staging, stagedLen := j.bytes.length, fetchFailed := !j.bad.isEmpty } }
      stagedBase (j.bytes.length / 8)

/-- A step of a mover command failed on the host side, at a host address (R420, R126). -/
def State.hostStepFail (s : State) (n e uid : Nat) (flush : Bool) (addr : Nat) : State :=
  match s.entryUid n e uid with
  | some x =>
    let y := { x with outstanding := x.outstanding - 1 }
    s.putEntryQ n e (if y.failed.isSome then y
      else y.fail { cause := 6, port := if flush && isOp 4 x then 1 else 0, address := addr % 2 ^ 48 })
  | none => s

/-- A read of host memory has failed at one of its requests. -/
def State.dmaFailed (s : State) (j : DmaJob) (p : DmaPart) : State :=
  match j.owner with
  | .moverRead n e uid _ => s.hostStepFail n e uid false p.addr
  | .moverFlush n e uid => s.hostStepFail n e uid true p.addr
  | .remoteRead t => s.answer { port := none, txn := t } 3
  | .remoteFlush t => s.answer { port := none, txn := t } 3
  | .tierList q i => s.tierListDone q i []
  | .tierRead m _ => match s.moveAt m with | some m => s.failMove m 6 p.addr | none => s
  | .tierFlush m => match s.moveAt m with | some m => s.failMove m 6 p.addr | none => s
  | .collectiveList e i => s.collListDone e i []
  | .collectiveRead e => s.collHostFail e p.addr
  | .collectiveFlush e => s.collHostFail e p.addr
  | .firmware => { s with fw := { s.fw with fetchFailed := true } }

/-- A request of a job failed: the job ends (R420). -/
def State.failPart (s : State) (fn tag : Nat) : State :=
  match findPart fn tag s.dma with
  | none => s
  | some (j, p) => ((({ s with dma := s.dma.erase j }).pumpReads).dmaError fn).dmaFailed j p

/-- Bytes of a completion arrive for a request, poisoned with EP. -/
def State.takePartBytes (s : State) (j : DmaJob) (p : DmaPart) (bytes : List Byte) (ep : Bool) : State :=
  let part := bytes.take p.missing
  let k := part.length
  let p1 := { p with off := p.off + k, missing := p.missing - k }
  let ps := if p1.missing = 0 then j.parts.filter (fun q => q != p) else j.parts.map (fun q => if q = p then p1 else q)
  let j1 := { j with parts := ps, bytes := splice j.bytes p.off part,
                     bad := if ep && k != 0 then j.bad ++ [(p.off, k)] else j.bad }
  let s1 := if ep then (s.count (Reg.ENDPOINT_POISONED (p.fn / 16))).aerError p.fn 12 else s
  if ps.isEmpty && j.queued.isEmpty then (({ s1 with dma := s1.dma.erase j }).pumpReads).dmaDone j1
  else { s1 with dma := s1.dma.map (fun x => if x = j then j1 else x) }.pumpReads

/-- PCIE_COMPLETION (R420): `ok` for a successful status, not UR or CA; the data carried, and EP. -/
def execPcieCompletion (f : Fin 32) (tag : Fin 16384) (ok ep : Bool) (bytes : List Byte) (s : State) : Result :=
  let s := s.begin
  finish (
    if !ok then s.failPart f tag
    else
      match findPart f tag s.dma with
      | none => s
      | some (j, p) => s.takePartBytes j p bytes ep)

/-- COMPLETION_TIMEOUT (R420). -/
def execCompletionTimeout (f : Fin 32) (tag : Fin 16384) (s : State) : Result :=
  let s := s.begin
  finish (match findPart f tag s.dma with
    | some _ => (s.aerError f 14).failPart f tag
    | none => s)

/-! ### Rings (R421, R423) -/

/-- A write of COMPLETION_READ: entries are free, and waiting records are delivered (R421, R192). -/
def State.writeCompletionRead (s : State) (f : Nat) (v : Word) : State :=
  let s1 := s.setFld (Reg.FUNCTION_COMPLETION_READ f) Fl.FUNCTION_COMPLETION_READ_READ_PTR
    (Fl.FUNCTION_COMPLETION_READ_READ_PTR.read v)
  match s1.fnTenant f with
  | some t => s1.deliverPending t s1.notifies.length
  | none => s1

/-- COMPLETION_READ_WRITE (R421). -/
def execCompletionReadWrite (who : Requester) (f : Fin 32) (v : Word) (s : State) : Result :=
  finish (s.begin.guarded who (Reg.FUNCTION_COMPLETION_READ f) fun s => s.writeCompletionRead f v)

/-- The control register of ring k: completion ring k, mailbox ring k − 32, ribbon k − 64, tenant ring k − 68. -/
def ringReg (k : Nat) : Nat :=
  if k < 32 then Reg.FUNCTION_COMPLETION_RING k
  else if k < 64 then Reg.FUNCTION_MAILBOX_RING (k - 32)
  else if k < 68 then Reg.RIBBON_CONTROL (k - 64) else Reg.EVTENANT_RING_CONTROL (k - 68)

/-- MSIX_HOLDOFF (R423): VECTOR and HOLDOFF_US stand at [26:16] and [55:48] of every ring's control register. -/
def execMsixHoldoff (k : Fin 100) (s : State) : Result :=
  let s := s.begin
  let ring := ringReg k
  finish (match findIntr ring s.intrs with
    | none => s
    | some i =>
      if s.uptime < i.last + s.fld ring ⟨48, 8⟩ * 1000 then s
      else
        let others := s.intrs.filter (fun x => x.ring != ring)
        if i.held then { (s.sendMsix i.fn (s.fld ring ⟨16, 11⟩)) with intrs := others ++ [⟨ring, i.fn, s.uptime, false⟩] }
        else { s with intrs := others })

end Sys2Proof.Machine
end

