-- ==== Sys2Proof/Machine/ImageOps.lean ====
section
/-! DEFINITION. The firmware image (R434, R435), what starting one does (R436, R438, R440), the requests of the management
mailboxes (R424), and the messages of MCTP (R428). -/

namespace Sys2Proof.Machine

/-! ### The image -/

/-- UPDATE_STATUS.STATE: 0 IDLE, 1 STAGING, 2 STAGED, 3 WRITING, 4 COMMITTED, 5 ACTIVATING (R447). -/
def State.updateState (s : State) : Nat := s.fld Reg.SECURITY_UPDATE_STATUS Fl.SECURITY_UPDATE_STATUS_STATE

/-- Writes UPDATE_STATUS.STATE. -/
def State.setUpdateState (s : State) (v : Nat) : State :=
  s.setFld Reg.SECURITY_UPDATE_STATUS Fl.SECURITY_UPDATE_STATUS_STATE v

/-- Writes UPDATE_STATUS.ERR. -/
def State.setUpdateErr (s : State) (v : Nat) : State := s.setFld Reg.SECURITY_UPDATE_STATUS Fl.SECURITY_UPDATE_STATUS_ERR v

/-- A field of BOOT_STATUS. -/
def State.setBoot (s : State) (f : Fld) (v : Nat) : State := s.setFld Reg.SECURITY_BOOT_STATUS f v

/-- Whether bytes lo to lo + n − 1 of an image are zero. -/
def zeroBytes (image : List Byte) (lo n : Nat) : Bool := ((image.drop lo).take n).all (· == 0)

/-- MAGIC: ASCII "NLMN-FW1". -/
def magic : List Byte := [0x4E, 0x4C, 0x4D, 0x4E, 0x2D, 0x46, 0x57, 0x31]

/-- Order 2 of R435: MAGIC, FORMAT, LENGTH, reserved bytes and GRADES, for an image of which `have` bytes are there. -/
def headerValid (image : List Byte) (is7160 : Bool) (have_ : Nat) : Bool :=
  let length := headerField image 16 4
  image.take 8 == magic && headerField image 8 4 == 1 && decide (1 ≤ length) && decide (length ≤ 16776704)
    && decide (512 + length ≤ have_) && zeroBytes image 32 8 && zeroBytes image 173 83 && zeroBytes image 388 124
    && headerField image 20 4 / (if is7160 then 2 else 1) % 2 == 1

/-- Orders 2 to 5 of R435: 0, or the code of the first check that fails. -/
def State.checkImage (s : State) (image : List Byte) (have_ : Nat) : Nat :=
  if !headerValid image s.is7160 have_ then 2
  else if sha512 ((image.drop 40).take 133) ≠ Config.keyHash then 3
  else if headerField image 12 4 < s.fld Reg.SECURITY_FIRMWARE Fl.SECURITY_FIRMWARE_MIN_SVN then 4
  else if p521Verifies ((image.drop 40).take 133) (measurementOf image) ((image.drop 256).take 132) = false then 5
  else 0

/-- The image region of the flash up to the end of the image its header names; what has not been written is erased (R433). -/
def State.flashImage (s : State) : List Byte :=
  let header := s.fw.flash.take 512 ++ List.replicate (512 - s.fw.flash.length) 0xFF
  if header.take 8 ≠ magic then header
  else
    let n := min 16777216 (512 + headerField header 16 4)
    s.fw.flash.take n ++ List.replicate (n - s.fw.flash.length) 0xFF

/-- R435 for the flash image: order 1 fails where the read does not complete. -/
def State.checkFlash (s : State) (readOk : Bool) : Nat := if readOk then s.checkImage s.flashImage 16777216 else 1

/-- The first n bytes of firmware staging (R230). -/
def State.stagedImage (s : State) (n : Nat) : List Byte := mapRange (fun i => Sparse.get emptyByte s.fw.staging i) 1 n 0

/-- The latent errors in the first n bytes of firmware staging. -/
def State.stagedErrors (s : State) (n : Nat) : List (Nat × Nat) :=
  s.mem.upsets.filter (fun e => decide (stagedBase ≤ e.1) && decide (e.1 < stagedBase + min ((n + 7) / 8) (pathBase - stagedBase)))

/-- Reads the first n bytes of firmware staging; the second part says that a word of them is lost (R376), which fails the image as
a read that ends in an error does (notes/assumptions/127). -/
def State.readStaged (s : State) (n : Nat) : State × Bool :=
  let es := s.stagedErrors n
  (s.readUpsets none es, es.any (fun e => upsetLost e.1 e.2))

/-- Writes bytes into firmware staging from an offset up; words that are written whole hold no error any more (R370). -/
def State.putStaged (s : State) (a : Nat) (bytes : List Byte) : State :=
  let staging := (bytes.zipIdx).foldl (fun m p => Sparse.set emptyByte m (a + p.2) p.1) s.fw.staging
  let w := (a + 7) / 8
  ({ s with fw := { s.fw with staging := staging } }).clearUpsets (stagedBase + w) ((a + bytes.length) / 8 - w)

/-- Tambour starts an image: FIRMWARE, the measurement, the running-image copy and the digests follow it (R438, R440, R364); an
activation in progress ends (R437). -/
def State.startImage (s : State) (image : List Byte) : State :=
  let r := Reg.SECURITY_FIRMWARE
  let s1 := (s.setFld r Fl.SECURITY_FIRMWARE_SVN (headerField image 12 4)).setFld r Fl.SECURITY_FIRMWARE_BUILD_ID
    (headerField image 24 4)
  let s2 := ((s1.putDigest Reg.SECURITY_MEASUREMENT (measurementOf image)).staleShared).staleDevice
  let s3 := (if s2.updateState = 5 then s2.setUpdateState 0 else s2).setBoot Fl.SECURITY_BOOT_STATUS_HOST_FEED_WAIT 0
  { s3 with fw := { s3.fw with running := image.take (512 + headerField image 16 4), tambour := .running, fromCopy := false } }

/-- Tambour stays in the ROM, which waits for a host feed (R436). -/
def State.waitForFeed (s : State) : State :=
  let s1 := s.setBoot Fl.SECURITY_BOOT_STATUS_HOST_FEED_WAIT 1
  { s1 with fw := { s1.fw with tambour := .rom, fromCopy := false } }

/-- Tambour runs an image and is not halted: it serves requests (R424, R428, R444). -/
def State.tambourServes (s : State) : Bool := decide (s.fw.tambour = .running) && !s.fw.halted

/-! ### Management mailboxes (R424) -/

/-- The 256 bytes of function f's request. -/
def State.mgmtRequest (s : State) (f : Nat) : List Byte := (List.range 32).flatMap (fun w => bytesLE 8 (s.rd (Reg.MGMT_REQUEST f w)).toNat)

/-- A little-endian field of a request. -/
def State.mgmtField (s : State) (f lo n : Nat) : Nat := natLE (((s.mgmtRequest f).drop lo).take n)

/-- Answers function f's request: 0 OK, 1 INVALID, 2 RIGHTS, 3 REFUSED; RESPONSE holds the bytes from its start on. -/
def State.mgmtAnswer (s : State) (f result : Nat) (bytes : List Byte) : State :=
  let s1 := iterate (fun w s => s.wr (Reg.MGMT_RESPONSE f w) (BitVec.ofNat 64 (natLE ((bytes.drop (8 * w)).take 8)))) 32 0 s
  let r := Reg.MGMT_STATUS f
  ((s1.setFld r Fl.MGMT_STATUS_BUSY 0).setFld r Fl.MGMT_STATUS_RESULT result).setFld r Fl.MGMT_STATUS_RESPONSE_LENGTH bytes.length

/-- Tambour takes function f's outstanding request if its code passes a test. -/
def State.mgmtTake (s : State) (f : Nat) (p : Nat → Bool) (k : State → State) : State :=
  if s.flag (Reg.MGMT_STATUS f) Fl.MGMT_STATUS_BUSY && s.tambourServes && p (s.mgmtField f 0 2) then k s else s

/-- A request that privileged functions may make, with at least n argument bytes (notes/assumptions/41). -/
def State.mgmtPrivileged (s : State) (f code n : Nat) (k : State → State) : State :=
  s.mgmtTake f (· == code) fun s =>
    if !s.fnPrivileged f then s.mgmtAnswer f 2 []
    else if s.mgmtField f 2 2 < n then s.mgmtAnswer f 1 []
    else k s

/-! ### MCTP (R428) -/

/-- Whether a binding carries messages: the physical functions' endpoints with their links up (0, 1), or the SMBus (2). -/
def State.bindingUp (s : State) (b : Nat) : Bool :=
  s.boot.powered && (b == 2 || s.fld (Reg.ENDPOINT_STATUS b) Fl.ENDPOINT_STATUS_LINK == 2)

/-- Tambour serves a message that arrives on a binding; while it does not run, the message waits for its start (R428, R432). -/
def State.served (s : State) (b : Nat) (i : Instr) (k : State → State) : State :=
  if !s.bindingUp b then s
  else if s.tambourServes then k s
  else { s with side := { s.side with held := s.side.held ++ [i] } }

/-- The oldest MCTP message that waited for Tambour, once it runs (R428, R432; notes/assumptions/126). -/
def State.dueMessage (s : State) : Option Instr := if s.tambourServes then s.side.held.head? else none

/-- The state without the oldest message that waits. -/
def State.takeMessage (s : State) : State := { s with side := { s.side with held := s.side.held.tail } }

end Sys2Proof.Machine
end

