-- ==== Sys2Proof/Machine/Integrity.lean ====
section
/-! DEFINITION. Integrity of the die stack: targeted self-tests and spare rows (R377 to R379), and the bonds: resends, wire
tests, half width, removal and detours (R386 to R392). -/

namespace Sys2Proof.Machine

/-! ### Targeted self-tests -/

/-- The address of a tested row as records name it: a device address for panels and cores, the offset in its SRAM for a
ground die, the row number for an array (notes/assumptions/31). -/
def rowAddress (x : RowTest) : Nat :=
  if x.array.isSome then x.row
  else if x.unit < 128 then nearBase + x.unit % 64 * 0x2000000 + x.unit / 64 * 0x80000000 + x.row * 1024
  else if x.unit < 256 then hoopAddr (x.unit - 128) (x.row * 1024)
  else x.row * 1024

/-- The SOURCE of a tested row. -/
def rowSource (x : RowTest) : Nat :=
  match x.array with
  | some n => source 14 n 0
  | none =>
    if x.unit < 128 then source 7 x.unit 0
    else if x.unit < 256 then source 1 (x.unit - 128) 6
    else source 14 (x.unit - 256) 0

/-- The next free spare for a row: `SPARES` counts those of its panel, core or die in use; an array has 4 (R369). -/
def State.freeSpare (s : State) (x : RowTest) : Option Nat :=
  match x.array with
  | some n =>
    let used := (s.mem.remaps.filter (fun r => r.array == some n)).length
    if used < 4 then some used else none
  | none =>
    let used := s.fld (Reg.INTEGRITY_SPARES x.unit) Fl.INTEGRITY_SPARES_USED
    if used < s.fld (Reg.INTEGRITY_SPARES x.unit) Fl.INTEGRITY_SPARES_TOTAL then some used else none

/-- A word of the row buffer written back: corrected where it can be, poisoned where it cannot (R377). -/
def State.rewriteWord (s : State) (key e : Nat) : State :=
  match decTedOutcome e with
  | .clean r => s.absorb key r 0
  | .corrected r _ _ => s.absorb key r 0
  | .poisoned => s
  | .uncorrectable => s.loseWord key

/-- Writes words of a row buffer back. -/
def State.rewriteWords (s : State) : List (Nat × Nat) → State
  | [] => s
  | (k, e) :: rest => State.rewriteWords (s.rewriteWord k e) rest

/-- A byte of an array's row written back: corrected where it can be, else poisoned. -/
def State.rewriteByte (s : State) (key e : Nat) : State :=
  match byteOutcome e with
  | .clean r => s.absorbByte key r 0
  | .corrected r _ _ => s.absorbByte key r 0
  | .poisoned => s
  | .uncorrectable => s.putArrayUpset key bytePoison

/-- Writes bytes of an array's row back. -/
def State.rewriteBytes (s : State) : List (Nat × Nat) → State
  | [] => s
  | (k, e) :: rest => State.rewriteBytes (s.rewriteByte k e) rest

/-- The words of a row of hoop, near or ground memory that hold latent errors. -/
def State.rowWords (s : State) (x : RowTest) : List (Nat × Nat) :=
  s.mem.upsets.filter (fun e => !isBeat e.1 && (wordInfo e.1).test == some x)

/-- The bytes of an array's row that hold latent errors. -/
def State.rowBytes (s : State) (x : RowTest) : List (Nat × Nat) :=
  s.mem.arrayUpsets.filter (fun e => arrayTest e.1 == x)

/-- Writes the row buffer to the row, or to the spare that now serves it (R377). -/
def State.rewriteSram (s : State) (x : RowTest) : State :=
  (s.rewriteWords (s.rowWords x)).rewriteBytes (s.rowBytes x)

/-- A row that failed its test takes the next free spare, or stays in service under its code (R377, R378). -/
def State.remapRow (s : State) (x : RowTest) : State :=
  let a := rowAddress x % 2 ^ 48
  match s.freeSpare x with
  | some p =>
    let s1 := s.rewriteSram x
    let s2 := { s1 with mem := { s1.mem with remaps := s1.mem.remaps ++ [RowRemap.mk x.unit x.row p x.array] } }
    let s3 := if x.array.isNone then s2.setFld (Reg.INTEGRITY_SPARES x.unit) Fl.INTEGRITY_SPARES_USED (p + 1) else s2
    s3.raise { cond := .rowDarned, ribbon := .notice, source := rowSource x, detail := a,
               counters := [Reg.INTEGRITY_ROW_DARNED] }
  | none =>
    s.raise { cond := .rowDarned, ribbon := .fault, source := rowSource x, detail := a + 2 ^ 48,
              counters := [Reg.INTEGRITY_NO_SPARE] }

/-- TARGETED_SELF_TEST (R377): the test that runs in a unit ends; `failed` says that the march test found the row failing. -/
def execTargetedSelfTest (unit : Fin 258) (failed : Bool) (s : State) : Result :=
  let s := s.begin
  match s.mem.tests.find? (fun t => t.unit == unit.val) with
  | none => finish s
  | some t =>
    let s1 := ({ s with mem := { s.mem with tests := s.mem.tests.erase t } }).syncPanel unit
    finish (if failed then s1.remapRow t else (s1.rewriteSram t).count Reg.INTEGRITY_TRANSIENT)

/-! ### Bonds -/

/-- A wire test of a bundle starts (R386). -/
def State.startWireTest (s : State) (b : Nat) : State :=
  { s with bond := { s.bond with testing := NatSet.add s.bond.testing b } }

/-- BOND_RESEND (R386): a transfer with a failing beat is requested again; a second failure within 1 ms starts a wire
test. -/
def execBondResend (b : Fin 5120) (s : State) : Result :=
  let s := s.begin.count Reg.INTEGRITY_BOND_RESEND
  let last := Sparse.get (fun _ => 0) s.bond.lastFailure b
  let s1 := { s with bond := { s.bond with lastFailure := Sparse.set (fun _ => 0) s.bond.lastFailure b (s.uptime + 1) } }
  finish (if last ≠ 0 ∧ s.uptime + 1 ≤ last + 1000000 then s1.startWireTest b else s1)

/-- LOSS_OF_CLOCK_LOCK (R386). -/
def execLossOfClockLock (b : Fin 5120) (s : State) : Result := finish (s.begin.startWireTest b)

/-- The field of repair spare j. -/
def spareField (j : Nat) : Fld := ⟨8 * j + 8, 7⟩

/-- The wire that repair spare j of a bundle serves: 127 for none. -/
def State.spareOf (s : State) (b j : Nat) : Nat := s.fld (Reg.INTEGRITY_BUNDLE b) (spareField j)

/-- Whether wire w of a bundle (0 to 63 data, 64 clock, 65 parity) works: itself, or the latest spare that took it. A mask
bit names a failing wire: 0 to 65 as above, 66 + j for repair spare j. -/
def State.wireWorks (s : State) (b mask w : Nat) : Bool :=
  match [2, 1, 0].find? (fun j => s.spareOf b j == w) with
  | some j => mask / 2 ^ (66 + j) % 2 == 0
  | none => mask / 2 ^ w % 2 == 0

/-- The lowest free repair spare that passes the test. -/
def State.goodSpare (s : State) (b mask : Nat) : Option Nat :=
  [0, 1, 2].find? (fun j => s.spareOf b j == 127 && mask / 2 ^ (66 + j) % 2 == 0)

/-- Failing wires take the lowest free repair spares, lower wires first (R387, R392); the wires that find none. -/
def State.repairWires (s : State) (b mask : Nat) : List Nat → State × List Nat
  | [] => (s, [])
  | w :: rest =>
    if s.wireWorks b mask w then s.repairWires b mask rest
    else
      match s.goodSpare b mask with
      | some j =>
        ((s.setFld (Reg.INTEGRITY_BUNDLE b) (spareField j) w).count Reg.INTEGRITY_BOND_REPAIRED).repairWires b mask rest
      | none => let r := s.repairWires b mask rest; (r.1, w :: r.2)

/-- A bundle's state: 0 FULL, 1 HALF, 2 REMOVED. -/
def State.bundleState (s : State) (b : Nat) : Nat := s.fld (Reg.INTEGRITY_BUNDLE b) Fl.INTEGRITY_BUNDLE_STATE

/-- The state R387 to R389 give a bundle whose unrepaired wires are `bad`, and its intact half. -/
def bundleAfter (old : Nat) (bad : List Nat) : Nat × Nat :=
  let low := bad.all (fun w => !decide (w < 32))
  let high := bad.all (fun w => !(decide (32 ≤ w) && decide (w < 64)))
  let working := fun (h : Nat) => (List.range 32).any (fun i => !bad.contains (32 * h + i))
  if old = 2 ∨ bad.contains 64 then (2, 0)
  else if old = 0 ∧ low = true ∧ high = true then (if bad.contains 65 then (2, 0) else (0, 0))
  else if low = true ∧ working 1 = true then (1, 0)
  else if high = true ∧ working 0 = true then (1, 1)
  else (2, 0)

/-- The bundle of core m that serves the same layer, direction and place as home bundle b. -/
def bundleAt (m b : Nat) : Nat := 8 * m + b % 8

/-- Whether core m has a bundle of bundle b's layer and direction in FULL or HALF. -/
def State.servesDetour (s : State) (m b : Nat) : Bool :=
  s.bundleState (bundleAt m b) != 2 || s.bundleState (bundleAt m (b ^^^ 1)) != 2

/-- The lateral-mesh distance between two panels: panel p stands at column p mod 8 and row p / 8 (R210). -/
def meshDistance (p q : Nat) : Nat :=
  (p % 8 - q % 8) + (q % 8 - p % 8) + (p / 8 - q / 8) + (q / 8 - p / 8)

/-- The order of detour cores for core n (R389): n XOR 1, then by distance from its panel and core number. -/
def detourOrder (n : Nat) : List Nat :=
  (n ^^^ 1) :: (List.range 15).flatMap (fun d =>
    (List.range 128).filter (fun m => m != n && m != (n ^^^ 1) && meshDistance (n / 2) (m / 2) == d))

/-- The detour core for bundle b of a core: the first in order after `past` that can carry it, 255 for none. -/
def State.detourFor (s : State) (b : Nat) (past : Option Nat) : Nat :=
  let order := detourOrder (b / 8)
  let rest := match past with | some m => (order.dropWhile (fun x => x != m)).drop 1 | none => order
  (rest.find? (fun m => s.servesDetour m b)).getD 255

/-- Reports a bundle's degradation (R391). -/
def State.bondDegraded (s : State) (b state detour : Nat) (fault : Bool) : State :=
  s.raise { cond := .bondDegraded, ribbon := if fault then .fault else .notice, source := source 11 b 0,
            detail := b % 2 ^ 13 + state % 4 * 2 ^ 16 + detour % 256 * 2 ^ 24, counters := [Reg.INTEGRITY_BOND_DEGRADED] }

/-- Sets the detour core of both removed bundles of a core's layer and direction. -/
def State.setDetour (s : State) (b d : Nat) : State :=
  (s.setFld (Reg.INTEGRITY_BUNDLE b) Fl.INTEGRITY_BUNDLE_DETOUR_CORE d).setFld (Reg.INTEGRITY_BUNDLE (b ^^^ 1))
    Fl.INTEGRITY_BUNDLE_DETOUR_CORE d

/-- The detours that cross a bundle which dropped to half width or was removed move to the next detour core (R392). -/
def State.moveDetours (s : State) (b : Nat) : List Nat → State
  | [] => s
  | n :: rest =>
    let c := bundleAt n (b - b % 2)
    let s1 := if s.bundleState c = 2 ∧ s.bundleState (c + 1) = 2
        ∧ s.fld (Reg.INTEGRITY_BUNDLE c) Fl.INTEGRITY_BUNDLE_DETOUR_CORE = b / 8 then
        let d := s.detourFor c (some (b / 8))
        (s.setDetour c d).bondDegraded c 2 d true
      else s
    State.moveDetours s1 b rest

/-- A bundle enters a state (R388, R389, R391). -/
def State.setBundle (s : State) (b state half : Nat) : State :=
  let off := Reg.INTEGRITY_BUNDLE b
  let s1 := (s.setFld off Fl.INTEGRITY_BUNDLE_STATE state).setFld off Fl.INTEGRITY_BUNDLE_INTACT_HALF half
  if s.bundleState b = state then s1
  else if state = 1 then
    let s2 := s1.bondDegraded b 1 255 false
    if b < 1024 then s2.moveDetours b (List.range 128) else s2
  else
    if 1024 ≤ b then s1.bondDegraded b 2 255 true
    else if s1.bundleState (b ^^^ 1) ≠ 2 then
      (((s1.setFld off Fl.INTEGRITY_BUNDLE_DETOUR_CORE 255).bondDegraded b 2 255 true)).moveDetours b (List.range 128)
    else
      let d := s1.detourFor b none
      ((s1.setDetour b d).bondDegraded b 2 d true).moveDetours b (List.range 128)

/-- Carries out the result of a wire test (R387 to R389). -/
def State.wireTested (s : State) (b mask : Nat) : State :=
  let r := s.repairWires b mask (List.range 66)
  let x := bundleAfter (s.bundleState b) r.2
  r.1.setBundle b x.1 x.2

/-- The other bundle of a paired direction: of a core's layer and direction; of a trunk's index (R386, R392;
notes/assumptions/123). -/
def pairedBundle (b : Nat) : Nat := if b < 1024 then b ^^^ 1 else b ^^^ 256

/-- The wire test of a bundle runs: it was started, and its pair's, when that has the lower number and was started too, has
ended (R392). -/
def State.wireTestRuns (s : State) (b : Nat) : Bool :=
  NatSet.has s.bond.testing b && !(decide (pairedBundle b < b) && NatSet.has s.bond.testing (pairedBundle b))

/-- WIRE_TEST (R387): the wire test of a bundle ends with the failing wires of a mask: 0 to 63 data, 64 clock, 65 parity,
66 to 68 repair spares. -/
def execWireTest (b : Fin 5120) (mask : BitVec 69) (s : State) : Result :=
  let s := s.begin
  if s.wireTestRuns b then
    finish (({ s with bond := { s.bond with testing := NatSet.del s.bond.testing b } }).wireTested b mask.toNat)
  else finish s

end Sys2Proof.Machine
end

