-- ==== Sys2Proof/Machine/Boot.lean ====
section
/-! DEFINITION. Start-up (R40, R395, R431 to R436): power-good and its loss, the stages, and the host-fed boot. -/

namespace Sys2Proof.Machine

/-- BOOT_STATUS.STAGE: the last stage begun. -/
def State.stage (s : State) : Nat := s.fld Reg.SECURITY_BOOT_STATUS Fl.SECURITY_BOOT_STATUS_STAGE

/-- A stage begins. -/
def State.setStage (s : State) (n : Nat) : State := s.setBoot Fl.SECURITY_BOOT_STATUS_STAGE n

/-! ### Power (R395, R14, R476) -/

/-- POWER_GOOD (R395): stage 1 begins. -/
def execPowerGood (s : State) : Result :=
  let s := s.begin
  finish (if s.boot.powered then s else { s with boot := { s.boot with powered := true } }.emit (.powerGood true))

/-- Loads the fused repair map into the `BUNDLE` registers (R374, R394). -/
def State.loadFuses (s : State) : List (Nat × Word) → State
  | [] => s
  | (b, w) :: rest => State.loadFuses (s.wr (Reg.INTEGRITY_BUNDLE b) w) rest

/-- The fuses: identity, serial number, capability and fuse map (R472), and the minimum SVN (R439). -/
def fuseRegs : List Nat := [Reg.DEVICE_IDENTITY, Reg.DEVICE_SERIAL, Reg.DEVICE_CAPABILITY, Reg.DEVICE_FUSE_MAP]

/-- The device after a power cycle: nothing is retained but the flash, the fuses and the levels of its pins (R395, R433,
R439). -/
def State.powerCycle (s : State) : State :=
  let r0 := { State.reset with
    pending := s.pending, free := s.free,
    boot := { perstHigh := s.boot.perstHigh },
    bond := { fuseMap := s.bond.fuseMap },
    fw := { flash := s.fw.flash, certs := s.fw.certs, repairLog := s.fw.repairLog } }
  let r1 := (fuseRegs.foldl (fun r off => r.wr off (s.rd off)) r0).loadFuses s.bond.fuseMap
  (r1.setFld Reg.DEVICE_CAPABILITY Fl.DEVICE_CAPABILITY_STACKS 0).setFld Reg.SECURITY_FIRMWARE Fl.SECURITY_FIRMWARE_MIN_SVN
    (s.fld Reg.SECURITY_FIRMWARE Fl.SECURITY_FIRMWARE_MIN_SVN)

/-- POWER_GOOD_LOSS (R395): every rail is switched off; the open-drain outputs are released (R481). -/
def execPowerGoodLoss (s : State) : Result :=
  let s := s.begin
  finish (
    if !s.boot.powered then s
    else
      let s1 := s.powerCycle.emit (.powerGood false)
      if s.flag Reg.EVENT_ALERT Fl.EVENT_ALERT_ASSERTED then s1.emit (.alert false) else s1)

/-- SENSE_FALLBACK (R476). -/
def execSenseFallback (s : State) : Result :=
  let s := s.begin
  finish (if s.boot.powered then { s with therm := { s.therm with atContacts := true } } else s)

/-! ### Stages 1 to 3 -/

/-- PLL_LOCK (R431): stage 1 ends, UPTIME_NS starts at 0; MOD_ID is sampled (R482) and the endpoints may train (R40). -/
def execPllLock (strap : BitVec 3) (s : State) : Result :=
  let s := s.begin
  finish (
    if s.boot.powered = true ∧ s.stage = 1 then
      let s1 := ({ s with boot := { s.boot with strap := strap.toNat } }.wr Reg.SECURITY_UPTIME_NS 0).setStage 2
      (s1.trainEndpoint 0).trainEndpoint 1
    else s)

/-- The SOURCE of a checker's unit (R454). -/
def checkerSource : Checker → Nat
  | .core n => source 1 n 6
  | .cluster c => source 2 c 0
  | .stack k => source 6 k 0
  | .port p => source 5 p 0
  | .updateUnit u => source 4 u 0
  | .panel i => source 7 i 0
  | .knotBank c => source 2 c 1
  | .groundSram d => source 14 d 0

/-- Marks the unit of a failing checker retired, or sets FATAL where it cannot be absent (R373). -/
def State.retireChecker (s : State) : Checker → State
  | .core n => s.retireNow (.core n)
  | .cluster c => s.retireNow (.cluster c)
  | .stack k =>
    ((s.setBit Reg.DEVICE_RETIRE_UNITS (8 + k)).setFld (Reg.UNIT_STATUS k) Fl.UNIT_STATUS_STATE 3).staleDevice
  | .port p => s.retireNow (.port p)
  | .updateUnit u => s.retireNow (.updateUnit u)
  | _ => (s.setFld Reg.INTEGRITY_SELFTEST Fl.INTEGRITY_SELFTEST_FATAL 1).setBoot Fl.SECURITY_BOOT_STATUS_FATAL 1

/-- Whether a checker's unit can be absent. -/
def checkerRetires : Checker → Bool
  | .panel _ => false
  | .knotBank _ => false
  | .groundSram _ => false
  | _ => true

/-- The ABSENT_UNIT record of start-up: its DETAIL names the unit (R373, R455). -/
def State.absentAtStart (s : State) (src : Nat) : State :=
  s.raise { cond := .absentUnit, ribbon := .critical, source := src, detail := src % 2 ^ 32 }

/-- Takes a list of failing checkers. -/
def State.failCheckers (s : State) : List Checker → State
  | [] => s
  | c :: rest =>
    let s1 := (s.retireChecker c).absentAtStart (checkerSource c)
    let n := s1.fld Reg.INTEGRITY_SELFTEST Fl.INTEGRITY_SELFTEST_RETIRED
    State.failCheckers
      (if checkerRetires c then s1.setFld Reg.INTEGRITY_SELFTEST Fl.INTEGRITY_SELFTEST_RETIRED (min 255 (n + 1)) else s1) rest

/-- Takes the wire tests of the bundles that have failing wires. -/
def State.wireTests (s : State) : List (Fin 5120 × BitVec 69) → State
  | [] => s
  | (b, mask) :: rest => State.wireTests (s.wireTested b mask.toNat) rest

/-- BOOT_ROM_SELF_TEST (R373, R374): the checkers that fail, and the bundles with failing wires; FATAL stops start-up. -/
def execBootRomSelfTest (failed : List Checker) (wires : List (Fin 5120 × BitVec 69)) (s : State) : Result :=
  let s := s.begin
  finish (
    if s.stage = 2 ∧ s.flag Reg.INTEGRITY_SELFTEST Fl.INTEGRITY_SELFTEST_DONE = false then
      let s1 := ((s.failCheckers failed).wireTests wires).setFld Reg.INTEGRITY_SELFTEST Fl.INTEGRITY_SELFTEST_DONE 1
      if s1.flag Reg.INTEGRITY_SELFTEST Fl.INTEGRITY_SELFTEST_FATAL then s1 else s1.setStage 3
    else s)

/-- Whether a BAR0 offset is a register of a byte-coded array that stage 3 fills (R369, R375): counters, generators, tile
registers, templates, vector slots and instructions of a core; knots; object, group and schedule tables. The ribbons keep the
records of stage 2 (notes/assumptions/43). -/
def filledRegister (off : Nat) : Bool :=
  if off < 0x1000000 then false
  else if off < 0x2000000 then
    let c := (off - 0x1000000) % 0x200000
    let r := c % 0x10000
    if c < 0x100000 then
      (decide (0x100 ≤ r) && decide (r < 0x600)) || (decide (0x1000 ≤ r) && decide (r < 0x7000)) || decide (0x8000 ≤ r)
    else decide (c < 0x140000)
  else
    (decide (0x2804000 ≤ off) && decide (off < 0x2804800)) || (decide (0x2900000 ≤ off) && decide (off < 0x2980000))
      || (decide (0x2E00000 ≤ off) && decide (off < 0x3000000))

/-- MEMORY_FILL (R375): hoop memory, near memory, ground SRAM and the byte-coded arrays hold clean zeros, and the panels serve
accesses (R473). An array register to which its field rules give a reset value takes that value (notes/assumptions/125). -/
def execMemoryFill (s : State) : Result :=
  let s := s.begin
  finish (
    if s.stage = 3 then
      let m := { s.mem with
        bytes := s.mem.bytes.filter (fun c => decide (c.1 < nearBase)),
        poison := s.mem.poison.filter (fun u => decide (u < nearBase / 32)),
        upsets := s.mem.upsets.filter (fun e => isBeat e.1 || decide (pathBase ≤ e.1)),
        arrayUpsets := [], wcb := [] }
      let s1 := { s.resetRegs filledRegister with
        mem := m,
        core := { s.core with staging := [] },
        fw := { s.fw with staging := [], stagedLen := 0, running := [] },
        upd := { s.upd with ledgers := [] } }
      (iterate (fun i s => s.setFld (Reg.NEAR_PANEL_STATUS i) Fl.NEAR_PANEL_STATUS_ACTIVE 1) 128 0 s1).setStage 4
    else s)

/-! ### Stage 4: the firmware (R435, R436) -/

/-- FIRMWARE_LOAD (R435): `readOk` says that the flash read completes. -/
def execFirmwareLoad (readOk : Bool) (s : State) : Result :=
  let s := s.begin
  finish (
    if s.stage = 4 ∧ s.fw.tambour = .rom ∧ s.feedWaits = false then
      let code := s.checkFlash readOk
      let s1 := s.setBoot Fl.SECURITY_BOOT_STATUS_FLASH_RESULT code
      if code = 0 then (s1.startImage s1.flashImage).setStage 5 else s1.waitForFeed
    else s)

/-- A write of FEED_CONTROL (R436): CHUNK and LENGTH, and with GO the check of the staged image. -/
def State.writeFeedControl (s : State) (v : Word) : State :=
  let r := Reg.SECURITY_FEED_CONTROL
  let n := Fl.SECURITY_FEED_CONTROL_LENGTH.read v
  let s1 := (s.setFld r Fl.SECURITY_FEED_CONTROL_CHUNK (Fl.SECURITY_FEED_CONTROL_CHUNK.read v)).setFld r
    Fl.SECURITY_FEED_CONTROL_LENGTH n
  if Fl.SECURITY_FEED_CONTROL_GO.read v = 1 ∧ s1.feedWaits = true then
    let read := s1.readStaged (min n 16777216)
    let image := read.1.stagedImage (min n 16777216)
    let code := if read.2 then 1 else read.1.checkImage image image.length
    let s2 := read.1.setBoot Fl.SECURITY_BOOT_STATUS_FEED_RESULT code
    if code ≠ 0 then s2
    else
      let s3 := (s2.startImage image).setBoot Fl.SECURITY_BOOT_STATUS_HOST_FED 1
      if s3.stage = 4 then s3.setStage 5 else s3
  else s1

/-- FEED_GO (R436). -/
def execFeedGo (who : Requester) (v : Word) (s : State) : Result :=
  finish (s.begin.guarded who Reg.SECURITY_FEED_CONTROL fun s => s.writeFeedControl (Fl.SECURITY_FEED_CONTROL_GO.write v 1))

/-! ### Stages 5 to 7 -/

/-- A DARN entry of the repair log whose row post-package repair is tried on (R258). -/
def repairTried (up : Nat → Bool) (e : RepairEntry) : Bool :=
  decide (e.stack < 8) && up e.stack && e.kind == 1 && e.repair != 0

/-- The repair bytes of the log after post-package repair (R258): `repairs` says for each row tried, in order, whether the stack
had a repair left. -/
def repaired (up : Nat → Bool) : List Bool → List RepairEntry → List RepairEntry
  | _, [] => []
  | repairs, e :: rest =>
    if repairTried up e then
      { e with repair := if repairs.headD false then 0 else 1 } :: repaired up (repairs.drop 1) rest
    else e :: repaired up repairs rest

/-- A logged region comes up RETIRED, with a cause that the log does not keep (R258). -/
def State.regionLogged (s : State) (e : RepairEntry) : State :=
  let n := s.fld (Reg.FAR_RETIRED_PAGES e.stack) Fl.FAR_RETIRED_PAGES_PAGES / 1024
  if n < 256 then
    let c := s.freshNat 32
    (c.2.wr (Reg.FAR_RETIRE e.stack n) (BitVec.ofNat 64
      (3 + e.pc % 64 * 2 ^ 8 + e.bank % 64 * 2 ^ 16 + e.row % 512 * 2 ^ 24 + c.1 % 3 * 2 ^ 34))).setFld
        (Reg.FAR_RETIRED_PAGES e.stack) Fl.FAR_RETIRED_PAGES_PAGES ((n + 1) * 1024)
  else s

/-- A logged row without a repair left is darned again, or retires its region, as a failing row does; it is in the repair log
already (R258; notes/assumptions/124). -/
def State.darnAgain (s : State) (e : RepairEntry) : State :=
  if (s.darns e.stack).any (fun i => s.darnOf e.stack e.pc e.bank i && s.fld (Reg.FAR_DARN e.stack i) Fl.FAR_DARN_ROW == e.row)
  then s else s.failRow e.stack e.pc e.bank e.row false

/-- Takes a list of repair log entries one after the other. -/
def State.eachEntry (f : State → RepairEntry → State) (s : State) : List RepairEntry → State
  | [] => s
  | e :: rest => State.eachEntry f (f s e) rest

/-- Post-package repair (R258): the logged regions of the stacks that come up, then the rows that found no repair. -/
def State.repairRows (s : State) (up : Nat → Bool) (repairs : List Bool) : State :=
  let log := repaired up repairs s.fw.repairLog
  let mine := log.filter (fun e => decide (e.stack < 8) && up e.stack)
  let s1 := { s with fw := { s.fw with repairLog := log } }
  let s2 := State.eachEntry State.regionLogged s1 (mine.filter (fun e => e.kind == 2))
  State.eachEntry State.darnAgain s2 (mine.filter (fun e => e.kind == 1 && e.repair == 1))

/-- The identity of a qualified stack (R4, R7, R261): 64 Gb dies, or 48 Gb on the NM-7160; its gigabytes give 16 of them. -/
def State.stackIdentity (s : State) : Word := BitVec.ofNat 64 ((if s.is7160 then 48 else 64) + 16 * 2 ^ 8 + 2 ^ 16)

/-- A stack that comes up has its identity read and is ACTIVE; one that does not stays ABSENT with its update unit, and is
reported (R234). -/
def State.bringUp (s : State) (up : Nat → Bool) (k : Nat) : State :=
  if up k then
    ((s.wr (Reg.FAR_IDENTITY k) s.stackIdentity).setFld (Reg.FAR_STATUS k) Fl.FAR_STATUS_STATE 0).setFld
      Reg.DEVICE_CAPABILITY Fl.DEVICE_CAPABILITY_STACKS
      (s.fld Reg.DEVICE_CAPABILITY Fl.DEVICE_CAPABILITY_STACKS + 1)
  else
    let s1 := s.setFld (Reg.UNIT_STATUS k) Fl.UNIT_STATUS_STATE 3
    if s.bit Reg.DEVICE_RETIRE_UNITS (8 + k) then s1 else s1.absentAtStart (source 6 k 0)

/-- A Bride port begins its first training attempt (R312). -/
def State.firstTraining (s : State) (p : Nat) : State :=
  if s.portAbsent p ∨ 2 ≤ s.portState p then s
  else
    { (s.setFld (Reg.BRIDE_PORT_STATUS p) Fl.BRIDE_PORT_STATUS_LINK 1) with
      boot := { s.boot with firstTry := NatSet.add s.boot.firstTry p } }

/-- FAR_MEMORY_TRAINING (R234, R258): bit k of `ok` says that stack k is on the qualified list and trains. The unwritten maps
are cleared; stage 6 begins with the ports' training (R312). -/
def execFarMemoryTraining (ok : BitVec 8) (repairs : List Bool) (s : State) : Result :=
  let s := s.begin
  finish (
    if s.stage = 5 then
      let up := fun (k : Nat) => ok.toNat / 2 ^ k % 2 == 1 && !s.bit Reg.DEVICE_RETIRE_UNITS (8 + k)
      let s0 := s.setFld Reg.DEVICE_CAPABILITY Fl.DEVICE_CAPABILITY_STACKS 0
      let s1 := iterate (fun k s => s.bringUp up k) 8 0 s0
      let s2 := { s1 with mem := { s1.mem with
                             bytes := s1.mem.bytes.filter (fun c => decide (nearBase ≤ c.1)),
                             poison := s1.mem.poison.filter (fun u => decide (nearBase / 32 ≤ u)),
                             upsets := s1.mem.upsets.filter (fun e => !isBeat e.1), written := [] } }
      iterate (fun p s => s.firstTraining p) 24 0 ((s2.repairRows up repairs).setStage 6)
    else s)

/-- CORES_RELEASED (R431): stage 6 has ended, every first training attempt with it; stage 7 sets READY. -/
def execCoresReleased (s : State) : Result :=
  let s := s.begin
  finish (
    if s.stage = 6 ∧ s.boot.firstTry = [] then
      ((s.setStage 7).setBoot Fl.SECURITY_BOOT_STATUS_READY 1).setBoot Fl.SECURITY_BOOT_STATUS_READY_MS (s.uptime / 1000000)
    else s)

end Sys2Proof.Machine
end

