-- ==== Sys2Proof/Machine/Firmware.lean ====
section
/-! DEFINITION. Firmware update and live activation (R437 to R440), retirement of units (R98, R26, R424), and the debug lock
(R444). -/

namespace Sys2Proof.Machine

/-! ### Staging and writing (R437) -/

/-- STAGING begins: any staged image is discarded. -/
def State.beginStaging (s : State) : State :=
  let s1 := (s.setUpdateState 1).setFld Reg.SECURITY_UPDATE_STATUS Fl.SECURITY_UPDATE_STATUS_STAGED_SVN 0
  { s1 with fw := { s1.fw with staging := [], stagedLen := 0, fetchFailed := false } }

/-- Staging or writing ends without an image: IDLE with ERR. -/
def State.failUpdate (s : State) (err : Nat) : State :=
  let s1 := (s.setUpdateState 0).setUpdateErr err
  { s1 with fw := { s1.fw with staging := [], stagedLen := 0, retries := 0 }, side := { s1.side with update := none } }

/-- Sends a PLDM message about the update in progress, if it is PLDM's (R443). -/
def State.tellUpdate (s : State) (m : Message) : State :=
  match s.side.update with | some (b, _) => s.emit (.mctp b m) | none => s

/-- A host bus extent cut into requests of at most Max Read Request Size that cross no 4 KiB boundary (R419); n bounds how
many. -/
def busPieces (f most : Nat) : (n addr off len : Nat) → List HostPiece
  | 0, _, _, _ => []
  | n + 1, addr, off, len =>
    if len = 0 then []
    else
      let k := max 1 (min len (min most (4096 - addr % 4096)))
      ⟨f, 0, addr, off, k⟩ :: busPieces f most n (addr + k) (off + k) (len - k)

/-- Reads the image from host memory through function f (R437, R420). -/
def State.fetchImage (s : State) (f addr len : Nat) : State :=
  if s.canDma f then s.startReads .firmware ((s.fnTenant f).getD 0) len (busPieces f (s.cfg f).maxRead len addr 0 len)
  else { (s.dmaError f) with fw := { s.fw with fetchFailed := true } }

/-- FW_FETCH (R437): an image longer than the staging area is INVALID (notes/assumptions/41). -/
def execFwFetch (f : Fin 32) (s : State) : Result :=
  finish (s.begin.mgmtPrivileged f 0x0100 12 fun s =>
    let len := s.mgmtField f 16 4
    if s.updateState ≠ 0 ∧ s.updateState ≠ 2 then s.mgmtAnswer f 3 []
    else if 16777216 < len then s.mgmtAnswer f 1 []
    else ({ s with side := { s.side with update := none } }.beginStaging.fetchImage f (s.mgmtField f 8 8) len).mgmtAnswer f 0 [])

/-- Whether the image being staged has been transferred. -/
def State.transferred (s : State) : Bool :=
  match s.side.update with
  | some (_, k) => k == 4
  | none => s.dma.all (fun j => j.owner != .firmware)

/-- FW_STAGING_COMPLETE (R437). -/
def execFwStagingComplete (s : State) : Result :=
  let s := s.begin
  finish (
    if s.updateState = 1 ∧ s.transferred = true then
      let read := s.readStaged s.fw.stagedLen
      let image := read.1.stagedImage s.fw.stagedLen
      let code := if s.fw.fetchFailed || read.2 then 1 else s.checkImage image image.length
      let s1 := read.1.tellUpdate (.verifyComplete code)
      if code = 0 then
        (s1.setUpdateState 2).setFld Reg.SECURITY_UPDATE_STATUS Fl.SECURITY_UPDATE_STATUS_STAGED_SVN (headerField image 12 4)
      else s1.failUpdate code
    else s)

/-- FW_COMMIT (R437): from now on the image region does not hold an image that verifies (notes/assumptions/44). -/
def execFwCommit (f : Fin 32) (s : State) : Result :=
  finish (s.begin.mgmtPrivileged f 0x0101 0 fun s =>
    if s.updateState = 2 then
      ({ (s.setUpdateState 3) with fw := { s.fw with flash := [], retries := 0 } }).mgmtAnswer f 0 []
    else s.mgmtAnswer f 3 [])

/-- FLASH_WRITE_COMPLETE (R437): `ok` says that program and read-back succeed. -/
def execFlashWriteComplete (ok : Bool) (s : State) : Result :=
  let s := s.begin
  finish (
    if s.updateState ≠ 3 then s
    else
      let read := s.readStaged s.fw.stagedLen
      let s1 := read.1
      if ok && !read.2 then
        ({ (s1.setUpdateState 4) with fw := { s1.fw with flash := s1.stagedImage s.fw.stagedLen, retries := 0 } }).tellUpdate
          (.applyComplete 0)
      else if s.fw.retries < 3 then { s1 with fw := { s1.fw with retries := s.fw.retries + 1 } }
      else (s1.tellUpdate (.applyComplete 6)).failUpdate 6)

/-! ### Activation (R438, R440) -/

/-- Chooses boundary A. -/
def State.chooseBoundary (s : State) (a : Nat) : State :=
  let b := max a (s.stitch + 2)
  { (s.wr Reg.SECURITY_ACTIVATE_AT (BitVec.ofNat 64 b)) with fw := { s.fw with activateAt := some b } }

/-- FW_ACTIVATE (R438). -/
def execFwActivate (f : Fin 32) (s : State) : Result :=
  finish (s.begin.mgmtPrivileged f 0x0102 8 fun s =>
    if s.updateState = 4 then (s.chooseBoundary (s.mgmtField f 8 8)).mgmtAnswer f 0 [] else s.mgmtAnswer f 3 [])

/-- A start that failed: Tambour stays in the ROM with ACTIVATE_FAILED (R438, R440). -/
def State.startFails (s : State) : State := (s.setUpdateErr 7).waitForFeed

/-- The running measurement. -/
def State.measurement (s : State) : List Byte := s.digestBytes Reg.SECURITY_MEASUREMENT

/-- TAMBOUR_START (R438, R440): `readOk` says that a flash read completes, `lost` that the running-image copy reads wrong. -/
def execTambourStart (readOk lost : Bool) (s : State) : Result :=
  let s := s.begin
  finish (
    if s.fw.tambour ≠ .starting then s
    else if s.fw.fromCopy then
      let copy := s.fw.running
      if lost = false ∧ s.checkImage copy copy.length = 0 then s.startImage copy
      else if s.checkFlash readOk = 0 ∧ measurementOf s.flashImage = s.measurement then s.startImage s.flashImage
      else s.startFails
    else if s.checkFlash readOk = 0 then (s.startImage s.flashImage).setBoot Fl.SECURITY_BOOT_STATUS_HOST_FED 0
    else s.startFails)

/-- ACTIVATION_WINDOW_END (R438). -/
def execActivationWindowEnd (s : State) : Result :=
  let s := s.begin
  finish (match s.fw.windowEnd with
    | some w => if w ≤ s.stitch then { s with fw := { s.fw with windowEnd := none, oldDigests := [] } } else s
    | none => s)

/-- SVN_ADVANCE (R439). -/
def execSvnAdvance (f : Fin 32) (s : State) : Result :=
  finish (s.begin.mgmtPrivileged f 0x0103 0 fun s =>
    let r := Reg.SECURITY_FIRMWARE
    if s.updateState = 0 ∧ s.flag Reg.SECURITY_BOOT_STATUS Fl.SECURITY_BOOT_STATUS_HOST_FED = false then
      (s.setFld r Fl.SECURITY_FIRMWARE_MIN_SVN
        (max (s.fld r Fl.SECURITY_FIRMWARE_MIN_SVN) (s.fld r Fl.SECURITY_FIRMWARE_SVN))).mgmtAnswer f 0 []
    else s.mgmtAnswer f 3 [])

/-! ### Retirement (R424, R98) -/

/-- The state of a unit that drains: 0 ENABLED, 1 DRAINING, 2 DISABLED, 3 ABSENT. -/
def State.unitStateOf (s : State) : DrainUnit → Nat
  | .queue n e => if s.engineAbsent n e then 3 else s.queueState n e
  | .core n => if s.coreAbsent n then 3 else s.coreState n
  | .cluster c => if s.clusterAbsent c then 3 else s.clusterState c
  | .tierQueue q => s.tierState q
  | .updateUnit u => if s.updateUnitAbsent u then 3 else s.unitState u
  | .port p => if s.portAbsent p then 3 else s.portState p
  | .collective e => s.collUnit e

/-- Drains a unit. -/
def State.drainUnit (s : State) : DrainUnit → State
  | .queue n e => s.drainQueue n e none
  | .core n => s.drainCore n
  | .cluster c => s.drainCluster c
  | .tierQueue q => s.drainTier q
  | .updateUnit u => s.drainUpdate u
  | .port p => s.drainPort p
  | .collective e => s.drainColl e

/-- Retires a unit through the state machine of R98: at once where it is DISABLED, else when its drain ends. -/
def State.retireRequest (s : State) (u : DrainUnit) : State :=
  match s.unitStateOf u with
  | 3 => s
  | 2 => s.retireNow u
  | _ =>
    let s1 := { s with core := { s.core with
      retiring := if s.core.retiring.contains u then s.core.retiring else s.core.retiring ++ [u] } }
    (s1.drainUnit u).releaseHold

/-- The unit that a SOURCE form names (R454), where RETIRE can retire it. -/
def retireTarget (kind index sub : Nat) : Option DrainUnit :=
  match kind with
  | 1 => if index < 128 ∧ sub < 4 then some (.queue index sub) else if index < 128 ∧ sub = 6 then some (.core index) else none
  | 2 => if index < 8 ∧ sub = 0 then some (.cluster index) else none
  | 3 => if index < 32 then some (.tierQueue index) else none
  | 4 => if index < 40 then some (.updateUnit index) else none
  | 5 => if index < 24 then some (.port index) else none
  | 8 => if index < 16 then some (.collective index) else none
  | _ => none

/-- An update unit whose ledger holds an entry or whose range table holds a valid group: it is not retired (R262). -/
def State.retireRefused (s : State) : DrainUnit → Bool
  | .updateUnit u => !(s.ledger u).isEmpty || s.validGroups.any (fun g => s.groupUnit g == u)
  | _ => false

/-- RETIRE (R424): the unit in SOURCE form; KIND 0 is West's Tambour core, which retires at the next boundary (R440), and a
far stack is REFUSED (notes/assumptions/45). -/
def execRetire (f : Fin 32) (s : State) : Result :=
  finish (s.begin.mgmtPrivileged f 0x0003 4 fun s =>
    let kind := s.mgmtField f 8 1
    let index := s.mgmtField f 9 2
    match retireTarget kind index (s.mgmtField f 11 1) with
    | some u => if s.retireRefused u then s.mgmtAnswer f 3 [] else (s.retireRequest u).mgmtAnswer f 0 []
    | none =>
      if kind = 0 ∧ index = 0 then
        (if s.fw.east then s else { s with fw := { s.fw with retirePending := true } }).mgmtAnswer f 0 []
      else if kind = 6 ∧ index < 8 then s.mgmtAnswer f 3 []
      else s.mgmtAnswer f 1 [])

/-! ### The debug lock (R444) -/

/-- DEBUG_NONCE (R444): the nonce comes from the random generator and expires after 60 s. -/
def execDebugNonce (f : Fin 32) (s : State) : Result :=
  finish (s.begin.mgmtPrivileged f 0x0110 0 fun s =>
    if s.flag Reg.SECURITY_DEBUG Fl.SECURITY_DEBUG_LOCKED_OUT then s.mgmtAnswer f 3 []
    else
      let r := s.freshBytes 64
      ({ r.2 with fw := { r.2.fw with nonce := some (r.1, r.2.uptime + 60000000000) } }).mgmtAnswer f 0 r.1)

/-- The DEBUG_SCOPE record: the open scope, whether it is a close, and whether an open failed (R455). -/
def State.scopeRecord (s : State) (close failed : Bool) : State :=
  s.raise { cond := .debugScope, ribbon := .notice, source := source 15 0 0,
            detail := s.fld Reg.SECURITY_DEBUG Fl.SECURITY_DEBUG_SCOPE + close.toNat * 2 ^ 64 + failed.toNat * 2 ^ 65 }

/-- A failed DEBUG_OPEN: FAILURES rises to at most 8, where DEBUG_NONCE is locked out. -/
def State.debugFails (s : State) : State :=
  let n := min 8 (s.fld Reg.SECURITY_DEBUG Fl.SECURITY_DEBUG_FAILURES + 1)
  let s1 := s.setFld Reg.SECURITY_DEBUG Fl.SECURITY_DEBUG_FAILURES n
  (if n = 8 then s1.setFld Reg.SECURITY_DEBUG Fl.SECURITY_DEBUG_LOCKED_OUT 1 else s1).scopeRecord false true

/-- Whether a DEBUG_OPEN verifies: over the nonce, the serial number and the scope, with reserved scope bits zero. -/
def State.opensScope (s : State) (scope : Nat) (signature : List Byte) : Bool :=
  match s.fw.nonce with
  | some (nonce, _) =>
    decide (scope < 8) && p521Verifies Config.debugKey
      (sha512 (nonce ++ bytesLE 8 (s.rd Reg.DEVICE_SERIAL).toNat ++ bytesLE 8 scope)) signature
  | none => false

/-- DEBUG_OPEN (R444): the nonce is spent either way; a failed open is REFUSED (notes/assumptions/41). -/
def execDebugOpen (f : Fin 32) (s : State) : Result :=
  finish (s.begin.mgmtPrivileged f 0x0111 140 fun s =>
    let scope := s.mgmtField f 8 8
    let ok := s.opensScope scope (((s.mgmtRequest f).drop 16).take 132)
    let s1 := { s with fw := { s.fw with nonce := none } }
    if ok then
      ((s1.wr Reg.SECURITY_DEBUG (s1.rd Reg.SECURITY_DEBUG ||| BitVec.ofNat 64 scope)).scopeRecord false false).mgmtAnswer f 0 []
    else s1.debugFails.mgmtAnswer f 3 [])

/-- Closing the scope lets Tambour run again. -/
def State.closeScope (s : State) : State :=
  let s1 := s.setFld Reg.SECURITY_DEBUG Fl.SECURITY_DEBUG_SCOPE 0
  ({ s1 with fw := { s1.fw with halted := false } }).scopeRecord true false

/-- DEBUG_CLOSE (R444). -/
def execDebugClose (f : Fin 32) (s : State) : Result :=
  finish (s.begin.mgmtPrivileged f 0x0112 0 fun s => s.closeScope.mgmtAnswer f 0 [])

/-- DEBUG_NONCE_EXPIRY (R444). -/
def execDebugNonceExpiry (s : State) : Result :=
  let s := s.begin
  finish (match s.fw.nonce with
    | some (_, e) => if e ≤ s.uptime then { s with fw := { s.fw with nonce := none } } else s
    | none => s)

end Sys2Proof.Machine
end

