-- ==== Sys2Proof/Machine/Thermal.lean ====
section
/-! DEFINITION. Power and temperature: input samples and the cap loop (R395 to R397), sensors on demand (R400, R401), and the
thermal round with its estimates, suspects, thresholds, duty, trip and compensation (R402 to R407, R259). -/

namespace Sys2Proof.Machine

/-! ### Duty (R397) -/

/-- D_cap. -/
def State.capDuty (s : State) : Nat := s.fld Reg.THERMAL_STATUS Fl.THERMAL_STATUS_CAP_DUTY

/-- D_thermal[c]. -/
def State.thermalDuty (s : State) (c : Nat) : Nat := s.fld (Reg.THERMAL_CLUSTER_DUTY c) Fl.THERMAL_CLUSTER_DUTY_THERMAL

/-- Keeps EFFECTIVE = min(D_thermal, D_cap) of every cluster. -/
def State.syncDuty (s : State) : State :=
  iterate (fun c s => s.setFld (Reg.THERMAL_CLUSTER_DUTY c) Fl.THERMAL_CLUSTER_DUTY_EFFECTIVE (min (s.thermalDuty c) s.capDuty))
    8 0 s

/-- Sets D_cap, and CAPPING with it. -/
def State.setCap (s : State) (d : Nat) : State :=
  ((s.setFld Reg.THERMAL_STATUS Fl.THERMAL_STATUS_CAP_DUTY d).setFld Reg.THERMAL_STATUS Fl.THERMAL_STATUS_CAPPING
    (decide (d < 8)).toNat).syncDuty

/-- Lowers D_cap by n, to no less than 1: counted, and recorded when it stood at 8 (R397). -/
def State.lowerCap (s : State) (n : Nat) : State :=
  let d := s.capDuty
  let d' := max (d - n) 1
  if d' < d then
    let s1 := (s.setCap d').count Reg.THERMAL_CAP_STEPS
    if d = 8 then s1.raise { cond := .thermalThrottle, ribbon := .notice, source := source 0 0 0, detail := 2 ^ 16 } else s1
  else s

/-- Whether the power loop runs. -/
def State.capEnabled (s : State) : Bool := s.flag Reg.THERMAL_CONTROL Fl.THERMAL_CONTROL_CAP_EN

/-- POWER_SAMPLE (R396, R397): voltage and current in units of 10 mV and 10 mA, so that their product is in units of 10^-4 W
and of nanojoules in 10 µs; and the hottest regulator in °C. Without power-good every rail is off (R395). -/
def execPowerSample (voltage current : BitVec 16) (temp : BitVec 8) (s : State) : Result :=
  let s := s.begin
  if !s.boot.powered then finish s else
  let v := voltage.toNat
  let i := current.toNat
  let p := v * i
  let low := decide (v < 4000)
  let input := Reg.THERMAL_INPUT
  let s1 := ((s.setFld input Fl.THERMAL_INPUT_VOLTAGE v).setFld input Fl.THERMAL_INPUT_CURRENT i).setFld input
    Fl.THERMAL_INPUT_REGULATOR_TEMP temp.toNat
  let s2 := (s1.setFld Reg.THERMAL_STATUS Fl.THERMAL_STATUS_INPUT_LOW low.toNat).setFld Reg.THERMAL_STATUS
    Fl.THERMAL_STATUS_INPUT_HIGH (decide (6000 < v)).toNat
  let nj := s2.therm.energyRest + p
  let t := { s2.therm with energyRest := nj % 1000, capSum := s2.therm.capSum + p, capCount := s2.therm.capCount + 1 }
  let s3 := ({ s2 with therm := t }).addWrap Reg.THERMAL_ENERGY (nj / 1000)
  let peak := min 3000 (s3.fld Reg.THERMAL_POWER_LIMIT Fl.THERMAL_POWER_LIMIT_PEAK_W) * 10000
  finish (if s3.capEnabled && (decide (peak < p) || (low && decide (6000 < i))) then s3.lowerCap 2 else s3)

/-- CAP_WINDOW (R397). -/
def execCapWindow (s : State) : Result :=
  let s := s.begin
  let sum := s.therm.capSum
  let n := s.therm.capCount
  if n = 0 then finish s
  else
    let limit := min 2400 (s.fld Reg.THERMAL_POWER_LIMIT Fl.THERMAL_POWER_LIMIT_LIMIT_W)
    let margin := s.fld Reg.THERMAL_POWER_LIMIT Fl.THERMAL_POWER_LIMIT_MARGIN_W
    let s1 := ({ s with therm := { s.therm with capSum := 0, capCount := 0 } }).setFld Reg.THERMAL_INPUT
      Fl.THERMAL_INPUT_POWER (sum / (10000 * n))
    finish (
      if !s1.capEnabled then s1
      else if limit * 10000 * n < sum then s1.lowerCap 1
      else if sum + margin * 10000 * n < limit * 10000 * n ∧ s1.capDuty < 8 then s1.setCap (s1.capDuty + 1)
      else s1)

/-! ### Sensors (R399 to R403) -/

/-- The layer of a sensor. -/
def sensorLayer (n : Nat) : Nat := if n < 64 then 3 else if n < 96 then 1 else if n < 128 then 2 else 0

/-- The column of a sensor. -/
def sensorColumn (n : Nat) : Nat :=
  if n < 64 then n / 4 else if n < 96 then (n - 64) / 2 else if n < 128 then (n - 96) / 2 else (n - 128) / 2

/-- READING of a sensor in units of 0.25 °C. -/
def State.reading (s : State) (n : Nat) : Int := signedOf 12 (s.fld (Reg.THERMAL_SENSOR n) Fl.THERMAL_SENSOR_READING)

/-- GOVERNING of a sensor. -/
def State.governing (s : State) (n : Nat) : Int := signedOf 12 (s.fld (Reg.THERMAL_SENSOR n) Fl.THERMAL_SENSOR_GOVERNING)

/-- ESTIMATE of a sensor. -/
def State.estimate (s : State) (n : Nat) : Int := signedOf 12 (s.fld (Reg.THERMAL_SENSOR n) Fl.THERMAL_SENSOR_ESTIMATE)

/-- SUSPECT of a sensor. -/
def State.suspect (s : State) (n : Nat) : Bool := s.flag (Reg.THERMAL_SENSOR n) Fl.THERMAL_SENSOR_SUSPECT

/-- FAILED of a sensor. -/
def State.failedSensor (s : State) (n : Nat) : Bool := s.flag (Reg.THERMAL_SENSOR n) Fl.THERMAL_SENSOR_FAILED

/-- Enters a conversion: a failed one leaves the reading (R400). -/
def State.takeReading (s : State) (n : Nat) (r : Option (BitVec 12)) : State :=
  let off := Reg.THERMAL_SENSOR n
  match r with
  | none => s.setFld off Fl.THERMAL_SENSOR_FAILED 1
  | some v =>
    ((s.setFld off Fl.THERMAL_SENSOR_FAILED 0).setFld off Fl.THERMAL_SENSOR_READING v.toNat).setFld off
      Fl.THERMAL_SENSOR_VALID 1

/-- Enters conversions from sensor n on. -/
def State.takeReadings (s : State) (n : Nat) : List (Option (BitVec 12)) → State
  | [] => s
  | r :: rest => State.takeReadings (s.takeReading n r) (n + 1) rest

/-- Sets the governing value of a sensor. -/
def State.govern (s : State) (n : Nat) (v : Int) : State :=
  s.setFld (Reg.THERMAL_SENSOR n) Fl.THERMAL_SENSOR_GOVERNING (unsignedOf 12 v)

/-- The other sensors of the same die in the same cluster's columns, or of the same ground die (R403). -/
def sensorPeers (n : Nat) : List Nat :=
  (List.range 160).filter (fun m =>
    m != n && sensorLayer m == sensorLayer n
      && (if n < 128 then sensorColumn m / 2 == sensorColumn n / 2 else sensorColumn m / 8 == sensorColumn n / 8))

/-- The highest of a list of values. -/
def maxInt : List Int → Option Int
  | [] => none
  | v :: rest => match maxInt rest with | none => some v | some w => some (max v w)

/-- The governing value of a compute or ground sensor: its reading, or for a suspect one the highest reading among its peers
that are not suspect; with none, what governed before (notes/assumptions/37). -/
def State.governOuter (s : State) (n : Nat) : State :=
  if s.suspect n then
    match maxInt ((sensorPeers n).filter (fun m => !s.suspect m) |>.map s.reading) with
    | some v => s.govern n v
    | none => s
  else s.govern n (s.reading n)

/-- E_s of a tulle sensor (R402), in units of 0.25 °C: exact until it is rounded up. -/
def State.estimateOf (s : State) (n : Nat) : Int :=
  let j := sensorColumn n
  let x := n % 2
  let tg := s.governing (128 + 2 * j + x)
  let tc := s.governing (4 * j + x)
  let one := decide (sensorLayer n = 1)
  let w := s.fld Reg.THERMAL_ESTIMATE (if one then Fl.THERMAL_ESTIMATE_WEIGHT1 else Fl.THERMAL_ESTIMATE_WEIGHT2)
  let k := s.fld Reg.THERMAL_ESTIMATE (if one then Fl.THERMAL_ESTIMATE_K1 else Fl.THERMAL_ESTIMATE_K2)
  let num := (tg * 256 + (tc - tg) * w) * 1000 + ((k * s.therm.power.getD j 0 * 1024 : Nat) : Int)
  Int.neg ((Int.neg num) / 256000)

/-- Writes the estimate of a tulle sensor. -/
def State.putEstimate (s : State) (n : Nat) : State :=
  s.setFld (Reg.THERMAL_SENSOR n) Fl.THERMAL_SENSOR_ESTIMATE (unsignedOf 12 (s.estimateOf n))

/-- A sensor becomes suspect (R402). -/
def State.markSuspect (s : State) (n : Nat) : State :=
  if s.suspect n then s
  else
    let s1 := s.setFld (Reg.THERMAL_SENSOR n) Fl.THERMAL_SENSOR_SUSPECT 1
    s1.raise { cond := .sensorSuspect, ribbon := .notice, source := source 10 n 0,
               detail := unsignedOf 12 (s1.reading n) + unsignedOf 12 (s1.estimate n) * 2 ^ 16
                 + (s1.failedSensor n).toNat * 2 ^ 28,
               counters := [Reg.THERMAL_SENSOR_SUSPECT] }

/-- The consecutive rounds in which a sensor was low. -/
def State.lowRounds (s : State) (n : Nat) : Nat := Sparse.get (fun _ => 0) s.therm.low n

/-- Sets the consecutive low rounds of a sensor. -/
def State.setLow (s : State) (n k : Nat) : State :=
  { s with therm := { s.therm with low := Sparse.set (fun _ => 0) s.therm.low n k } }

/-- Judges a tulle sensor in a round, and what then governs it (R402, R403). -/
def State.judgeTulle (s : State) (n : Nat) : State :=
  let tol := s.fld Reg.THERMAL_ESTIMATE Fl.THERMAL_ESTIMATE_TOL
  let rounds := max 1 (s.fld Reg.THERMAL_ESTIMATE Fl.THERMAL_ESTIMATE_ROUNDS)
  let low := decide (s.reading n < s.estimate n - tol)
  let s1 := if s.suspect n then s else s.setLow n (if low then s.lowRounds n + 1 else 0)
  let s2 := if s1.failedSensor n || decide (rounds ≤ s1.lowRounds n) then s1.markSuspect n else s1
  s2.govern n (if s2.suspect n then s2.estimate n else s2.reading n)

/-- The compute and ground sensors, then the tulle sensors. -/
def outerSensors : List Nat := List.range 64 ++ (List.range 32).map (fun i => 128 + i)

/-- The tulle sensors. -/
def tulleSensors : List Nat := (List.range 64).map (fun i => 64 + i)

/-- Applies an operation to each of a list of numbers. -/
def State.forEach (s : State) (f : Nat → State → State) : List Nat → State
  | [] => s
  | n :: rest => State.forEach (f n s) f rest

/-- Governing values and estimates from the readings as they stand. -/
def State.refreshSensors (s : State) : State :=
  (s.forEach (fun n s => s.governOuter n) outerSensors).forEach (fun n s => s.putEstimate n) tulleSensors

/-- SENSOR_DEMAND (R401): a conversion of one sensor or of all starts; a sensor that converts already joins it. -/
def State.writeDemand (s : State) (v : Word) : State :=
  let n := Fl.THERMAL_DEMAND_SENSOR.read v
  let which := if n = 255 then List.range 160 else if n < 160 then [n] else []
  { s with therm := { s.therm with converting := which.foldl NatSet.add s.therm.converting } }

/-- SENSOR_DEMAND (R401). -/
def execSensorDemand (who : Requester) (v : Word) (s : State) : Result :=
  finish (s.begin.guarded who Reg.THERMAL_DEMAND fun s => s.writeDemand v)

/-- SENSOR_CONVERSION (R400, R401): a demanded conversion ends; thresholds wait for the round. -/
def execSensorConversion (n : Fin 160) (r : Option (BitVec 12)) (s : State) : Result :=
  let s := s.begin
  finish (
    if NatSet.has s.therm.converting n then
      let s1 := ({ s with therm := { s.therm with converting := NatSet.del s.therm.converting n } }).takeReading n r
      let s2 := (if r.isNone then s1.markSuspect n else s1).refreshSensors
      if 64 ≤ n.val ∧ n.val < 128 then s2.govern n (if s2.suspect n then s2.estimate n else s2.reading n) else s2
    else s)

/-- A write of SENSOR[n]: 1 to SUSPECT clears it and starts a new judgement (R403). -/
def State.writeSensor (s : State) (n : Nat) (v : Word) : State :=
  if Fl.THERMAL_SENSOR_SUSPECT.read v = 1 then
    (s.setFld (Reg.THERMAL_SENSOR n) Fl.THERMAL_SENSOR_SUSPECT 0).setLow n 0
  else s

/-- SENSOR_SUSPECT_CLEAR (R403). -/
def execSensorSuspectClear (who : Requester) (n : Fin 160) (v : Word) (s : State) : Result :=
  finish (s.begin.guarded who (Reg.THERMAL_SENSOR n) fun s => s.writeSensor n v)

/-! ### Thresholds (R404, R259) -/

/-- Warning, throttle and trip thresholds of a layer in units of 0.25 °C. -/
def thresholds (layer : Nat) : Int × Int × Int :=
  if layer = 1 ∨ layer = 2 then (360, 400, 448) else (380, 420, 472)

/-- The sensors of a layer. -/
def layerSensors (layer : Nat) : List Nat := (List.range 160).filter (fun n => sensorLayer n == layer)

/-- The sensor of a list with the highest governing value, the first of equals. -/
def State.hottest (s : State) : List Nat → Option Nat
  | [] => none
  | n :: rest =>
    match s.hottest rest with
    | none => some n
    | some m => if s.governing n < s.governing m then some m else some n

/-- A layer's bit of STATUS at a threshold: raised and reported when a governing value reaches it, cleared when every one is
5 °C below it. `lo` is the place of the layer's bit. -/
def State.layerBit (s : State) (layer lo : Nat) (limit : Int) (o : Occurrence) : State :=
  let f : Fld := ⟨lo, 1⟩
  match s.hottest (layerSensors layer) with
  | none => s
  | some n =>
    let g := s.governing n
    if limit ≤ g then
      if s.flag Reg.THERMAL_STATUS f then s
      else
        (s.setFld Reg.THERMAL_STATUS f 1).raise
          { o with source := source 10 n 0, detail := unsignedOf 12 g + layer * 2 ^ 12 }
    else if g ≤ limit - 20 then s.setFld Reg.THERMAL_STATUS f 0
    else s

/-- Warning of a layer. -/
def State.layerWarning (s : State) (layer : Nat) : State :=
  s.layerBit layer layer (thresholds layer).1
    { cond := .thermalWarning, ribbon := .notice, source := 0, counters := [Reg.THERMAL_WARNING] }

/-- Throttle of a layer. -/
def State.layerThrottle (s : State) (layer : Nat) : State :=
  s.layerBit layer (4 + layer) (thresholds layer).2.1
    { cond := .thermalThrottle, ribbon := .fault, source := 0, counters := [Reg.THERMAL_THROTTLE] }

/-- The sensors that throttle cluster c: those of its two columns in the compute die and the tulle layers, and every ground
sensor of the die beneath it (R404). -/
def clusterSensors (c : Nat) : List Nat :=
  (List.range 160).filter (fun n =>
    if n < 128 then sensorColumn n / 2 == c else sensorColumn n / 8 == c / 4)

/-- The throttle threshold of a sensor. -/
def throttleOf (n : Nat) : Int := (thresholds (sensorLayer n)).2.1

/-- The thermal duty of a cluster moves once in a round (R404). -/
def State.moveDuty (s : State) (c : Nat) : State :=
  let ns := clusterSensors c
  let d := s.thermalDuty c
  let off := Reg.THERMAL_CLUSTER_DUTY c
  if ns.any (fun n => decide (throttleOf n ≤ s.governing n)) then
    s.setFld off Fl.THERMAL_CLUSTER_DUTY_THERMAL (if d = 8 then 4 else max (d - 1) 1)
  else if ns.all (fun n => decide (s.governing n ≤ throttleOf n - 20)) then
    s.setFld off Fl.THERMAL_CLUSTER_DUTY_THERMAL (min (d + 1) 8)
  else s

/-- The limit on far grants of the clusters above a ground die (R404). -/
def State.moveFarLimit (s : State) (c : Nat) : State :=
  let ns := (clusterSensors c).filter (fun n => 128 ≤ n)
  let off := Reg.THERMAL_CLUSTER_DUTY c
  if ns.any (fun n => decide (throttleOf n ≤ s.governing n)) then s.setFld off Fl.THERMAL_CLUSTER_DUTY_FAR_LIMITED 1
  else if ns.all (fun n => decide (s.governing n ≤ throttleOf n - 20)) then
    s.setFld off Fl.THERMAL_CLUSTER_DUTY_FAR_LIMITED 0
  else s

/-- A state with 5 °C of hysteresis: on at a limit, off 5 °C below it. -/
def hysteresis (was : Bool) (limit t : Nat) : Bool := decide (limit ≤ t) || (was && decide (limit < t + 5))

/-- A controller acts on its stack's readout (R259). -/
def State.stackTemp (s : State) (k t : Nat) : State :=
  if s.stackAbsent k then s
  else
    let off := Reg.FAR_STATUS k
    let warned := s.flag off Fl.FAR_STATUS_WARNING
    let throttled := s.fld off Fl.FAR_STATUS_STATE == 1
    let warn := hysteresis warned 90 t
    let thr := hysteresis throttled 95 t
    let s1 := (s.setFld off Fl.FAR_STATUS_TEMPERATURE t).setFld off Fl.FAR_STATUS_REFRESH_DOUBLE
      (hysteresis (s.flag off Fl.FAR_STATUS_REFRESH_DOUBLE) 85 t).toNat
    let s2 := (s1.setFld off Fl.FAR_STATUS_WARNING warn.toNat).setFld off Fl.FAR_STATUS_STATE thr.toNat
    let s3 := if warn && !warned then
        s2.raise { cond := .thermalWarning, ribbon := .notice, source := source 6 k 0, detail := 4 * t % 4096,
                   counters := [Reg.THERMAL_WARNING] }
      else s2
    if thr && !throttled then
      s3.raise { cond := .thermalThrottle, ribbon := .fault, source := source 6 k 0, detail := 4 * t % 4096,
                 counters := [Reg.THERMAL_THROTTLE] }
    else s3

/-! ### Trip (R405) -/

/-- THERMAL_TRIP: TRIP is written, the condition recorded, THERMTRIP# and ALERT# asserted, and the data plane's clocks and
rails removed. `src` is 0 for a sensor and 1 for a stack. -/
def State.trip (s : State) (src index value : Nat) : State :=
  let w := 1 + src % 2 * 2 + index % 256 * 2 ^ 8 + value % 4096 * 2 ^ 16
  let s1 := (s.wr Reg.THERMAL_TRIP (BitVec.ofNat 64 w)).setFld Reg.THERMAL_STATUS Fl.THERMAL_STATUS_TRIPPED 1
  let s2 := if src = 1 then s1.setFld (Reg.FAR_STATUS index) Fl.FAR_STATUS_STATE 2 else s1
  let s3 := s2.raise { cond := .thermalTrip, ribbon := .critical, source := if src = 1 then source 6 index 0 else source 10 index 0,
                       detail := w }
  let s4 := iterate (fun e s => s.setFld (Reg.ENDPOINT_STATUS e) Fl.ENDPOINT_STATUS_LINK 0) 2 0 s3
  (iterate (fun p s => s.setFld (Reg.BRIDE_PORT_STATUS p) Fl.BRIDE_PORT_STATUS_LINK 0) 24 0 s4).emit .thermtrip

/-- The sensor that trips: the first at or above its trip threshold. -/
def State.tripSensor (s : State) : Option Nat :=
  (List.range 160).find? (fun n => decide ((thresholds (sensorLayer n)).2.2 ≤ s.governing n))

/-- Trips on a sensor or, with none, on a stack at 105 °C or above. -/
def State.checkTrip (s : State) (readouts : List Nat) : State :=
  match s.tripSensor with
  | some n => s.trip 0 n (unsignedOf 12 (s.governing n))
  | none =>
    match (List.range 8).find? (fun k => !s.stackAbsent k && decide (105 ≤ readouts.getD k 0)) with
    | some k => s.trip 1 k (4 * readouts.getD k 0)
    | none => s

/-! ### Compensation (R407) -/

/-- A trim moves by at most 0.1 ppm in a round and stays within 10 ppm; how it follows the temperature is free
(notes/assumptions/38). -/
def State.trim (s : State) (f : Fld) : State :=
  let old := signedOf 16 (s.fld Reg.THERMAL_COMPENSATION f)
  let r := s.freshNat 16
  let v := max (-1000) (min 1000 (old + ((r.1 % 21 : Nat) : Int) - 10))
  r.2.setFld Reg.THERMAL_COMPENSATION f (unsignedOf 16 v)

/-- The trim codes of the parts without a register, each relative to what was fused or trained: the references of the five dies
(0 to 4), the far PHYs (5 to 12), the Bride SerDes (13 to 36) and the PCI Express PHYs (37, 38). -/
def trimmedParts : Nat := 39

/-- Each of those codes moves by at most one in a round; by which, the spec leaves open, as it does the ranges (R407;
notes/assumptions/38). -/
def State.trimCodes (s : State) : State :=
  let r := s.freshNat 64
  { r.2 with therm := { r.2.therm with
      codes := (List.range trimmedParts).map (fun i =>
        s.therm.codes.getD i 0 + (((r.1 / 3 ^ i % 3 : Nat) : Int) - 1)) } }

/-! ### The round (R401) -/

/-- THERMAL_ROUND (R401): the conversions, the estimates and suspects, the thresholds, the duties, the stacks, a trip, the
compensation. -/
def execThermalRound (x : ThermalResults) (s : State) : Result :=
  let s := s.begin
  if !s.clocked || !s.boot.powered then finish s
  else
    let s1 := ({ s with therm := { s.therm with power := x.power } }).takeReadings 0 (x.readings.take 160)
    let s2 := s1.forEach (fun n s => if s.failedSensor n then s.markSuspect n else s) outerSensors
    let s3 := s2.refreshSensors.forEach (fun n s => s.judgeTulle n) tulleSensors
    let s4 := (s3.forEach (fun l s => s.layerWarning l) [0, 1, 2, 3]).forEach (fun l s => s.layerThrottle l) [0, 1, 2, 3]
    let s5 := (iterate (fun c s => (s.moveDuty c).moveFarLimit c) 8 0 s4).syncDuty
    let s6 := iterate (fun k s => s.stackTemp k (x.readouts.getD k 0)) 8 0 s5
    let s7 := ((s6.trim Fl.THERMAL_COMPENSATION_SYSTEM_TRIM).trim Fl.THERMAL_COMPENSATION_SERDES_TRIM).trimCodes
    finish (s7.checkTrip x.readouts)

end Sys2Proof.Machine
end

