-- ==== Sys2Proof/Machine/RegisterAccess.lean ====
section
/-! DEFINITION. The register space as a whole (R19, R20, R465 to R470): what a write does to a register by the access codes of
its fields and by the rules that single registers have, what a read returns, and the write latch of 32-bit accesses. -/

namespace Sys2Proof.Machine

/-! ### Plain registers (R19, R20) -/

/-- The place of a field. -/
def FieldSpec.fld (f : FieldSpec) : Fld := ⟨f.lo, f.width⟩

/-- What a written value does to one field (R19). -/
def FieldSpec.put (f : FieldSpec) (v w : Word) : Word :=
  match f.access with
  | .ro => w
  | .wo => w
  | .rw => f.fld.write w (f.fld.read v)
  | .w1c => w &&& ~~~(v &&& f.fld.mask)
  | .w1s => w ||| (v &&& f.fld.mask)
  | .sat => if f.fld.read v = 0 then f.fld.write w 0 else w

/-- What a written value does to every field of a register; reserved bits are ignored (R20). -/
def putFields (v : Word) : List FieldSpec → Word → Word
  | [], w => w
  | f :: rest, w => putFields v rest (f.put v w)

/-- A write of a register that has no rule of its own. -/
def State.writePlain (s : State) (off : Nat) (v : Word) : State :=
  match RegTable.find off with
  | some c => s.wr off (putFields v c.fields (s.rd off))
  | none => s

/-- The bits of a field that a read returns: none of a WO field (R19). -/
def FieldSpec.readMask (f : FieldSpec) : Word := if f.access = .wo then 0 else f.fld.mask

/-- The bits of a field that keep their values when only the other half of the register is written (R467): those of RW fields
and of counters. -/
def FieldSpec.keepMask (f : FieldSpec) : Word := if f.access = .rw ∨ f.access = .sat then f.fld.mask else 0

/-- The bits of a counter: a SAT field, or a register that is one read-only count of 64 bits (R470). -/
def FieldSpec.counterMask (f : FieldSpec) : Word :=
  if f.access = .sat ∨ (f.access = .ro ∧ f.width = 64) then f.fld.mask else 0

/-- The union of a mask over the fields of a register. -/
def maskOf (m : FieldSpec → Word) : List FieldSpec → Word
  | [] => 0
  | f :: rest => m f ||| maskOf m rest

/-- Writes a plain register that lies in a byte-coded array: its eight bytes are written whole (R371). -/
def State.writeArray (s : State) (off : Nat) (v : Word) : State := (s.writePlain off v).healArray off

/-- The value with its SIZE field, [4:0], replaced by the register's where it lies outside lo to hi (R232, R385, R430). -/
def State.keepSize (s : State) (off lo hi : Nat) (v : Word) : Word :=
  let f : Fld := ⟨0, 5⟩
  if lo ≤ f.read v ∧ f.read v ≤ hi then v else f.write v (s.fld off f)

/-! ### Requests (R98) -/

/-- CONTROL.REQ of an update unit. Which reads of a replay are uncorrectable is a free value (notes/assumptions/1). -/
def State.requestUnit (s : State) (u req : Nat) : State :=
  if req = 1 then s.drainUpdate u
  else if req = 2 then
    let r := s.freshNat 256
    r.2.enableUpdate u r.1
  else s

/-! ### Core blocks (R72, R87, R104, R105) -/

/-- A register write that the running shuttle's core ignores (R72). -/
def State.ignoreWrite (s : State) (n : Nat) : State := s.setFld (Reg.SHUTTLE_STATUS n) Fl.SHUTTLE_STATUS_WRITE_IGNORED 1

/-- The shuttle is RUNNING or STALLED (R72). -/
def State.shuttleBusy (s : State) (n : Nat) : Bool := s.shuttleState n == 1 || s.shuttleState n == 2

/-- A write of a generator register (R105): r is its offset among the generator's registers. -/
def State.writeGenerator (s : State) (n g r off : Nat) (v : Word) : State :=
  if r = 8 ∧ (Fl.GEN_CONFIG_DIMS.read v = 0 ∨ Fl.GEN_CONFIG_DIMS.read v = 7) then s.ignoreWrite n
  else if r = 0x40 ∨ r = 0x48 then (s.writeArray off v).setFld (Reg.GEN_CONFIG n g) Fl.GEN_CONFIG_END 0
  else s.writeArray off v

/-- A write of one half of a tile register, which its range check may refuse (R87). -/
def State.writeTileReg (s : State) (n t off : Nat) (v : Word) : State :=
  let s1 := s.writeArray off v
  if descriptorOk (s1.rd (Reg.TILE_LO n t)) (s1.rd (Reg.TILE_HI n t)) then s1 else s.ignoreWrite n

/-- A write of a resource that register writes reach only while the shuttle is not running (R72); r is its offset in the core
block. -/
def State.writeResource (s : State) (n r off : Nat) (v : Word) : State :=
  if s.shuttleBusy n then s.ignoreWrite n
  else if 0x200 ≤ r ∧ r < 0x600 then s.writeGenerator n ((r - 0x200) / 0x80) (r % 0x80) off v
  else if 0x1000 ≤ r ∧ r < 0x1400 then s.writeTileReg n ((r - 0x1000) / 0x10) off v
  else s.writeArray off v

/-- A write of a register of mover m's check unit (R385); q is its offset in the unit. -/
def State.writeCheckUnit (s : State) (n m q off : Nat) (v : Word) : State :=
  if q = 0 then s.writeCheckControl n m v
  else if q = 8 then
    if s.checkOpen n m then s.writePlain off v else s.checkIgnored n m
  else if q = 0x10 then s.writePlain off (v &&& ~~~0xF)
  else if q = 0x18 then
    let s1 := s.writePlain off (s.keepSize off 4 16 v)
    s1.setFld off Fl.MV_REPORT_RING_WRITE_PTR
      (s1.fld off Fl.MV_REPORT_RING_WRITE_PTR % 2 ^ s1.fld off Fl.MV_REPORT_RING_SIZE)
  else s.writePlain off v

/-- A write of a register of a chain slot (R171, R172). -/
def State.writeChain (s : State) (n r off : Nat) (v : Word) : State :=
  let i := (r - 0x4000) / 0x100
  let q := r % 0x100
  if q = 0 then s.writeHead n false i v
  else if 0x40 ≤ q ∧ q < 0x80 then s.writeSlotWord n false false i ((q - 0x40) / 8) v
  else if 0x80 ≤ q ∧ q < 0xC0 then s.writeSlotWord n false true i ((q - 0x80) / 8) v
  else s.writePlain off v

/-- A write of a register of a program slot (R171, R172). -/
def State.writeProgram (s : State) (n r off : Nat) (v : Word) : State :=
  let i := (r - 0x5000) / 0x200
  let q := (r - 0x5000) % 0x200
  if q = 0 then s.writeHead n true i v
  else if 0x40 ≤ q ∧ q < 0x80 then s.writeSlotWord n true true i ((q - 0x40) / 8) v
  else if 0x100 ≤ q then s.writeSlotWord n true false i ((q - 0x100) / 8) v
  else s.writePlain off v

/-- A write of a register of core n; r is its offset in the core block. -/
def State.writeCore (s : State) (n r off : Nat) (v : Word) : State :=
  if r = 0 then (if v.toNat % 2 = 1 ∧ s.shuttleBusy n = true then s.stopShuttle n 2 else s)
  else if (0x100 ≤ r ∧ r < 0x600) ∨ (0x1000 ≤ r ∧ r < 0x4000) ∨ 0x8000 ≤ r then s.writeResource n r off v
  else if 0x600 ≤ r ∧ r < 0x680 ∧ r % 0x20 = 0 then s.requestQueue n ((r - 0x600) / 0x20) (v.toNat % 4)
  else if r = 0x700 then s.requestCore n (v.toNat % 4)
  else if 0x800 ≤ r ∧ r < 0x840 ∧ r % 0x10 = 0 then s.writeStationConfig n ((r - 0x800) / 0x10) v
  else if 0xB00 ≤ r ∧ r < 0xB80 then s.writeCheckUnit n ((r - 0xB00) / 0x40) (r % 0x40) off v
  else if 0x4000 ≤ r ∧ r < 0x5000 then s.writeChain n r off v
  else if 0x5000 ≤ r ∧ r < 0x7000 then s.writeProgram n r off v
  else s.writePlain off v

/-! ### The other blocks -/

/-- A write of a register of tier queue q, whose offset among the queue's registers is r (R217, R232). -/
def State.writeTierQueue (s : State) (q r off : Nat) (v : Word) : State :=
  if r = 0 then s.writePlain off (v &&& ~~~0x1F)
  else if r = 8 then s.writePlain off (s.keepSize off 4 16 v)
  else if r = 0x10 then s.ringTier q (v.toNat % 2 ^ 16)
  else if r = 0x20 then
    match v.toNat % 4 with | 1 => s.drainTier q | 2 => s.enableTier q | _ => s
  else s.writePlain off v

/-- A write of a register of collective engine e (R359, R368). -/
def State.writeCollective (s : State) (e r off : Nat) (v : Word) : State :=
  if r = 0 then s.writePlain off (v &&& ~~~0x3F)
  else if r = 8 then s.writePlain off (s.keepSize off 4 16 v)
  else if r = 0x10 then s.ringColl e (v.toNat % 2 ^ 16)
  else if r = 0x20 then
    match v.toNat % 4 with | 1 => s.drainColl e | 2 => s.enableColl e | _ => s
  else s.writePlain off v

/-- A write of a register of object o (R215, R232). -/
def State.writeObject (s : State) (who : Requester) (o r off : Nat) (v : Word) : State :=
  if r = 0 then s.accessObject who o v
  else if s.mayWrite who off = false then s
  else if (r = 8 ∨ r = 0x10) ∧ s.objFld o Fl.TIER_OBJECT_CONTROL_VALID = 1 then s.objectError o 6
  else if r = 0x20 then (if Fl.TIER_OBJECT_STATUS_CREATE_ERR.read v = 0 then s else s.objectError o 0)
  else s.writeArray off v

/-- A write of a schedule's registers (R286, R365); only Tambour writes OWNER. -/
def State.writeSchedule (s : State) (who : Requester) (k r off : Nat) (v : Word) : State :=
  let owner := s.fld (Reg.SCHEDULE_CONFIG k) Fl.SCHEDULE_CONFIG_OWNER
  if r = 0x18 then s.writeProbe k v
  else
    let kind := Fl.SCHEDULE_CONFIG_KIND.read v
    let v1 := if r = 0 ∧ 5 ≤ kind then Fl.SCHEDULE_CONFIG_KIND.write v (s.fld off Fl.SCHEDULE_CONFIG_KIND) else v
    let v2 := match who with
      | .tambour => v1
      | _ => if r = 0 then Fl.SCHEDULE_CONFIG_OWNER.write v1 owner else v1
    let s1 := s.writeArray off v2
    (s1.staleDigest owner).staleDigest (s1.fld (Reg.SCHEDULE_CONFIG k) Fl.SCHEDULE_CONFIG_OWNER)

/-- A write of a register of tenant t's step machine (R289, R299, R308, R365). -/
def State.writeGate (s : State) (t r off : Nat) (v : Word) : State :=
  if r = 0 then s.writeGateControl t v
  else if r = 0x10 then
    if s.gateState t = 0 ∨ s.gateState t = 5 then (s.writePlain off v).staleDigest t else s.gateIgnored t
  else if r = 0x20 ∨ r = 0x28 ∨ r = 0x30 then (s.writePlain off v).staleDigest t
  else s.writePlain off v

/-- A binding that would give a tenant a second function on one endpoint (R413). -/
def State.bindConflict (s : State) (f : Nat) (v : Word) : Bool :=
  Fl.FUNCTION_BINDING_VALID.read v == 1
    && (List.range 16).any (fun i =>
      let g := f / 16 * 16 + i
      g != f && s.ownerOf (Reg.FUNCTION_BINDING g) == some (Fl.FUNCTION_BINDING_TENANT.read v))

/-- A write of a binding (R413); waiting notifications of a tenant that loses its ring are discarded (R194). -/
def State.writeBinding (s : State) (f : Nat) (v : Word) : State :=
  let off := Reg.FUNCTION_BINDING f
  if s.bindConflict f v then s.setFld off Fl.FUNCTION_BINDING_BIND_ERR 1
  else (s.writePlain off v).checkNotifies

/-- A write of a register of function f (R421, R422, R430). -/
def State.writeFunction (s : State) (f r off : Nat) (v : Word) : State :=
  if r = 0 then s.writeBinding f v
  else if r = 0x18 then (s.writePlain off (s.keepSize off 4 16 v)).checkNotifies
  else if r = 0x20 then s.writeCompletionRead f v
  else if r = 0x30 then s.writePlain off (s.keepSize off 2 10 v)
  else s.writePlain off v

/-- A doorbell of function f's mailbox (R424). -/
def State.ringMgmt (s : State) (f : Nat) (v : Word) : State :=
  let st := Reg.MGMT_STATUS f
  if Fl.MGMT_DOORBELL_START.read v = 0 then s
  else if s.flag st Fl.MGMT_STATUS_BUSY then s.setFld st Fl.MGMT_STATUS_REQ_ERR 1
  else s.setFld st Fl.MGMT_STATUS_BUSY 1

/-- A write of eight bytes into FEED_WINDOW: firmware staging at CHUNK MiB (R436). -/
def State.writeFeedWindow (s : State) (o : Nat) (v : Word) : State :=
  let base := s.fld Reg.SECURITY_FEED_CONTROL Fl.SECURITY_FEED_CONTROL_CHUNK * 0x100000 + o
  s.putStaged base (bytesLE 8 v.toNat)

/-- A write of a register of the EVENT block (R449, R458, R461, R464). -/
def State.writeEvent (s : State) (off : Nat) (v : Word) : State :=
  if off = Reg.EVENT_STICKY then s.writeSticky 0 v
  else if off = Reg.EVENT_ALERT then s.writeSticky 1 v
  else if off = Reg.EVENT_ALERT_MASK then (s.writePlain off v).driveAlert
  else if 0x401000 ≤ off ∧ off < 0x401100 ∧ off % 0x40 = 0x10 then s.writeAck ((off - 0x401000) / 0x40) v
  else s.writePlain off v

/-- A write of a register of tenant t's part of the EVENT block. -/
def State.writeEventTenant (s : State) (t off : Nat) (v : Word) : State :=
  if off = Reg.EVTENANT_STICKY t then s.writeSticky (2 + t) v
  else if off = Reg.EVTENANT_RING_CONTROL t then s.writePlain off (s.keepSize off 4 16 v)
  else s.writePlain off v

/-- A write of a register of the THERMAL_POWER block (R397, R401, R403); a power loop that stops returns D_cap to 8. -/
def State.writeThermal (s : State) (off : Nat) (v : Word) : State :=
  if off = Reg.THERMAL_DEMAND then s.writeDemand v
  else if 0x801000 ≤ off then s.writeSensor ((off - 0x801000) / 8) v
  else
    let s1 := s.writePlain off v
    if off = Reg.THERMAL_CONTROL ∧ s1.capEnabled = false then s1.setCap 8 else s1

/-- A write of a register of the BRIDE_ROUTE block (R339, R344, R365, R368). -/
def State.writeRoute (s : State) (off : Nat) (v : Word) : State :=
  if off = Reg.BRIDE_ROUTE_CONTROL then s.writeRouteControl v
  else
    let s1 := s.writePlain off v
    if off = Reg.BRIDE_ROUTE_GENERATION then s1.staleShared
    else if 0x3408000 ≤ off then s1.staleDevice.rerouteHeld
    else s1

/-- A write of a register of far stack k; r is its offset in the stack's block (R250, R256). -/
def State.writeFar (s : State) (who : Requester) (k r off : Nat) (v : Word) : State :=
  if r = 0x28 then s.writeUnwrite who k v
  else if r = 0x30 then (if Fl.FAR_UNWRITE_STATUS_ERR.read v = 0 then s else s.writePlain off v)
  else if 0x9000 ≤ r then s.writeRetire k ((r - 0x9000) / 8) v
  else s.writePlain off v

/-- A write of the TICK block (R47). -/
def State.writeTick (s : State) (off : Nat) (v : Word) : State :=
  if off = Reg.TICK_LEN_NEXT then s.writeLenNext v
  else if off = Reg.TICK_LEN_CHANGE_AT then s.writeLenChangeAt v
  else s.writePlain off v

/-- A whole write of a register (R465, R466), by a requester that may write it. -/
def State.writeRegister (s : State) (who : Requester) (off : Nat) (v : Word) : State :=
  match regionOf off with
  | .tick => s.writeTick off v
  | .tickTenant t => if off = Reg.TICK_TENANT_START_STITCH t then s.writeStartStitch t v else s.writePlain off v
  | .mgmt f => if off = Reg.MGMT_DOORBELL f then s.ringMgmt f v else s.writePlain off v
  | .event => s.writeEvent off v
  | .eventTenant t => s.writeEventTenant t off v
  | .thermal _ => s.writeThermal off v
  | .core n => s.writeCore n (off - Reg.coreBase n) off v
  | .knot k =>
    if off = knotStateReg k then s.knotDo k (.write (Fl.KNOT_STATE_COUNT.read v) (Fl.KNOT_STATE_FRAYED.read v == 1))
    else if off = knotArmReg k then s.writeKnotArm k v else s
  | .knotOwner => (s.writePlain off v).checkNotifies
  | .clusterUnit c =>
    if off = Reg.CLUSTER_UNIT_CONTROL c then s.requestCluster c (v.toNat % 4) else s.writePlain off v
  | .farUnwrite => s.writeFar who ((off - 0x2400000) / 0x20000) (off % 0x20000) off v
  | .far => s.writeFar who ((off - 0x2400000) / 0x20000) (off % 0x20000) off v
  | .unit u _ =>
    if off = Reg.UNIT_CONTROL u then s.requestUnit u (v.toNat % 4)
    else if off = Reg.UNIT_RETRY u then s.retryGroup u (Fl.UNIT_RETRY_GROUP.read v)
    else s.writePlain off v
  | .schedule k => s.writeSchedule who k (off % 0x20) off v
  | .group g => s.accessGroup who g (off % 0x80 / 8) v
  | .gate t => s.writeGate t (off % 0x100) off v
  | .update => if 0x2800100 ≤ off ∧ off < 0x2800300 then (s.writePlain off v).staleShared else s.writePlain off v
  | .tierQueue q _ => s.writeTierQueue q (off % 0x40) off v
  | .object o => s.writeObject who o (off % 0x80) off v
  | .port p => if off = Reg.BRIDE_PORT_CONTROL p then s.writePortControl p v else s.writePlain off v
  | .pricking t => (s.writePlain off v).staleDigest t
  | .collective e _ => s.writeCollective e (off % 0x40) off v
  | .route => s.writeRoute off v
  | .function f _ => s.writeFunction f ((off - 0x3801000) % 0x200) off v
  | .feed => if off = Reg.SECURITY_FEED_CONTROL then s.writeFeedControl v else s.writeFeedWindow (off - 0x3D00000) v
  | .security =>
    if off = Reg.SECURITY_UPDATE_STATUS then
      (if Fl.SECURITY_UPDATE_STATUS_ERR.read v = 0 then s else s.setUpdateErr 0)
    else s.writePlain off v
  | .device | .bank | .near | .telltale _ | .tierTenant _ _ | .tierRegion | .tier | .digest _ | .endpoint | .coreOwner _ | .host
  | .securityOpen | .integrity => s.writePlain off v
  | .none => s

/-! ### Who may write (R469) -/

/-- Whether a requester may write a register of BAR0: by its region, and for objects, groups and doorbells by their own rules
(R96, R215, R264). -/
def State.mayWriteReg (s : State) (who : Requester) (off : Nat) : Bool :=
  match regionOf off with
  | .object o => s.mayWrite who off || s.stranger who (s.objectTenant o)
  | .group g => s.mayWrite who off || s.stranger who (s.groupTenant g)
  | .tierQueue q _ => if off = Reg.TIER_QUEUE_DOORBELL q then s.mayRing who (s.tierQueueTenant q) off else s.mayWrite who off
  | .collective e _ =>
    if off = Reg.COLLECTIVE_DOORBELL e then s.mayRing who (s.collectiveTenant e) off else s.mayWrite who off
  | _ => s.mayWrite who off

/-! ### BAR2 (R416) -/

/-- The first offset of BAR2 in the numbering of the register rows: page k at bar2 + 4,096 k. -/
def bar2 : Nat := 0x4000000

/-- A write into the doorbell page of core n (R94): a descriptor word or the doorbell. -/
def State.writeLaunchPage (s : State) (who : Requester) (n r : Nat) (v : Word) : State :=
  if s.mayDoorbell who (s.coreTenant n) = false then s
  else if r < 0x400 then
    let l := s.launch n
    s.setLaunch n { l with words := l.words.set (r / 8) v }
  else if r = 0x800 then s.ringLaunch n (v.toNat % 32)
  else s

/-- A write into page k of BAR2, at offset r of the page. -/
def State.writePage (s : State) (who : Requester) (k r : Nat) (v : Word) : State :=
  if k < 128 then s.writeLaunchPage who k r v
  else if k < 160 then
    if r = 0 ∧ s.mayDoorbell who (s.tierQueueTenant (k - 128)) = true then s.ringTier (k - 128) (v.toNat % 2 ^ 16) else s
  else if k < 176 then
    if r = 0 ∧ s.mayDoorbell who (s.collectiveTenant (k - 160)) = true then s.ringColl (k - 160) (v.toNat % 2 ^ 16) else s
  else s

/-- What a read of a launch page returns: the descriptor slots, the write pointer at the doorbell, and the status word with the
refused doorbells (R94). -/
def State.readLaunchPage (s : State) (n r : Nat) : Word :=
  let l := s.launch n
  if r < 0x400 then l.words.getD (r / 8) 0
  else if r = 0x800 then BitVec.ofNat 64 (l.wp % 32)
  else if r = 0x808 then
    BitVec.ofNat 64 (l.wp % 32 + l.rp % 32 * 2 ^ 8 + l.last % 16 * 2 ^ 16 + l.refused % 2 ^ 32 * 2 ^ 32)
  else 0

/-- The register that an offset of a doorbell page aliases (R416). -/
def pageAlias (k r : Nat) : Option Nat :=
  if 128 ≤ k ∧ k < 160 then
    (if r = 0 then some (Reg.TIER_QUEUE_DOORBELL (k - 128)) else if r = 8 then some (Reg.TIER_QUEUE_STATUS (k - 128)) else none)
  else if 160 ≤ k ∧ k < 176 then
    (if r = 0 then some (Reg.COLLECTIVE_DOORBELL (k - 160)) else if r = 8 then some (Reg.COLLECTIVE_STATUS (k - 160)) else none)
  else none

/-- The tenant that owns the resource of page k of BAR2 (R416). -/
def State.pageTenant (s : State) (k : Nat) : Option Nat :=
  if k < 128 then s.coreTenant k
  else if k < 160 then s.tierQueueTenant (k - 128)
  else if k < 176 then s.collectiveTenant (k - 160)
  else none

/-- A whole write at an offset of BAR0, or of BAR2 from `bar2` on. -/
def State.writeWhole (s : State) (who : Requester) (off : Nat) (v : Word) : State :=
  if off < bar2 then (if s.mayWriteReg who off then s.writeRegister who off v else s)
  else s.writePage who ((off - bar2) / 4096) (off % 4096) v

/-! ### The write latch (R467) -/

/-- The number of a requester. -/
def requesterNum : Requester → Nat
  | .function f => f.val
  | .tambour => 32
  | .debugPort => 33

/-- The fields of the register at an offset; a descriptor word of a launch page is one RW field. -/
def fieldsAt (off : Nat) : List FieldSpec :=
  if off < bar2 then (match RegTable.find off with | some c => c.fields | none => [])
  else
    match pageAlias ((off - bar2) / 4096) (off % 4096) with
    | some o => (match RegTable.find o with | some c => c.fields | none => [])
    | none => if off % 4096 < 0x400 then [⟨0, 64, .rw, 0⟩] else [⟨0, 5, .rw, 0⟩]

/-- What a BAR0 or BAR2 offset holds, for the half of a register that is not written. -/
def State.heldAt (s : State) (off : Nat) : Word :=
  if off < bar2 then s.rd off
  else
    let k := (off - bar2) / 4096
    match pageAlias k (off % 4096) with
    | some o => s.rd o
    | none => if k < 128 then s.readLaunchPage k (off % 4096) else 0

/-- Whether a register has a field in its high half that a write can act on. -/
def highWritable (off : Nat) : Bool := (fieldsAt off).any (fun f => decide (32 < f.lo + f.width) && f.access != .ro)

/-- The latched low half of a requester for a register. -/
def State.latched (s : State) (who : Requester) (off : Nat) : Option W32 :=
  match s.writeLatch.find? (fun e => e.1 == requesterNum who) with
  | some (_, o, v) => if o = off then some v else none
  | none => none

/-- Empties the write latch of a requester. -/
def State.clearLatch (s : State) (who : Requester) : State :=
  { s with writeLatch := s.writeLatch.filter (fun e => e.1 != requesterNum who) }

/-- A 32-bit write of a low half: it is held in the requester's write latch. -/
def State.writeLow (s : State) (who : Requester) (off : Nat) (v : W32) : State :=
  let s1 := s.clearLatch who
  { s1 with writeLatch := s1.writeLatch ++ [(requesterNum who, off, v)] }

/-- The latent errors of array bytes that a write has left alone stand as they stood. -/
def State.keepErrors (s : State) (lo n : Nat) (es : List (Nat × Nat)) : State :=
  if s.errorsIn lo n = es then s
  else
    let s1 := s.healSpan lo n
    { s1 with mem := { s1.mem with arrayUpsets := s1.mem.arrayUpsets ++ es } }

/-- A 32-bit write of a high half: the whole register in one step, with the latched low half where the latch holds one; else
the low half is not written, nor its bytes in a byte-coded array. -/
def State.writeHigh (s : State) (who : Requester) (off : Nat) (v : W32) : State :=
  let s1 := s.clearLatch who
  match s.latched who off with
  | some low => s1.writeWhole who off (v ++ low)
  | none =>
    if highWritable off then
      (s1.writeWhole who off (v ++ ((s.heldAt off &&& maskOf FieldSpec.keepMask (fieldsAt off)).setWidth 32))).keepErrors off 4
        (s.errorsIn off 4)
    else s1

/-- An access of a wrong width or alignment (R466). -/
def State.accessError (s : State) : State := s.count Reg.DEVICE_ACCESS_ERROR

/-- Whether a requester's accesses reach the register space at all: its BARs are open, or its scope is (R413, R444). -/
def State.reaches (s : State) : Requester → Bool
  | .tambour => true
  | .debugPort => s.bit Reg.SECURITY_DEBUG 1
  | .function f => match s.fnTenant f.val with | some t => s.barOpen f.val t | none => false

/-- REGISTER_WRITE (R466 to R468): a 64-bit write, or with `high` the 32-bit write of the high half, whose value is v[31:0]. The
offset is BAR0's, and BAR2's from `bar2` on. -/
def execRegisterWrite (who : Requester) (off : BitVec 27) (high : Bool) (v : Word) (s : State) : Result :=
  let s := s.begin
  finish (
    if s.reaches who = false then s
    else if off.toNat % 8 ≠ 0 then s.accessError
    else if high then s.writeHigh who off.toNat (v.setWidth 32)
    else s.writeWhole who off.toNat v)

/-- Whether writes of a requester to an offset are dropped because READY is 0 (R432). -/
def State.tooEarly (s : State) (who : Requester) (off : Nat) : Bool :=
  match who with
  | .function _ => !s.ready && !(decide (off < bar2) && (beforeReady off (regionOf off)).2)
  | _ => false

/-- LOW_HALF_WRITE (R467). -/
def execLowHalfWrite (who : Requester) (off : BitVec 27) (v : W32) (s : State) : Result :=
  let s := s.begin
  finish (
    if s.reaches who = false ∨ s.tooEarly who off.toNat = true then s
    else if off.toNat % 8 ≠ 0 then s.accessError
    else s.writeLow who off.toNat v)

/-- ACCESS_ERROR (R466): a read, of the given number of bytes, or a write of a wrong width or alignment. -/
def execAccessError (who : Requester) (read : Option (Fin 4097)) (s : State) : Result :=
  let s := s.begin
  finish (
    if s.reaches who = false then s
    else
      match who, read with
      | .function f, some n => s.accessError.emit (.completion f (List.replicate n.val 0) false)
      | _, _ => s.accessError)

/-! ### Reads -/

/-- The unit's state field in the block of an absent unit (R470), and the value it reads: ABSENT. -/
def absentState (off : Nat) : Region → Option (Fld × Nat)
  | .core n =>
    let r := off - Reg.coreBase n
    if r = 8 then some (Fl.SHUTTLE_STATUS_STATE, 4)
    else if r = 0x708 ∨ (0x600 ≤ r ∧ r < 0x680 ∧ r % 0x20 = 8) then some (⟨0, 2⟩, 3) else none
  | .clusterUnit c => if off = Reg.CLUSTER_UNIT_STATUS c then some (Fl.CLUSTER_UNIT_STATUS_STATE, 3) else none
  | .port p => if off = Reg.BRIDE_PORT_STATUS p then some (Fl.BRIDE_PORT_STATUS_UNIT_STATE, 3) else none
  | .unit u _ => if off = Reg.UNIT_STATUS u then some (Fl.UNIT_STATUS_STATE, 3) else none
  | .tierQueue q _ => if off = Reg.TIER_QUEUE_STATUS q then some (Fl.TIER_QUEUE_STATUS_STATE, 3) else none
  | .collective e _ => if off = Reg.COLLECTIVE_STATUS e then some (Fl.COLLECTIVE_STATUS_STATE, 3) else none
  | _ => none

/-- What a read of a BAR0 register returns (R19, R20, R265, R470): no WO field; of an absent unit its state field and its
counters; TENANT of a group from its segment. -/
def State.readValue (s : State) (off : Nat) : Word :=
  match RegTable.find off with
  | none => 0
  | some c =>
    let r := regionOf off
    if s.regionAbsent r then
      let w := s.rd off &&& maskOf FieldSpec.counterMask c.fields
      match absentState off r with | some (f, x) => f.write w x | none => w
    else
      let w := s.rd off &&& maskOf FieldSpec.readMask c.fields
      match r with
      | .group g => if off % 0x80 = 0 then Fl.GROUP_CONTROL_TENANT.write w ((s.groupTenant g).getD 0) else w
      | .feed => 0
      | _ => w

/-- What a read at offset r of page k of BAR2 returns: zero where the requester may not use the page's resource (R416, R432). -/
def State.readPage (s : State) (who : Requester) (k r : Nat) : Word :=
  if s.mayDoorbell who (s.pageTenant k) = false then 0
  else
    match pageAlias k r with
    | some off => s.readValue off
    | none => if k < 128 then s.readLaunchPage k r else 0

/-- A read of a BAR0 register: latent errors of a byte-coded array show (R376), and a lost byte leaves the value open. -/
def State.readRegister (s : State) (off : Nat) : State × Word :=
  let r := s.readArrays none [off]
  if r.2 then
    let x := r.1.freshNat 64
    (x.2, BitVec.ofNat 64 x.1)
  else (r.1, r.1.readValue off)

end Sys2Proof.Machine
end

