-- ==== Sys2Proof/Machine/Mgmt.lean ====
section
/-! DEFINITION. The register requests of the management mailboxes (R424): WRITE, READ and the reserved codes. -/

namespace Sys2Proof.Machine

/-- The field in which a register's unit tells that it refused a write of the register. -/
def refusalField (off : Nat) : Option (Nat × Fld) :=
  match regionOf off with
  | .core n =>
    let r := off - Reg.coreBase n
    if (0x100 ≤ r ∧ r < 0x600) ∨ (0x1000 ≤ r ∧ r < 0x4000) ∨ 0x8000 ≤ r then
      some (Reg.SHUTTLE_STATUS n, Fl.SHUTTLE_STATUS_WRITE_IGNORED)
    else if 0x600 ≤ r ∧ r < 0x680 ∧ r % 0x20 = 0 then some (Reg.QUEUE_STATUS n ((r - 0x600) / 0x20), Fl.QUEUE_STATUS_REQ_ERR)
    else if r = 0x700 then some (Reg.CORE_UNIT_STATUS n, Fl.CORE_UNIT_STATUS_REQ_ERR)
    else if 0xB00 ≤ r ∧ r < 0xB80 ∧ r % 0x40 ≤ 8 then some (Reg.MV_CHECK_CONTROL n ((r - 0xB00) / 0x40), Fl.MV_CHECK_CONTROL_WRITE_IGNORED)
    else if 0x4000 ≤ r ∧ r < 0x7000 then some (Reg.VX_STATUS n, Fl.VX_STATUS_WRITE_IGNORED)
    else none
  | .clusterUnit c => if off = Reg.CLUSTER_UNIT_CONTROL c then some (Reg.CLUSTER_UNIT_STATUS c, Fl.CLUSTER_UNIT_STATUS_REQ_ERR) else none
  | .farUnwrite =>
    let k := (off - 0x2400000) / 0x20000
    if off = Reg.FAR_UNWRITE_CONTROL k then some (Reg.FAR_UNWRITE_STATUS k, Fl.FAR_UNWRITE_STATUS_ERR) else none
  | .group g => if off % 0x80 = 0x78 then none else some (Reg.GROUP_STATUS g, Fl.GROUP_STATUS_CREATE_ERR)
  | .gate t => if off = Reg.GATE_STATE t then none else some (Reg.GATE_STATE t, Fl.GATE_STATE_WRITE_IGNORED)
  | .object o => if off % 0x80 < 0x18 then some (Reg.TIER_OBJECT_STATUS o, Fl.TIER_OBJECT_STATUS_CREATE_ERR) else none
  | .mgmt f => if off = Reg.MGMT_DOORBELL f then some (Reg.MGMT_STATUS f, Fl.MGMT_STATUS_REQ_ERR) else none
  | _ => none

/-- A write that the register or its unit refuses without a mark of its own: a second binding on one endpoint (R413), a phase beyond
the cadence (R43), a change of the length that R47 does not take, an ENABLE that R98 does not take. -/
def State.refusedHere (s : State) (off : Nat) (v : Word) : Bool :=
  match regionOf off with
  | .function f b => b && s.bindConflict f v
  | .core n =>
    let r := off - Reg.coreBase n
    decide (0x800 ≤ r) && decide (r < 0x840) && r % 0x10 == 0 && Fl.STATION_CONFIG_ENABLE.read v == 1
      && decide (Fl.STATION_CONFIG_CADENCE.read v + 1 ≤ Fl.STATION_CONFIG_PHASE.read v)
  | .tick =>
    (off == Reg.TICK_LEN_NEXT && !s.lenOpen) || (off == Reg.TICK_LEN_CHANGE_AT && !s.lenChangeOk v.toNat)
  | .tierQueue q _ => off == Reg.TIER_QUEUE_CONTROL q && v.toNat % 4 == 2 && !s.tierEnables q
  | .collective e _ => off == Reg.COLLECTIVE_CONTROL e && v.toNat % 4 == 2 && !s.collEnables e
  | .unit u _ => off == Reg.UNIT_CONTROL u && v.toNat % 4 == 2 && !s.updateEnables u
  | .port p => off == Reg.BRIDE_PORT_CONTROL p && v.toNat % 4 == 2 && !s.portEnables p
  | _ => false

/-- Tambour writes a register; the second part says that the register or its unit refused (R424, R469). -/
def State.tambourWrite (s : State) (off : Nat) (v : Word) : State × Bool :=
  match refusalField off with
  | none => (s.writeWhole .tambour off v, s.refusedHere off v)
  | some (r, f) =>
    let old := s.fld r f
    let s1 := (s.setFld r f 0).writeWhole .tambour off v
    if s1.fld r f = 0 then (s1.setFld r f old, false) else (s1, true)

/-- The value that writing the masked bits of a register means: the other bits as R467 keeps a half that is not written. -/
def State.maskedValue (s : State) (off : Nat) (mask v : Word) : Word :=
  (v &&& mask) ||| (s.rd off &&& ~~~mask &&& maskOf FieldSpec.keepMask (fieldsAt off))

/-- Whether a request names a register: an aligned offset of BAR0. -/
def offsetOk (off : Nat) : Bool := off % 8 == 0 && decide (off < bar2)

/-- MGMT_WRITE (R424): offset, mask and value, 8 bytes each. -/
def execMgmtWrite (f : Fin 32) (s : State) : Result :=
  finish (s.begin.mgmtPrivileged f 0x0001 24 fun s =>
    let off := s.mgmtField f 8 8
    if offsetOk off then
      let v := s.maskedValue off (BitVec.ofNat 64 (s.mgmtField f 16 8)) (BitVec.ofNat 64 (s.mgmtField f 24 8))
      let r := s.tambourWrite off v
      r.1.mgmtAnswer f (if r.2 then 3 else 0) []
    else s.mgmtAnswer f 1 [])

/-- Whether function f may READ a register: privileged, with the scope READ_ALL open, or one that its tenant may read (R424,
R444). -/
def State.mayMgmtRead (s : State) (f off : Nat) : Bool :=
  s.fnPrivileged f || s.bit Reg.SECURITY_DEBUG 0
    || match s.fnTenant f with | some t => (s.rights f t (regionOf off)).1 | none => false

/-- MGMT_READ (R424): the response holds the register. -/
def execMgmtRead (f : Fin 32) (s : State) : Result :=
  finish (s.begin.mgmtTake f (· == 0x0002) fun s =>
    let off := s.mgmtField f 8 8
    if s.mgmtField f 2 2 < 8 ∨ offsetOk off = false then s.mgmtAnswer f 1 []
    else if s.mayMgmtRead f off = false then s.mgmtAnswer f 2 []
    else
      let r := s.readRegister off
      r.1.mgmtAnswer f 0 (bytesLE 8 r.2.toNat))

/-- The codes that R424 and R439 define. -/
def mgmtDefined (code : Nat) : Bool :=
  (decide (1 ≤ code) && decide (code ≤ 3)) || (decide (0x0100 ≤ code) && decide (code ≤ 0x0103))
    || (decide (0x0110 ≤ code) && decide (code ≤ 0x0112))

/-- MGMT_RESERVED (R424): RESULT INVALID. -/
def execMgmtReserved (f : Fin 32) (s : State) : Result :=
  finish (s.begin.mgmtTake f (fun c => !mgmtDefined c) fun s => s.mgmtAnswer f 1 [])

end Sys2Proof.Machine
end

