-- ==== Sys2Proof/Machine/Sideband.lean ====
section
/-! DEFINITION. MCTP with SPDM and PLDM (R428, R442, R443, R460), the SMBus alert response (R461), I3C (R482), and the debug port
(R444, R484). Messages are modelled by their contents (notes/assumptions/42). -/

namespace Sys2Proof.Machine

/-! ### MCTP control -/

/-- Answers on a binding. -/
def State.say (s : State) (b : Nat) (m : Message) : State := s.emit (.mctp b m)

/-- SET_ENDPOINT_ID (R428): the null and the broadcast ID are refused. -/
def execSetEndpointId (b : Fin 3) (eid : Byte) (s : State) : Result :=
  finish (s.begin.served b (.setEndpointId b eid) fun s =>
    if eid = 0 ∨ eid = 0xFF then s.say b .refused
    else ({ s with side := { s.side with eids := s.side.eids.set b eid.toNat } }).say b (.endpointId eid.toNat))

/-! ### SPDM (R442) -/

/-- How far the negotiation of a binding is: 0 none, 1 version, 2 capabilities, 3 algorithms. -/
def State.spdmAt (s : State) (b : Nat) : Nat := s.side.spdm.getD b 0

/-- Records how far the negotiation is. -/
def State.spdmTo (s : State) (b k : Nat) : State := { s with side := { s.side with spdm := s.side.spdm.set b k } }

/-- A request that needs negotiation step k; another is out of order. -/
def State.spdmServed (s : State) (b k : Nat) (i : Instr) (f : State → State) : State :=
  s.served b i fun s => if s.spdmAt b < k then s.say b .spdmError else f s

/-- GET_VERSION: it starts the negotiation anew. -/
def execGetVersion (b : Fin 3) (s : State) : Result := finish (s.begin.served b (.getVersion b) fun s => (s.spdmTo b 1).say b .version)

/-- GET_CAPABILITIES: CERT_CAP, CHAL_CAP and MEAS_CAP with signature. -/
def execGetCapabilities (b : Fin 3) (s : State) : Result :=
  finish (s.begin.spdmServed b 1 (.getCapabilities b) fun s => (s.spdmTo b 2).say b .capabilities)

/-- NEGOTIATE_ALGORITHMS: `offered` says that the offer has P-521, SHA-512 and SHA-512 measurements. -/
def execNegotiateAlgorithms (b : Fin 3) (offered : Bool) (s : State) : Result :=
  finish (s.begin.spdmServed b 2 (.negotiateAlgorithms b offered) fun s => if offered then (s.spdmTo b 3).say b .algorithms else s.say b .spdmError)

/-- GET_DIGESTS: of the slot 0 chain. -/
def execGetDigests (b : Fin 3) (s : State) : Result :=
  finish (s.begin.spdmServed b 3 (.getDigests b) fun s => s.say b (.digests (sha512 s.fw.certs)))

/-- GET_CERTIFICATE: `len` bytes of the chain of a slot from an offset; slot 0 alone exists. -/
def execGetCertificate (b : Fin 3) (slot : Fin 8) (off len : BitVec 16) (s : State) : Result :=
  finish (s.begin.spdmServed b 3 (.getCertificate b slot off len) fun s =>
    if slot.val = 0 ∧ off.toNat < s.fw.certs.length then
      s.say b (.certificate ((s.fw.certs.drop off.toNat).take len.toNat))
    else s.say b .spdmError)

/-- CHALLENGE: signed by the identity key over the nonce and the digest of the chain. -/
def execChallenge (b : Fin 3) (slot : Fin 8) (nonce : List Byte) (s : State) : Result :=
  finish (s.begin.spdmServed b 3 (.challenge b slot nonce) fun s =>
    if slot.val = 0 then s.say b (.challengeAuth (Config.sign (nonce ++ sha512 s.fw.certs))) else s.say b .spdmError)

/-- The fuse map and the retirement map as bytes (R471). -/
def State.mapBytes (s : State) : List Byte := (List.range 14).flatMap (fun i => bytesLE 8 (s.rd (0x20 + 8 * i)).toNat)

/-- Measurement block k (R442). -/
def State.measurementBlock (s : State) (k : Nat) : List Byte :=
  match k with
  | 1 => Config.romDigest
  | 2 => s.measurement
  | 3 =>
    [s.fld Reg.SECURITY_FIRMWARE Fl.SECURITY_FIRMWARE_SVN, s.fld Reg.SECURITY_FIRMWARE Fl.SECURITY_FIRMWARE_MIN_SVN,
      s.fld Reg.SECURITY_BOOT_STATUS Fl.SECURITY_BOOT_STATUS_HOST_FED].map (BitVec.ofNat 8)
  | 4 => sha512 s.mapBytes
  | 5 =>
    bytesLE 8 (s.fld Reg.SECURITY_DEBUG Fl.SECURITY_DEBUG_SCOPE)
      ++ [BitVec.ofNat 8 (s.fld Reg.SECURITY_DEBUG Fl.SECURITY_DEBUG_FAILURES)]
  | _ => []

/-- GET_MEASUREMENTS: one block, or all five for index 255, signed with the nonce where asked for. -/
def execGetMeasurements (b : Fin 3) (index : Byte) (nonce : Option (List Byte)) (s : State) : Result :=
  finish (s.begin.spdmServed b 3 (.getMeasurements b index nonce) fun s =>
    let ks := if index = 0xFF then [1, 2, 3, 4, 5] else if 1 ≤ index.toNat ∧ index.toNat ≤ 5 then [index.toNat] else []
    if ks = [] ∧ index ≠ 0 then s.say b .spdmError
    else
      let blocks := ks.map (fun k => (k, s.measurementBlock k))
      let signature := match nonce with | some x => Config.sign (x ++ blocks.flatMap (·.2)) | none => []
      s.say b (.measurements blocks signature))

/-! ### PLDM for firmware update (R437, R443) -/

/-- How far the update of a binding is; 0 where it has none. -/
def State.updateAt (s : State) (b : Nat) : Nat :=
  match s.side.update with | some (c, k) => if c = b then k else 0 | none => 0

/-- Moves the update of a binding on. -/
def State.updateTo (s : State) (b k : Nat) : State := { s with side := { s.side with update := some (b, k) } }

/-- REQUEST_UPDATE: from IDLE or STAGED. -/
def execRequestUpdate (b : Fin 3) (s : State) : Result :=
  finish (s.begin.served b (.requestUpdate b) fun s =>
    if s.updateState = 0 ∨ s.updateState = 2 then ((s.beginStaging).updateTo b 1).say b .accepted else s.say b .refused)

/-- PASS_COMPONENT_TABLE: the one component has the identifier 1. -/
def execPassComponentTable (b : Fin 3) (component : BitVec 16) (s : State) : Result :=
  finish (s.begin.served b (.passComponentTable b component) fun s =>
    if s.updateAt b = 1 ∧ component = 1 then (s.updateTo b 2).say b .accepted else s.say b .refused)

/-- Asks for the next chunk of the component. -/
def State.askData (s : State) (b : Nat) : State :=
  s.say b (.requestFirmwareData s.fw.stagedLen (min 4096 (s.side.size - s.fw.stagedLen)))

/-- UPDATE_COMPONENT: the transfer starts; a component larger than the staging area is refused. -/
def execUpdateComponent (b : Fin 3) (component : BitVec 16) (size : W32) (s : State) : Result :=
  finish (s.begin.served b (.updateComponent b component size) fun s =>
    if s.updateAt b = 2 ∧ component = 1 ∧ 0 < size.toNat ∧ size.toNat ≤ 16777216 then
      let s1 := (s.updateTo b 3).say b .accepted
      ({ s1 with side := { s1.side with size := size.toNat } }).askData b
    else s.say b .refused)

/-- Appends bytes to firmware staging. -/
def State.stageBytes (s : State) (bytes : List Byte) : State :=
  let s1 := s.putStaged s.fw.stagedLen bytes
  { s1 with fw := { s1.fw with stagedLen := s.fw.stagedLen + bytes.length } }

/-- REQUEST_FIRMWARE_DATA: the response brings a chunk; after the last one comes TransferComplete. -/
def execRequestFirmwareData (b : Fin 3) (bytes : List Byte) (s : State) : Result :=
  finish (s.begin.served b (.requestFirmwareData b bytes) fun s =>
    let want := min 4096 (s.side.size - s.fw.stagedLen)
    if s.updateAt b = 3 ∧ bytes.length = want then
      let s1 := s.stageBytes bytes
      if s1.fw.stagedLen = s1.side.size then (s1.updateTo b 4).say b .transferComplete else s1.askData b
    else s)

/-- ACTIVATE_FIRMWARE: boundary STITCH_COUNT + 2, unless a later A is set already. -/
def execActivateFirmware (b : Fin 3) (s : State) : Result :=
  finish (s.begin.served b (.activateFirmware b) fun s =>
    if s.updateState = 4 then (s.chooseBoundary (s.fw.activateAt.getD 0)).say b .accepted else s.say b .refused)

/-- GET_STATUS. -/
def execGetStatus (b : Fin 3) (s : State) : Result :=
  finish (s.begin.served b (.getStatus b) fun s =>
    s.say b (.updateStatus s.updateState (s.fld Reg.SECURITY_UPDATE_STATUS Fl.SECURITY_UPDATE_STATUS_ERR)))

/-- CANCEL_UPDATE (R437): from STAGING to IDLE; which code ERR takes is a free value (notes/assumptions/1). -/
def execCancelUpdate (b : Fin 3) (s : State) : Result :=
  finish (s.begin.served b (.cancelUpdate b) fun s =>
    if s.updateState = 1 then
      let r := s.freshNat 64
      let s1 := { r.2 with dma := r.2.dma.filter (fun j => j.owner != DmaOwner.firmware) }
      (s1.failUpdate (1 + r.1 % 7)).say b .accepted
    else s.say b .refused)

/-! ### PLDM for monitoring and control (R443, R460) -/

/-- The hottest governing value of a layer, in units of 0.25 °C: of sensors n, n − 1, …, and m so far. -/
def State.layerMax (s : State) (l : Nat) : (n : Nat) → Option Int → Option Int
  | 0, m => m
  | n + 1, m =>
    State.layerMax s l n (if sensorLayer n = l then some (match m with | some x => max x (s.governing n) | none => s.governing n) else m)

/-- The value of a sensor (R443): voltage in 10 mV, current in 10 mA, power in W, energy in µJ, a layer in units of 0.25 °C, a
stack in °C; warning and throttle are those of any layer. -/
def State.sensorValue (s : State) : Sensor → Int
  | .inputVoltage => s.fld Reg.THERMAL_INPUT Fl.THERMAL_INPUT_VOLTAGE
  | .inputCurrent => s.fld Reg.THERMAL_INPUT Fl.THERMAL_INPUT_CURRENT
  | .averagePower => s.fld Reg.THERMAL_INPUT Fl.THERMAL_INPUT_POWER
  | .energy => (s.rd Reg.THERMAL_ENERGY).toNat
  | .layer l => (s.layerMax l 160 none).getD 0
  | .stack k => s.fld (Reg.FAR_STATUS k) Fl.FAR_STATUS_TEMPERATURE
  | .warning => if s.fld Reg.THERMAL_STATUS Fl.THERMAL_STATUS_WARNING = 0 then 0 else 1
  | .throttle => if s.fld Reg.THERMAL_STATUS Fl.THERMAL_STATUS_THROTTLE = 0 then 0 else 1
  | .trip => s.fld Reg.THERMAL_TRIP Fl.THERMAL_TRIP_LATCHED

/-- GET_SENSOR_READING (R443). -/
def execGetSensorReading (b : Fin 3) (x : Sensor) (s : State) : Result :=
  finish (s.begin.served b (.getSensorReading b x) fun s => s.say b (.sensor (s.sensorValue x)))

/-- SET_EVENT_RECEIVER (R460): events go to an endpoint ID on the binding that carried the request. -/
def execSetEventReceiver (b : Fin 3) (eid : Byte) (s : State) : Result :=
  finish (s.begin.served b (.setEventReceiver b eid) fun s => ({ s with side := { s.side with receiver := some (b.val, eid.toNat) } }).say b .accepted)

/-- The 32 bytes of a ribbon entry. -/
def State.entryBytes (s : State) (rb i : Nat) : List Byte :=
  (List.range 4).flatMap (fun k => bytesLE 8 (s.rd (Reg.RIBBON_ENTRY rb i k)).toNat)

/-- Whether the record at Tambour's read position of a ribbon can go: there is one, and it is not the FLOOD_LATEST entry that
later records of a flood still replace (R457). -/
def State.recordReady (s : State) (rb : Nat) : Bool :=
  let pos := s.mctpPos.getD rb 0
  pos != s.fld (Reg.RIBBON_POINTERS rb) Fl.RIBBON_POINTERS_WRITE_PTR
    && match findFlood rb s.floods with
      | some f => f.final || f.latest != some pos
      | none => true

/-- The next record for the event receiver, CRITICAL before FAULT: Tambour's read position moves past it (R460). -/
def State.nextRecord (s : State) : State × Option (List Byte) :=
  let rb := if s.recordReady 0 then 0 else 1
  if s.recordReady rb then
    let pos := s.mctpPos.getD rb 0
    ({ s with mctpPos := s.mctpPos.set rb ((pos + 1) % 65536) }, some (s.entryBytes rb (pos % 4096)))
  else (s, none)

/-- POLL_FOR_PLATFORM_EVENT_MESSAGE (R460). -/
def execPollForPlatformEventMessage (b : Fin 3) (s : State) : Result :=
  finish (s.begin.served b (.pollForPlatformEventMessage b) fun s =>
    let r := s.nextRecord
    r.1.say b (.polled r.2))

/-- PLATFORM_EVENT_MESSAGE (R460): Tambour sends the next record to the event receiver. -/
def execPlatformEventMessage (s : State) : Result :=
  let s := s.begin
  finish (match s.side.receiver with
    | some (b, _) =>
      if s.bindingUp b && s.tambourServes then
        let r := s.nextRecord
        match r.2 with | some x => r.1.say b (.platformEvent x) | none => s
      else s
    | none => s)

/-! ### I3C and SMBus (R461, R482) -/

/-- The sideband targets answer: the module is powered and MOD_ID has been sampled (R481, R482). -/
def State.sidebandUp (s : State) : Bool := s.boot.powered && decide (2 ≤ s.stage)

/-- The static address. -/
def State.staticAddress (s : State) : Nat := 0x60 + s.boot.strap

/-- ENTDAA: the device sends its PID, BCR and DCR and takes the dynamic address, if it has none. -/
def execEntdaa (address : BitVec 7) (s : State) : Result :=
  let s := s.begin
  finish (
    if s.sidebandUp = true ∧ s.side.i3c = none then
      ({ s with side := { s.side with i3c := some address.toNat } }).emit (.i3c (Config.i3cPid ++ [Config.i3cBcr, Config.i3cDcr]))
    else s)

/-- SETDASA: from the static address, if the device has no dynamic one. -/
def execSetdasa (static dynamic : BitVec 7) (s : State) : Result :=
  let s := s.begin
  finish (
    if s.sidebandUp = true ∧ s.side.i3c = none ∧ static.toNat = s.staticAddress then
      { s with side := { s.side with i3c := some dynamic.toNat } }
    else s)

/-- A directed read of the I3C target at an address: it answers at its dynamic address. -/
def State.i3cRead (s : State) (address : Nat) (bytes : List Byte) : State :=
  if s.sidebandUp = true ∧ s.side.i3c = some address then s.emit (.i3c bytes) else s

/-- GETPID. -/
def execGetpid (address : BitVec 7) (s : State) : Result := finish (s.begin.i3cRead address.toNat Config.i3cPid)

/-- GETBCR. -/
def execGetbcr (address : BitVec 7) (s : State) : Result := finish (s.begin.i3cRead address.toNat [Config.i3cBcr])

/-- GETDCR. -/
def execGetdcr (address : BitVec 7) (s : State) : Result := finish (s.begin.i3cRead address.toNat [Config.i3cDcr])

/-- GETSTATUS: two bytes, to which the spec gives no value (notes/assumptions/42). -/
def execGetstatus (address : BitVec 7) (s : State) : Result :=
  let r := s.begin.freshBytes 2
  finish (r.2.i3cRead address.toNat r.1)

/-- GETMWL. -/
def execGetmwl (address : BitVec 7) (s : State) : Result := finish (s.begin.i3cRead address.toNat Config.i3cMwl)

/-- GETMRL. -/
def execGetmrl (address : BitVec 7) (s : State) : Result := finish (s.begin.i3cRead address.toNat Config.i3cMrl)

/-- ALERT_RESPONSE (R461): a device that asserts ALERT# answers with its SMBus address. -/
def execAlertResponse (s : State) : Result :=
  let s := s.begin
  finish (
    if s.sidebandUp = true ∧ s.flag Reg.EVENT_ALERT Fl.EVENT_ALERT_ASSERTED = true then s.emit (.smbusAlert s.staticAddress)
    else s)

/-! ### The debug port (R444, R484) -/

/-- IDCODE (R484). -/
def execIdcode (s : State) : Result :=
  let s := s.begin
  finish (
    if s.boot.powered then
      ({ s with side := { s.side with jtag := 0 } }).emit (.debugPort (if s.is7160 then 0x07160DDD else 0x07200DDD))
    else s)

/-- BYPASS (R484): the bypass register is selected. -/
def execBypass (s : State) : Result :=
  let s := s.begin
  finish (if s.boot.powered then { s with side := { s.side with jtag := 1 } } else s)

/-- A read by the debug port: the value and the state after it. -/
def State.debugRead (s : State) (off : Nat) : State × Word :=
  if s.mayRead .debugPort off then s.readRegister off else (s, 0)

/-- Writes the debug port's read latch, or empties it (R467). -/
def State.latchRead (s : State) (x : Option (Nat × Word)) : State :=
  { s with readLatch := match x with | some (off, w) => [(33, off, w)] | none => [] }

/-- The debug port's access of the register space (R466, R467). -/
def State.debugAccess (s : State) (off : Nat) (r : DebugRequest) : State :=
  if off % 8 ≠ 0 then s.accessError
  else
    match r with
    | .read _ =>
      let x := (s.latchRead none).debugRead off
      x.1.emit (.debugPort x.2.toNat)
    | .readLow _ =>
      let x := s.debugRead off
      (x.1.latchRead (some (off, x.2))).emit (.debugPort (x.2.toNat % 2 ^ 32))
    | .readHigh _ =>
      if s.readLatch.any (fun e => e.2.1 == off) then
        (s.latchRead none).emit (.debugPort ((s.readLatch.map (fun e => e.2.2.toNat / 2 ^ 32)).headD 0))
      else
        let x := (s.latchRead none).debugRead off
        x.1.emit (.debugPort (x.2.toNat / 2 ^ 32))
    | .write _ v => s.writeWhole .debugPort off v
    | .writeLow _ v => s.writeLow .debugPort off v
    | .writeHigh _ v => s.writeHigh .debugPort off v
    | _ => s

/-- Tambour under the debug port: one step or a look at it shows nothing that the spec gives a value. -/
def State.debugTambour (s : State) (r : DebugRequest) : State :=
  match r with
  | .halt => { s with fw := { s.fw with halted := true } }
  | .resume => { s with fw := { s.fw with halted := false } }
  | .inspect =>
    let x := s.freshNat 64
    x.2.emit (.debugPort x.1)
  | _ => s

/-- DEBUG_PORT_ACCESS (R444): with the scope PORT the register space, with the scope TAMBOUR its requests to Tambour; without
the scope the port answers nothing (R484). -/
def execDebugPortAccess (r : DebugRequest) (s : State) : Result :=
  let s := s.begin
  let port := s.bit Reg.SECURITY_DEBUG 1
  let tambour := s.bit Reg.SECURITY_DEBUG 2
  finish (
    if s.boot.powered = false then s
    else
      match r with
      | .read off | .readLow off | .readHigh off | .write off _ | .writeLow off _ | .writeHigh off _ =>
        if port then s.debugAccess off r else s
      | .halt | .resume | .step | .inspect => if tambour then s.debugTambour r else s)

end Sys2Proof.Machine
end

