-- ==== Sys2Proof/Machine/Dispatch.lean ====
section
/-! DEFINITION. The dispatch of a command to its meaning, one arm for each constructor. -/

namespace Sys2Proof.Machine

/-- The effect of a command on everything but the queue. -/
def exec (i : Instr) (s : State) : Host.Outcome State Fault Refusal :=
  match i with
  | .powerGood => Sys2Proof.Machine.execPowerGood s
  | .powerGoodLoss => Sys2Proof.Machine.execPowerGoodLoss s
  | .senseFallback => Sys2Proof.Machine.execSenseFallback s
  | .pllLock strap => Sys2Proof.Machine.execPllLock strap s
  | .bootRomSelfTest failed wires => Sys2Proof.Machine.execBootRomSelfTest failed wires s
  | .memoryFill => Sys2Proof.Machine.execMemoryFill s
  | .firmwareLoad readOk => Sys2Proof.Machine.execFirmwareLoad readOk s
  | .farMemoryTraining ok repairs => Sys2Proof.Machine.execFarMemoryTraining ok repairs s
  | .coresReleased => Sys2Proof.Machine.execCoresReleased s
  | .feedGo who v => Sys2Proof.Machine.execFeedGo who v s
  | .perstAssert e lost => Sys2Proof.Machine.execPerstAssert e lost s
  | .perstDeassert e => Sys2Proof.Machine.execPerstDeassert e s
  | .hotReset e lost => Sys2Proof.Machine.execHotReset e lost s
  | .pcieLinkDown e lost => Sys2Proof.Machine.execPcieLinkDown e lost s
  | .pcieLinkUp e width speed flit => Sys2Proof.Machine.execPcieLinkUp e width speed flit s
  | .functionLevelReset f lost => Sys2Proof.Machine.execFunctionLevelReset f lost s
  | .flrKnotReset t => Sys2Proof.Machine.execFlrKnotReset t s
  | .flrObjectDelete t => Sys2Proof.Machine.execFlrObjectDelete t s
  | .apertureRead f o len => Sys2Proof.Machine.execApertureRead f o len s
  | .apertureWrite f o bytes ep => Sys2Proof.Machine.execApertureWrite f o bytes ep s
  | .pcieCompletion f tag ok ep bytes => Sys2Proof.Machine.execPcieCompletion f tag ok ep bytes s
  | .completionTimeout f tag => Sys2Proof.Machine.execCompletionTimeout f tag s
  | .completionReadWrite who f v => Sys2Proof.Machine.execCompletionReadWrite who f v s
  | .msixHoldoff k => Sys2Proof.Machine.execMsixHoldoff k s
  | .mgmtWrite f => Sys2Proof.Machine.execMgmtWrite f s
  | .mgmtRead f => Sys2Proof.Machine.execMgmtRead f s
  | .retire f => Sys2Proof.Machine.execRetire f s
  | .mgmtReserved f => Sys2Proof.Machine.execMgmtReserved f s
  | .fwFetch f => Sys2Proof.Machine.execFwFetch f s
  | .fwStagingComplete => Sys2Proof.Machine.execFwStagingComplete s
  | .fwCommit f => Sys2Proof.Machine.execFwCommit f s
  | .flashWriteComplete ok => Sys2Proof.Machine.execFlashWriteComplete ok s
  | .fwActivate f => Sys2Proof.Machine.execFwActivate f s
  | .tambourStart readOk lost => Sys2Proof.Machine.execTambourStart readOk lost s
  | .activationWindowEnd => Sys2Proof.Machine.execActivationWindowEnd s
  | .svnAdvance f => Sys2Proof.Machine.execSvnAdvance f s
  | .debugNonce f => Sys2Proof.Machine.execDebugNonce f s
  | .debugOpen f => Sys2Proof.Machine.execDebugOpen f s
  | .debugClose f => Sys2Proof.Machine.execDebugClose f s
  | .debugNonceExpiry => Sys2Proof.Machine.execDebugNonceExpiry s
  | .setEndpointId b eid => Sys2Proof.Machine.execSetEndpointId b eid s
  | .getVersion b => Sys2Proof.Machine.execGetVersion b s
  | .getCapabilities b => Sys2Proof.Machine.execGetCapabilities b s
  | .negotiateAlgorithms b offered => Sys2Proof.Machine.execNegotiateAlgorithms b offered s
  | .getDigests b => Sys2Proof.Machine.execGetDigests b s
  | .getCertificate b slot off len => Sys2Proof.Machine.execGetCertificate b slot off len s
  | .challenge b slot nonce => Sys2Proof.Machine.execChallenge b slot nonce s
  | .getMeasurements b index nonce => Sys2Proof.Machine.execGetMeasurements b index nonce s
  | .requestUpdate b => Sys2Proof.Machine.execRequestUpdate b s
  | .passComponentTable b component => Sys2Proof.Machine.execPassComponentTable b component s
  | .updateComponent b component size => Sys2Proof.Machine.execUpdateComponent b component size s
  | .requestFirmwareData b bytes => Sys2Proof.Machine.execRequestFirmwareData b bytes s
  | .activateFirmware b => Sys2Proof.Machine.execActivateFirmware b s
  | .getStatus b => Sys2Proof.Machine.execGetStatus b s
  | .cancelUpdate b => Sys2Proof.Machine.execCancelUpdate b s
  | .getSensorReading b x => Sys2Proof.Machine.execGetSensorReading b x s
  | .setEventReceiver b eid => Sys2Proof.Machine.execSetEventReceiver b eid s
  | .pollForPlatformEventMessage b => Sys2Proof.Machine.execPollForPlatformEventMessage b s
  | .platformEventMessage => Sys2Proof.Machine.execPlatformEventMessage s
  | .entdaa address => Sys2Proof.Machine.execEntdaa address s
  | .setdasa static dynamic => Sys2Proof.Machine.execSetdasa static dynamic s
  | .getpid address => Sys2Proof.Machine.execGetpid address s
  | .getbcr address => Sys2Proof.Machine.execGetbcr address s
  | .getdcr address => Sys2Proof.Machine.execGetdcr address s
  | .getstatus address => Sys2Proof.Machine.execGetstatus address s
  | .getmwl address => Sys2Proof.Machine.execGetmwl address s
  | .getmrl address => Sys2Proof.Machine.execGetmrl address s
  | .alertResponse => Sys2Proof.Machine.execAlertResponse s
  | .idcode => Sys2Proof.Machine.execIdcode s
  | .bypass => Sys2Proof.Machine.execBypass s
  | .registerWrite who off high v => Sys2Proof.Machine.execRegisterWrite who off high v s
  | .lowHalfWrite who off v => Sys2Proof.Machine.execLowHalfWrite who off v s
  | .accessError who read => Sys2Proof.Machine.execAccessError who read s
  | .stitchBoundary => Sys2Proof.Machine.execStitchBoundary s
  | .slipLimit => Sys2Proof.Machine.execSlipLimit s
  | .tickHold p b => Sys2Proof.Machine.execTickHold p b s
  | .tickClear p b slip => Sys2Proof.Machine.execTickClear p b slip s
  | .tickDomainHold b => Sys2Proof.Machine.execTickDomainHold b s
  | .tickAnnounce b slip => Sys2Proof.Machine.execTickAnnounce b slip s
  | .holdover => Sys2Proof.Machine.execHoldover s
  | .tickInEdge wide => Sys2Proof.Machine.execTickInEdge wide s
  | .tickInLoss => Sys2Proof.Machine.execTickInLoss s
  | .lenChangeSchedule who v => Sys2Proof.Machine.execLenChangeSchedule who v s
  | .startStitchWrite who t v => Sys2Proof.Machine.execStartStitchWrite who t v s
  | .stationConfigWrite who n j v => Sys2Proof.Machine.execStationConfigWrite who n j v s
  | .nop n => Sys2Proof.Machine.execNop n s
  | .halt n => Sys2Proof.Machine.execHalt n s
  | .jump n => Sys2Proof.Machine.execJump n s
  | .loop n => Sys2Proof.Machine.execLoop n s
  | .branchCounter n => Sys2Proof.Machine.execBranchCounter n s
  | .branchImmediate n => Sys2Proof.Machine.execBranchImmediate n s
  | .branchKnot n => Sys2Proof.Machine.execBranchKnot n s
  | .counter n => Sys2Proof.Machine.execCounter n s
  | .addImmediate n => Sys2Proof.Machine.execAddImmediate n s
  | .andImmediate n => Sys2Proof.Machine.execAndImmediate n s
  | .orImmediate n => Sys2Proof.Machine.execOrImmediate n s
  | .xorImmediate n => Sys2Proof.Machine.execXorImmediate n s
  | .shiftLeftImmediate n => Sys2Proof.Machine.execShiftLeftImmediate n s
  | .shiftRightImmediate n => Sys2Proof.Machine.execShiftRightImmediate n s
  | .loadImmediate n => Sys2Proof.Machine.execLoadImmediate n s
  | .loadUpper n => Sys2Proof.Machine.execLoadUpper n s
  | .readSystem n => Sys2Proof.Machine.execReadSystem n s
  | .knotWait n => Sys2Proof.Machine.execKnotWait n s
  | .knotWaitIndirect n => Sys2Proof.Machine.execKnotWaitIndirect n s
  | .shuttleWaitWake n => Sys2Proof.Machine.execShuttleWaitWake n s
  | .knotOp n => Sys2Proof.Machine.execKnotOp n s
  | .knotOpIndirect n => Sys2Proof.Machine.execKnotOpIndirect n s
  | .generator n => Sys2Proof.Machine.execGenerator n s
  | .generatorImmediate n => Sys2Proof.Machine.execGeneratorImmediate n s
  | .templateLoad n => Sys2Proof.Machine.execTemplateLoad n s
  | .fill n => Sys2Proof.Machine.execFill n s
  | .fillImmediate n => Sys2Proof.Machine.execFillImmediate n s
  | .fillGenerator n => Sys2Proof.Machine.execFillGenerator n s
  | .issue n => Sys2Proof.Machine.execIssue n s
  | .issueResume n => Sys2Proof.Machine.execIssueResume n s
  | .actBegin n => Sys2Proof.Machine.execActBegin n s
  | .actEnd n => Sys2Proof.Machine.execActEnd n s
  | .tileSet n => Sys2Proof.Machine.execTileSet n s
  | .tileSetImmediate n => Sys2Proof.Machine.execTileSetImmediate n s
  | .tileCopy n => Sys2Proof.Machine.execTileCopy n s
  | .reservedOpcode n => Sys2Proof.Machine.execReservedOpcode n s
  | .launchDoorbell who n ptr => Sys2Proof.Machine.execLaunchDoorbell who n ptr s
  | .start n => Sys2Proof.Machine.execStart n s
  | .stop n => Sys2Proof.Machine.execStop n s
  | .launchReserved n => Sys2Proof.Machine.execLaunchReserved n s
  | .stopReq who n => Sys2Proof.Machine.execStopReq who n s
  | .queueDrainReq who n e => Sys2Proof.Machine.execQueueDrainReq who n e s
  | .queueEnableReq who n e => Sys2Proof.Machine.execQueueEnableReq who n e s
  | .coreDrainReq who n => Sys2Proof.Machine.execCoreDrainReq who n s
  | .coreEnableReq who n => Sys2Proof.Machine.execCoreEnableReq who n s
  | .clusterDrainReq who c => Sys2Proof.Machine.execClusterDrainReq who c s
  | .clusterEnableReq who c => Sys2Proof.Machine.execClusterEnableReq who c s
  | .drainLimit n sub => Sys2Proof.Machine.execDrainLimit n sub s
  | .engineNop n e => Sys2Proof.Machine.execEngineNop n e s
  | .matrixPass n steps => Sys2Proof.Machine.execMatrixPass n steps s
  | .spill n => Sys2Proof.Machine.execSpill n s
  | .matrixDrain n => Sys2Proof.Machine.execMatrixDrain n s
  | .matrixSave n => Sys2Proof.Machine.execMatrixSave n s
  | .matrixLoad n => Sys2Proof.Machine.execMatrixLoad n s
  | .vectorChain n blocks => Sys2Proof.Machine.execVectorChain n blocks s
  | .vectorElement n blocks => Sys2Proof.Machine.execVectorElement n blocks s
  | .vectorSetLength n => Sys2Proof.Machine.execVectorSetLength n s
  | .vectorBlock n held => Sys2Proof.Machine.execVectorBlock n held s
  | .moveRead n m steps => Sys2Proof.Machine.execMoveRead n m steps s
  | .moveWrite n m steps => Sys2Proof.Machine.execMoveWrite n m steps s
  | .moveCopy n m steps => Sys2Proof.Machine.execMoveCopy n m steps s
  | .moveReduce n m steps => Sys2Proof.Machine.execMoveReduce n m steps s
  | .queueFrontFrayed n e => Sys2Proof.Machine.execQueueFrontFrayed n e s
  | .commandComplete n e => Sys2Proof.Machine.execCommandComplete n e s
  | .slotValidate who n program slot v => Sys2Proof.Machine.execSlotValidate who n program slot v s
  | .slotWordWrite who n program constant slot k v => Sys2Proof.Machine.execSlotWordWrite who n program constant slot k v s
  | .checkRunningWrite who n m v => Sys2Proof.Machine.execCheckRunningWrite who n m v s
  | .checkControlWrite who n m v => Sys2Proof.Machine.execCheckControlWrite who n m v s
  | .genIndexWrite who n g hi v => Sys2Proof.Machine.execGenIndexWrite who n g hi v s
  | .knotStateWrite who k v => Sys2Proof.Machine.execKnotStateWrite who k v s
  | .knotArmWrite who k v => Sys2Proof.Machine.execKnotArmWrite who k v s
  | .knotDisarmWrite who k v => Sys2Proof.Machine.execKnotDisarmWrite who k v s
  | .knotSet => Sys2Proof.Machine.execKnotSet s
  | .knotAdd => Sys2Proof.Machine.execKnotAdd s
  | .knotFray => Sys2Proof.Machine.execKnotFray s
  | .knotTest => Sys2Proof.Machine.execKnotTest s
  | .knotArm => Sys2Proof.Machine.execKnotArm s
  | .remoteUpdateApply => Sys2Proof.Machine.execRemoteUpdateApply s
  | .notifyPendingDeliver t => Sys2Proof.Machine.execNotifyPendingDeliver t s
  | .tangleScan => Sys2Proof.Machine.execTangleScan s
  | .waitLimit n sub => Sys2Proof.Machine.execWaitLimit n sub s
  | .tierDoorbell who q ptr => Sys2Proof.Machine.execTierDoorbell who q ptr s
  | .tierNop q => Sys2Proof.Machine.execTierNop q s
  | .promote q => Sys2Proof.Machine.execPromote q s
  | .evict q => Sys2Proof.Machine.execEvict q s
  | .place q => Sys2Proof.Machine.execPlace q s
  | .discard q => Sys2Proof.Machine.execDiscard q s
  | .pin q => Sys2Proof.Machine.execPin q s
  | .unpin q => Sys2Proof.Machine.execUnpin q s
  | .swatchMove half => Sys2Proof.Machine.execSwatchMove half s
  | .tierTriggerWaitLimit q => Sys2Proof.Machine.execTierTriggerWaitLimit q s
  | .tierQueueDrainReq who q => Sys2Proof.Machine.execTierQueueDrainReq who q s
  | .tierQueueEnableReq who q => Sys2Proof.Machine.execTierQueueEnableReq who q s
  | .tierDrainLimit q => Sys2Proof.Machine.execTierDrainLimit q s
  | .objectCreate who o v => Sys2Proof.Machine.execObjectCreate who o v s
  | .objectDelete who o v => Sys2Proof.Machine.execObjectDelete who o v s
  | .wcbWriteBack line => Sys2Proof.Machine.execWcbWriteBack line s
  | .writeBatch k pc => Sys2Proof.Machine.execWriteBatch k pc s
  | .perBankRefresh => Sys2Proof.Machine.execPerBankRefresh s
  | .unwriteStart who k v => Sys2Proof.Machine.execUnwriteStart who k v s
  | .unwriteComplete k => Sys2Proof.Machine.execUnwriteComplete k s
  | .farRowSelfTest k pc failed => Sys2Proof.Machine.execFarRowSelfTest k pc failed s
  | .retireAck who k r v => Sys2Proof.Machine.execRetireAck who k r v s
  | .groupCreate who g v => Sys2Proof.Machine.execGroupCreate who g v s
  | .groupDelete who g v => Sys2Proof.Machine.execGroupDelete who g v s
  | .updateRetry who u v => Sys2Proof.Machine.execUpdateRetry who u v s
  | .updateUnitDrainReq who u => Sys2Proof.Machine.execUpdateUnitDrainReq who u s
  | .updateUnitEnableReq who u lost => Sys2Proof.Machine.execUpdateUnitEnableReq who u lost s
  | .updateDrainLimit u => Sys2Proof.Machine.execUpdateDrainLimit u s
  | .tileDone u take => Sys2Proof.Machine.execTileDone u take s
  | .stateNotResident g => Sys2Proof.Machine.execStateNotResident g s
  | .scheduleProbe who k v => Sys2Proof.Machine.execScheduleProbe who k v s
  | .gateArm who t v => Sys2Proof.Machine.execGateArm who t v s
  | .gateDisarm who t v => Sys2Proof.Machine.execGateDisarm who t v s
  | .gateAbandon who t v => Sys2Proof.Machine.execGateAbandon who t v s
  | .gateTrigger t => Sys2Proof.Machine.execGateTrigger t s
  | .gateScanComplete t => Sys2Proof.Machine.execGateScanComplete t s
  | .stepKnotAdd t => Sys2Proof.Machine.execStepKnotAdd t s
  | .gateWaitLimit t => Sys2Proof.Machine.execGateWaitLimit t s
  | .linkTrained p t => Sys2Proof.Machine.execLinkTrained p t s
  | .autoRetrain p => Sys2Proof.Machine.execAutoRetrain p s
  | .linkFrame p phase => Sys2Proof.Machine.execLinkFrame p phase s
  | .idleFlit p f fec => Sys2Proof.Machine.execIdleFlit p f fec s
  | .dataFlit p f fec => Sys2Proof.Machine.execDataFlit p f fec s
  | .controlFlit p f fec => Sys2Proof.Machine.execControlFlit p f fec s
  | .shedWindow p l => Sys2Proof.Machine.execShedWindow p l s
  | .laneLockLoss p l alignment => Sys2Proof.Machine.execLaneLockLoss p l alignment s
  | .laneShedReq who p v => Sys2Proof.Machine.execLaneShedReq who p v s
  | .widthSwitch p rx => Sys2Proof.Machine.execWidthSwitch p rx s
  | .laneRestore who p v => Sys2Proof.Machine.execLaneRestore who p v s
  | .laneRetrained p l ok => Sys2Proof.Machine.execLaneRetrained p l ok s
  | .bridePortDrainReq who p v => Sys2Proof.Machine.execBridePortDrainReq who p v s
  | .bridePortEnableReq who p v => Sys2Proof.Machine.execBridePortEnableReq who p v s
  | .portDrainLimit p => Sys2Proof.Machine.execPortDrainLimit p s
  | .tileWrite => Sys2Proof.Machine.execTileWrite s
  | .tileRead => Sys2Proof.Machine.execTileRead s
  | .readResponse => Sys2Proof.Machine.execReadResponse s
  | .reduce => Sys2Proof.Machine.execReduce s
  | .mailbox => Sys2Proof.Machine.execMailbox s
  | .collective => Sys2Proof.Machine.execCollective s
  | .ack => Sys2Proof.Machine.execAck s
  | .nak => Sys2Proof.Machine.execNak s
  | .undeliverable => Sys2Proof.Machine.execUndeliverable s
  | .beacon => Sys2Proof.Machine.execBeacon s
  | .directed => Sys2Proof.Machine.execDirected s
  | .neighbour => Sys2Proof.Machine.execNeighbour s
  | .transportTimeout tag => Sys2Proof.Machine.execTransportTimeout tag s
  | .reorderTimeout src dest c seq => Sys2Proof.Machine.execReorderTimeout src dest c seq s
  | .flowIdle dest c => Sys2Proof.Machine.execFlowIdle dest c s
  | .routeWait => Sys2Proof.Machine.execRouteWait s
  | .beaconPeriod => Sys2Proof.Machine.execBeaconPeriod s
  | .deviceIdWrite who v => Sys2Proof.Machine.execDeviceIdWrite who v s
  | .digestRefresh t => Sys2Proof.Machine.execDigestRefresh t s
  | .collectiveDoorbell who e ptr => Sys2Proof.Machine.execCollectiveDoorbell who e ptr s
  | .reduceScatter e => Sys2Proof.Machine.execReduceScatter e s
  | .allGather e => Sys2Proof.Machine.execAllGather e s
  | .allReduce e => Sys2Proof.Machine.execAllReduce e s
  | .collectiveWaitLimit e => Sys2Proof.Machine.execCollectiveWaitLimit e s
  | .collectiveDrainReq who e => Sys2Proof.Machine.execCollectiveDrainReq who e s
  | .collectiveEnableReq who e => Sys2Proof.Machine.execCollectiveEnableReq who e s
  | .collectiveDrainLimit e => Sys2Proof.Machine.execCollectiveDrainLimit e s
  | .targetedSelfTest unit failed => Sys2Proof.Machine.execTargetedSelfTest unit failed s
  | .bondResend b => Sys2Proof.Machine.execBondResend b s
  | .wireTest b mask => Sys2Proof.Machine.execWireTest b mask s
  | .thermalRound x => Sys2Proof.Machine.execThermalRound x s
  | .sensorDemand who v => Sys2Proof.Machine.execSensorDemand who v s
  | .sensorConversion n r => Sys2Proof.Machine.execSensorConversion n r s
  | .powerSample voltage current temp => Sys2Proof.Machine.execPowerSample voltage current temp s
  | .capWindow => Sys2Proof.Machine.execCapWindow s
  | .sensorSuspectClear who n v => Sys2Proof.Machine.execSensorSuspectClear who n v s
  | .ribbonAck who r v => Sys2Proof.Machine.execRibbonAck who r v s
  | .stickyClear who x v => Sys2Proof.Machine.execStickyClear who x v s
  | .foldWindowClose => Sys2Proof.Machine.execFoldWindowClose s
  | .configurationWrite f w => Sys2Proof.Machine.execConfigurationWrite f w s
  | .lossOfClockLock b => Sys2Proof.Machine.execLossOfClockLock b s
  | .debugPortAccess r => Sys2Proof.Machine.execDebugPortAccess r s

end Sys2Proof.Machine
end

