-- ==== Sys2Proof/Machine/Idle.lean ====
section
/-! DEFINITION. What the passing of 10 ns does when no command waits (R445, R60, R105; notes/assumptions/7). -/

namespace Sys2Proof.Machine

/-- A shuttle that is STALLED loses 30 compute cycles in 10 ns (R105). -/
def State.stallTime (s : State) (n : Nat) : State :=
  if s.shuttleState n = 2 then s.addWrap (Reg.SHUTTLE_STALL_CYCLES n) 30 else s

/-- 10 ns pass: UPTIME_NS runs once the PLLs have locked, which ends stage 1 (R431); while the data plane is clocked, holds and stalls are counted. -/
def State.idle (s : State) : State :=
  let s0 := s.begin
  let s1 := if 2 ≤ s0.fld Reg.SECURITY_BOOT_STATUS Fl.SECURITY_BOOT_STATUS_STAGE then s0.addWrap Reg.SECURITY_UPTIME_NS 10 else s0
  if s1.clocked then iterate (fun n s => s.stallTime n) 128 0 s1.holdTime else s1

end Sys2Proof.Machine
end

