-- ==== Sys2Proof/Machine/Step.lean ====
section
/-! DEFINITION. One step: the command at the front of the queue runs; on an empty queue Tambour answers a message that waited for
its start, or the block idles for 10 ns. -/

namespace Sys2Proof.Machine

/-- One step. On an empty queue a message that waited for Tambour is answered (R428, R432; notes/assumptions/126); with none, 10 ns
pass (R445, R402; notes/assumptions/7). -/
def step (s : State) : Host.Outcome State Fault Refusal :=
  match s.pending with
  | [] =>
    match s.dueMessage with
    | some c => exec c s.takeMessage
    | none => finish s.idle
  | c :: rest => exec c { s with pending := rest }

/-- The state with the command that a table word spells at the front of its queue; the table spells none in bits
(notes/assumptions/8). -/
def State.withFetchWord (s : State) (nbits w : Nat) : State :=
  match Sys2Proof.decodeTableWord nbits w with
  | some c => { s with pending := c :: s.pending }
  | none => s

end Sys2Proof.Machine
end

