-- ==== Sys2Proof/Safety.lean ====
section
/-! DEFINITION. What counts as a safe step (the block answers a next state), and the words the statements are made of: the parts
of the state, the registers that writing event records touches, and frames. -/

namespace Sys2Proof

open Machine

/-- A step from s answers a next state. -/
def Steps (s : State) : Prop := ∃ t, step s = .next t

/-- A run of n steps answers a next state at each of them. -/
def Safe : Nat → State → Prop
  | 0, _ => True
  | n + 1, s => ∃ t, step s = .next t ∧ Safe n t

/-- The registers that writing event records touches: ALERT#'s status (EVENT_ALERT), EVENT_MCTP_SKIPPED, the pointers, status
and counters of the four ribbons, the pointers and DROPPED of the tenants' rings, and the ribbon entries (R463). No command's
frame constrains them: every command may end with records written for its own or earlier occurrences. -/
def RecordBlock (off : Nat) : Prop :=
  off = 0x400018 ∨ off = 0x400028 ∨ (0x401000 ≤ off ∧ off < 0x401100 ∧ 0x10 ≤ off % 0x40)
    ∨ (0x402000 ≤ off ∧ off < 0x402800 ∧ 0x18 ≤ off % 0x40) ∨ (0x410000 ≤ off ∧ off < 0x490000)

/-- The parts of the state beside the register file, the outputs and the event path (the rings' PHASE bits, records, folds,
floods, held interrupts and Tambour's read positions). `config` is configuration space but for the pending MSI-X bits. -/
inductive Part where
  | pending | free | config | notifies | flrs | writeLatch | readLatch | mem | bond | remoteQ | net | dma | dmaTag | core
  | tier | upd | coll | tick | therm | boot | side | fw | stitchClock
  deriving DecidableEq, Repr

/-- A part is the same in two states; of memory, the latent errors of the byte-coded arrays apart, which `Changes` frames with the
registers. -/
def Part.Same (s t : State) : Part → Prop
  | .pending => t.pending = s.pending
  | .free => t.free = s.free
  | .config => ∀ f, { t.cfg f with pendingVectors := [] } = { s.cfg f with pendingVectors := [] }
  | .notifies => t.notifies = s.notifies
  | .flrs => t.flrs = s.flrs
  | .writeLatch => t.writeLatch = s.writeLatch
  | .readLatch => t.readLatch = s.readLatch
  | .mem => t.mem = { s.mem with arrayUpsets := t.mem.arrayUpsets }
  | .bond => t.bond = s.bond
  | .remoteQ => t.remoteQ = s.remoteQ
  | .net => t.net = s.net
  | .dma => t.dma = s.dma
  | .dmaTag => t.dmaTag = s.dmaTag
  | .core => t.core = s.core
  | .tier => t.tier = s.tier
  | .upd => t.upd = s.upd
  | .coll => t.coll = s.coll
  | .tick => t.tick = s.tick
  | .therm => t.therm = s.therm
  | .boot => t.boot = s.boot
  | .side => t.side = s.side
  | .fw => t.fw = s.fw
  | .stitchClock => t.stitchClock = s.stitchClock

/-- The byte of a byte-coded array lies in what a frame leaves open: a register of the event path or of `offs`, or, where the
cores' state is left open, a staging register. -/
def OpenByte (parts : List Part) (offs : Nat → Prop) (key : Nat) : Prop :=
  RecordBlock (key / 8 * 8) ∨ offs (key / 8 * 8) ∨ (stagingBase ≤ key ∧ .core ∈ parts)

/-- A frame: from s to t, only the registers of `offs` and the listed parts may have changed, beside the event path; latent errors
of the byte-coded arrays have gone or come only in registers that may have changed (R371, R372). -/
def Changes (parts : List Part) (offs : Nat → Prop) (s t : State) : Prop :=
  (∀ p, p ∉ parts → p.Same s t) ∧ (∀ off, ¬ RecordBlock off → ¬ offs off → t.rd off = s.rd off)
    ∧ (.mem ∉ parts → ∀ e : Nat × Nat, ¬ OpenByte parts offs e.1 → (e ∈ t.mem.arrayUpsets ↔ e ∈ s.mem.arrayUpsets))

end Sys2Proof
end

