-- ==== Sys2Proof/Certificates/Slice0/Obligations.lean ====
section
/-! DEFINITION. The statements for the provers, one `def Obligations.<Name> : Prop` each, and the words they are made of
(namespace Sys2Proof.Claims). A statement about a command names hypotheses on the state and the operands alone and concludes
that `exec` answers a next state, what that state holds, and what it leaves unchanged. -/

namespace Sys2Proof.Claims

open Machine

/-- No register but those of record writing may differ. -/
def noReg (_ : Nat) : Prop := False

/-- The command answers a next state t of which `post` holds; from s to t only the registers of `offs` and the listed parts of
the state may differ, beside the event path. -/
def Does (s : State) (c : Instr) (parts : List Part) (offs : Nat → Prop) (post : State → Prop) : Prop :=
  ∃ t, exec c s = .next t ∧ post t ∧ Changes parts offs s t

/-- The command answers a next state in which nothing but the event path differs. -/
def DoesNothing (s : State) (c : Instr) : Prop := Does s c [] noReg fun _ => True

/-- A SAT counter after one more count (R19). -/
def satNext (v : Nat) : Nat := min 0xFFFFFFFF (v + 1)

/-- The registers an occurrence of a condition for a tenant writes beside its records: the condition counter, the sticky bits,
the tenant's sticky bits (R448). -/
def EventRegs (c : Cond) (tenant : Option Nat) (off : Nat) : Prop :=
  off = Reg.EVENT_CONDITION c.number ∨ off = Reg.EVENT_STICKY ∨ ∃ u, tenant = some u ∧ off = Reg.EVTENANT_STICKY (u % 32)

/-- One occurrence of a condition was reported: its counter counts one, its sticky bit is set, and so is its tenant's (R448). -/
def Reported (s t : State) (c : Cond) (tenant : Option Nat) : Prop :=
  t.fld (Reg.EVENT_CONDITION c.number) Fl.EVENT_CONDITION_COUNT
      = satNext (s.fld (Reg.EVENT_CONDITION c.number) Fl.EVENT_CONDITION_COUNT)
    ∧ t.bit Reg.EVENT_STICKY c.number = true
    ∧ ∀ u, tenant = some u → t.bit (Reg.EVTENANT_STICKY (u % 32)) c.number = true

/-! ### The shuttle (R72 to R87, R106 to R117) -/

/-- The four bytes of the instruction at core n's program counter hold no error (R369). -/
def SoundFetch (s : State) (n : Fin 128) : Prop := s.errorsIn (insSpan n (s.pc n)).1 (insSpan n (s.pc n)).2 = []

/-- The cores run, core n's shuttle is RUNNING at an instruction w of major opcode op that is not reserved, and no byte of it, nor
one that it reads in the core's arrays, holds an error (R40, R106, R369). -/
def Fetches (s : State) (n : Fin 128) (op : Nat) (w : W32) : Prop :=
  s.coresRun = true ∧ s.shuttleState n = 1 ∧ s.instructionAt n (s.pc n) = w ∧ insOpcode w = op ∧ insReserved w = false
    ∧ SoundFetch s n ∧ ∀ p ∈ s.insSources n w, s.errorsIn p.1 p.2 = []

/-- The shuttle of core n stopped with a reason; the program counter stays (R105). -/
def Stops (s t : State) (n : Fin 128) (reason : Nat) : Prop :=
  t.shuttleState n = 3 ∧ t.fld (Reg.SHUTTLE_STATUS n) Fl.SHUTTLE_STATUS_STOP_REASON = reason ∧ t.pc n = s.pc n
    ∧ t.fld (Reg.SHUTTLE_CONTROL n) Fl.SHUTTLE_CONTROL_STOP_REQ = 0 ∧ (t.shuttle n).wait = none

/-- The program counter of core n is `pc` and nothing else of its shuttle has changed. -/
def Runs (s t : State) (n : Fin 128) (pc : Nat) : Prop :=
  t.pc n = pc ∧ t.shuttleState n = s.shuttleState n
    ∧ t.fld (Reg.SHUTTLE_STATUS n) Fl.SHUTTLE_STATUS_STALL_CAUSE
      = s.fld (Reg.SHUTTLE_STATUS n) Fl.SHUTTLE_STATUS_STALL_CAUSE
    ∧ t.fld (Reg.SHUTTLE_STATUS n) Fl.SHUTTLE_STATUS_STOP_REASON
      = s.fld (Reg.SHUTTLE_STATUS n) Fl.SHUTTLE_STATUS_STOP_REASON
    ∧ t.rd (Reg.SHUTTLE_CONTROL n) = s.rd (Reg.SHUTTLE_CONTROL n) ∧ t.shuttle n = s.shuttle n ∧ t.launch n = s.launch n

/-- The shuttle goes on to the next address; past 8,191 it stops with PC_RANGE (R74). -/
def Onward (s t : State) (n : Fin 128) : Prop :=
  if s.pc n = 8191 then Stops s t n 12 else Runs s t n (s.pc n + 1)

/-- The frame of an instruction that writes no core state but its shuttle's: beside the registers of `offs` and the shuttle's
STATUS and CONTROL, every register and every part is unchanged, and so are the other cores' shuttles and launch queues. -/
def ShuttleFrame (s t : State) (n : Fin 128) (offs : Nat → Prop) : Prop :=
  Changes [.core] (fun off => off = Reg.SHUTTLE_STATUS n ∨ off = Reg.SHUTTLE_CONTROL n ∨ offs off) s t
    ∧ t.core = { s.core with shuttles := t.core.shuttles, launches := t.core.launches }
    ∧ ∀ m : Fin 128, m ≠ n → t.shuttle m = s.shuttle m ∧ t.launch m = s.launch m

/-- A command writes counter cd, bits [25:21] of its instruction, with v modulo 2^32, and goes on. -/
def WritesCounter (s : State) (n : Fin 128) (c : Instr) (w : W32) (v : Nat) : Prop :=
  ∃ t, exec c s = .next t ∧ t.counter n (insField w 21 5) = BitVec.ofNat 32 v ∧ Onward s t n
    ∧ ShuttleFrame s t n (fun off => off = Reg.COUNTER n (insField w 21 5))

/-- cd of COUNTER by FUNC, over the numbers of ca and cb (R109). -/
def counterValue (func a b : Nat) : Nat :=
  match func with
  | 0x0 => a + b
  | 0x1 => a + 2 ^ 32 - b
  | 0x2 => a &&& b
  | 0x3 => a ||| b
  | 0x4 => a ^^^ b
  | 0x5 => a * 2 ^ (b % 32)
  | 0x6 => a / 2 ^ (b % 32)
  | 0x7 => ((signedOf 32 a / 2 ^ (b % 32)) % 2 ^ 32).toNat
  | 0x8 => a * b
  | 0x9 => min a b
  | 0xA => max a b
  | 0xB => if signedOf 32 a ≤ signedOf 32 b then a else b
  | 0xC => if signedOf 32 a ≤ signedOf 32 b then b else a
  | _ => a

/-- The conditions of BRANCH_COUNTER and BRANCH_IMMEDIATE (R110). -/
def branchHolds (cond a b : Nat) : Prop :=
  match cond with
  | 0 => a = b
  | 1 => a ≠ b
  | 2 => a < b
  | 3 => b ≤ a
  | 4 => signedOf 32 a < signedOf 32 b
  | 5 => signedOf 32 b ≤ signedOf 32 a
  | _ => False

/-- A command branches to TARGET, bits [12:0] of its instruction, where p holds, and else goes on. -/
def Branches (s : State) (n : Fin 128) (c : Instr) (w : W32) (offs : Nat → Prop) (p : Prop) : Prop :=
  ∃ t, exec c s = .next t ∧ (p → Runs s t n (insField w 0 13)) ∧ (¬p → Onward s t n) ∧ ShuttleFrame s t n offs

/-- A reserved instruction w stops the shuttle of core n with RESERVED_OPCODE (R106). -/
def ReservedStops (s : State) (n : Fin 128) (w : W32) : Prop :=
  insReserved w = true ∧ (s.coresRun = true → s.shuttleState n = 1 → s.instructionAt n (s.pc n) = w → SoundFetch s n →
    ∃ t, exec (.reservedOpcode n) s = .next t ∧ Stops s t n 7 ∧ ShuttleFrame s t n noReg)

/-- A knot without a latent error in its bytes. -/
def SoundKnot (s : State) (k : Nat) : Prop := s.arrayErrors (knotStateReg k) = [] ∧ s.arrayErrors (knotArmReg k) = []

/-- count − v, taken modulo 2^32 as a signed number, is at least 0 (R181). -/
def KnotReached (count v : Nat) : Prop := 0 ≤ signedOf 32 (count + 2 ^ 32 - v % 2 ^ 32)

end Sys2Proof.Claims

open Sys2Proof Sys2Proof.Machine Sys2Proof.Claims

/-- The counter instructions (R109, R111, R73): the value each writes to cd modulo 2^32, and the reserved FUNC and SELECT codes, which stop. -/
def Obligations.CounterInstructionsWriteResult : Prop :=
  ∀ (s : State) (n : Fin 128) (w : W32),
    let a := (s.counter n (insField w 16 5)).toNat
    let old := (s.counter n (insField w 21 5)).toNat
    let imm := insField w 0 16
    (Fetches s n 0x08 w →
      WritesCounter s n (.counter n) w (counterValue (insField w 0 4) a (s.counter n (insField w 11 5)).toNat))
    ∧ (Fetches s n 0x09 w → WritesCounter s n (.addImmediate n) w (a + imm + if imm < 2 ^ 15 then 0 else 2 ^ 32 - 2 ^ 16))
    ∧ (Fetches s n 0x0A w → WritesCounter s n (.andImmediate n) w (a &&& imm))
    ∧ (Fetches s n 0x0B w → WritesCounter s n (.orImmediate n) w (a ||| imm))
    ∧ (Fetches s n 0x0C w → WritesCounter s n (.xorImmediate n) w (a ^^^ imm))
    ∧ (Fetches s n 0x0D w → WritesCounter s n (.shiftLeftImmediate n) w (a * 2 ^ (imm % 32)))
    ∧ (Fetches s n 0x0E w → WritesCounter s n (.shiftRightImmediate n) w (a / 2 ^ (imm % 32)))
    ∧ (Fetches s n 0x0F w → WritesCounter s n (.loadImmediate n) w imm)
    ∧ (Fetches s n 0x10 w → WritesCounter s n (.loadUpper n) w (old % 2 ^ 16 + imm * 2 ^ 16))
    ∧ (Fetches s n 0x11 w → ∀ v,
        (match insField w 0 4 with
          | 0 => v = (s.rd Reg.TICK_STITCH_COUNT).toNat
          | 1 => v = (s.rd Reg.TICK_STITCH_COUNT).toNat / 2 ^ 32
          | 2 => v = n.val
          | 3 => v = s.fld Reg.BRIDE_ROUTE_CONTROL Fl.BRIDE_ROUTE_CONTROL_DEVICE_ID
          | 4 => s.coreTenant n = some v
          | x => v = (s.station n (x - 8)).next) →
        WritesCounter s n (.readSystem n) w v)
    ∧ (insOpcode w = 0x08 → 14 ≤ insField w 0 4 → ReservedStops s n w)
    ∧ (insOpcode w = 0x11 → insField w 0 4 ∈ [5, 6, 7, 12, 13, 14, 15] → ReservedStops s n w)

/-- NOP, JUMP, LOOP and the branches (R108, R110, R77, R112): the next program counter, and the reserved COND codes, which stop. -/
def Obligations.ControlInstructionsMoveProgramCounter : Prop :=
  ∀ (s : State) (n : Fin 128) (w : W32),
    let ca := (s.counter n (insField w 21 5)).toNat
    let cb := (s.counter n (insField w 16 5)).toNat
    let k := ca % 2 ^ 17
    (Fetches s n 0x01 w → ∃ t, exec (.nop n) s = .next t ∧ Onward s t n ∧ ShuttleFrame s t n noReg)
    ∧ (Fetches s n 0x03 w → Branches s n (.jump n) w noReg True)
    ∧ (Fetches s n 0x04 w → ∃ t, exec (.loop n) s = .next t
        ∧ t.counter n (insField w 21 5) = BitVec.ofNat 32 (ca + 2 ^ 32 - 1)
        ∧ (ca ≠ 1 → Runs s t n (insField w 0 13)) ∧ (ca = 1 → Onward s t n)
        ∧ ShuttleFrame s t n (fun off => off = Reg.COUNTER n (insField w 21 5)))
    ∧ (Fetches s n 0x05 w → Branches s n (.branchCounter n) w noReg (branchHolds (insField w 13 3) ca cb))
    ∧ (Fetches s n 0x06 w → Branches s n (.branchImmediate n) w noReg (branchHolds (insField w 13 3) ca (insField w 16 5)))
    ∧ (Fetches s n 0x07 w → (∃ u, s.coreTenant n = some u ∧ s.knotTenant k = some u) → SoundKnot s k →
        Branches s n (.branchKnot n) w noReg
          (match insField w 13 3 with
            | 0 => KnotReached (s.knotCount k) cb
            | 1 => ¬KnotReached (s.knotCount k) cb
            | 2 => s.knotFrayed k = true
            | _ => s.knotFrayed k = false))
    ∧ (insOpcode w = 0x05 ∨ insOpcode w = 0x06 → 6 ≤ insField w 13 3 → ReservedStops s n w)
    ∧ (insOpcode w = 0x07 → 4 ≤ insField w 13 3 → ReservedStops s n w)

/-- HALT (R108, R94) and the stops that an instruction takes instead of its effect: a knot outside the tenant's range
(R185, R113), reserved instructions (R106). -/
def Obligations.ShuttleStopsKeepProgramCounter : Prop :=
  ∀ (s : State) (n : Fin 128) (w : W32),
    (Fetches s n 0x02 w → (s.shuttle n).doneKnot = none →
      ∃ t, exec (.halt n) s = .next t ∧ Stops s t n 1 ∧ ShuttleFrame s t n noReg)
    ∧ (Fetches s n 0x02 w → ∀ k u, (s.shuttle n).doneKnot = some k → s.coreTenant n = some u → s.knotTenant k = some u →
        SoundKnot s k → s.knotArmed k = false →
        ∃ t, exec (.halt n) s = .next t ∧ Stops s t n 1 ∧ t.knotCount k = (s.knotCount k + 1) % 2 ^ 32
          ∧ t.knotFrayed k = s.knotFrayed k ∧ ShuttleFrame s t n (fun off => off = knotStateReg k))
    ∧ (Fetches s n 0x02 w → ∀ k, (s.shuttle n).doneKnot = some k →
        ¬(∃ u, s.coreTenant n = some u ∧ s.knotTenant k = some u) →
        ∃ t, exec (.halt n) s = .next t ∧ Stops s t n 6 ∧ ShuttleFrame s t n noReg)
    ∧ (∀ c op k, (c, op, k) ∈ [(Instr.branchKnot n, 0x07, (s.counter n (insField w 21 5)).toNat % 2 ^ 17),
          (Instr.knotWait n, 0x18, insField w 0 17),
          (Instr.knotWaitIndirect n, 0x19, (s.counter n (insField w 16 5)).toNat % 2 ^ 17),
          (Instr.knotOp n, 0x1A, insField w 0 17),
          (Instr.knotOpIndirect n, 0x1B, (s.counter n (insField w 16 5)).toNat % 2 ^ 17)] →
        Fetches s n op w → ¬(∃ u, s.coreTenant n = some u ∧ s.knotTenant k = some u) →
        ∃ t, exec c s = .next t ∧ Stops s t n 6 ∧ ShuttleFrame s t n noReg)
    ∧ (s.coresRun = true → s.shuttleState n = 1 → insReserved (s.instructionAt n (s.pc n)) = true → SoundFetch s n →
        ∃ t, exec (.reservedOpcode n) s = .next t ∧ Stops s t n 7 ∧ ShuttleFrame s t n noReg)

namespace Sys2Proof.Claims

/-- Whether an operation on knot k would report nothing further: it is not armed, and its bytes hold no error. -/
def QuietKnot (s : State) (k : Nat) : Prop := SoundKnot s k ∧ s.knotArmed k = false

/-- A wait of condition 1 GE or 2 EQUAL is satisfied (R112). -/
def WaitMet (cond count v : Nat) : Prop := if cond = 1 then KnotReached count v else count = v

/-- A shuttle wait on knot k with a condition and value (R112, R188): it goes on at once where the condition holds, stops with
FRAYED_KNOT where the knot is frayed, and else stalls, remembering what it waits for since when. -/
def Waits (s : State) (n : Fin 128) (c : Instr) (k cond value : Nat) : Prop :=
  ∃ t, exec c s = .next t
    ∧ (s.knotFrayed k = true → Stops s t n 11)
    ∧ (s.knotFrayed k = false →
        (WaitMet cond (s.knotCount k) value → Onward s t n)
        ∧ (¬WaitMet cond (s.knotCount k) value → t.shuttleState n = 2 ∧ t.pc n = s.pc n
          ∧ t.fld (Reg.SHUTTLE_STATUS n) Fl.SHUTTLE_STATUS_STALL_CAUSE = 1
          ∧ (t.shuttle n).wait = some (k, cond, value, s.stitchClock)))
    ∧ ShuttleFrame s t n noReg

/-- KNOT_OP on a knot k of the core's tenant (R113): SET and ADD write the count; ARM of a knot that is not reached and not
frayed leaves it armed with threshold and target COMPLETION. -/
def AppliesKnotOp (s : State) (n : Fin 128) (c : Instr) (k kop v : Nat) : Prop :=
  ∃ t, exec c s = .next t ∧ Onward s t n
    ∧ (kop = 0 → t.knotCount k = v ∧ t.rd (knotArmReg k) = s.rd (knotArmReg k))
    ∧ (kop = 1 → t.knotCount k = (s.knotCount k + v) % 2 ^ 32 ∧ t.rd (knotArmReg k) = s.rd (knotArmReg k))
    ∧ (kop = 2 → t.knotArmed k = true ∧ t.knotCount k = s.knotCount k
        ∧ t.fld (knotArmReg k) Fl.KNOT_ARM_THRESHOLD = v ∧ t.fld (knotArmReg k) Fl.KNOT_ARM_TARGET = 0)
    ∧ t.knotFrayed k = s.knotFrayed k
    ∧ ShuttleFrame s t n (fun off => off = knotStateReg k ∨ off = knotArmReg k)

/-- The base of generator g of core n. -/
def genBase (s : State) (n g : Nat) : Nat := s.fld (Reg.GEN_BASE n g) Fl.GEN_BASE_ADDR

/-- The registers that hold generator g of core n. -/
def GenRegs (n g off : Nat) : Prop :=
  off = Reg.GEN_BASE n g ∨ off = Reg.GEN_CONFIG n g ∨ off = Reg.GEN_INDEX n g ∨ off = Reg.GEN_INDEX_HI n g
    ∨ ∃ d < 6, off = Reg.GEN_DIM n g d

/-- The indices of R75 after one advance of dims dimensions with the counts `ns`: the first index below its last value counts,
and every index before it returns to 0. -/
def NextIdx (dims : Nat) (ns idx idx' : List Nat) : Prop :=
  idx'.length = idx.length ∧
  ((∃ d < dims, d < idx.length ∧ nth idx d + 1 < nth ns d ∧ (∀ j < d, nth ns j ≤ nth idx j + 1)
      ∧ ∀ j < idx.length, nth idx' j = if j < d then 0 else if j = d then nth idx d + 1 else nth idx j)
    ∨ ((∀ j < dims, nth ns j ≤ nth idx j + 1) ∧ ∀ j < idx.length, nth idx' j = if j < dims then 0 else nth idx j))

/-- A generator whose registers hold a legal configuration: at most 6 dimensions, each index below its count (R75). -/
def GenOk (s : State) (n g : Nat) : Prop :=
  (s.gen n g).dims ≤ 6 ∧ ∀ d < (s.gen n g).dims, nth (s.gen n g).idx d < nth (s.gen n g).counts d

/-- A command that leaves core n's shuttle to go on and writes staging register e alone, bits [lo + width − 1 : lo] with v. -/
def FillsStaging (s : State) (n : Fin 128) (c : Instr) (e lo width v : Nat) (offs : Nat → Prop) (extra : State → Prop) : Prop :=
  ∃ t, exec c s = .next t ∧ Onward s t n ∧ extra t
    ∧ (∀ i < 128, (t.staging n e).getLsbD i
        = if lo ≤ i ∧ i < lo + width then v.testBit (i - lo) else (s.staging n e).getLsbD i)
    ∧ (∀ (m : Fin 128) (f : Fin 4), ¬(m = n ∧ f.val = e) → t.staging m f = s.staging m f)
    ∧ Changes [.core] (fun off => off = Reg.SHUTTLE_STATUS n ∨ off = Reg.SHUTTLE_CONTROL n ∨ offs off) s t
    ∧ t.core = { s.core with shuttles := t.core.shuttles, launches := t.core.launches, staging := t.core.staging }
    ∧ ∀ m : Fin 128, m ≠ n → t.shuttle m = s.shuttle m ∧ t.launch m = s.launch m

/-- A descriptor's fields as numbers: BASE, ROWS, COLS, FORMAT, ROW_STRIDE, SCALE_BASE (R87, R117). -/
def tileFields (s : State) (n t : Nat) : List Nat :=
  [s.fld (Reg.TILE_LO n t) Fl.TILE_LO_BASE, s.fld (Reg.TILE_LO n t) Fl.TILE_LO_ROWS,
   s.fld (Reg.TILE_LO n t) Fl.TILE_LO_COLS, s.fld (Reg.TILE_LO n t) Fl.TILE_LO_FORMAT,
   s.fld (Reg.TILE_HI n t) Fl.TILE_HI_ROW_STRIDE, s.fld (Reg.TILE_HI n t) Fl.TILE_HI_SCALE_BASE]

/-- The widths of the fields (R117). -/
def tileWidths : List Nat := [16, 8, 10, 4, 22, 16]

/-- Bits of an element of a format (R127). -/
def elementBits (f : Nat) : Nat := nth [32, 16, 16, 8, 8, 8, 8, 6, 6, 8, 4, 32, 128, 8, 64, 0] f

/-- A list of descriptor fields passes the range check of R87: no reserved format, and the extent of the elements, and of the
scales of a block-scaled format, within the 3 MiB of populated hoop memory. -/
def FieldsInRange (f : List Nat) : Prop :=
  let rowBytes := ((nth f 2 + 1) * elementBits (nth f 3) + 7) / 8
  nth f 3 ≠ 15 ∧ nth f 0 * 64 + nth f 1 * nth f 4 + rowBytes ≤ 0x300000
    ∧ (5 ≤ nth f 3 ∧ nth f 3 ≤ 10 → nth f 5 * 64 + (nth f 1 + 1) * ((nth f 2 + 1 + 31) / 32) ≤ 0x300000)

/-- A tile instruction that would leave tile register t with the fields f: written where they pass the range check, else a stop
with DESCRIPTOR_RANGE and the register keeps its old value (R117). -/
def WritesTile (s : State) (n : Fin 128) (c : Instr) (t : Nat) (f : List Nat) : Prop :=
  ∃ u, exec c s = .next u
    ∧ (FieldsInRange f → tileFields u n t = f ∧ Onward s u n)
    ∧ (¬FieldsInRange f → Stops s u n 6 ∧ u.rd (Reg.TILE_LO n t) = s.rd (Reg.TILE_LO n t)
        ∧ u.rd (Reg.TILE_HI n t) = s.rd (Reg.TILE_HI n t))
    ∧ ShuttleFrame s u n (fun off => off = Reg.TILE_LO n t ∨ off = Reg.TILE_HI n t)

end Sys2Proof.Claims

/-- KNOT_WAIT, KNOT_WAIT_INDIRECT, KNOT_OP, KNOT_OP_INDIRECT and the wake of a stalled wait (R112, R113, R80, R188). -/
def Obligations.ShuttleKnotInstructions : Prop :=
  ∀ (s : State) (n : Fin 128) (w : W32) (k : Nat), (∃ u, s.coreTenant n = some u ∧ s.knotTenant k = some u) →
    SoundKnot s k →
    let ca := (s.counter n (insField w 21 5)).toNat
    let cb := (s.counter n (insField w 16 5)).toNat
    (Fetches s n 0x18 w → k = insField w 0 17 → Waits s n (.knotWait n) k (insField w 17 3) ca)
    ∧ (Fetches s n 0x19 w → k = cb % 2 ^ 17 → Waits s n (.knotWaitIndirect n) k (insField w 0 4) ca)
    ∧ (Fetches s n 0x1A w → k = insField w 0 17 → s.knotArmed k = false →
        (insField w 17 4 = 2 → s.knotFrayed k = false ∧ ¬KnotReached (s.knotCount k) ca) →
        AppliesKnotOp s n (.knotOp n) k (insField w 17 4) ca)
    ∧ (Fetches s n 0x1B w → k = cb % 2 ^ 17 → s.knotArmed k = false →
        (insField w 0 4 = 2 → s.knotFrayed k = false ∧ ¬KnotReached (s.knotCount k) ca) →
        AppliesKnotOp s n (.knotOpIndirect n) k (insField w 0 4) ca)
    ∧ (∀ cond value since, s.coresRun = true → s.shuttleState n = 2 → (s.shuttle n).wait = some (k, cond, value, since) →
        (s.knotFrayed k = true → ∃ t, exec (.shuttleWaitWake n) s = .next t ∧ Stops s t n 11 ∧ ShuttleFrame s t n noReg)
        ∧ (s.knotFrayed k = false → cond = 1 ∨ cond = 2 → value < 2 ^ 32 →
            WaitMet cond (s.knotCount k) value →
            ∃ t, exec (.shuttleWaitWake n) s = .next t ∧ (t.shuttle n).wait = none ∧ ShuttleFrame s t n noReg
              ∧ if s.pc n = 8191 then Stops s t n 12 else t.shuttleState n = 1 ∧ t.pc n = s.pc n + 1))

/-- GENERATOR and GENERATOR_IMMEDIATE (R114, R75). -/
def Obligations.GeneratorInstructions : Prop :=
  ∀ (s : State) (n : Fin 128) (w : W32),
    let g := insField w 23 3
    let d := insField w 20 3
    let v := (s.counter n (insField w 15 5)).toNat
    let b := genBase s n g
    (Fetches s n 0x20 w → (insField w 11 4 = 6 → 1 ≤ v ∧ v ≤ 6) →
      ∃ t, exec (.generator n) s = .next t ∧ Onward s t n
        ∧ (match insField w 11 4 with
          | 0 => genBase t n g = b / 2 ^ 32 * 2 ^ 32 + v
          | 1 => genBase t n g = b % 2 ^ 32 + v % 2 ^ 16 * 2 ^ 32
          | 2 => genBase t n g = (b + v) % 2 ^ 48
          | 3 => genBase t n g = (b + 2 ^ 48 - v) % 2 ^ 48
          | 4 => nth (t.gen n g).counts d = (v + 2 ^ 32 - 1) % 2 ^ 16 + 1
              ∧ (t.gen n g).strides = (s.gen n g).strides
          | 5 => (t.gen n g).strides.getD d 0 = signedOf 32 v ∧ (t.gen n g).counts = (s.gen n g).counts
          | 6 => (t.gen n g).dims = v
          | 7 => (t.gen n g).idx = [0, 0, 0, 0, 0, 0]
              ∧ t.flag (Reg.GEN_CONFIG n g) Fl.GEN_CONFIG_END = false
          | _ => GenOk s n g → NextIdx (s.gen n g).dims (s.gen n g).counts (s.gen n g).idx (t.gen n g).idx
              ∧ (t.flag (Reg.GEN_CONFIG n g) Fl.GEN_CONFIG_END = true ↔
                s.flag (Reg.GEN_CONFIG n g) Fl.GEN_CONFIG_END = true
                  ∨ ∀ j < (s.gen n g).dims, nth (s.gen n g).counts j ≤ nth (s.gen n g).idx j + 1))
        ∧ (insField w 11 4 ≤ 3 → ∀ off, GenRegs n g off → off ≠ Reg.GEN_BASE n g → t.rd off = s.rd off)
        ∧ (insField w 11 4 = 4 ∨ insField w 11 4 = 5 → ∀ off, GenRegs n g off → off ≠ Reg.GEN_DIM n g d → t.rd off = s.rd off)
        ∧ (insField w 11 4 = 6 → ∀ off, GenRegs n g off → off ≠ Reg.GEN_CONFIG n g → t.rd off = s.rd off)
        ∧ (7 ≤ insField w 11 4 → genBase t n g = b ∧ (t.gen n g).dims = (s.gen n g).dims ∧ ∀ d < 6, t.rd (Reg.GEN_DIM n g d) = s.rd (Reg.GEN_DIM n g d))
        ∧ ShuttleFrame s t n (GenRegs n g))
    ∧ (Fetches s n 0x20 w → insField w 11 4 = 6 → ¬(1 ≤ v ∧ v ≤ 6) →
        ∃ t, exec (.generator n) s = .next t ∧ Stops s t n 6 ∧ ShuttleFrame s t n noReg)
    ∧ (Fetches s n 0x21 w → ∃ t, exec (.generatorImmediate n) s = .next t ∧ Onward s t n
        ∧ (∀ p < 3, genBase t n g / 2 ^ (16 * p) % 2 ^ 16
            = if p = insField w 21 2 then insField w 0 16 else b / 2 ^ (16 * p) % 2 ^ 16)
        ∧ ShuttleFrame s t n (fun off => off = Reg.GEN_BASE n g))

/-- TEMPLATE_LOAD, FILL, FILL_IMMEDIATE and FILL_GENERATOR write the staging registers (R81, R115); TILE_SET, TILE_SET_IMMEDIATE and TILE_COPY
write a tile register whose descriptor is legal (R117, R87). -/
def Obligations.StagingAndTileInstructions : Prop :=
  (∀ (s : State) (n : Fin 128) (w : W32),
    let e := insField w 24 2
    let lo := insField w 17 7
    let m := insField w 0 9
    let g := insField w 8 3
    (Fetches s n 0x28 w → FillsStaging s n (.templateLoad n) e 0 128
        ((s.rd (Reg.TEMPLATE_LO n m)).toNat + (s.rd (Reg.TEMPLATE_HI n m)).toNat * 2 ^ 64) noReg fun _ => True)
    ∧ (Fetches s n 0x29 w → FillsStaging s n (.fill n) e lo (insField w 11 6 + 1)
        (s.counter n (insField w 6 5)).toNat noReg fun _ => True)
    ∧ (Fetches s n 0x2A w → FillsStaging s n (.fillImmediate n) e lo (insField w 12 5 + 1) (insField w 0 12) noReg
        fun _ => True)
    ∧ (Fetches s n 0x2B w → FillsStaging s n (.fillGenerator n) e lo (insField w 11 6 + 1) (s.gen n g).address
        (fun off => insField w 7 1 = 1 ∧ GenRegs n g off)
        fun t => insField w 7 1 = 1 → GenOk s n g →
          NextIdx (s.gen n g).dims (s.gen n g).counts (s.gen n g).idx (t.gen n g).idx))
  ∧ (∀ (s : State) (n : Fin 128) (w : W32),
    let t := insField w 20 6
    let field := insField w 17 3
    (Fetches s n 0x30 w → WritesTile s n (.tileSet n) t
      ((tileFields s n t).set field ((s.counter n (insField w 0 5)).toNat % 2 ^ nth tileWidths field)))
    ∧ (Fetches s n 0x31 w → WritesTile s n (.tileSetImmediate n) t
      ((tileFields s n t).set field (insField w 0 17 % 2 ^ nth tileWidths field)))
    ∧ (Fetches s n 0x32 w → WritesTile s n (.tileCopy n) t (tileFields s n (insField w 14 6))))

namespace Sys2Proof.Claims

/-- A command c enters queue e of core n at its tail (R81 to R83, R93, R129): what the entry captures, DEPTH, and the bound
generators' advance; `station` is the state whose station the tag is taken from. -/
def Enqueues (s t : State) (n : Fin 128) (e : Nat) (c : BitVec 128) (slot : Option Nat) : Prop :=
  ∃ x : QEntry, t.queue n e = s.queue n e ++ [x] ∧ x.cmd = c ∧ x.uid = s.core.nextUid ∧ x.started = false
    ∧ x.tag = slot.bind (fun j => (s.station n j).opened.map (fun b => (j, b)))
    ∧ x.tiles = (tilesNamed e c).map (fun i => (i, s.rd (Reg.TILE_LO n i), s.rd (Reg.TILE_HI n i)))
    ∧ x.s0 = (cmdS0 c).map (s.gen n) ∧ x.s1 = (cmdS1 c).map (s.gen n)
    ∧ t.fld (Reg.QUEUE_STATUS n e) Fl.QUEUE_STATUS_DEPTH = ((s.queue n e).length + 1) % 2 ^ 10
    ∧ (∀ g, (cmdS0 c = some g ∨ cmdS1 c = some g) → GenOk s n g →
        (t.gen n g).idx = if cmdLength c = 0 then (s.gen n g).toWrap.idx
          else ((s.gen n g).advanceBy (cmdLength c)).1.idx)
    ∧ (∀ (m : Fin 128) (f : Fin 4), ¬(m = n ∧ f.val = e) → t.queue m f = s.queue m f)
    ∧ t.core = { s.core with shuttles := t.core.shuttles, launches := t.core.launches, queues := t.core.queues,
                             nextUid := s.core.nextUid + 1 }
    ∧ Changes [.core] (fun off => off = Reg.SHUTTLE_STATUS n ∨ off = Reg.SHUTTLE_CONTROL n ∨ off = Reg.QUEUE_STATUS n e
        ∨ ∃ g, (cmdS0 c = some g ∨ cmdS1 c = some g) ∧ GenRegs n g off) s t

/-- The checks of R128 pass for staging register e and slot of core n. -/
def IssueOk (s : State) (n : Fin 128) (e : Nat) (slot : Option Nat) : Prop :=
  (∀ j, slot = some j → (s.station n j).opened.isSome = true) ∧ s.issueForm n e (s.staging n e) = true
    ∧ s.issueRange n e (s.staging n e) = true ∧ s.issueAbsent n e (s.staging n e) = false

/-- The slot an ISSUE names: SLOT 0 to 3; 4 is untimed (R116). -/
def slotNamed (w : W32) : Option Nat := if insField w 0 3 < 4 then some (insField w 0 3) else none

end Sys2Proof.Claims

/-- ISSUE and ISSUE_RESUME (R81 to R83, R88, R116, R128): a command that passes the checks enters its ENABLED engine's queue;
a full queue stalls the shuttle; the checks are made in their order. -/
def Obligations.IssueEntersEngineQueue : Prop :=
  ∀ (s : State) (n : Fin 128) (w : W32),
    let e := insField w 24 2
    let c := s.staging n e
    let slot := slotNamed w
    (Fetches s n 0x2C w → IssueOk s n e slot → s.queueState n e = 0 → (s.queue n e).length < 512 →
      ∃ t, exec (.issue n) s = .next t ∧ Enqueues s t n e c slot ∧ Onward s t n)
    ∧ (Fetches s n 0x2C w → IssueOk s n e slot → s.queueState n e = 0 → 512 ≤ (s.queue n e).length →
      ∃ t, exec (.issue n) s = .next t ∧ t.shuttleState n = 2 ∧ t.pc n = s.pc n
        ∧ t.fld (Reg.SHUTTLE_STATUS n) Fl.SHUTTLE_STATUS_STALL_CAUSE = 2
        ∧ t.fld (Reg.SHUTTLE_STATUS n) Fl.SHUTTLE_STATUS_STALL_ENGINE = e ∧ ShuttleFrame s t n noReg)
    ∧ (s.coresRun = true → s.shuttleState n = 2 → s.fld (Reg.SHUTTLE_STATUS n) Fl.SHUTTLE_STATUS_STALL_CAUSE = 2 →
      s.fld (Reg.SHUTTLE_STATUS n) Fl.SHUTTLE_STATUS_STALL_ENGINE = e → s.instructionAt n (s.pc n) = w → insOpcode w = 0x2C →
      s.queueState n e = 0 → (s.queue n e).length < 512 →
      ∃ t, exec (.issueResume n) s = .next t ∧ Enqueues s t n e c slot
        ∧ if s.pc n = 8191 then Stops s t n 12 else t.shuttleState n = 1 ∧ t.pc n = s.pc n + 1)

/-- The refusals of ISSUE in the order of R128, each with its stop (R83, R97, R86): no open activation, a reserved form, a value
out of range, an absent engine; and the issue to an engine that is not ENABLED, which completes CANCELLED. -/
def Obligations.IssueRefusalsInOrder : Prop :=
  ∀ (s : State) (n : Fin 128) (w : W32), Fetches s n 0x2C w →
    let e := insField w 24 2
    let c := s.staging n e
    let slot := slotNamed w
    let closed := ∃ j, slot = some j ∧ (s.station n j).opened = none
    (closed → ∃ t, exec (.issue n) s = .next t ∧ Stops s t n 4 ∧ ShuttleFrame s t n noReg)
    ∧ (¬closed → s.issueForm n e c = false → ∃ t, exec (.issue n) s = .next t ∧ Stops s t n 7 ∧ ShuttleFrame s t n noReg)
    ∧ (¬closed → s.issueForm n e c = true → s.issueRange n e c = false →
        ∃ t, exec (.issue n) s = .next t ∧ Stops s t n 6 ∧ ShuttleFrame s t n noReg)
    ∧ (¬closed → s.issueForm n e c = true → s.issueRange n e c = true → s.issueAbsent n e c = true →
        ∃ t, exec (.issue n) s = .next t ∧ Stops s t n 3 ∧ Reported s t .absentUnit (s.coreTenant n)
          ∧ t.fld (Reg.CORE_ABSENT_UNIT n) Fl.CORE_ABSENT_UNIT_COUNT
            = satNext (s.fld (Reg.CORE_ABSENT_UNIT n) Fl.CORE_ABSENT_UNIT_COUNT)
          ∧ ShuttleFrame s t n (fun off => off = Reg.CORE_ABSENT_UNIT n ∨ EventRegs .absentUnit (s.coreTenant n) off))
    ∧ (IssueOk s n e slot → s.queueState n e ≠ 0 → (cmdSetOp c = 0 ∨ setIsLocal c = true ∧ QuietKnot s (cmdSetKnot c)) →
        ∃ t, exec (.issue n) s = .next t ∧ Onward s t n ∧ Reported s t .cancelled (s.coreTenant n)
          ∧ t.fld (Reg.QUEUE_STATUS n e) Fl.QUEUE_STATUS_LAST_STATUS = 1
          ∧ t.fld (Reg.QUEUE_CANCELLED n e) Fl.QUEUE_CANCELLED_COUNT
            = satNext (s.fld (Reg.QUEUE_CANCELLED n e) Fl.QUEUE_CANCELLED_COUNT)
          ∧ t.queue n e = s.queue n e
          ∧ (cmdSetOp c ≠ 0 → t.knotFrayed (cmdSetKnot c) = true)
          ∧ Changes [.core] (fun off => off = Reg.SHUTTLE_STATUS n ∨ off = Reg.SHUTTLE_CONTROL n
              ∨ off = Reg.QUEUE_STATUS n e ∨ off = Reg.QUEUE_CANCELLED n e
              ∨ EventRegs .cancelled (s.coreTenant n) off
              ∨ (∃ g, (cmdS0 c = some g ∨ cmdS1 c = some g) ∧ GenRegs n g off)
              ∨ (cmdSetOp c ≠ 0 ∧ (off = knotStateReg (cmdSetKnot c)
                ∨ off = Reg.KNOT_FRAYED_KNOT (bankOf (cmdSetKnot c))
                ∨ EventRegs .frayedKnot (s.knotTenant (cmdSetKnot c)) off))) s t)

/-- ACT_BEGIN and ACT_END (R84): an activation opens at the slot's next boundary and its end advances it by the cadence. -/
def Obligations.ActivationsOpenAndClose : Prop :=
  ∀ (s : State) (n : Fin 128) (w : W32), Fetches s n 0x2D w →
    let j := insField w 0 2
    let on := s.fld (Reg.STATION_CONFIG n j) Fl.STATION_CONFIG_ENABLE = 1
    let others := fun t : State => ∀ (m : Fin 128) (i : Fin 4), ¬(m = n ∧ i.val = j) → t.station m i = s.station m i
    (insField w 2 1 = 0 →
      (on → (s.station n j).opened = none →
        ∃ t, exec (.actBegin n) s = .next t ∧ Onward s t n ∧ (t.station n j).opened = some (s.station n j).next
          ∧ (t.station n j).next = (s.station n j).next ∧ others t
          ∧ Changes [.core] (fun off => off = Reg.SHUTTLE_STATUS n ∨ off = Reg.SHUTTLE_CONTROL n) s t)
      ∧ (¬on → ∃ t, exec (.actBegin n) s = .next t ∧ Stops s t n 5 ∧ ShuttleFrame s t n noReg)
      ∧ (on → (s.station n j).opened.isSome = true →
        ∃ t, exec (.actBegin n) s = .next t ∧ Stops s t n 4 ∧ ShuttleFrame s t n noReg))
    ∧ (insField w 2 1 = 1 →
      ((s.station n j).opened.isSome = true → (s.station n j).resume = none → s.tick.hold = none →
        ∃ t, exec (.actEnd n) s = .next t ∧ Onward s t n ∧ (t.station n j).opened = none
          ∧ (t.station n j).next = (s.station n j).next + s.fld (Reg.STATION_CONFIG n j) Fl.STATION_CONFIG_CADENCE + 1
          ∧ others t ∧ Changes [.core] (fun off => off = Reg.SHUTTLE_STATUS n ∨ off = Reg.SHUTTLE_CONTROL n) s t)
      ∧ ((s.station n j).opened = none →
        ∃ t, exec (.actEnd n) s = .next t ∧ Stops s t n 4 ∧ ShuttleFrame s t n noReg))

namespace Sys2Proof.Claims

/-- The cores run, the launch queue of core n has a front descriptor of opcode op, the core is ENABLED, and no STOP is waiting
(R40, R94). -/
def LaunchFront (s : State) (n : Fin 128) (op : Nat) : Prop :=
  s.coresRun = true ∧ (s.launch n).wp ≠ (s.launch n).rp ∧ (s.launch n).stopping = false ∧ s.coreState n = 0 ∧ s.launchField n 0 2 = op

/-- The front descriptor was taken with a status: 0 OK, 3 INVALID (R94). -/
def PassesFront (s t : State) (n : Fin 128) (status : Nat) : Prop :=
  (t.launch n).rp = ((s.launch n).rp + 1) % 32 ∧ (t.launch n).wp = (s.launch n).wp ∧ (t.launch n).last = status

/-- The frame of a launch command of core n: the registers of the shuttle and its counters, the shuttle and the launch queue
of that core alone. -/
def LaunchFrame (s t : State) (n : Fin 128) : Prop :=
  ShuttleFrame s t n (fun off => ∃ k < 12, off = Reg.COUNTER n k)

end Sys2Proof.Claims

/-- Launch queues (R94 to R97) of a device that has not tripped: doorbells move the write pointer, are refused when the pointer would pass 16 descriptors, and
complete CANCELLED on a core that is not ENABLED; START loads counters 0 to 11 and the program counter; STOP, STOP_REQ and
reserved descriptors. -/
def Obligations.LaunchQueueStartsAndStops : Prop :=
  ∀ (s : State) (n : Fin 128),
    let l := s.launch n
    (∀ who ptr, s.clocked = true → s.mayDoorbell who (s.coreTenant n) = true → s.coreAbsent n = true →
      ∃ t, exec (.launchDoorbell who n ptr) s = .next t ∧ t.launch n = { l with last := 1, refused := satNext l.refused }
        ∧ Reported s t .absentUnit (s.coreTenant n)
        ∧ ShuttleFrame s t n (fun off => off = Reg.CORE_ABSENT_UNIT n ∨ EventRegs .absentUnit (s.coreTenant n) off))
    ∧ (∀ who ptr, s.clocked = true → s.mayDoorbell who (s.coreTenant n) = true → s.coreAbsent n = false →
      (16 < (ptr.toNat + 32 - l.rp) % 32 → ∃ t, exec (.launchDoorbell who n ptr) s = .next t
        ∧ t.launch n = { l with refused := satNext l.refused } ∧ LaunchFrame s t n)
      ∧ ((ptr.toNat + 32 - l.rp) % 32 ≤ 16 → s.coreState n ≠ 0 → ∃ t, exec (.launchDoorbell who n ptr) s = .next t
        ∧ t.launch n = { l with wp := ptr.toNat, rp := ptr.toNat, last := if ptr.toNat = l.rp then l.last else 2 } ∧ LaunchFrame s t n)
      ∧ ((ptr.toNat + 32 - l.rp) % 32 ≤ 16 → s.coreState n = 0 → ∃ t, exec (.launchDoorbell who n ptr) s = .next t
        ∧ t.launch n = { l with wp := ptr.toNat } ∧ LaunchFrame s t n))
    ∧ (LaunchFront s n 1 → s.shuttleState n = 0 ∨ s.shuttleState n = 3 → s.launchField n 2 2 ≤ 8191 →
        (2 ^ 31 ≤ s.launchField n 56 4 → ∃ u, s.coreTenant n = some u ∧ s.knotTenant (s.launchField n 56 4 % 2 ^ 17) = some u) →
        ∃ t, exec (.start n) s = .next t ∧ PassesFront s t n 0 ∧ t.shuttleState n = 1 ∧ t.pc n = s.launchField n 2 2
          ∧ (∀ k < 12, t.counter n k = if (s.launchField n 4 2).testBit k then BitVec.ofNat 32 (s.launchField n (8 + 4 * k) 4)
              else s.counter n k)
          ∧ (t.shuttle n).doneKnot
            = (if 2 ^ 31 ≤ s.launchField n 56 4 then some (s.launchField n 56 4 % 2 ^ 17) else none)
          ∧ LaunchFrame s t n)
    ∧ (LaunchFront s n 1 → s.shuttleState n = 0 ∨ s.shuttleState n = 3 → 8191 < s.launchField n 2 2 →
        ∃ t, exec (.start n) s = .next t ∧ PassesFront s t n 3 ∧ t.shuttleState n = s.shuttleState n ∧ LaunchFrame s t n)
    ∧ (LaunchFront s n 2 → s.shuttleState n = 0 ∨ s.shuttleState n = 3 →
        ∃ t, exec (.stop n) s = .next t ∧ PassesFront s t n 0 ∧ t.shuttleState n = s.shuttleState n ∧ LaunchFrame s t n)
    ∧ (LaunchFront s n 2 → s.shuttleState n = 1 ∨ s.shuttleState n = 2 →
        ∃ t, exec (.stop n) s = .next t ∧ PassesFront s t n 0 ∧ Stops s t n 2 ∧ LaunchFrame s t n)
    ∧ (∀ op, LaunchFront s n op → op ≠ 1 → op ≠ 2 →
        ∃ t, exec (.launchReserved n) s = .next t ∧ PassesFront s t n 3 ∧ t.shuttleState n = s.shuttleState n
          ∧ LaunchFrame s t n)
    ∧ (∀ who, s.mayWrite who (Reg.SHUTTLE_CONTROL n) = true → s.shuttleState n = 1 ∨ s.shuttleState n = 2 →
        ∃ t, exec (.stopReq who n) s = .next t ∧ Stops s t n 2 ∧ LaunchFrame s t n)

namespace Sys2Proof.Claims

/-- No hold of a boundary waits on the cores, and no retirement waits for a drain. -/
def NothingWaits (s : State) : Prop := s.tick.hold = none ∧ s.core.retiring = []

/-- Core n holds no work: its queues and its launch queue are empty and its shuttle is IDLE or STOPPED. -/
def QuietCore (s : State) (n : Nat) : Prop :=
  (∀ e < 4, s.queue n e = []) ∧ (s.shuttleState n = 0 ∨ s.shuttleState n = 3) ∧ (s.launch n).wp = (s.launch n).rp

/-- The status registers of core n's units. -/
def CoreUnitRegs (n off : Nat) : Prop := off = Reg.CORE_UNIT_STATUS n ∨ ∃ e < 4, off = Reg.QUEUE_STATUS n e

/-- Of the cores' state only the records of drains and of completions may differ. -/
def OnlyDrains (s t : State) : Prop :=
  t.core = { s.core with drains := t.core.drains, entries := t.core.entries, completions := t.core.completions }

end Sys2Proof.Claims

/-- DRAIN and ENABLE requests (R98, R100, R101, R102, R103): on an engine queue, what has not started is cancelled, a queue with nothing
in flight is DISABLED at once and else DRAINING; cores and clusters that hold no work go down and come up whole; ENABLE works on a
DISABLED unit alone and sets REQ_ERR elsewhere. That ENABLE of a cluster enables its DISABLED cores is the model's choice
(notes/assumptions/17). -/
def Obligations.QueuesCoresAndClustersDrainAndEnable : Prop :=
  (∀ (s : State) (who : Requester) (n : Fin 128) (e : Fin 4), s.mayWrite who (Reg.QUEUE_CONTROL n e) = true → NothingWaits s →
      let q := s.queue n e
      (s.queueState n e = 0 → s.coreState n = 0 → q = [] →
        Does s (.queueDrainReq who n e) [.core] (fun off => ∃ f < 4, off = Reg.QUEUE_STATUS n f) fun t =>
          t.queueState n e = 2 ∧ t.queue n e = [] ∧ OnlyDrains s t)
      ∧ (s.queueState n e = 0 → s.coreState n = 0 → q ≠ [] → (∀ x ∈ q, x.started = true) →
        Does s (.queueDrainReq who n e) [.core] (fun off => ∃ f < 4, off = Reg.QUEUE_STATUS n f) fun t =>
          t.queueState n e = 1 ∧ t.queue n e = q ∧ OnlyDrains s t
            ∧ t.entryStitch (.queue n e) = (s.rd Reg.TICK_STITCH_COUNT).toNat)
      ∧ (s.queueState n e = 0 → s.coreState n = 0 → q ≠ [] → (∀ x ∈ q, x.started = false ∧ cmdSetOp x.cmd = 0) →
        ∃ t, exec (.queueDrainReq who n e) s = .next t ∧ t.queueState n e = 2 ∧ t.queue n e = []
          ∧ t.fld (Reg.QUEUE_STATUS n e) Fl.QUEUE_STATUS_LAST_STATUS = 1
          ∧ t.fld (Reg.QUEUE_CANCELLED n e) Fl.QUEUE_CANCELLED_COUNT
            = min 0xFFFFFFFF (s.fld (Reg.QUEUE_CANCELLED n e) Fl.QUEUE_CANCELLED_COUNT + q.length)
          ∧ Reported s t .cancelled (s.coreTenant n))
      ∧ (s.queueState n e ≠ 0 → DoesNothing s (.queueDrainReq who n e))
      ∧ (s.queueState n e = 2 → q = [] →
        Does s (.queueEnableReq who n e) [.core] (fun off => off = Reg.QUEUE_STATUS n e) fun t =>
          t.queueState n e = 0 ∧ OnlyDrains s t)
      ∧ (s.queueState n e ≠ 2 →
        Does s (.queueEnableReq who n e) [] (fun off => off = Reg.QUEUE_STATUS n e) fun t =>
          t.fld (Reg.QUEUE_STATUS n e) Fl.QUEUE_STATUS_REQ_ERR = 1 ∧ t.queueState n e = s.queueState n e))
  ∧ (∀ (s : State) (who : Requester), NothingWaits s →
      (∀ n : Fin 128, s.mayWrite who (Reg.CORE_UNIT_CONTROL n) = true → s.clusterState (n / 16) = 0 →
        (s.coreState n = 0 → QuietCore s n → Does s (.coreDrainReq who n) [.core] (CoreUnitRegs n) fun t =>
          t.coreState n = 2 ∧ (∀ e < 4, t.queueState n e = if s.queueState n e = 3 then 3 else 2) ∧ OnlyDrains s t)
        ∧ (s.coreState n ≠ 0 → DoesNothing s (.coreDrainReq who n))
        ∧ (s.coreState n = 2 → s.enableHeld n = false → Does s (.coreEnableReq who n) [.core]
            (fun off => CoreUnitRegs n off ∨ off = Reg.SHUTTLE_STATUS n) fun t =>
          t.coreState n = 0 ∧ t.shuttleState n = 0
            ∧ (∀ e < 4, t.queueState n e = if s.queueState n e = 2 then 0 else s.queueState n e) ∧ OnlyDrains s t)
        ∧ (s.coreState n ≠ 2 ∨ s.enableHeld n = true → Does s (.coreEnableReq who n) [] (fun off => off = Reg.CORE_UNIT_STATUS n) fun t =>
          t.fld (Reg.CORE_UNIT_STATUS n) Fl.CORE_UNIT_STATUS_REQ_ERR = 1 ∧ t.coreState n = s.coreState n))
      ∧ (∀ c : Fin 8, s.mayWrite who (Reg.CLUSTER_UNIT_CONTROL c) = true →
        (s.clusterState c = 0 → (∀ i < 16, QuietCore s (16 * c + i) ∧ s.coreState (16 * c + i) ≠ 1) →
          Does s (.clusterDrainReq who c) [.core]
            (fun off => off = Reg.CLUSTER_UNIT_STATUS c ∨ ∃ i < 16, CoreUnitRegs (16 * c + i) off) fun t =>
            t.clusterState c = 2 ∧ (∀ i < 16, s.coreState (16 * c + i) = 0 → t.coreState (16 * c + i) = 2) ∧ OnlyDrains s t)
        ∧ (s.clusterState c ≠ 0 → DoesNothing s (.clusterDrainReq who c))
        ∧ (s.clusterState c = 2 → (∀ i < 16, s.enableHeld (16 * c + i) = false) → Does s (.clusterEnableReq who c) [.core]
            (fun off => off = Reg.CLUSTER_UNIT_STATUS c
              ∨ ∃ i < 16, CoreUnitRegs (16 * c + i) off ∨ off = Reg.SHUTTLE_STATUS (16 * c + i)) fun t =>
            t.clusterState c = 0 ∧ (∀ i < 16, s.coreState (16 * c + i) = 2 → t.coreState (16 * c + i) = 0) ∧ OnlyDrains s t)
        ∧ (s.clusterState c ≠ 2 → Does s (.clusterEnableReq who c) [] (fun off => off = Reg.CLUSTER_UNIT_STATUS c) fun t =>
            t.fld (Reg.CLUSTER_UNIT_STATUS c) Fl.CLUSTER_UNIT_STATUS_REQ_ERR = 1 ∧ t.clusterState c = s.clusterState c)))

namespace Sys2Proof.Claims

/-- The front command of queue e of core n, not started, may start now and has the opcode op (R89): the cores run, the
engine is ENABLED, has room in flight, the tag's boundary has come and the wait holds. -/
def MayStart (s : State) (n : Fin 128) (e : Nat) (x : QEntry) (op : Nat) : Prop :=
  (s.queue n e).find? (fun y => !y.started) = some x ∧ s.coresRun = true ∧ s.queueState n e = 0
    ∧ ((s.queue n e).filter (·.started)).length < inFlightLimit e ∧ (∀ j b, x.tag = some (j, b) → b ≤ s.stitch)
    ∧ (cmdWaitCond x.cmd = 0 ∨ (s.knotError (cmdWaitKnot x.cmd) = false
        ∧ condHolds (cmdWaitCond x.cmd) (s.knotCount (cmdWaitKnot x.cmd)) (cmdWaitValue x.cmd) = true))
    ∧ cmdOpcode x.cmd = op

/-- The entries numbered like x are replaced by y in queue e of core n, and no other queue changes. -/
def Replaces (s t : State) (n : Fin 128) (e : Nat) (x y : QEntry) : Prop :=
  t.queue n e = (s.queue n e).map (fun z => if z.uid = x.uid then y else z)
    ∧ ∀ (m : Fin 128) (f : Fin 4), ¬(m = n ∧ f.val = e) → t.queue m f = s.queue m f

/-- Command x leaves queue e of core n with a status, and no other queue changes. -/
def Completes (s t : State) (n : Fin 128) (e : Nat) (x : QEntry) (status : Nat) : Prop :=
  t.queue n e = (s.queue n e).filter (fun z => z.uid != x.uid)
    ∧ t.fld (Reg.QUEUE_STATUS n e) Fl.QUEUE_STATUS_LAST_STATUS = status
    ∧ ∀ (m : Fin 128) (f : Fin 4), ¬(m = n ∧ f.val = e) → t.queue m f = s.queue m f

/-- A command that writes no completion record: no mover command with REPORT (R382). -/
def NoReport (e : Nat) (x : QEntry) : Prop := e < 2 ∨ cmdOpcode x.cmd < 2 ∨ cmdField x.cmd 18 2 ≠ 2

/-- The set field of a command is none, or a quiet local knot that no transfer of this command needs (R119). -/
def PlainSet (s : State) (x : QEntry) : Prop :=
  cmdSetOp x.cmd = 0 ∨ (cmdSetOp x.cmd ≤ 2 ∧ setIsLocal x.cmd = true ∧ QuietKnot s (cmdSetKnot x.cmd))

/-- Queue e of core n is ENABLED and no drain of its core is in progress. -/
def NotDraining (s : State) (n : Fin 128) : Prop :=
  (∀ e < 4, s.queueState n e ≠ 1) ∧ s.coreState n ≠ 1 ∧ s.clusterState (n / 16) ≠ 1

end Sys2Proof.Claims

/-- The life of an engine command in its queue (R89, R91, R119, R121): NOP starts and is done in one step; a finished command
completes OK with its set field; a front that waits on a frayed knot, with every earlier command completed, completes
FRAYED_KNOT. -/
def Obligations.EngineQueueStartsAndCompletes : Prop :=
  ∀ (s : State) (n : Fin 128) (e : Fin 4) (x : QEntry), NothingWaits s → NotDraining s n →
    (MayStart s n e x 1 → Does s (.engineNop n e) [.core] (fun off => off = Reg.QUEUE_STATUS n e) fun t =>
      Replaces s t n e x { x with started := true, waitSince := none, workDone := true, steps := 1 })
    ∧ (∀ rest, s.queue n e = x :: rest → s.coresRun = true → x.started = true → x.workDone = true → x.outstanding = 0 →
        x.setSent = false → x.spillDue = false → x.hostTail = none → x.failed = none → PlainSet s x → NoReport e x → (∀ a ∈ s.net.answers, a.forQueue = false) →
        Does s (.commandComplete n e) [.core] (fun off => off = Reg.QUEUE_STATUS n e
            ∨ (cmdSetOp x.cmd ≠ 0 ∧ off = knotStateReg (cmdSetKnot x.cmd))) fun t =>
          Completes s t n e x 0
            ∧ (cmdSetOp x.cmd ≠ 0 → t.knotCount (cmdSetKnot x.cmd)
              = (s.knotCount (cmdSetKnot x.cmd) + if cmdSetOp x.cmd = 2 then x.steps else 1) % 2 ^ 32))
    ∧ ((s.queue n e).find? (fun y => !y.started) = some x → s.coresRun = true → s.queueState n e = 0 →
        (s.queue n e).filter (·.started) = [] → (∀ j b, x.tag = some (j, b) → b ≤ s.stitch) →
        cmdWaitCond x.cmd ≠ 0 → s.knotFrayed (cmdWaitKnot x.cmd) = true → PlainSet s x →
        Does s (.queueFrontFrayed n e) [.core] (fun off => off = Reg.QUEUE_STATUS n e
            ∨ (cmdSetOp x.cmd ≠ 0 ∧ (off = knotStateReg (cmdSetKnot x.cmd)
              ∨ off = Reg.KNOT_FRAYED_KNOT (bankOf (cmdSetKnot x.cmd))
              ∨ EventRegs .frayedKnot (s.knotTenant (cmdSetKnot x.cmd)) off))) fun t =>
          Completes s t n e x 3 ∧ (cmdSetOp x.cmd ≠ 0 → t.knotFrayed (cmdSetKnot x.cmd) = true))

/-- WAIT_LIMIT and DRAIN_LIMIT (R98, R103, R189): a front that has waited for the limit, and what a drain's end finds in
flight, complete ABORTED; a shuttle that has waited for the limit stops with WAIT_LIMIT. -/
def Obligations.WaitAndDrainLimitsAbort : Prop :=
  ∀ (s : State) (n : Fin 128), NothingWaits s →
    (∀ (e : Fin 4) (x : QEntry) (since : Nat), NotDraining s n → s.waitingFront n e = some x → x.waitSince = some since →
        since + s.waitLimit n ≤ s.stitchClock → cmdSetOp x.cmd = 0 → (s.queue n e).filter (·.started) = [] →
        ∃ t, exec (.waitLimit n e.castSucc) s = .next t ∧ Completes s t n e x 2
          ∧ Reported s t .waitLimit (s.coreTenant n) ∧ Reported s t .aborted (s.coreTenant n)
          ∧ t.fld (Reg.QUEUE_ABORTED n e) Fl.QUEUE_ABORTED_COUNT
            = satNext (s.fld (Reg.QUEUE_ABORTED n e) Fl.QUEUE_ABORTED_COUNT)
          ∧ t.fld (Reg.KNOT_WAIT_LIMIT (n / 16)) Fl.KNOT_WAIT_LIMIT_COUNT
            = satNext (s.fld (Reg.KNOT_WAIT_LIMIT (n / 16)) Fl.KNOT_WAIT_LIMIT_COUNT))
    ∧ (∀ k cond value since, (s.shuttle n).wait = some (k, cond, value, since) → s.shuttleState n = 2 → s.coresRun = true →
        s.knotError k = false → condHolds cond (s.knotCount k) value = false → since + s.waitLimit n ≤ s.stitchClock →
        ∃ t, exec (.waitLimit n 4) s = .next t ∧ Stops s t n 10 ∧ Reported s t .waitLimit (s.coreTenant n)
          ∧ ShuttleFrame s t n (fun off => off = Reg.KNOT_WAIT_LIMIT (n / 16)
            ∨ EventRegs .waitLimit (s.coreTenant n) off))
    ∧ (∀ (e : Fin 4) (x : QEntry) (d : Drain), s.coreState n = 0 → s.queueState n e = 1 → s.queue n e = [x] →
        s.drainOf (.queue n e) = some d → d.timedOut = false →
        d.since + min (s.drainLimit n) (d.cap.getD (s.drainLimit n)) ≤ s.stitchClock →
        x.started = true → x.setSent = false → x.spillDue = false → cmdSetOp x.cmd = 0 →
        ∃ t, exec (.drainLimit n e.castSucc) s = .next t ∧ t.queue n e = [] ∧ t.queueState n e = 2
          ∧ t.fld (Reg.QUEUE_STATUS n e) Fl.QUEUE_STATUS_LAST_STATUS = 2
          ∧ Reported s t .aborted (s.coreTenant n) ∧ Reported s t .drainTimeout (s.coreTenant n)
          ∧ t.fld (Reg.CORE_DRAIN_TIMEOUT n) Fl.CORE_DRAIN_TIMEOUT_COUNT
            = satNext (s.fld (Reg.CORE_DRAIN_TIMEOUT n) Fl.CORE_DRAIN_TIMEOUT_COUNT))
    ∧ (∀ (e : Fin 4) (x : QEntry) (d : Drain), s.coreState n = 1 → s.clusterState (n / 16) = 0 → s.queueState n e = 1 →
        s.queue n e = [x] → (∀ f : Fin 4, f ≠ e → s.queue n f = [] ∧ s.queueState n f = 2) →
        s.drainOf (.core n) = some d → d.timedOut = false →
        d.since + min (s.drainLimit n) (d.cap.getD (s.drainLimit n)) ≤ s.stitchClock →
        x.started = true → x.setSent = false → x.spillDue = false → cmdSetOp x.cmd = 0 →
        ∃ t, exec (.drainLimit n 4) s = .next t ∧ t.queue n e = [] ∧ t.coreState n = 2
          ∧ Reported s t .aborted (s.coreTenant n) ∧ Reported s t .drainTimeout (s.coreTenant n))

namespace Sys2Proof.Claims

/-- The spans hold neither a latent error nor poison. -/
def CleanSpans (s : State) (spans : List (Nat × Nat)) : Prop :=
  ∀ p ∈ spans, ∀ l ∈ linesOf p.1 p.2, s.lineErrors l = [] ∧ s.linePoisoned l = false

/-- An address lies in a row of a tile in core n's hoop memory. -/
def InTile (n : Nat) (t : Tile) (a : Nat) : Prop :=
  ∃ r < t.rows, hoopAddr n (t.base + r * t.stride) ≤ a ∧ a < hoopAddr n (t.base + r * t.stride) + t.rowBytes

/-- Every byte outside a set of addresses reads as before. -/
def BytesKept (s t : State) (p : Nat → Prop) : Prop := ∀ a, ¬p a → t.byteAt a = s.byteAt a

/-- The cores run; the head of core n's matrix queue is x: started, with work left and no spill due, of opcode op, and no further
command of that opcode may start now. -/
def MatrixHead (s : State) (n : Fin 128) (x : QEntry) (op : Nat) : Prop :=
  s.coresRun = true ∧ (∃ rest, s.queue n 0 = x :: rest) ∧ x.started = true ∧ x.workDone = false ∧ x.spillDue = false ∧ cmdOpcode x.cmd = op
    ∧ s.startable n 0 (isOp op) = none

/-- The lane (r, c) of a pass step on operand tiles a and b (R131 to R139): its value before the step, the groups of the step in
ascending k with a promotion after each P, and a promotion at the last step's end. -/
def laneAfter (s : State) (n : Fin 128) (x : QEntry) (ta tb : Tile) (last : Bool) (r c : Nat) : Lane :=
  let fresh := decide (x.steps = 0) && decide (cmdField x.cmd 27 1 = 0)
  let lane : Lane := { narrow := if fresh then [{}, {}, {}] else s.narrowAt n r c,
                       wide := if fresh then 0 else s.wideAt n r c, count := x.groups % x.promote }
  let y := lane.run (passMode x) x.promote (groupsOf (passMode x) ta.cols) ((s.operandRow n ta r).zip (s.operandRow n tb c))
  if last = true ∧ y.count ≠ 0 then y.promote (passMode x) else y

/-- The registers a matrix command of core n may write beside its queue's status. -/
def MatrixRegs (n off : Nat) : Prop :=
  off = Reg.QUEUE_STATUS n 0 ∨ off = Reg.MX_GROUP_CYCLES n ∨ off = Reg.MX_STALL_CYCLES n ∨ off = Reg.MX_FLAGS n
    ∨ off = Reg.MX_SPILL_RECORD n

/-- The FP32 tile holds the accumulators bit for bit, element (r, c) from lane (r, c) (R145). -/
def HoldsAccumulators (s t : State) (n : Fin 128) (tile : Tile) : Prop :=
  ∀ r < 32, ∀ c < 16, t.bytesAt (hoopAddr n (tile.base + r * tile.stride + 4 * c)) 4 = bytesLE 4 (s.wideAt n r c).toNat

end Sys2Proof.Claims

/-- MATRIX_PASS (R131 to R138, R89, R147): what a pass samples as it starts, and what one step does to the lanes; a spill falls due
at the first step end past the threshold at which the groups are a multiple of P. -/
def Obligations.MatrixPassSteps : Prop :=
  ∀ (s : State) (n : Fin 128) (x : QEntry),
    (MayStart s n 0 x 2 → (s.fld (Reg.MX_SPILL n) Fl.MX_SPILL_STITCHES = 0 ∨ (x.tile (cmdField x.cmd 18 6)).isSpill = true) →
      Does s (.matrixPass n 0) [.core] (MatrixRegs n) fun t =>
        Replaces s t n 0 x { x with
          started := true, waitSince := none,
          promote := min (s.fld (Reg.MX_PROMOTE n) (promoteField (passMode x)) + 1)
            (min (safeInterval (x.tile (cmdField x.cmd 6 6)).format) (safeInterval (x.tile (cmdField x.cmd 12 6)).format)),
          spillPeriod := s.fld (Reg.MX_SPILL n) Fl.MX_SPILL_STITCHES, startStitch := s.stitch,
          threshold := s.stitch + s.fld (Reg.MX_SPILL n) Fl.MX_SPILL_STITCHES })
    ∧ (∀ ta tb, MatrixHead s n x 2 → stepTile (x.tile (cmdField x.cmd 6 6)) 0 (portAddress x.s0) = .ok ta →
        stepTile (x.tile (cmdField x.cmd 12 6)) 1 (portAddress x.s1) = .ok tb → ta.rows ≤ 32 → tb.rows ≤ 16 →
        CleanSpans s (ta.spans n ++ tb.spans n) →
        Does s (.matrixPass n 1) [.core] (MatrixRegs n) fun t =>
          (∀ r < ta.rows, ∀ c < tb.rows, t.wideAt n r c = (laneAfter s n x ta tb x.stepPorts.2 r c).wide)
          ∧ (∀ r < 32, ∀ c < 16, ¬(r < ta.rows ∧ c < tb.rows) →
              t.wideAt n r c = if x.steps = 0 ∧ cmdField x.cmd 27 1 = 0 then 0 else s.wideAt n r c)
          ∧ (∀ m : Fin 128, m ≠ n → ∀ r < 32, ∀ c < 16, t.wideAt m r c = s.wideAt m r c)
          ∧ Replaces s t n 0 x { x.stepPorts.1 with
              groups := x.groups + groupsOf (passMode x) ta.cols
              workDone := x.stepPorts.2
              spillDue := decide (0 < x.spillPeriod ∧ (x.groups + groupsOf (passMode x) ta.cols) % x.promote = 0
                ∧ x.threshold ≤ s.stitch) }
          ∧ (t.rd (Reg.MX_GROUP_CYCLES n)).toNat = ((s.rd (Reg.MX_GROUP_CYCLES n)).toNat
              + groupsOf (passMode x) ta.cols * if passMode x = 3 then 3 else 1) % 2 ^ 64)

/-- The accumulators out and in (R142, R143, R145, R147): MATRIX_SAVE, MATRIX_LOAD and SPILL move them bit for bit; MATRIX_DRAIN without side
columns writes each converted to the tile's format, and returns them to zero unless KEEP is set. -/
def Obligations.AccumulatorsMoveAndDrain : Prop :=
  (∀ (s : State) (n : Fin 128) (x : QEntry),
    (∀ tile, tile = x.tile (cmdField x.cmd 18 6) → MatrixHead s n x 4 → tile.isSpill = true → 64 ≤ tile.stride →
      Does s (.matrixSave n) [.core, .mem] (MatrixRegs n) fun t => HoldsAccumulators s t n tile
        ∧ BytesKept s t (InTile n tile) ∧ (∀ r < 32, ∀ c < 16, t.wideAt n r c = s.wideAt n r c)
        ∧ Replaces s t n 0 x { x with steps := 1, workDone := true })
    ∧ (∀ tile, tile = x.tile (cmdField x.cmd 6 6) → MatrixHead s n x 5 → tile.isSpill = true → tile.inHoop = true →
      CleanSpans s (tile.spans n) →
      Does s (.matrixLoad n) [.core] (MatrixRegs n) fun t =>
        (∀ r < 32, ∀ c < 16, (t.wideAt n r c).toNat
          = natLE (s.bytesAt (hoopAddr n (tile.base + r * tile.stride + 4 * c)) 4))
        ∧ Replaces s t n 0 x { x with steps := 1, workDone := true })
    ∧ (∀ rest tile, tile = x.tile (cmdField x.cmd 18 6) → s.queue n 0 = x :: rest → s.coresRun = true → x.failed = none →
      x.spillDue = true →
      tile.isSpill = true → 64 ≤ tile.stride →
      Does s (.spill n) [.core, .mem] (MatrixRegs n) fun t => HoldsAccumulators s t n tile ∧ BytesKept s t (InTile n tile)
        ∧ t.fld (Reg.MX_SPILL_RECORD n) Fl.MX_SPILL_RECORD_VALID = 1
        ∧ t.fld (Reg.MX_SPILL_RECORD n) Fl.MX_SPILL_RECORD_STEPS = x.steps % 2 ^ 16
        ∧ t.fld (Reg.MX_SPILL_RECORD n) Fl.MX_SPILL_RECORD_STITCH = s.stitch % 2 ^ Fl.MX_SPILL_RECORD_STITCH.width
        ∧ Replaces s t n 0 x { x with
            threshold := x.startStitch + ((s.stitch - x.startStitch) / x.spillPeriod + 1) * x.spillPeriod,
            spillDue := false }))
  ∧ (∀ (s : State) (n : Fin 128) (x : QEntry) (tile : Tile), tile = x.tile (cmdField x.cmd 6 6) → MatrixHead s n x 3 →
    cmdField x.cmd 18 3 = 0 → tile.format ≤ 4 → tile.rows ≤ 32 → tile.cols ≤ 16 → tile.rowBytes ≤ tile.stride →
    Does s (.matrixDrain n) [.core, .mem] (MatrixRegs n) fun t =>
      (∀ r < tile.rows, ∀ c < tile.cols, t.element n tile r c
        = (drainTo tile.format (s.wideAt n r c)).val % 2 ^ formatBits tile.format)
      ∧ BytesKept s t (InTile n tile)
      ∧ (∀ r < 32, ∀ c < 16, t.wideAt n r c = if cmdField x.cmd 21 1 = 1 then s.wideAt n r c else 0)
      ∧ Replaces s t n 0 x { x with steps := 1, workDone := true })

namespace Sys2Proof.Claims

/-- The slot of a vector command and its operands as one block takes them: the block's rows and columns (R157), no error
in what it reads, an output tile whose rows do not overlap. -/
def BlockReady (s : State) (n : Fin 128) (x : QEntry) (ta tc : Tile) (rows cols : Nat) : Prop :=
  let program := isOp 3 x
  let head := slotHead n program (slotIndex x)
  let tb := x.tile (cmdField x.cmd 12 6)
  s.running n 1 (fun _ => true) = some x ∧ (cmdOpcode x.cmd = 2 ∨ cmdOpcode x.cmd = 3)
    ∧ stepTile (x.tile (cmdField x.cmd 6 6)) 0 (portAddress x.s0) = .ok ta
    ∧ stepTile (x.tile (cmdField x.cmd 18 6)) 1 (portAddress x.s1) = .ok tc
    ∧ rows = min (s.vlenOf n).1 tc.rows ∧ cols = min (s.vlenOf n).2 tc.cols ∧ rows ≤ 16 ∧ cols ≤ 16
    ∧ formatVx tc.format = true ∧ tc.rowBytes ≤ tc.stride
    ∧ (∀ off ∈ s.slotRegs n program (slotIndex x), s.arrayErrors off = []) ∧ (∀ e ∈ s.mem.upsets, e.1 < pathBase)
    ∧ CleanSpans s (blockReads n ta tb (s.slotReadsB n program (slotIndex x)) (s.fld head ⟨11, 2⟩) (s.fld head ⟨13, 4⟩) rows cols)

/-- What one block leaves (R157, R161, R166, R170): each element of the output where OUTPUT is set, each vector tile register the
element's taps write, and the command one step further. -/
def BlockDone (s t : State) (n : Fin 128) (x : QEntry) (ta tc : Tile) (rows cols : Nat) : Prop :=
  let program := isOp 3 x
  let out := s.fld (slotHead n program (slotIndex x)) ⟨17, 1⟩ = 1
  let e := s.blockElement n x ta (x.tile (cmdField x.cmd 12 6)) (s.slotReadsB n program (slotIndex x))
  (∀ r < rows, ∀ c < cols,
      (out → t.element n tc r c = (vxWrite tc.format (e r c).x).val % 2 ^ formatBits tc.format)
      ∧ ∀ v < 32, t.vreg n v r c = (e r c).vreg (fun v => s.vreg n v r c) v)
    ∧ BytesKept s t (fun a => out ∧ ∃ r < rows, hoopAddr n (tc.base + r * tc.stride) ≤ a
        ∧ a < hoopAddr n (tc.base + r * tc.stride) + cols * (formatBits tc.format / 8))
    ∧ (∀ v < 32, ∀ r < 16, ∀ c < 16, ¬(r < rows ∧ c < cols) → t.vreg n v r c = s.vreg n v r c)
    ∧ t.vlenOf n = s.vlenOf n
    ∧ Replaces s t n 1 x { x.stepPorts.1 with
        workDone := x.stepPorts.2
        block := (rows, cols)
        vregs := s.slotWrites n program (slotIndex x)
        wrote := x.wrote ++ if out then (List.range rows).map (fun r => tc.span n r 0 cols) else [] }

/-- The registers a vector command of core n may write. -/
def VectorRegs (n off : Nat) : Prop :=
  off = Reg.QUEUE_STATUS n 1 ∨ off = Reg.VX_FLAGS n ∨ off = Reg.VX_BLOCK_CYCLES n ∨ off = Reg.VX_HAZARD_CYCLES n
    ∨ off = Reg.VX_VLEN n

end Sys2Proof.Claims

/-- VECTOR_CHAIN, VECTOR_ELEMENT, VECTOR_BLOCK and VECTOR_SET_LENGTH (R156 to R174). -/
def Obligations.VectorBlocksComputeElements : Prop :=
  ∀ (s : State) (n : Fin 128) (x : QEntry),
    (∀ ta tc rows cols, BlockReady s n x ta tc rows cols → s.startable n 1 (isOp 2) = none →
      Does s (.vectorChain n 1) [.core, .mem] (VectorRegs n) fun t => BlockDone s t n x ta tc rows cols)
    ∧ (∀ ta tc rows cols, BlockReady s n x ta tc rows cols → s.startable n 1 (isOp 3) = none →
      Does s (.vectorElement n 1) [.core, .mem] (VectorRegs n) fun t => BlockDone s t n x ta tc rows cols)
    ∧ (∀ ta tc rows cols held, BlockReady s n x ta tc rows cols →
      Does s (.vectorBlock n held) [.core, .mem] (VectorRegs n) fun t => BlockDone s t n x ta tc rows cols
        ∧ (t.rd (Reg.VX_HAZARD_CYCLES n)).toNat = ((s.rd (Reg.VX_HAZARD_CYCLES n)).toNat
          + if s.hazard n x = true then held else 0) % 2 ^ 64)
    ∧ (∀ op blocks, (op, blocks) ∈ [(2, Instr.vectorChain n 0), (3, Instr.vectorElement n 0)] → MayStart s n 1 x op →
      Does s blocks [.core] (VectorRegs n) fun t => Replaces s t n 1 x { x with started := true, waitSince := none })
    ∧ (MayStart s n 1 x 4 → x.workDone = false → x.failed = none →
      (∀ y ∈ s.queue n 1, y.started = true → y.workDone = true ∨ y.failed.isSome = true) →
      Does s (.vectorSetLength n) [.core] (VectorRegs n) fun t =>
        t.vlenOf n = (cmdField x.cmd 6 4 + 1, cmdField x.cmd 10 4 + 1)
          ∧ Replaces s t n 1 x { x with started := true, waitSince := none, steps := 1, workDone := true })

/-- Slot registers of the vector engine (R171, R172): HEAD writes validate the slot, word writes clear VALID, and both are
ignored while the queue holds commands. -/
def Obligations.VectorSlotsValidate : Prop :=
  ∀ (s : State) (who : Requester) (n : Fin 128) (i : Fin 16) (v : Word),
    let busy := s.queue n 1 ≠ [] ∧ s.queueState n 1 ≠ 2
    (∀ program, s.mayWrite who (slotHead n program i) = true →
      let ok := if program = true then ∀ k ≤ Fl.VX_PROGRAM_HEAD_LENGTH.read v, opOk (s.opWord n i k) = true
        else Fl.VX_CHAIN_HEAD_STAGES.read v ≤ 8 ∧ ∀ k < Fl.VX_CHAIN_HEAD_STAGES.read v, stageOk (s.stageWord n i k) = true
      let writes := fun (bit : Nat) (t : State) => t.fld (slotHead n program i) ⟨24, 1⟩ = bit
        ∧ t.rd (slotHead n program i) &&& headBits program = v &&& headBits program
      (busy → Does s (.slotValidate who n program i v) [] (fun off => off = Reg.VX_STATUS n) fun t =>
        t.fld (Reg.VX_STATUS n) Fl.VX_STATUS_WRITE_IGNORED = 1)
      ∧ (¬busy → Fld.read ⟨24, 1⟩ v = 0 →
        Does s (.slotValidate who n program i v) [.mem] (fun off => off = slotHead n program i) (writes 0))
      ∧ (¬busy → Fld.read ⟨24, 1⟩ v = 1 → ok →
        Does s (.slotValidate who n program i v) [.mem] (fun off => off = slotHead n program i) (writes 1))
      ∧ (¬busy → Fld.read ⟨24, 1⟩ v = 1 → ¬ok →
        Does s (.slotValidate who n program i v) [.mem] (fun off => off = slotHead n program i ∨ off = Reg.VX_STATUS n)
          fun t => writes 0 t ∧ t.fld (Reg.VX_STATUS n) Fl.VX_STATUS_SLOT_ERR = 1
            ∧ t.fld (Reg.VX_STATUS n) Fl.VX_STATUS_ERR_SLOT = i.val
            ∧ t.fld (Reg.VX_STATUS n) Fl.VX_STATUS_ERR_PROGRAM = program.toNat))
    ∧ (∀ (program constant : Bool) (k : Fin 32), s.mayWrite who (slotWordReg n program constant i k) = true →
      (busy → Does s (.slotWordWrite who n program constant i k v) [] (fun off => off = Reg.VX_STATUS n) fun t =>
        t.fld (Reg.VX_STATUS n) Fl.VX_STATUS_WRITE_IGNORED = 1)
      ∧ (¬busy → Does s (.slotWordWrite who n program constant i k v) [.mem]
          (fun off => off = slotWordReg n program constant i k ∨ off = slotHead n program i) fun t =>
          t.rd (slotWordReg n program constant i k) = slotWordValue program constant v
            ∧ t.fld (slotHead n program i) ⟨24, 1⟩ = 0
            ∧ t.rd (slotHead n program i) &&& headBits program = s.rd (slotHead n program i) &&& headBits program))

namespace Sys2Proof.Claims

/-- The registers that near and far memory's controllers write as they serve an access. -/
def MemoryRegs (off : Nat) : Prop := 0x2000000 ≤ off ∧ off < 0x2500000

/-- Memory is m, but for latent errors of ribbon entries, which records that are written heal (R371). -/
def MemIs (t : State) (m : MemState) : Prop :=
  t.mem = { m with arrayUpsets := t.mem.arrayUpsets }
    ∧ ∀ e : Nat × Nat, ¬RecordBlock (e.1 / 8 * 8) → (e ∈ t.mem.arrayUpsets ↔ e ∈ m.arrayUpsets)

/-- No latent error stands in far memory or in a write-combining buffer (R369). -/
def SoundFar (s : State) : Prop := ∀ e ∈ s.mem.upsets, e.1 < 2 ^ 44 ∨ stagedBase ≤ e.1

/-- Command x of opcode op is the oldest of queue e of core n with steps left, no further one may start, and x is a plain one: no
check field, nothing gathered, nothing owed to the host, its memory side on this device, whose far memory is sound. -/
def MoverAtWork (s : State) (n : Fin 128) (e : Nat) (x : QEntry) (op : Nat) : Prop :=
  s.running n e (isOp op) = some x ∧ s.startable n e (isOp op) = none ∧ cmdField x.cmd 18 2 = 0 ∧ x.gathers = []
    ∧ x.hostTail = none ∧ s.moverLocal x = true ∧ SoundFar s

/-- Command x has made one step more. -/
def StepMade (s t : State) (n : Fin 128) (e : Nat) (x : QEntry) : Prop :=
  ∃ y, Replaces s t n e x y ∧ y.uid = x.uid ∧ y.cmd = x.cmd ∧ y.steps = x.steps + 1 ∧ y.workDone = x.stepPorts.2
    ∧ y.failed = none ∧ y.outstanding = x.outstanding ∧ y.s0 = x.stepPorts.1.s0 ∧ y.s1 = x.stepPorts.1.s1

/-- Command x makes no further step and will complete ABORTED with a cause and address (R126, R455). -/
def StepFailed (s t : State) (n : Fin 128) (e : Nat) (x : QEntry) (cause port address : Nat) : Prop :=
  ∃ y, Replaces s t n e x y ∧ y.uid = x.uid ∧ y.workDone = true
    ∧ y.failed = some { cause := cause, port := port, address := address }

/-- The bytes of a list of spans, one after the other. -/
def spanBytes (s : State) (spans : List (Nat × Nat)) : List Byte := spans.flatMap (fun p => s.bytesAt p.1 p.2)

/-- An address lies in one of a list of spans. -/
def InSpans (spans : List (Nat × Nat)) (a : Nat) : Prop := ∃ p ∈ spans, p.1 ≤ a ∧ a < p.1 + p.2

/-- No two spans of a list share an address. -/
def SpansApart (spans : List (Nat × Nat)) : Prop := spans.Pairwise fun p q => p.1 + p.2 ≤ q.1 ∨ q.1 + q.2 ≤ p.1

/-- The memory-side and hoop-side addresses of a command's step. -/
def memAddress (x : QEntry) : Nat := (portAddress x.s0).getD 0

end Sys2Proof.Claims

/-- MOVE_READ, MOVE_WRITE and MOVE_COPY on this device's memory (R125, R126, R208): one step moves the dense image of a tile, a step
whose memory side the tenant may not access fails with cause 2, and the front command starts. -/
def Obligations.MoversCopyBytes : Prop :=
  ∀ (s : State) (n : Fin 128) (m : Fin 2) (x : QEntry) (tile : Tile),
    let e := 2 + m.val
    let a := memAddress x
    let regs := fun off => off = Reg.QUEUE_STATUS n e ∨ MemoryRegs off
    (∀ k, (MoverAtWork s n e x 2 → k = Instr.moveRead n m 1 → cmdField x.cmd 25 1 = 0 →
        stepTile (moverTile x) 1 (portAddress x.s1) = .ok tile → inHost a = false →
        s.tenantMay (s.coreTenant n) a tile.dense false = true → CleanSpans s [(a, tile.dense)] → SpansApart (tile.spans n) →
        Does s k [.core, .mem] regs fun t => spanBytes t (tile.spans n) = s.bytesAt a tile.dense
          ∧ BytesKept s t (InSpans (tile.spans n)) ∧ StepMade s t n e x)
      ∧ (MoverAtWork s n e x 2 → k = Instr.moveRead n m 1 → cmdField x.cmd 25 1 = 0 →
        stepTile (moverTile x) 1 (portAddress x.s1) = .ok tile → s.tenantMay (s.coreTenant n) a tile.dense false = false →
        Does s k [.core] regs fun t => StepFailed s t n e x 2 0 a))
    ∧ (∀ k, MoverAtWork s n e x 3 → k = Instr.moveWrite n m 1 → stepTile (moverTile x) 1 (portAddress x.s1) = .ok tile →
        (inHost a = false → s.tenantMay (s.coreTenant n) a tile.dense true = true → CleanSpans s (tile.spans n) →
          Does s k [.core, .mem] regs fun t => t.bytesAt a tile.dense = spanBytes s (tile.spans n)
            ∧ BytesKept s t (InSpans [(a, tile.dense)]) ∧ StepMade s t n e x)
        ∧ (s.tenantMay (s.coreTenant n) a tile.dense true = false →
          Does s k [.core] regs fun t => StepFailed s t n e x 2 0 a))
    ∧ (∀ k b, MoverAtWork s n e x 4 → k = Instr.moveCopy n m 1 → tile = moverTile x → b = (portAddress x.s1).getD 0 →
        (inHost a = false → inHost b = false → s.tenantMay (s.coreTenant n) a tile.dense false = true →
          s.tenantMay (s.coreTenant n) b tile.dense true = true → CleanSpans s [(a, tile.dense)] →
          Does s k [.core, .mem] regs fun t => t.bytesAt b tile.dense = s.bytesAt a tile.dense
            ∧ BytesKept s t (InSpans [(b, tile.dense)]) ∧ StepMade s t n e x)
        ∧ (s.tenantMay (s.coreTenant n) b tile.dense true = false →
          Does s k [.core] regs fun t => StepFailed s t n e x 2 1 b))
    ∧ (∀ op k, (op, k) ∈ [(2, Instr.moveRead n m 0), (3, Instr.moveWrite n m 0), (4, Instr.moveCopy n m 0),
          (5, Instr.moveReduce n m 0)] → MayStart s n e x op →
        Does s k [.core] regs fun t => Replaces s t n e x { x with started := true, waitSince := none })

/-- MOVE_REDUCE on this device's memory (R243 to R245): each cell takes the operation of ADD_OP on its old value and its addend, a long
cell the exact 128-bit sum; no other byte changes. -/
def Obligations.MoveReduceAddsIntoCells : Prop :=
  ∀ (s : State) (n : Fin 128) (m : Fin 2) (x : QEntry) (tile : Tile),
    let e := 2 + m.val
    let a := memAddress x
    let op := cmdField x.cmd 22 3
    let fmt := (moverTile x).format
    let size := cellBytes op fmt
    let image := spanBytes s (tile.spans n)
    let count := image.length / addendBytes fmt
    let addend := fun (i : Nat) => natLE ((image.drop (i * addendBytes fmt)).take (addendBytes fmt))
    let cell := fun (u : State) (i : Nat) => natLE (u.bytesAt (a + i * size) size)
    MoverAtWork s n e x 5 → stepTile (moverTile x) 1 (portAddress x.s1) = .ok tile → reduceFormatOk op fmt = true →
    CleanSpans s (tile.spans n) → CleanSpans s [(a, count * size)] →
    s.addTargetOk (s.coreTenant n) op fmt a (count * size) = true → s.cellsOk op size count a = true →
    (op ≠ 3 → op ≠ 4 → Does s (.moveReduce n m 1) [.core, .mem] (fun off => off = Reg.QUEUE_STATUS n e ∨ MemoryRegs off)
      fun t => (∀ i < count, cell t i = plainAdd op fmt (cell s i) (addend i) % 2 ^ (8 * size))
        ∧ BytesKept s t (InSpans [(a, count * size)]) ∧ StepMade s t n e x)
    ∧ (op = 3 → s.frozenCells size count a = [] → ∃ t, exec (.moveReduce n m 1) s = .next t
        ∧ (∀ i < count, cell s i ≠ 2 ^ 127 → (signedOf 128 (addend i)).natAbs < 2 ^ 111 →
            (signedOf 128 (cell s i) + signedOf 128 (addend i)).natAbs < 2 ^ 127 →
            signedOf 128 (cell t i) = signedOf 128 (cell s i) + signedOf 128 (addend i))
        ∧ BytesKept s t (InSpans [(a, count * size)]) ∧ StepMade s t n e x)

/-- Writes of a mover's check registers and of generator indices (R385, R105): taken while the mover's queue is empty or DISABLED, or the
shuttle stands, and ignored with a flag otherwise. -/
def Obligations.CheckAndIndexWrites : Prop :=
  ∀ (s : State) (who : Requester) (n : Fin 128) (v : Word),
    (∀ m : Fin 2, s.mayWrite who (Reg.MV_CHECK_RUNNING n m) = true →
      ((s.queue n (2 + m) = [] ∨ s.queueState n (2 + m) = 2) →
        Does s (.checkRunningWrite who n m v) [] (fun off => off = Reg.MV_CHECK_RUNNING n m) fun t =>
          t.fld (Reg.MV_CHECK_RUNNING n m) Fl.MV_CHECK_RUNNING_CRC = v.toNat % 2 ^ 32)
      ∧ (¬(s.queue n (2 + m) = [] ∨ s.queueState n (2 + m) = 2) →
        Does s (.checkRunningWrite who n m v) [] (fun off => off = Reg.MV_CHECK_CONTROL n m) fun t =>
          t.fld (Reg.MV_CHECK_CONTROL n m) Fl.MV_CHECK_CONTROL_WRITE_IGNORED = 1))
    ∧ (∀ m : Fin 2, s.mayWrite who (Reg.MV_CHECK_CONTROL n m) = true →
      let off := Reg.MV_CHECK_CONTROL n m
      let chain := Fl.MV_CHECK_CONTROL_CHAIN.read v
      let en := Fl.MV_CHECK_CONTROL_RECORD_EN.read v
      let open_ := s.queue n (2 + m) = [] ∨ s.queueState n (2 + m) = 2
      let kept := chain = s.fld off Fl.MV_CHECK_CONTROL_CHAIN ∧ en = s.fld off Fl.MV_CHECK_CONTROL_RECORD_EN
      Does s (.checkControlWrite who n m v) [] (fun o => o = off) fun t =>
        (open_ → t.fld off Fl.MV_CHECK_CONTROL_CHAIN = chain ∧ t.fld off Fl.MV_CHECK_CONTROL_RECORD_EN = en)
        ∧ (¬open_ → t.fld off Fl.MV_CHECK_CONTROL_CHAIN = s.fld off Fl.MV_CHECK_CONTROL_CHAIN
            ∧ t.fld off Fl.MV_CHECK_CONTROL_RECORD_EN = s.fld off Fl.MV_CHECK_CONTROL_RECORD_EN)
        ∧ (¬open_ → ¬kept → t.fld off Fl.MV_CHECK_CONTROL_WRITE_IGNORED = 1)
        ∧ t.fld off Fl.MV_CHECK_CONTROL_REPORT_LOST = (if Fl.MV_CHECK_CONTROL_REPORT_LOST.read v = 1 then 0
            else s.fld off Fl.MV_CHECK_CONTROL_REPORT_LOST))
    ∧ (∀ (g : Fin 8) (hi : Bool),
      let off := if hi = true then Reg.GEN_INDEX_HI n g else Reg.GEN_INDEX n g
      s.mayWrite who off = true →
      (s.shuttleState n = 1 ∨ s.shuttleState n = 2 →
        Does s (.genIndexWrite who n g hi v) [] (fun o => o = Reg.SHUTTLE_STATUS n) fun t =>
          t.fld (Reg.SHUTTLE_STATUS n) Fl.SHUTTLE_STATUS_WRITE_IGNORED = 1 ∧ t.shuttleState n = s.shuttleState n)
      ∧ (¬(s.shuttleState n = 1 ∨ s.shuttleState n = 2) →
        Does s (.genIndexWrite who n g hi v) [.mem] (fun o => o = off ∨ o = Reg.GEN_CONFIG n g) fun t =>
          (if hi = true then t.fld off Fl.GEN_INDEX_HI_IDX = v.toNat % 2 ^ 32 else t.rd off = v)
            ∧ t.fld (Reg.GEN_CONFIG n g) Fl.GEN_CONFIG_END = 0
            ∧ t.fld (Reg.GEN_CONFIG n g) Fl.GEN_CONFIG_DIMS = s.fld (Reg.GEN_CONFIG n g) Fl.GEN_CONFIG_DIMS))

namespace Sys2Proof.Claims

/-- The registers that the report of a fray of knot k writes (R203). -/
def FrayRegs (s : State) (k off : Nat) : Prop :=
  off = knotStateReg k ∨ off = Reg.KNOT_FRAYED_KNOT (bankOf k) ∨ EventRegs .frayedKnot (s.knotTenant k) off

/-- Transaction a is the next one of its kind whose flow lets it take effect, and `rest` is what then remains (R354). -/
def NextArrival (s : State) (p : Txn → Bool) (a : Arrival) (rest : List Arrival) : Prop :=
  takeArrival (fun t => p t && s.flowReady t) [] s.net.arrived = some (a, rest)

/-- The knot operation of arrival a, taken in on port p, is answered in the port's reply slot with an outcome (R197, R328), and of the
Bride state nothing else changes. -/
def RepliesKnot (s t : State) (a : Arrival) (rest : List Arrival) (p outcome : Nat) (ge : Bool) : Prop :=
  let k := a.txn.address % 2 ^ 17
  (∃ r : ReplyEntry, (t.port p).replies = (s.port p).replies ++ [r] ∧ r.device = a.txn.src ∧ r.tag = a.txn.tag
      ∧ r.count = s.knotCount k ∧ r.word = k + outcome * 2 ^ 17 + ge.toNat * 2 ^ 19)
    ∧ t.net = { s.net with ports := t.net.ports, arrived := rest } ∧ ∀ q ≠ p, t.port q = s.port q

/-- What an accepted remote update does to its knot (R195). -/
def remoteOf (op : Nat) (t : Txn) : RemoteOp :=
  match op with
  | 0 => .set (BitVec.ofNat 32 t.arg)
  | 1 => .add (BitVec.ofNat 32 t.arg)
  | 2 => .fray
  | _ => .arm (BitVec.ofNat 32 t.arg) (bitsOf t.address 49 2) (bitsOf t.address 32 17) t.src

/-- The remote operation is accepted (R185, R193). -/
def RemoteOk (s : State) (op : Nat) (t : Txn) : Prop :=
  let k := t.address % 2 ^ 17
  s.knotTenant k = some t.tenant ∧ s.knotRemoteOk k = true
    ∧ (op = 4 → bitsOf t.address 49 2 ≠ 3
        ∧ (bitsOf t.address 49 2 = 1 → s.knotTenant (bitsOf t.address 32 17) = s.knotTenant k))

end Sys2Proof.Claims

/-- Register writes of a knot (R191, R192, R205): STATE sets count and flag; an armed knot that is reached adds 1 to its return knot
and is disarmed; ARM arms or disarms; TARGET 2 and 3 have no effect (a reading of R205: notes/assumptions/46). -/
def Obligations.KnotRegisterWrites : Prop :=
  ∀ (s : State) (who : Requester) (k : Fin 131072) (v : Word),
    let count := Fl.KNOT_STATE_COUNT.read v
    let frayed := Fl.KNOT_STATE_FRAYED.read v
    let target := Fl.KNOT_ARM_TARGET.read v
    let r := s.fld (knotArmReg k) Fl.KNOT_ARM_RETURN_KNOT
    (s.mayWrite who (knotStateReg k) = true → QuietKnot s k →
      Does s (.knotStateWrite who k v) [] (fun off => off = knotStateReg k ∨ (frayed = 1 ∧ FrayRegs s k off)) fun t =>
        t.knotCount k = count ∧ t.knotFrayed k = (frayed == 1)
          ∧ (frayed = 1 → Reported s t .frayedKnot (s.knotTenant k)))
    ∧ (s.mayWrite who (knotStateReg k) = true → SoundKnot s k → s.knotArmed k = true → frayed = 0 →
        ¬KnotReached count (s.fld (knotArmReg k) Fl.KNOT_ARM_THRESHOLD) →
        Does s (.knotStateWrite who k v) [] (fun off => off = knotStateReg k) fun t =>
          t.knotCount k = count ∧ t.knotArmed k = true)
    ∧ (s.mayWrite who (knotStateReg k) = true → SoundKnot s k → s.knotArmed k = true → frayed = 0 →
        KnotReached count (s.fld (knotArmReg k) Fl.KNOT_ARM_THRESHOLD) →
        s.fld (knotArmReg k) Fl.KNOT_ARM_TARGET = 1 → s.knotTenant k ≠ none → r ≠ k → QuietKnot s r →
        Does s (.knotStateWrite who k v) [] (fun off => off = knotStateReg k ∨ off = knotStateReg r) fun t =>
          t.knotCount k = count ∧ t.knotArmed k = false ∧ t.knotCount r = (s.knotCount r + 1) % 2 ^ 32)
    ∧ (s.mayWrite who (knotArmReg k) = true → 2 ≤ target →
        DoesNothing s (.knotArmWrite who k v) ∧ DoesNothing s (.knotDisarmWrite who k v))
    ∧ (s.mayWrite who (knotArmReg k) = true → target < 2 → QuietKnot s k → s.knotFrayed k = false →
        ¬KnotReached (s.knotCount k) (Fl.KNOT_ARM_THRESHOLD.read v) →
        Does s (.knotArmWrite who k v) [] (fun off => off = knotStateReg k ∨ off = knotArmReg k) fun t =>
          t.knotArmed k = true ∧ t.knotCount k = s.knotCount k
            ∧ t.fld (knotArmReg k) Fl.KNOT_ARM_THRESHOLD = Fl.KNOT_ARM_THRESHOLD.read v
            ∧ t.fld (knotArmReg k) Fl.KNOT_ARM_TARGET = target
            ∧ t.fld (knotArmReg k) Fl.KNOT_ARM_RETURN_KNOT = Fl.KNOT_ARM_RETURN_KNOT.read v)
    ∧ (s.mayWrite who (knotArmReg k) = true → target < 2 → SoundKnot s k →
        Does s (.knotDisarmWrite who k v) [] (fun off => off = knotStateReg k ∨ off = knotArmReg k) fun t =>
          t.knotArmed k = false ∧ t.knotCount k = s.knotCount k
            ∧ t.fld (knotArmReg k) Fl.KNOT_ARM_THRESHOLD = Fl.KNOT_ARM_THRESHOLD.read v
            ∧ t.fld (knotArmReg k) Fl.KNOT_ARM_TARGET = target)

/-- Remote knot operations at their destination (R185, R193, R195 to R197): an accepted update joins the queue to its bank, a refused one is
counted, TEST answers the comparison, and each is answered in the reply slot of the port it came in on. -/
def Obligations.RemoteKnotOperations : Prop :=
  ∀ (s : State) (a : Arrival) (rest : List Arrival) (p : Nat), a.port = some p →
    let k := a.txn.address % 2 ^ 17
    (∀ op c, (op, c) ∈ [(0, Instr.knotSet), (1, .knotAdd), (2, .knotFray), (4, .knotArm)] →
      NextArrival s (isKnotOp op) a rest →
      (RemoteOk s op a.txn → a.dup = false → Does s c [.net, .remoteQ] noReg fun t =>
        t.remoteQ = s.remoteQ ++ [⟨k, remoteOf op a.txn, flowOf a.txn⟩] ∧ RepliesKnot s t a rest p 0 false)
      ∧ (RemoteOk s op a.txn → a.dup = true → Does s c [.net] noReg fun t => RepliesKnot s t a rest p 0 false)
      ∧ (¬RemoteOk s op a.txn → a.dup = false → Does s c [.net] (fun off => off = Reg.KNOT_REMOTE_REFUSED (bankOf k)) fun t =>
        t.fld (Reg.KNOT_REMOTE_REFUSED (bankOf k)) Fl.KNOT_REMOTE_REFUSED_COUNT
            = satNext (s.fld (Reg.KNOT_REMOTE_REFUSED (bankOf k)) Fl.KNOT_REMOTE_REFUSED_COUNT)
          ∧ RepliesKnot s t a rest p 1 false))
    ∧ (NextArrival s (isKnotOp 3) a rest → RemoteOk s 3 a.txn → ∀ ge : Bool,
        (ge = true ↔ KnotReached (s.knotCount k) a.txn.arg) →
        Does s .knotTest [.net] noReg fun t => RepliesKnot s t a rest p 2 ge)

/-- REMOTE_UPDATE_APPLY, NOTIFY_PENDING_DELIVER and TANGLE_SCAN (R192, R195, R199): the oldest accepted update takes effect, a
waiting notification goes to the completion ring, and a tangle, where none is to be acted on, is remembered with the number of scans
that have found it. -/
def Obligations.KnotUpdatesAndNotifications : Prop :=
  ∀ (s : State),
    (∀ u rest, s.remoteQ = u :: rest → u.knot < 2 ^ 17 → QuietKnot s u.knot →
      (∀ v, u.op = .set v → Does s .remoteUpdateApply [.remoteQ] (fun off => off = knotStateReg u.knot) fun t =>
        t.remoteQ = rest ∧ t.knotCount u.knot = v.toNat)
      ∧ (∀ v, u.op = .add v → Does s .remoteUpdateApply [.remoteQ] (fun off => off = knotStateReg u.knot) fun t =>
        t.remoteQ = rest ∧ t.knotCount u.knot = (s.knotCount u.knot + v.toNat) % 2 ^ 32)
      ∧ (u.op = .fray → Does s .remoteUpdateApply [.remoteQ] (FrayRegs s u.knot) fun t =>
        t.remoteQ = rest ∧ t.knotFrayed u.knot = true ∧ Reported s t .frayedKnot (s.knotTenant u.knot))
      ∧ (∀ threshold target ret device, u.op = .arm threshold target ret device → target < 4 → ret < 2 ^ 17 →
          s.knotFrayed u.knot = false → ¬KnotReached (s.knotCount u.knot) threshold.toNat →
          Does s .remoteUpdateApply [.remoteQ] (fun off => off = knotStateReg u.knot ∨ off = knotArmReg u.knot) fun t =>
            t.remoteQ = rest ∧ t.knotArmed u.knot = true ∧ t.fld (knotArmReg u.knot) Fl.KNOT_ARM_THRESHOLD = threshold.toNat
              ∧ t.fld (knotArmReg u.knot) Fl.KNOT_ARM_TARGET = target
              ∧ t.fld (knotArmReg u.knot) Fl.KNOT_ARM_RETURN_KNOT = ret))
    ∧ (∀ (u : Fin 32) (x : Notify) (f : Nat), s.notifies = [x] → x.tenant = u.val → x.knot < 2 ^ 17 →
        s.completionFn u = some f → s.completionFull f = false →
        let ring := Reg.FUNCTION_COMPLETION_RING f
        let size := 2 ^ s.fld ring Fl.FUNCTION_COMPLETION_RING_SIZE
        Does s (.notifyPendingDeliver u) [.notifies] (fun off => off = ring ∨ off = knotStateReg x.knot) fun t =>
          t.notifies = [] ∧ t.flag (knotStateReg x.knot) Fl.KNOT_STATE_PENDING = false
            ∧ t.fld ring Fl.FUNCTION_COMPLETION_RING_WRITE_PTR
              = (s.fld ring Fl.FUNCTION_COMPLETION_RING_WRITE_PTR % size + 1) % size % 2 ^ 16
            ∧ (s.canDma f = true → ∃ bytes, Out.hostWrite f
                (s.fld (Reg.FUNCTION_COMPLETION_BASE f) Fl.FUNCTION_COMPLETION_BASE_ADDR * 4096
                  + s.fld ring Fl.FUNCTION_COMPLETION_RING_WRITE_PTR % size * 32) bytes false ∈ t.out))
    ∧ (∀ (u : Nat) (now : List (Nat × Nat)), u < 32 → s.tick.hold = none → s.tangleOf u = now → now ≠ [] →
        (∀ v < 32, v ≠ u → s.tangleOf v = []) → (∀ v < 32, s.actingCluster ((s.tangleSeen v).1.map (·.1)) = none) →
        Does s .tangleScan [.core] noReg fun t =>
          t.core = { s.core with tangles := s.core.tangles.filter (fun x => decide (32 ≤ x.1)) ++ [(u, now,
            if (s.tangleSeen u).1 = now then (s.tangleSeen u).2 + 1 else 1)] })

namespace Sys2Proof.Claims

/-- No wait begins in the stitch that ends: every front that waits is marked already (R189, R219). -/
def NoNewWaits (s : State) : Prop :=
  (∀ q ∈ s.core.queues, ∀ x, s.waitingFront (q.1 / 4) (q.1 % 4) = some x → x.waitSince.isSome = true)
    ∧ ∀ q ∈ s.tier.queues, ∀ x, s.tierWaiting q.1 = some x → x.since.isSome = true

/-- A device that is no follower, holds no boundary and has no change of role, length, slots or firmware pending. -/
def SteadyTick (s : State) : Prop :=
  s.clocked = true ∧ s.tick.hold = none ∧ s.waitsClearance = false ∧ s.tick.change = none ∧ s.tick.upLen = none
    ∧ s.tick.role = s.fld Reg.TICK_CONTROL Fl.TICK_CONTROL_ROLE ∧ s.tick.role ≠ 2
    ∧ s.fw.retirePending = false ∧ s.fw.activateAt = none ∧ NoNewWaits s
    ∧ ∀ x ∈ s.core.stations, x.2.change = none ∧ x.2.old = []

/-- Slot j of core n activates at boundary b (R48). -/
def ActivatesAt (s : State) (n j b : Nat) : Prop :=
  s.fld (Reg.STATION_CONFIG n j) Fl.STATION_CONFIG_ENABLE = 1 ∧ (s.station n j).start ≤ b
    ∧ b % (s.fld (Reg.STATION_CONFIG n j) Fl.STATION_CONFIG_CADENCE + 1) = s.fld (Reg.STATION_CONFIG n j) Fl.STATION_CONFIG_PHASE

/-- Boundary b has fired (R46, R48, R64): the count, the activations that run, and the pulse. -/
def BoundaryFired (s t : State) (b : Nat) : Prop :=
  (t.rd Reg.TICK_STITCH_COUNT).toNat = b % 2 ^ 64 ∧ t.stitchClock = s.stitchClock + 1
    ∧ (∀ x ∈ s.core.stations, ∀ a, a ∈ (t.station (x.1 / 4) (x.1 % 4)).active ↔
        (a ∈ (s.station (x.1 / 4) (x.1 % 4)).active ∧ b < a.2)
          ∨ (ActivatesAt s (x.1 / 4) (x.1 % 4) b
            ∧ a = (b, b + s.fld (Reg.STATION_CONFIG (x.1 / 4) (x.1 % 4)) Fl.STATION_CONFIG_CADENCE + 1)))
    ∧ t.core = { s.core with stations := t.core.stations }
    ∧ (s.fld Reg.TICK_CONTROL Fl.TICK_CONTROL_TICK_OUT_EN = 1 → Out.tickOut (b % 65536 == 0) ∈ t.out)

/-- The parts that a boundary may touch beside the registers: the slots, and the marks of waits. -/
def boundaryParts : List Part := [.core, .upd, .coll, .tick, .stitchClock]

/-- The registers that a boundary may write: the count and the tick's status. -/
def BoundaryRegs (off : Nat) : Prop := off = Reg.TICK_STITCH_COUNT ∨ off = Reg.TICK_STATUS

end Sys2Proof.Claims

/-- STITCH_BOUNDARY, TICK_IN_EDGE and TICK_IN_LOSS (R46, R48, R57, R58, R64, R65): with no late slot the next boundary fires; with late
SLIP slots it is held and each is counted; an EXTERNAL device fires at its edges, and withholds edges where a wide pulse finds its count out of line. -/
def Obligations.BoundariesFireOrHold : Prop :=
  ∀ (s : State), SteadyTick s →
    let b := s.stitch + 1
    (s.lateSlots b = [] → (s.tick.role = 3 → s.tick.inLost = true) →
      Does s .stitchBoundary boundaryParts BoundaryRegs (BoundaryFired s · b))
    ∧ (s.lateSlots b ≠ [] → (∀ x ∈ s.lateSlots b, x.1 < 128 ∧ s.faultPolicy x.1 = false) → s.tick.role = 0 →
      ∃ t, exec .stitchBoundary s = .next t ∧ t.stitch = s.stitch ∧ t.stitchClock = s.stitchClock
        ∧ t.tick.hold = some { boundary := b, since := s.uptime, clock := s.stitchClock, late := s.lateSlots b }
        ∧ t.fld Reg.TICK_STATUS Fl.TICK_STATUS_HOLDING = 1
        ∧ t.fld Reg.TICK_DROPPED_STITCH Fl.TICK_DROPPED_STITCH_COUNT
          = min 0xFFFFFFFF (s.fld Reg.TICK_DROPPED_STITCH Fl.TICK_DROPPED_STITCH_COUNT + (s.lateSlots b).length)
        ∧ (∀ x ∈ s.lateSlots b, t.bit Reg.EVENT_STICKY Cond.droppedStitch.number = true)
        ∧ t.core = s.core)
    ∧ (s.tick.role = 3 → s.lateSlots b = [] → s.tick.withhold = 0 →
      Does s (.tickInEdge false) boundaryParts BoundaryRegs (BoundaryFired s · b)
      ∧ (b % 65536 = 0 → Does s (.tickInEdge true) boundaryParts BoundaryRegs fun t =>
          BoundaryFired s t b ∧ t.fld Reg.TICK_STATUS Fl.TICK_STATUS_EXTERNAL_ALIGNED = 1))
    ∧ (s.tick.role = 3 → s.tick.withhold = 0 → b % 65536 ≠ 0 →
      ∃ t, exec (.tickInEdge true) s = .next t ∧ t.stitch = s.stitch ∧ t.tick.withhold = b % 65536 - 1
        ∧ t.fld Reg.TICK_IN_SKIPPED Fl.TICK_IN_SKIPPED_COUNT
          = min 0xFFFFFFFF (s.fld Reg.TICK_IN_SKIPPED Fl.TICK_IN_SKIPPED_COUNT + b % 65536)
        ∧ t.fld Reg.TICK_STATUS Fl.TICK_STATUS_EXTERNAL_ALIGNED = 0)
    ∧ (s.tick.role = 3 → Does s .tickInLoss [.tick] (fun off => off = Reg.TICK_STATUS) fun t =>
        t.tick.inLost = true ∧ t.tick.withhold = 0 ∧ t.fld Reg.TICK_STATUS Fl.TICK_STATUS_EXTERNAL_ALIGNED = 0)

/-- Edges that an EXTERNAL device withholds fire nothing, and edges during a hold are skipped (R65); at SLIP_LIMIT the slot that is still late
turns to FAULT, its core's slots are disabled, the core drains and the boundary fires (R61, R62); a follower that loses its phase goes on alone (R56). -/
def Obligations.WithheldEdgesSlipLimitAndHoldover : Prop :=
  (∀ (s : State) (h : Hold) (wide : Bool), s.tick.role = 3 → s.clocked = true → s.tick.hold = some h → s.waitsClearance = false →
    (h.byEdge = true → 0 < s.tick.withhold → NoNewWaits s →
      Does s (.tickInEdge wide) [.upd, .coll, .tick, .stitchClock] (fun off => off = Reg.TICK_STATUS) fun t =>
        t.tick = { s.tick with inLost := false, withhold := s.tick.withhold - 1 } ∧ t.stitchClock = s.stitchClock + 1)
    ∧ (h.byEdge = false →
      Does s (.tickInEdge wide) [.tick] (fun off => off = Reg.TICK_STATUS ∨ off = Reg.TICK_IN_SKIPPED) fun t =>
        t.tick = { s.tick with inLost := false }
          ∧ t.fld Reg.TICK_IN_SKIPPED Fl.TICK_IN_SKIPPED_COUNT
            = satNext (s.fld Reg.TICK_IN_SKIPPED Fl.TICK_IN_SKIPPED_COUNT)
          ∧ t.fld Reg.TICK_STATUS Fl.TICK_STATUS_EXTERNAL_ALIGNED = 0))
  ∧ ((∀ (s : State) (h : Hold) (n j : Nat), n < 128 → j < 4 → s.tick.hold = some h → h.late = [(n, j)] → h.byEdge = false →
      s.tick.role = 0 → s.fld Reg.TICK_CONTROL Fl.TICK_CONTROL_ROLE = 0 → s.tick.change = none → s.tick.upLen = none →
      s.tick.below = [] → s.fw.retirePending = false → s.fw.activateAt = none → NoNewWaits s →
      s.lateAt n j h.boundary = true → s.faultCores n = [n] → s.core.retiring = [] → s.clusterState (n / 16) = 0 →
      s.coreState n = 0 → QuietCore s n → (∀ x ∈ s.core.stations, x.2.change = none ∧ x.2.old = []) →
      h.clock + max 1 (s.fld Reg.TICK_SLIP_LIMIT Fl.TICK_SLIP_LIMIT_STITCHES) ≤ s.stitchClock →
      ∃ t, exec .slipLimit s = .next t ∧ t.tick.hold = none ∧ t.coreState n = 2
        ∧ (t.rd Reg.TICK_STITCH_COUNT).toNat = h.boundary % 2 ^ 64
        ∧ (∀ i < 4, t.fld (Reg.STATION_CONFIG n i) Fl.STATION_CONFIG_ENABLE = 0)
        ∧ (∀ m < 128, m ≠ n → ∀ i < 4, t.rd (Reg.STATION_CONFIG m i) = s.rd (Reg.STATION_CONFIG m i))
        ∧ (t.rd Reg.TICK_SLIP_CYCLES).toNat
          = ((s.rd Reg.TICK_SLIP_CYCLES).toNat + max s.tick.slip ((s.uptime - h.since) * 3)) % 2 ^ 64)
    ∧ (∀ s : State, s.follows = true → s.tick.due = none →
        Does s .holdover [.tick] (fun off => off = Reg.TICK_STATUS) fun t =>
          t.fld Reg.TICK_STATUS Fl.TICK_STATUS_HOLDOVER = 1
            ∧ t.tick = { s.tick with domain := none, asked := none, below := [], heard := [], upLen := none, upCount := none,
                                     skew := none, returned := false })
    ∧ ∀ s : State, s.follows = false → DoesNothing s .holdover)


namespace Sys2Proof.Claims

/-- The boundary B that 16 bits name: the one nearest STITCH_COUNT with those low bits (R327). -/
def NamedBoundary (s : State) (b : BitVec 16) (B : Nat) : Prop :=
  B % 65536 = b.toNat ∧ s.stitch < B + 32768 ∧ B < s.stitch + 32768

/-- An edge for boundary B is queued on each of a list of ports and no other port changes. -/
def EdgesSent (s t : State) (ports : List Nat) (kind slip B : Nat) : Prop :=
  (∀ q, t.port q = { s.port q with
    edges := (s.port q).edges ++ if q ∈ ports then [(kind, slip % 2 ^ 32, B % 65536)] else [] })
    ∧ t.net = { s.net with ports := t.net.ports }

/-- The port towards the master. -/
def upPort (s : State) : Nat := s.fld Reg.TICK_CONTROL Fl.TICK_CONTROL_UPSTREAM_PORT

end Sys2Proof.Claims

/-- Holds and clearances in the tick tree (R55, R59, R60): the first hold from below goes up, or down as a domain hold at the master; the
last clearance does as well, as the announcement at the master; followers pass domain holds and announcements down. -/
def Obligations.TickTreeForwardsEdges : Prop :=
  ∀ (s : State) (p : Fin 24) (b : BitVec 16) (slip : W32) (B : Nat), NamedBoundary s b B →
    let more := max s.tick.slip slip.toNat
    let status := fun off => off = Reg.TICK_STATUS
    let slips := fun off => off = Reg.TICK_STATUS ∨ off = Reg.TICK_SLIP_CYCLES
    let added := fun (t : State) (k : Nat) => (t.rd Reg.TICK_SLIP_CYCLES).toNat
      = ((s.rd Reg.TICK_SLIP_CYCLES).toNat + k) % 2 ^ 64
    (s.staleHold B = true → DoesNothing s (.tickHold p b) ∧ DoesNothing s (.tickDomainHold b)
      ∧ DoesNothing s (.tickAnnounce b slip))
    ∧ (s.staleHold B = false → s.tick.hold = none → (∀ x ∈ s.tick.below, x.2 ≠ B) → (p.val, B) ∉ s.tick.heard →
      (s.tick.role = 1 ∨ s.tick.role = 3 → Does s (.tickHold p b) [.tick, .net] status fun t =>
        t.tick = { s.tick with below := s.tick.below ++ [(p.val, B)], heard := s.tick.heard ++ [(p.val, B)], domain := some B }
          ∧ EdgesSent s t s.portsBelow 3 0 B)
      ∧ (s.follows = true → p.val ≠ upPort s → Does s (.tickHold p b) [.tick, .net] status fun t =>
        t.tick = { s.tick with below := s.tick.below ++ [(p.val, B)], heard := s.tick.heard ++ [(p.val, B)], asked := some B }
          ∧ EdgesSent s t [upPort s] 1 0 B))
    ∧ (s.tick.hold = none → s.tick.below = [(p.val, B)] → s.tick.due = none →
      (s.tick.role = 1 ∨ s.tick.role = 3 → Does s (.tickClear p b slip) [.tick, .net] slips fun t =>
        t.tick = { s.tick with below := [], heard := [], domain := none, asked := none, announced := some (B, more), slip := 0 }
          ∧ added t more ∧ EdgesSent s t s.portsBelow 4 more B)
      ∧ (s.follows = true → Does s (.tickClear p b slip) [.tick, .net] status fun t =>
        t.tick = { s.tick with below := [], slip := 0, sentUp := some (B, more) } ∧ EdgesSent s t [upPort s] 2 more B))
    ∧ (∀ q B', s.isMaster = true ∨ s.follows = true → s.tick.below = [(p.val, B), (q, B')] → B' = B → q ≠ p.val →
      Does s (.tickClear p b slip) [.tick] status fun t => t.tick = { s.tick with below := [(q, B)], slip := more })
    ∧ (s.follows = true → s.staleHold B = false → s.tick.domain ≠ some B →
      Does s (.tickDomainHold b) [.tick, .net] status fun t =>
        t.tick = { s.tick with domain := some B } ∧ EdgesSent s t s.portsBelow 3 0 B)
    ∧ (s.follows = true → s.staleHold B = false → s.tick.due = none → Does s (.tickAnnounce b slip) [.tick, .net] slips fun t =>
        t.tick = { s.tick with domain := none, asked := none, announced := some (B, slip.toNat), heard := [] }
          ∧ added t slip.toNat ∧ EdgesSent s t s.portsBelow 4 slip.toNat B)

/-- The tick's scheduling writes (R43, R45, R47, R71): a length change is pending only where its conditions hold; START_STITCH moves the first
activations; CONFIG is refused whole for PHASE ≥ k, acts at once on a disabled slot and waits on an enabled one. -/
def Obligations.TickWritesSchedule : Prop :=
  ∀ (s : State) (who : Requester) (v : Word),
    (s.mayWrite who Reg.TICK_LEN_CHANGE_AT = true →
      let l := s.fld Reg.TICK_LEN_NEXT Fl.TICK_LEN_NEXT_LEN
      let ok := s.tick.role ≠ 2 ∧ s.fld Reg.TICK_STATUS Fl.TICK_STATUS_LEN_PENDING ≠ 1 ∧ 256 ≤ l ∧ l ≤ 65536
        ∧ 2 * s.fld Reg.TICK_DOMAIN_REACH Fl.TICK_DOMAIN_REACH_CYCLES ≤ l ∧ s.stitch + 3 ≤ v.toNat
      (ok → Does s (.lenChangeSchedule who v) [.tick] (fun off => off = Reg.TICK_LEN_CHANGE_AT ∨ off = Reg.TICK_STATUS) fun t =>
        t.rd Reg.TICK_LEN_CHANGE_AT = v ∧ t.fld Reg.TICK_STATUS Fl.TICK_STATUS_LEN_PENDING = 1
          ∧ t.tick = { s.tick with change := some (l, v.toNat) })
      ∧ (¬ok → DoesNothing s (.lenChangeSchedule who v)))
    ∧ (∀ u : Fin 32, s.mayWrite who (Reg.TICK_TENANT_START_STITCH u) = true →
      let e := max v.toNat (s.stitch + 2)
      Does s (.startStitchWrite who u v) [.core] (fun off => off = Reg.TICK_TENANT_START_STITCH u) fun t =>
        (t.rd (Reg.TICK_TENANT_START_STITCH u)).toNat = e % 2 ^ 64
          ∧ t.core = { s.core with stations := t.core.stations }
          ∧ ∀ x ∈ s.core.stations,
              let n := x.1 / 4
              let j := x.1 % 4
              let st := s.station n j
              let k := s.fld (Reg.STATION_CONFIG n j) Fl.STATION_CONFIG_CADENCE + 1
              let phase := s.fld (Reg.STATION_CONFIG n j) Fl.STATION_CONFIG_PHASE
              let moved := s.coreTenant n = some u.val ∧ s.slotOn n j = true ∧ st.activated = false ∧ st.opened = none
              (moved → phase < k → ∃ first, max e st.enabledAt ≤ first ∧ first < max e st.enabledAt + k ∧ first % k = phase
                ∧ t.station n j = { st with start := max e st.enabledAt, next := first })
              ∧ (¬moved → t.station n j = st))
    ∧ (∀ (n : Fin 128) (j : Fin 4), s.mayWrite who (Reg.STATION_CONFIG n j) = true →
      let r := Reg.STATION_CONFIG n j
      let en := Fl.STATION_CONFIG_ENABLE.read v
      let k := Fl.STATION_CONFIG_CADENCE.read v + 1
      let phase := Fl.STATION_CONFIG_PHASE.read v
      let st := s.station n j
      let stored := fun (t : State) => t.fld r Fl.STATION_CONFIG_ENABLE = en ∧ t.fld r Fl.STATION_CONFIG_CADENCE + 1 = k
        ∧ t.fld r Fl.STATION_CONFIG_PHASE = phase
      let others := fun (t : State) => ∀ m i, ¬(m = n.val ∧ i = j.val) → m < 128 → i < 4 → t.station m i = s.station m i
      (en = 1 → k ≤ phase → Does s (.stationConfigWrite who n j v) [] (fun off => off = r) fun t =>
        t.fld r Fl.STATION_CONFIG_CONFIG_ERR = 1 ∧ t.slotOn n j = s.slotOn n j ∧ t.cadence n j = s.cadence n j
          ∧ t.phaseOf n j = s.phaseOf n j)
      ∧ (en = 0 → s.slotOn n j = false → Does s (.stationConfigWrite who n j v) [] (fun off => off = r) stored)
      ∧ (en = 1 → phase < k → s.slotOn n j = false →
        Does s (.stationConfigWrite who n j v) [.core] (fun off => off = r) fun t =>
          stored t ∧ t.fld r Fl.STATION_CONFIG_CONFIG_ERR = 0 ∧ others t
            ∧ let start := max (s.startStitch n) (s.stitch + 2)
              ∃ first, start ≤ first ∧ first < start + k ∧ first % k = phase
                ∧ (if st.opened.isSome = true then (t.station n j).resume = some first else (t.station n j).next = first)
                ∧ (t.station n j).start = start ∧ (t.station n j).activated = false)
      ∧ (s.slotOn n j = true → ¬(en = 1 ∧ k ≤ phase) →
        Does s (.stationConfigWrite who n j v) [.core] (fun off => off = r) fun t =>
          t.slotOn n j = true ∧ t.cadence n j = s.cadence n j ∧ t.phaseOf n j = s.phaseOf n j ∧ others t
            ∧ t.station n j = { st with change := some (en, k - 1, phase) }))

namespace Sys2Proof.Claims

/-- x, of operation op, is the one entry of tier queue q that has been fetched and may start now (R219): it passes the checks, its
trigger holds, nothing of any queue is in flight, and every move in progress
has started before. -/
def EntryReady (s : State) (q : Fin 32) (x : TierEntry) (op : Nat) : Prop :=
  (s.tierQ q).staged = [x] ∧ (s.tierQ q).fetch = s.tierWp q ∧ (∀ p ∈ s.tier.queues, p.2.flight = []) ∧ s.tierFront q = some x
    ∧ x.op = op ∧ s.triggerHolds (s.tierQueueTenant q) x = true ∧ s.entryInvalid q x = false
    ∧ (x.trigger = 2 → s.knotError x.knot = false) ∧ (∀ k, x.done = some k → QuietKnot s k)
    ∧ ∀ m ∈ s.tier.moves, m.order ≤ s.tier.nextUid

/-- No move, update group or deferred eviction concerns object o, and no charge holder carries it. -/
def CalmObject (s : State) (o : Nat) : Prop :=
  s.movesOf o = [] ∧ s.groupHolds o = false ∧ NatSet.has s.tier.wants o = false ∧ s.holderCharged o = false
    ∧ s.evictPending o = false

/-- The registers an entry's completion writes. -/
def EntryRegs (q : Fin 32) (x : TierEntry) (off : Nat) : Prop :=
  off = Reg.TIER_QUEUE_STATUS q ∨ off = Reg.TIER_QUEUE_ERROR q ∨ ∃ k, x.done = some k ∧ off = knotStateReg k

/-- Entry x has completed OK: its queue is empty, READ_PTR is past it, and DONE_KNOT has counted one (R217, R219). -/
def EntryDone (s t : State) (q : Fin 32) (x : TierEntry) : Prop :=
  (t.tierQ q).staged = [] ∧ (t.tierQ q).flight = []
    ∧ t.fld (Reg.TIER_QUEUE_STATUS q) Fl.TIER_QUEUE_STATUS_READ_PTR = (x.index + 1) % s.ringSize q % 2 ^ 16
    ∧ t.fld (Reg.TIER_QUEUE_STATUS q) Fl.TIER_QUEUE_STATUS_LAST_STATUS = 0
    ∧ ∀ k, x.done = some k → t.knotCount k = (s.knotCount k + 1) % 2 ^ 32

/-- Entry x is in flight and waits for w. -/
def EntryWaits (s t : State) (q : Fin 32) (x : TierEntry) (w : TierWait) : Prop :=
  (t.tierQ q).staged = [] ∧ (t.tierQ q).flight = [{ entry := x, uid := s.tier.nextUid, wait := w }]
    ∧ t.fld (Reg.TIER_QUEUE_STATUS q) Fl.TIER_QUEUE_STATUS_IN_FLIGHT = 1

/-- The swatches of tier r charged to tenant t, and those it has borrowed. -/
def charged (s : State) (t r : Nat) : Nat := s.fld (Reg.TIER_TENANT_CHARGED t r) Fl.TIER_TENANT_CHARGED_SWATCHES
def borrowed (s : State) (t r : Nat) : Nat := s.fld (Reg.TIER_TENANT_BORROWED t r) Fl.TIER_TENANT_BORROWED_SWATCHES

end Sys2Proof.Claims

/-- The operations of schedule-list entries (R218, R222 to R225): promotion, eviction, placing, discarding, pins, with the charges and
reservations they make, where the object is at rest. -/
def Obligations.TierEntriesActOnObjects : Prop :=
  ∀ (s : State) (q : Fin 32) (x : TierEntry) (u : Nat), s.tierQueueTenant q = some u →
    let o := x.object
    let r := s.upTier o
    let n := s.swatches o
    let regs := fun off => EntryRegs q x off ∨ off = Reg.TIER_OBJECT_STATUS o ∨ off = Reg.TIER_TENANT_CHARGED u r
      ∨ off = Reg.TIER_TENANT_BORROWED u r
    let move := fun kind => ({
        object := o, kind := kind, cls := x.cls, order := s.tier.nextUid, entry := some (q.val, s.tier.nextUid) } : TierMove)
    let own := s.byOwner q x = true
    (EntryReady s q x 1 → Does s (.tierNop q) [.tier] (EntryRegs q x) fun t =>
        EntryDone s t q x ∧ t.tier.moves = s.tier.moves)
    ∧ (EntryReady s q x 2 → CalmObject s o → own → s.residency o = 0 →
        (charged s u r + n ≤ s.fld (Reg.TIER_TENANT_QUOTA u r) Fl.TIER_TENANT_QUOTA_SWATCHES →
          Does s (.promote q) [.tier] regs fun t => EntryWaits s t q x .resident ∧ t.residency o = 1
            ∧ charged t u r = charged s u r + n ∧ t.tier.moves = s.tier.moves ++ [move .promote])
        ∧ (s.fld (Reg.TIER_TENANT_QUOTA u r) Fl.TIER_TENANT_QUOTA_SWATCHES < charged s u r + n → x.done = none →
          ∃ t, exec (.promote q) s = .next t ∧ t.residency o = 0 ∧ charged t u r = charged s u r ∧ (t.tierQ q).flight = []
            ∧ t.fld (Reg.TIER_QUEUE_STATUS q) Fl.TIER_QUEUE_STATUS_LAST_STATUS = 4
            ∧ t.fld (Reg.TIER_QUEUE_ERROR q) Fl.TIER_QUEUE_ERROR_STATUS = 4
            ∧ t.fld (Reg.TIER_QUEUE_ERROR q) Fl.TIER_QUEUE_ERROR_ENTRY = x.index % 2 ^ 16
            ∧ Reported s t .quotaExceeded (some u)))
    ∧ (EntryReady s q x 3 → CalmObject s o → s.residency o = 0 → Does s (.evict q) [.tier] (EntryRegs q x) fun t =>
        EntryDone s t q x ∧ t.tier.moves = s.tier.moves)
    ∧ (EntryReady s q x 3 → CalmObject s o → s.residency o = 2 → s.pins o = 0 → s.writable o = true →
        Does s (.evict q) [.tier] regs fun t => EntryWaits s t q x .home ∧ t.residency o = 3
          ∧ charged t u r = charged s u r ∧ t.tier.moves = s.tier.moves ++ [move .writeBack])
    ∧ (EntryReady s q x 4 → CalmObject s o → own → s.residency o = 0 →
        charged s u r + n ≤ s.fld (Reg.TIER_TENANT_QUOTA u r) Fl.TIER_TENANT_QUOTA_SWATCHES →
        Does s (.place q) [.tier] regs fun t => EntryWaits s t q x .headers ∧ t.residency o = 2
          ∧ charged t u r = charged s u r + n ∧ t.tier.moves = s.tier.moves ++ [move .place])
    ∧ (EntryReady s q x 5 → CalmObject s o → own → s.residency o = 2 → s.pins o = 0 → r < 2 →
        s.flag (Reg.TIER_OBJECT_SHARE o) Fl.TIER_OBJECT_SHARE_RELEASE_EN = false →
        Does s (.discard q) [.tier] regs fun t => EntryDone s t q x ∧ t.residency o = 0
          ∧ charged t u r = charged s u r - n ∧ t.tier.moves = s.tier.moves)
    ∧ (EntryReady s q x 6 → own → CalmObject s o → s.residency o ≠ 3 → Does s (.pin q) [.tier] (EntryRegs q x) (EntryDone s · q x))
    ∧ (EntryReady s q x 6 → ¬own → CalmObject s o → s.residency o = 2 → s.pinned o u = false →
        borrowed s u r + n ≤ s.fld (Reg.TIER_TENANT_BORROW_LIMIT u r) Fl.TIER_TENANT_BORROW_LIMIT_SWATCHES →
        Does s (.pin q) [.tier] regs fun t => EntryDone s t q x ∧ t.pinned o u = true ∧ borrowed t u r = borrowed s u r + n
          ∧ charged t u r = charged s u r ∧ t.residency o = 2)
    ∧ (EntryReady s q x 7 → ¬own → CalmObject s o → s.residency o ≠ 3 → s.pinned o u = true → r < 2 →
        Does s (.unpin q) [.tier] regs fun t => EntryDone s t q x ∧ t.pinned o u = false
          ∧ borrowed t u r = borrowed s u r - n ∧ t.residency o = s.residency o)

/-- Tier queues: doorbells fetch entries (R217), an absent queue reports (R96), DRAIN and ENABLE (R221, R98), and the limits of a trigger's
wait and of a drain (R219, R221). -/
def Obligations.TierQueuesRun : Prop :=
  ∀ (s : State) (who : Requester) (q : Fin 32) (ptr : BitVec 16),
    let x := s.tierQ q
    let size := s.ringSize q
    let a := s.fld (Reg.TIER_QUEUE_LIST_BASE q) Fl.TIER_QUEUE_LIST_BASE_ADDR + x.fetch * 32
    (s.mayRing who (s.tierQueueTenant q) (Reg.TIER_QUEUE_DOORBELL q) = true →
      (s.tierQueueAbsent q = true →
        Does s (.tierDoorbell who q ptr) [] (EventRegs .absentUnit (s.tierQueueTenant q)) fun t =>
          Reported s t .absentUnit (s.tierQueueTenant q))
      ∧ (s.tierQueueAbsent q = false → s.tierState q = 0 → x.fetch ≠ ptr.toNat % size → (x.fetch + 1) % size = ptr.toNat % size →
        x.staged.length < 16384 → s.tenantMay (s.tierQueueTenant q) a 32 false = true → inHost a = false → CleanSpans s [(a, 32)] →
        Does s (.tierDoorbell who q ptr) [.tier, .mem]
          (fun off => off = Reg.TIER_QUEUE_DOORBELL q ∨ off = Reg.TIER_QUEUE_STATUS q ∨ MemoryRegs off) fun t =>
          t.fld (Reg.TIER_QUEUE_DOORBELL q) Fl.TIER_QUEUE_DOORBELL_WRITE_PTR = ptr.toNat % size
            ∧ t.tierQ q = { x with staged := x.staged ++ [{ index := x.fetch, bytes := s.bytesAt a 32 }],
                                   fetch := ptr.toNat % size }
            ∧ BytesKept s t fun _ => False))
    ∧ (s.mayWrite who (Reg.TIER_QUEUE_CONTROL q) = true → s.core.retiring = [] → x.fetch = s.tierWp q →
      (s.tierState q = 0 → x.staged = [] → x.flight = [] →
        Does s (.tierQueueDrainReq who q) [.core] (fun off => off = Reg.TIER_QUEUE_STATUS q) fun t =>
          t.tierState q = 2 ∧ OnlyDrains s t)
      ∧ (s.tierState q = 0 → x.staged = [] → x.flight ≠ [] →
        Does s (.tierQueueDrainReq who q) [.core] (fun off => off = Reg.TIER_QUEUE_STATUS q) fun t =>
          t.tierState q = 1 ∧ OnlyDrains s t ∧ t.entryStitch (.tierQueue q) = s.stitch)
      ∧ (∀ e, s.tierState q = 0 → x.staged = [e] → e.here = true → e.done = none → x.flight = [] →
        ∃ t, exec (.tierQueueDrainReq who q) s = .next t ∧ t.tierState q = 2 ∧ (t.tierQ q).staged = []
          ∧ t.fld (Reg.TIER_QUEUE_STATUS q) Fl.TIER_QUEUE_STATUS_LAST_STATUS = 1
          ∧ Reported s t .cancelled (s.tierQueueTenant q))
      ∧ (s.tierState q ≠ 0 → DoesNothing s (.tierQueueDrainReq who q))
      ∧ (s.tierState q = 2 → x.staged = [] → x.flight = [] → s.tierQueueAbsent q = false →
        Does s (.tierQueueEnableReq who q) [] (fun off => off = Reg.TIER_QUEUE_STATUS q) fun t => t.tierState q = 0)
      ∧ (s.tierState q ≠ 2 → DoesNothing s (.tierQueueEnableReq who q)))
    ∧ (∀ e since, s.tierWaiting q = some e → x.staged = [e] → x.fetch = s.tierWp q → e.done = none → e.since = some since →
        since + max 1 (s.fld Reg.TIER_WAIT_LIMIT_STITCHES Fl.TIER_WAIT_LIMIT_STITCHES_STITCHES) ≤ s.stitchClock →
        ∃ t, exec (.tierTriggerWaitLimit q) s = .next t ∧ (t.tierQ q).staged = [] ∧ (t.tierQ q).flight = x.flight
          ∧ t.fld (Reg.TIER_QUEUE_STATUS q) Fl.TIER_QUEUE_STATUS_LAST_STATUS = 2
          ∧ t.fld (Reg.KNOT_WAIT_LIMIT (bankOf e.knot)) Fl.KNOT_WAIT_LIMIT_COUNT
            = satNext (s.fld (Reg.KNOT_WAIT_LIMIT (bankOf e.knot)) Fl.KNOT_WAIT_LIMIT_COUNT)
          ∧ Reported s t .waitLimit (s.tierQueueTenant q) ∧ Reported s t .aborted (s.tierQueueTenant q))
    ∧ (∀ r d, s.core.retiring = [] → s.tierState q = 1 → x.flight = [r] → s.drainOf (.tierQueue q) = some d → d.timedOut = false →
        d.since + min s.tierLimit (d.cap.getD s.tierLimit) ≤ s.stitchClock →
        s.movesOf r.entry.object = [] → r.tookPin = false → r.entry.done = none →
        ∃ t, exec (.tierDrainLimit q) s = .next t ∧ t.tierState q = 2 ∧ (t.tierQ q).flight = []
          ∧ t.fld (Reg.TIER_QUEUE_STATUS q) Fl.TIER_QUEUE_STATUS_LAST_STATUS = 2
          ∧ Reported s t .aborted (s.tierQueueTenant q) ∧ Reported s t .drainTimeout (s.tierQueueTenant q))

/-- SWATCH_MOVE of a promotion (R213, R220): a swatch that passes its check goes to the up copy with the check of its new address; an
unwritten one arrives as its header over zeros. -/
def Obligations.SwatchesMove : Prop :=
  ∀ (s : State) (half : Fin 2) (m : TierMove),
    let o := m.object
    let src := s.homeBase o + 4096 * m.next
    let dst := s.upBase o + 4096 * m.next
    let image := s.bytesAt src 4096
    let may := s.tenantMay (s.objectTenant o) src 4096 false = true ∧ s.tenantMay (s.objectTenant o) dst 4096 true = true
    let written := 0x010000000000 ≤ src ∨ ∃ l ∈ linesOf src 4096, s.pageUnwritten (l / 64) = false ∨ s.lineHeld l = true
    let moved := fun (t : State) (bytes : List Byte) => t.bytesAt dst 4096 = bytes ∧ BytesKept s t (InSpans [(dst, 4096)])
      ∧ t.tier = { s.tier with moves := [{ m with next := m.next + 1 }] }
    s.clocked = true → s.tier.moves = [m] → s.halfOf o = half.val → m.kind = .promote → m.next + 1 < s.swatches o →
    may → inHost src = false → CleanSpans s [(src, 4096)] → SoundFar s →
    (written → headerOk (s.shape o) image = true → headerCheck image = swatchCheck src image →
      Does s (.swatchMove half) [.tier, .mem] MemoryRegs fun t => moved t (withCheck dst image))
    ∧ (¬written →
      Does s (.swatchMove half) [.tier, .mem] MemoryRegs fun t =>
        moved t (withCheck dst (s.headerOf o m.next 0 ++ List.replicate 4032 0)))

namespace Sys2Proof.Claims

/-- The first refusal of R215 for a creation of object o by tenant u with CONTROL v, as CREATE_ERR codes it; 0 for none. -/
def createRefusal (s : State) (u : Option Nat) (o : Nat) (v : Word) : Nat :=
  let home := Fl.TIER_OBJECT_CONTROL_HOME_TIER.read v
  let up := Fl.TIER_OBJECT_CONTROL_UP_TIER.read v
  let n := Fl.TIER_OBJECT_CONTROL_SWATCHES.read v + 1
  let shape : Tile := { base := 0, rows := Fl.TIER_OBJECT_CONTROL_ROWS.read v + 1, cols := Fl.TIER_OBJECT_CONTROL_COLS.read v + 1,
                        format := Fl.TIER_OBJECT_CONTROL_FORMAT.read v, stride := 0, scales := 0 }
  if u.isNone ∨ s.objectTenant o ≠ u then 1
  else if home = 3 ∨ up = 3 ∨ (home = 0 ∧ up ≠ 2) ∨ (home = 1 ∧ up = 1) ∨ s.homeBase o % 4096 ≠ 0 ∨ s.upBase o % 4096 ≠ 0
      ∨ shape.format = 15 ∨ 4032 < shape.dense then 2
  else if s.copyOk (u.getD 0) (s.homeBase o) home n = false ∨ (up ≠ 2 ∧ s.copyOk (u.getD 0) (s.upBase o) up n = false) then 3
  else if s.fld (Reg.TIER_TENANT_QUOTA (u.getD 0) home) Fl.TIER_TENANT_QUOTA_SWATCHES < charged s (u.getD 0) home + n then 4
  else 0

end Sys2Proof.Claims

/-- OBJECT_CREATE and OBJECT_DELETE (R215, R222, R223): an object is created with its home charge, or refused with the first reason that
applies; it is deleted only at HOME, unpinned and named by no entry in flight. -/
def Obligations.ObjectsCreateAndDelete : Prop :=
  ∀ (s : State) (who : Requester) (o : Fin 16384) (v : Word), s.mayWrite who (Reg.TIER_OBJECT_CONTROL o) = true →
    let ctl := Reg.TIER_OBJECT_CONTROL o
    let err := fun (t : State) => t.fld (Reg.TIER_OBJECT_STATUS o) Fl.TIER_OBJECT_STATUS_CREATE_ERR
    let u := s.actsFor who
    let code := createRefusal s u o v
    let home := Fl.TIER_OBJECT_CONTROL_HOME_TIER.read v
    let n := Fl.TIER_OBJECT_CONTROL_SWATCHES.read v + 1
    let valid := s.fld ctl Fl.TIER_OBJECT_CONTROL_VALID
    let charge := Reg.TIER_TENANT_CHARGED (u.getD 0) home
    (valid = 0 → code = 0 →
      Does s (.objectCreate who o v) [] (fun off => off = ctl ∨ off = charge) fun t =>
        t.rd ctl = (Fl.TIER_OBJECT_CONTROL_VALID.write v 1 &&& objectControlMask)
          ∧ charged t (u.getD 0) home = charged s (u.getD 0) home + n)
    ∧ (valid = 0 → 1 ≤ code → code ≤ 3 →
      Does s (.objectCreate who o v) [] (fun off => off = ctl ∨ off = Reg.TIER_OBJECT_STATUS o) fun t =>
        t.fld ctl Fl.TIER_OBJECT_CONTROL_VALID = 0 ∧ err t = code)
    ∧ (valid = 0 → code = 4 → ∃ t, exec (.objectCreate who o v) s = .next t ∧ t.fld ctl Fl.TIER_OBJECT_CONTROL_VALID = 0
        ∧ err t = 4 ∧ Reported s t .quotaExceeded u)
    ∧ (valid = 1 → Does s (.objectCreate who o v) [] (fun off => off = Reg.TIER_OBJECT_STATUS o) fun t => err t = 6)
    ∧ (valid = 1 → s.residency o = 0 → s.pins o = 0 → s.objectInFlight o = false →
      Does s (.objectDelete who o v) [] (fun off => off = ctl ∨ off = Reg.TIER_TENANT_CHARGED (s.ownerNum o) (s.homeTier o)) fun t =>
        t.fld ctl Fl.TIER_OBJECT_CONTROL_VALID = 0
          ∧ charged t (s.ownerNum o) (s.homeTier o) = charged s (s.ownerNum o) (s.homeTier o) - s.swatches o)
    ∧ (valid = 1 → ¬(s.residency o = 0 ∧ s.pins o = 0 ∧ s.objectInFlight o = false) →
      Does s (.objectDelete who o v) [] (fun off => off = Reg.TIER_OBJECT_STATUS o) fun t =>
        err t = 5 ∧ t.fld ctl Fl.TIER_OBJECT_CONTROL_VALID = 1)
    ∧ (valid = 0 → Does s (.objectDelete who o v) [] (fun off => off = ctl) fun t => t.fld ctl Fl.TIER_OBJECT_CONTROL_VALID = 0)

namespace Sys2Proof.Claims

/-- No latent error lies in a row of a far bank. -/
def FarRowClean (s : State) (k pc bank row : Nat) : Prop := s.rowErrors k pc bank row = []

/-- No latent error lies in a row of the die stack. -/
def SramRowClean (s : State) (x : RowTest) : Prop := s.rowWords x = [] ∧ s.rowBytes x = []

/-- The bank regions that stack k has retired or is retiring. -/
def regionsListed (s : State) (k : Nat) : Nat := s.fld (Reg.FAR_RETIRED_PAGES k) Fl.FAR_RETIRED_PAGES_PAGES / 1024

end Sys2Proof.Claims

/-- The far controllers' writes (R238, R242, R249, R259): a held line that is written back leaves the buffer, a batch leaves the write queue,
each line counts in WRITES, 64 for an unwritten page; a refresh shows nowhere. -/
def Obligations.FarControllersWriteBack : Prop :=
  ∀ (s : State) (line : Nat) (k : Fin 8) (pc : Fin 64),
    let writes := fun (u : State) (j : Nat) => (u.rd (Reg.FAR_WRITES j)).toNat
    let mine := s.mem.writeQueue.filter (fun l => farUnit (l * 64) == 1000 + 64 * k.val + pc.val)
    let batch := if 32 ≤ mine.length then mine.take (mine.length - 8) else mine
    let j := line * 64 / 2 ^ 37
    (line * 64 < 2 ^ 40 → (wcbMask line s.mem.wcb).isSome = true → NatSet.has s.mem.wcbBusy j = true → s.lineErrors line = [] →
      Does s (.wcbWriteBack line) [.mem] MemoryRegs fun t =>
        t.mem.wcb = s.mem.wcb.filter (fun l => l.line != line) ∧ t.pageUnwritten (line / 64) = false
          ∧ writes t j = (writes s j + if s.pageUnwritten (line / 64) = true then 64 else 1) % 2 ^ 64
          ∧ BytesKept s t fun _ => False)
    ∧ ((wcbMask line s.mem.wcb = none ∨ NatSet.has s.mem.wcbBusy j = false) → DoesNothing s (.wcbWriteBack line))
    ∧ (Does s (.writeBatch k pc) [.mem] (fun off => off = Reg.FAR_WRITES k) fun t =>
        MemIs t { s.mem with writeQueue := s.mem.writeQueue.filter (fun l => !batch.contains l), written := t.mem.written,
                             upsets := t.mem.upsets }
          ∧ (∀ e ∈ t.mem.upsets, e ∈ s.mem.upsets)
          ∧ (∀ l ∈ batch, t.pageUnwritten (l / 64) = false)
          ∧ ((∀ l ∈ batch, s.pageUnwritten (l / 64) = false) → writes t k = (writes s k + batch.length) % 2 ^ 64))
    ∧ DoesNothing s .perBankRefresh

/-- UNWRITE (R250): a run that passes its checks makes the stack BUSY; when it completes its pages read zero and unwritten, BUSY clears and
DONE_KNOT counts one; a run on an absent stack is refused with code 1. -/
def Obligations.UnwriteErasesPages : Prop :=
  ∀ (s : State) (who : Requester) (k : Fin 8) (v : Word),
    let off := Reg.FAR_UNWRITE_CONTROL k
    let st := Reg.FAR_UNWRITE_STATUS k
    (s.mayWrite who off = true →
      let w := Fl.FAR_UNWRITE_CONTROL_DONE_EN.write (Fl.FAR_UNWRITE_CONTROL_DONE_KNOT.write (Fl.FAR_UNWRITE_CONTROL_PAGES.write
        (s.rd off) (Fl.FAR_UNWRITE_CONTROL_PAGES.read v)) (Fl.FAR_UNWRITE_CONTROL_DONE_KNOT.read v))
        (Fl.FAR_UNWRITE_CONTROL_DONE_EN.read v)
      let code := (s.wr off w).unwriteErr who k
      (code ≠ 0 → Does s (.unwriteStart who k v) [] (fun o => o = off ∨ o = st) fun t =>
        t.rd off = w ∧ t.fld st Fl.FAR_UNWRITE_STATUS_ERR = code % 2 ^ Fl.FAR_UNWRITE_STATUS_ERR.width
          ∧ t.fld st Fl.FAR_UNWRITE_STATUS_BUSY = s.fld st Fl.FAR_UNWRITE_STATUS_BUSY)
      ∧ (s.stackAbsent k = true → code = 1)
      ∧ (code = 0 → Does s (.unwriteStart who k v) [.mem] (fun o => o = off ∨ o = st) fun t =>
        t.rd off = w ∧ t.fld st Fl.FAR_UNWRITE_STATUS_BUSY = 1
          ∧ MemIs t { s.mem with unwrites := s.mem.unwrites ++ [{
              stack := k, first := s.fld (Reg.FAR_UNWRITE_BASE k) Fl.FAR_UNWRITE_BASE_ADDR,
              pages := Fl.FAR_UNWRITE_CONTROL_PAGES.read v + 1,
              knot := if Fl.FAR_UNWRITE_CONTROL_DONE_EN.read v = 1 then some (Fl.FAR_UNWRITE_CONTROL_DONE_KNOT.read v)
                else none }] }))
    ∧ (∀ u : UnwriteRun, s.mem.unwrites = [u] → u.stack = k.val → (∀ d, u.knot = some d → d < 2 ^ 17 ∧ QuietKnot s d) →
        Does s (.unwriteComplete k) [.mem] (fun o => o = st ∨ o = Reg.FAR_WCB_STATUS (u.first * 4096 / 2 ^ 37)
            ∨ ∃ d, u.knot = some d ∧ o = knotStateReg d) fun t =>
          (∀ a, u.first * 4096 ≤ a → a < (u.first + u.pages) * 4096 → t.byteAt a = 0)
          ∧ (∀ p, u.first ≤ p → p < u.first + u.pages → t.pageUnwritten p = true)
          ∧ BytesKept s t (InSpans [(u.first * 4096, u.pages * 4096)])
          ∧ t.mem.unwrites = [] ∧ t.fld st Fl.FAR_UNWRITE_STATUS_BUSY = 0
          ∧ ∀ d, u.knot = some d → t.knotCount d = (s.knotCount d + 1) % 2 ^ 32)

/-- Far self-tests, darning, retirement and its ACK (R253 to R256): a row that passes counts as TRANSIENT, a failing row takes the
next spare, a region's third failure retires it, and Tambour's ACK makes it RETIRED. -/
def Obligations.FarRowsDarnAndRetire : Prop :=
  ∀ (s : State) (k : Fin 8) (pc : Fin 64) (x : RowTest) (p : Nat),
    let i := (s.darns k).length
    let n := regionsListed s k
    (s.mem.tests = [x] → x.unit = 1000 + 64 * k.val + pc.val → FarRowClean s k pc x.bank x.row →
      (Does s (.farRowSelfTest k pc false) [.mem] (fun off => off = Reg.FAR_TRANSIENT k) fun t =>
        MemIs t { s.mem with tests := [] }
          ∧ t.fld (Reg.FAR_TRANSIENT k) Fl.FAR_TRANSIENT_COUNT = satNext (s.fld (Reg.FAR_TRANSIENT k) Fl.FAR_TRANSIENT_COUNT))
      ∧ (i < 4096 → (∀ j ∈ s.darns k, s.darnOf k pc x.bank j = true → s.fld (Reg.FAR_DARN k j) Fl.FAR_DARN_ROW ≠ x.row) →
        s.nextSpare k pc x.bank = some p → x.bank < 64 → x.row < 2 ^ 15 →
        s.regionListed k pc x.bank (x.row / 64) = false →
        (s.regionFailures k pc x.bank (x.row / 64) < 2 →
          Does s (.farRowSelfTest k pc true) [.mem, .fw] (fun off => off = Reg.FAR_DARN k i ∨ off = Reg.FAR_ROW_DARNED k
              ∨ EventRegs .rowDarned none off) fun t =>
            t.fld (Reg.FAR_DARN k i) Fl.FAR_DARN_VALID = 1 ∧ t.fld (Reg.FAR_DARN k i) Fl.FAR_DARN_PC = pc
              ∧ t.fld (Reg.FAR_DARN k i) Fl.FAR_DARN_BANK = x.bank ∧ t.fld (Reg.FAR_DARN k i) Fl.FAR_DARN_ROW = x.row
              ∧ t.fld (Reg.FAR_DARN k i) Fl.FAR_DARN_SPARE = p ∧ t.fld (Reg.FAR_DARN k i) Fl.FAR_DARN_DARNS = 1
              ∧ MemIs t { s.mem with tests := [] } ∧ Reported s t .rowDarned none)
        ∧ (2 ≤ s.regionFailures k pc x.bank (x.row / 64) → n < 256 →
          ∃ t, exec (.farRowSelfTest k pc true) s = .next t
            ∧ t.fld (Reg.FAR_RETIRE k n) Fl.FAR_RETIRE_VALID = 1 ∧ t.fld (Reg.FAR_RETIRE k n) Fl.FAR_RETIRE_PC = pc
            ∧ t.fld (Reg.FAR_RETIRE k n) Fl.FAR_RETIRE_BANK = x.bank
            ∧ t.fld (Reg.FAR_RETIRE k n) Fl.FAR_RETIRE_REGION = x.row / 64
            ∧ t.fld (Reg.FAR_RETIRE k n) Fl.FAR_RETIRE_RETIRED = 0 ∧ regionsListed t k = n + 1
            ∧ Reported s t .rowRetired none ∧ Reported s t .rowDarned none)))
    ∧ (∀ who (r : Fin 256) v, s.mayWrite who (Reg.FAR_RETIRE k r) = true →
        (Fl.FAR_RETIRE_ACK.read v = 1 → s.fld (Reg.FAR_RETIRE k r) Fl.FAR_RETIRE_VALID = 1 →
          Does s (.retireAck who k r v) [] (fun off => off = Reg.FAR_RETIRE k r) fun t =>
            t.fld (Reg.FAR_RETIRE k r) Fl.FAR_RETIRE_RETIRED = 1)
        ∧ (¬(Fl.FAR_RETIRE_ACK.read v = 1 ∧ s.fld (Reg.FAR_RETIRE k r) Fl.FAR_RETIRE_VALID = 1) →
          DoesNothing s (.retireAck who k r v)))

/-- Targeted self-tests of the die stack (R377, R378): a row that passes counts as TRANSIENT; a failing row takes the next spare of its
panel, core or die, or one of the four of its array, or stays with NO_SPARE counted. -/
def Obligations.TargetedTestsRemapRows : Prop :=
  ∀ (s : State) (unit : Fin 258) (x : RowTest), s.mem.tests = [x] → x.unit = unit.val → SramRowClean s x →
    let panel := fun off => unit.val < 128 ∧ off = Reg.NEAR_PANEL_STATUS unit
    let spares := Reg.INTEGRITY_SPARES unit
    let used := s.fld spares Fl.INTEGRITY_SPARES_USED
    let total := s.fld spares Fl.INTEGRITY_SPARES_TOTAL
    let arrayUsed := (s.mem.remaps.filter (fun r => r.array == x.array)).length
    let remap := fun (p : Nat) => ({ unit := unit, row := x.row, spare := p, array := x.array } : RowRemap)
    (Does s (.targetedSelfTest unit false) [.mem] (fun off => panel off ∨ off = Reg.INTEGRITY_TRANSIENT) fun t =>
      MemIs t { s.mem with tests := [] }
        ∧ t.fld Reg.INTEGRITY_TRANSIENT Fl.INTEGRITY_TRANSIENT_COUNT
          = satNext (s.fld Reg.INTEGRITY_TRANSIENT Fl.INTEGRITY_TRANSIENT_COUNT)
        ∧ (unit.val < 128 → t.fld (Reg.NEAR_PANEL_STATUS unit) Fl.NEAR_PANEL_STATUS_TESTING = 0))
    ∧ (x.array = none → used < total →
      Does s (.targetedSelfTest unit true) [.mem] (fun off => panel off ∨ off = spares ∨ off = Reg.INTEGRITY_ROW_DARNED
          ∨ EventRegs .rowDarned none off) fun t =>
        t.fld spares Fl.INTEGRITY_SPARES_USED = (used + 1) % 2 ^ Fl.INTEGRITY_SPARES_USED.width
          ∧ MemIs t { s.mem with tests := [], remaps := s.mem.remaps ++ [remap used] } ∧ Reported s t .rowDarned none)
    ∧ (x.array ≠ none → arrayUsed < 4 →
      Does s (.targetedSelfTest unit true) [.mem] (fun off => panel off ∨ off = Reg.INTEGRITY_ROW_DARNED
          ∨ EventRegs .rowDarned none off) fun t =>
        MemIs t { s.mem with tests := [], remaps := s.mem.remaps ++ [remap arrayUsed] } ∧ Reported s t .rowDarned none)
    ∧ (x.array = none ∧ total ≤ used ∨ x.array ≠ none ∧ 4 ≤ arrayUsed →
      Does s (.targetedSelfTest unit true) [.mem] (fun off => panel off ∨ off = Reg.INTEGRITY_NO_SPARE
          ∨ EventRegs .rowDarned none off) fun t =>
        MemIs t { s.mem with tests := [] } ∧ Reported s t .rowDarned none
          ∧ t.fld Reg.INTEGRITY_NO_SPARE Fl.INTEGRITY_NO_SPARE_COUNT
            = satNext (s.fld Reg.INTEGRITY_NO_SPARE Fl.INTEGRITY_NO_SPARE_COUNT))

/-- Bonds (R386 to R388, R391, R392): resends are counted and a second within 1 ms starts a wire test, as does a loss of lock; of a
paired direction the test of the lower number runs first; a failing wire takes a spare, or the bundle drops to half width. -/
def Obligations.BondsRepairAndDegrade : Prop :=
  ∀ (s : State) (b : Fin 5120),
    let last := Sparse.get (fun _ => 0) s.bond.lastFailure b
    let off := Reg.INTEGRITY_BUNDLE b
    (Does s (.bondResend b) [.bond] (fun o => o = Reg.INTEGRITY_BOND_RESEND) fun t =>
      t.fld Reg.INTEGRITY_BOND_RESEND Fl.INTEGRITY_BOND_RESEND_COUNT
          = satNext (s.fld Reg.INTEGRITY_BOND_RESEND Fl.INTEGRITY_BOND_RESEND_COUNT)
        ∧ Sparse.get (fun _ => 0) t.bond.lastFailure b = s.uptime + 1
        ∧ t.bond.testing = if last ≠ 0 ∧ s.uptime + 1 ≤ last + 1000000 then NatSet.add s.bond.testing b else s.bond.testing)
    ∧ (Does s (.lossOfClockLock b) [.bond] noReg fun t =>
      t.bond = { s.bond with testing := NatSet.add s.bond.testing b })
    ∧ (NatSet.has s.bond.testing b = false → ∀ mask, DoesNothing s (.wireTest b mask))
    ∧ (pairedBundle b < b → NatSet.has s.bond.testing (pairedBundle b) = true → ∀ mask, DoesNothing s (.wireTest b mask))
    ∧ (∀ w < 66, s.wireTestRuns b = true → s.bundleState b = 0 → (∀ j < 3, s.spareOf b j = 127) →
      Does s (.wireTest b (BitVec.ofNat 69 (2 ^ w))) [.bond] (fun o => o = off ∨ o = Reg.INTEGRITY_BOND_REPAIRED) fun t =>
        t.spareOf b 0 = w ∧ t.bundleState b = 0 ∧ t.bond = { s.bond with testing := NatSet.del s.bond.testing b }
          ∧ t.fld Reg.INTEGRITY_BOND_REPAIRED Fl.INTEGRITY_BOND_REPAIRED_COUNT
            = satNext (s.fld Reg.INTEGRITY_BOND_REPAIRED Fl.INTEGRITY_BOND_REPAIRED_COUNT))
    ∧ (∀ w < 32, s.wireTestRuns b = true → s.bundleState b = 0 →
      (∀ j < 3, s.spareOf b j ≠ 127 ∧ s.spareOf b j ≠ w) →
      ∃ t, exec (.wireTest b (BitVec.ofNat 69 (2 ^ w))) s = .next t ∧ t.bundleState b = 1
        ∧ t.fld off Fl.INTEGRITY_BUNDLE_INTACT_HALF = 1 ∧ (1024 ≤ b.val → Reported s t .bondDegraded none))

namespace Sys2Proof.Claims

/-- Every step machine is outside APPLYING, so no step commits with this command (R297). -/
def NoCommit (s : State) : Prop := ∀ t < 32, s.gateState t ≠ 4

/-- Status field f of group g. -/
def groupStatus (s : State) (g : Nat) (f : Fld) : Nat := s.fld (Reg.GROUP_STATUS g) f

end Sys2Proof.Claims

/-- GROUP_CREATE and GROUP_DELETE (R266, R267): a group that passes the checks exists with the fields of the write, a refusal leaves its
code and no group; UNIT of a group that exists is locked; only an IDLE group is deleted, at once outside a step and at the step's end in one
(the model's choice, notes/assumptions/114). -/
def Obligations.GroupsCreateAndDelete : Prop :=
  ∀ (s : State) (who : Requester) (g : Fin 4096) (v : Word), s.mayWrite who (Reg.GROUP_CONTROL g) = true →
    let ctl := Reg.GROUP_CONTROL g
    let w := Fl.GROUP_CONTROL_VALID.write v 1 &&& groupControlMask
    let w0 := Fl.GROUP_CONTROL_VALID.write v 0 &&& groupControlMask
    let code := ((s.wr ctl w).setFld ctl Fl.GROUP_CONTROL_VALID 0).groupError (s.actsFor who) g
    let valid := s.fld ctl Fl.GROUP_CONTROL_VALID
    let owner := (s.groupTenant g).getD 0
    (valid = 0 → code = 0 → ∀ u, s.actsFor who = some u →
      Does s (.groupCreate who g v) [.upd] (fun off => off = ctl ∨ off = Reg.GROUP_STATUS g
          ∨ off = Reg.UNIT_STATUS (Fl.GROUP_CONTROL_UNIT.read v) ∨ off = Reg.DIGEST_STATUS u) fun t =>
        t.rd ctl = w ∧ groupStatus t g Fl.GROUP_STATUS_STRICT_FAIL = 0
          ∧ t.fld (Reg.DIGEST_STATUS u) Fl.DIGEST_STATUS_CURRENT = 0)
    ∧ (valid = 0 → code ≠ 0 →
      Does s (.groupCreate who g v) [] (fun off => off = ctl ∨ off = Reg.GROUP_STATUS g) fun t =>
        t.fld ctl Fl.GROUP_CONTROL_VALID = 0 ∧ groupStatus t g Fl.GROUP_STATUS_CREATE_ERR = code % 8)
    ∧ (s.groupTenant g = none → code = 1)
    ∧ (valid = 1 → Fl.GROUP_CONTROL_UNIT.read v ≠ s.fld ctl Fl.GROUP_CONTROL_UNIT →
      Does s (.groupCreate who g v) [] (fun off => off = ctl ∨ off = Reg.GROUP_STATUS g ∨ off = Reg.DIGEST_STATUS owner) fun t =>
        t.fld ctl Fl.GROUP_CONTROL_UNIT = s.fld ctl Fl.GROUP_CONTROL_UNIT ∧ t.fld ctl Fl.GROUP_CONTROL_VALID = 1
          ∧ groupStatus t g Fl.GROUP_STATUS_CREATE_ERR = 7)
    ∧ (valid = 1 → groupStatus s g Fl.GROUP_STATUS_PHASE = 0 → (s.groupRun g).member = false → s.stateObject g = none →
      Does s (.groupDelete who g v) [.upd] (fun off => off = ctl ∨ off = Reg.GROUP_STATUS g ∨ off = Reg.UNIT_STATUS (s.groupUnit g)
          ∨ off = Reg.DIGEST_STATUS owner) fun t => t.rd ctl = w0 ∧ t.groupRun g = {}
            ∧ groupStatus t g Fl.GROUP_STATUS_STATE_LATE = 0)
    ∧ (valid = 1 → groupStatus s g Fl.GROUP_STATUS_PHASE = 0 → (s.groupRun g).member = true →
      Does s (.groupDelete who g v) [.upd] noReg fun t => t.groupRun g = { s.groupRun g with leaving := true })
    ∧ (valid = 1 → groupStatus s g Fl.GROUP_STATUS_PHASE ≠ 0 →
      Does s (.groupDelete who g v) [] (fun off => off = Reg.GROUP_STATUS g) fun t =>
        t.fld ctl Fl.GROUP_CONTROL_VALID = 1 ∧ groupStatus t g Fl.GROUP_STATUS_CREATE_ERR = 6)
    ∧ (valid = 0 → Does s (.groupDelete who g v) [] (fun off => off = ctl) fun t => t.rd ctl = w0)

/-- Update units in and out of service (R98, R280, R281, R283): DRAIN holds an applying group and owes its tiles, ENABLE returns a DISABLED
unit, at DRAIN_LIMIT the logged entries stay, and late state is reported once. -/
def Obligations.UpdateUnitsDrainAndEnable : Prop :=
  ∀ (s : State) (who : Requester) (u : Fin 40), s.core.retiring = [] →
    let st := Reg.UNIT_STATUS u
    let count := fun (t : State) (off : Nat) => t.fld off ⟨0, 32⟩
    (s.mayWrite who (Reg.UNIT_CONTROL u) = true →
      (s.unitState u = 0 → (∀ g ∈ s.unitGroups u, s.phaseOf_ g ≠ 1) →
        Does s (.updateUnitDrainReq who u) [.core] (fun off => off = st) fun t =>
          t.unitState u = (if s.ledger u = [] then 2 else 1) ∧ OnlyDrains s t)
      ∧ (∀ g, s.unitState u = 0 → s.unitGroups u = [g] → s.phaseOf_ g = 1 → (s.groupRun g).next < s.tileCount g →
        s.fld (Reg.GROUP_WINDOW g) Fl.GROUP_WINDOW_DONE_EN = 0 → s.stateObject g = none →
        Does s (.updateUnitDrainReq who u) [.core] (fun off => off = st ∨ off = Reg.GROUP_STATUS g ∨ off = Reg.UNIT_CANCELLED u
            ∨ EventRegs .cancelled (s.groupTenant g) off) fun t =>
          t.phaseOf_ g = 4 ∧ Reported s t .cancelled (s.groupTenant g)
            ∧ count t (Reg.UNIT_CANCELLED u)
              = min 0xFFFFFFFF (count s (Reg.UNIT_CANCELLED u) + (s.tileCount g - (s.groupRun g).next)))
      ∧ (s.unitState u ≠ 0 → DoesNothing s (.updateUnitDrainReq who u))
      ∧ (∀ lost, s.unitState u = 2 → s.updateUnitAbsent u = false → s.ledger u = [] → (∀ g ∈ s.unitGroups u, s.phaseOf_ g ≠ 4) →
        NoCommit s → Does s (.updateUnitEnableReq who u lost) [] (fun off => off = st) fun t => t.unitState u = 0)
      ∧ (∀ lost, s.unitState u ≠ 2 → DoesNothing s (.updateUnitEnableReq who u lost)))
    ∧ (∀ d e, s.drainOf (.updateUnit u) = some d → d.timedOut = false →
        d.since + min s.updateLimit (d.cap.getD s.updateLimit) ≤ s.stitchClock → s.ledger u = [e] →
        Does s (.updateDrainLimit u) [.core] (fun off => off = st ∨ off = Reg.UNIT_ABORTED u ∨ off = Reg.UNIT_DRAIN_TIMEOUT u
            ∨ EventRegs .aborted (s.groupTenant e.group) off ∨ EventRegs .drainTimeout (s.groupTenant e.group) off) fun t =>
          t.unitState u = 2 ∧ t.ledger u = [e] ∧ OnlyDrains s t
            ∧ Reported s t .aborted (s.groupTenant e.group) ∧ Reported s t .drainTimeout (s.groupTenant e.group)
            ∧ count t (Reg.UNIT_ABORTED u) = satNext (count s (Reg.UNIT_ABORTED u))
            ∧ count t (Reg.UNIT_DRAIN_TIMEOUT u) = satNext (count s (Reg.UNIT_DRAIN_TIMEOUT u)))
    ∧ (∀ (g : Fin 4096) since, (s.groupRun g).holdSince = some since → s.phaseOf_ g = 2 → s.groupUnit g = u.val →
        since + max 1 (s.fld Reg.UPDATE_PROMOTE_LIMIT Fl.UPDATE_PROMOTE_LIMIT_STITCHES) ≤ s.stitchClock →
        (groupStatus s g Fl.GROUP_STATUS_STATE_LATE = 0 →
          Does s (.stateNotResident g) [] (fun off => off = Reg.GROUP_STATUS g ∨ off = Reg.UNIT_STATE_NOT_RESIDENT u
              ∨ EventRegs .stateNotResident (s.groupTenant g) off) fun t =>
            groupStatus t g Fl.GROUP_STATUS_STATE_LATE = 1 ∧ Reported s t .stateNotResident (s.groupTenant g)
              ∧ count t (Reg.UNIT_STATE_NOT_RESIDENT u) = satNext (count s (Reg.UNIT_STATE_NOT_RESIDENT u)))
        ∧ (groupStatus s g Fl.GROUP_STATUS_STATE_LATE = 1 → DoesNothing s (.stateNotResident g)))

/-- SCHEDULE_PROBE shows the multiplier of its step, and RETRY lets a HELD, POISONED group go on (R271, R286); a tile taken under PLAIN writes each
master as fma(−η, g, w × d) with g from its long cell and clears its cells, and TILE_DONE of the oldest entry frees it (R275, R277, R279). -/
def Obligations.UpdatesApplyProbeAndRetry : Prop :=
  (∀ (s : State) (who : Requester) (v : Word),
    (∀ k : Fin 64, s.mayWrite who (Reg.SCHEDULE_PROBE k) = true →
      let step := Fl.SCHEDULE_PROBE_STEP.read v
      let m := (s.schedule k).multiplier step
      Does s (.scheduleProbe who k v) [] (fun off => off = Reg.SCHEDULE_PROBE k) fun t =>
        t.fld (Reg.SCHEDULE_PROBE k) Fl.SCHEDULE_PROBE_STEP = step
          ∧ t.fld (Reg.SCHEDULE_PROBE k) Fl.SCHEDULE_PROBE_VALUE = m % 2 ^ 32
          ∧ (s.fld (Reg.SCHEDULE_CONFIG k) Fl.SCHEDULE_CONFIG_KIND = 0 →
              s.fld (Reg.SCHEDULE_LENGTHS k) Fl.SCHEDULE_LENGTHS_WARMUP = 0 →
              t.fld (Reg.SCHEDULE_PROBE k) Fl.SCHEDULE_PROBE_VALUE = 2 ^ 31))
    ∧ (∀ u : Fin 40, s.mayWrite who (Reg.UNIT_RETRY u) = true →
      let g := Fl.UNIT_RETRY_GROUP.read v
      let held := g ∈ s.validGroups ∧ s.groupUnit g = u.val ∧ groupStatus s g Fl.GROUP_STATUS_PHASE = 4
        ∧ groupStatus s g Fl.GROUP_STATUS_POISONED = 1
      (held → s.stateObject g = none →
        Does s (.updateRetry who u v) [] (fun off => off = Reg.GROUP_STATUS g) fun t =>
          groupStatus t g Fl.GROUP_STATUS_PHASE = 1)
      ∧ (¬held → DoesNothing s (.updateRetry who u v))))
  ∧ (∀ (s : State) (u : Fin 40), s.clocked = true → s.unitState u = 0 → NoCommit s →
    (∀ e : LedgerEntry, s.ledger u = [e] → e.group < 4096 → s.tilesDone e.group + 1 < s.tileCount e.group →
      Does s (.tileDone u 0) [.upd] (fun off => off = Reg.UNIT_STATUS u ∨ off = Reg.UNIT_APPLIED_TILES u
          ∨ off = Reg.GROUP_STATUS e.group) fun t =>
        t.ledger u = [] ∧ t.tilesDone e.group = (s.tilesDone e.group + 1) % 2 ^ 32 ∧ t.phaseOf_ e.group = s.phaseOf_ e.group
          ∧ (t.rd (Reg.UNIT_APPLIED_TILES u)).toNat = ((s.rd (Reg.UNIT_APPLIED_TILES u)).toNat + 1) % 2 ^ 64)
    ∧ (∀ g, s.ledger u = [] → s.nextGroup u = some g → s.clearOnly g = false → s.ruleOf g = 1 → (s.groupRun g).pending = false →
        s.groupUse g 0 Fl.GROUP_CONTROL_EMIT_BF16 = 0 → s.groupUse g 0 Fl.GROUP_CONTROL_EMIT_FP8 = 0 →
        let x := s.groupRun g
        let n := s.tileSize g x.next
        let a := s.accBase g + 4096 * x.next
        let m := s.masterBase g + 1024 * x.next
        CleanSpans s [(a, 16 * n), (m, 4 * n)] → (m + 1024 ≤ a ∨ a + 4096 ≤ m) → a % 4096 = 0 → m % 1024 = 0 →
        s.takesWrites a = true → s.takesWrites m = true → SoundFar s →
        ∃ t, exec (.tileDone u 1) s = .next t ∧ (t.groupRun g).next = x.next + 1
          ∧ (∀ i < n,
              let w := BitVec.ofNat 32 (natLE (s.bytesAt (m + 4 * i) 4))
              let grad := (gradient (s.windowBase g) x.gamma (natLE (s.bytesAt (a + 16 * i) 16))).1
              natLE (t.bytesAt (m + 4 * i) 4) = (fma32 (neg32 x.eta) grad (mul32 w x.d).val).val.toNat)
          ∧ (∀ i < n, natLE (t.bytesAt (a + 16 * i) 16) = 0)
          ∧ BytesKept s t (InSpans [(a, 4096), (m, 4 * n)])))


/-- REQ of GATE_CONTROL (R289, R299): ARM from DISARMED or REFUSED, DISARM from REDUCE or REFUSED, ABANDON from a step that has not decided,
which leaves GATE_LAST's step and decision as they were; elsewhere the request is ignored with a flag. -/
def Obligations.GateRequestsChangeState : Prop :=
  ∀ (s : State) (who : Requester) (u : Fin 32) (v : Word), s.mayWrite who (Reg.GATE_CONTROL u) = true →
    let st := s.gateState u
    let regs := fun off => off = Reg.GATE_CONTROL u ∨ off = Reg.GATE_STATE u
    let ignored := fun (c : Instr) => Does s c [] regs fun t =>
      t.gateState u = st ∧ t.fld (Reg.GATE_STATE u) Fl.GATE_STATE_WRITE_IGNORED = 1
    (st = 0 ∨ st = 5 → Does s (.gateArm who u v) [.upd] regs fun t => t.gateState u = 1
        ∧ t.fld (Reg.GATE_CONTROL u) Fl.GATE_CONTROL_TRIGGER_KNOT = Fl.GATE_CONTROL_TRIGGER_KNOT.read v
        ∧ t.fld (Reg.GATE_CONTROL u) Fl.GATE_CONTROL_STEP_KNOT = Fl.GATE_CONTROL_STEP_KNOT.read v
        ∧ t.fld (Reg.GATE_CONTROL u) Fl.GATE_CONTROL_STEP_KNOT_EN = Fl.GATE_CONTROL_STEP_KNOT_EN.read v)
    ∧ (¬(st = 0 ∨ st = 5) → ignored (.gateArm who u v))
    ∧ (st = 1 ∨ st = 5 → Does s (.gateDisarm who u v) [.upd] regs fun t => t.gateState u = 0)
    ∧ (¬(st = 1 ∨ st = 5) → ignored (.gateDisarm who u v))
    ∧ (1 ≤ st → st ≤ 3 → Fl.GATE_CONTROL_STEP_KNOT_EN.read v = 0 → (∀ g ∈ s.gateMembers u, (s.groupRun g).leaving = false) →
      Does s (.gateAbandon who u v) [.upd] (fun off => regs off ∨ off = Reg.GATE_ABANDONED u ∨ off = Reg.GATE_LAST u) fun t =>
        t.gateState u = 5
          ∧ t.fld (Reg.GATE_LAST u) Fl.GATE_LAST_DECISION = s.fld (Reg.GATE_LAST u) Fl.GATE_LAST_DECISION
          ∧ t.fld (Reg.GATE_LAST u) Fl.GATE_LAST_STEP = s.fld (Reg.GATE_LAST u) Fl.GATE_LAST_STEP
          ∧ t.fld (Reg.GATE_LAST u) Fl.GATE_LAST_CAUSES = 64
          ∧ t.fld (Reg.GATE_ABANDONED u) Fl.GATE_ABANDONED_COUNT
            = satNext (s.fld (Reg.GATE_ABANDONED u) Fl.GATE_ABANDONED_COUNT)
          ∧ ∀ g ∈ s.tenantGroups u, (t.groupRun g).member = false)
    ∧ (¬(1 ≤ st ∧ st ≤ 3) → ignored (.gateAbandon who u v))

/-- The step machine at work (R290, R291, R294, R297 to R301): the trigger latches its parameters and members, the scan's end decides and
refuses a skewed step, a step without groups commits at once, STEP_KNOT counts each commit, and a wait is reported at its limit. -/
def Obligations.GateStepsDecide : Prop :=
  ∀ (s : State) (u : Fin 32),
    let st := s.gateState u
    let x := s.gateRun u
    let w := Reg.GATE_WINDOW u
    (st = 1 → s.clocked = true → s.gateTriggered u = true →
      Does s (.gateTrigger u) [.upd] (fun off => off = Reg.GATE_STATE u) fun t =>
        t.gateState u = 2 ∧ (t.gateRun u).e = s.lossExp u ∧ (t.gateRun u).gw = signedOf 16 (s.fld w Fl.GATE_WINDOW_GW)
          ∧ (t.gateRun u).clip.toNat = s.fld (Reg.GATE_LIMITS u) Fl.GATE_LIMITS_CLIP_NORM
          ∧ (t.gateRun u).limit.toNat = s.fld (Reg.GATE_LIMITS u) Fl.GATE_LIMITS_NORM_LIMIT
          ∧ (t.gateRun u).group = (if s.fld w Fl.GATE_WINDOW_GROUP_VALID = 1 then some (s.fld w Fl.GATE_WINDOW_GROUP) else none)
          ∧ ∀ g ∈ s.tenantGroups u, (t.groupRun g).member = true)
    ∧ ((st ≠ 1 ∨ s.gateTriggered u = false) → DoesNothing s (.gateTrigger u))
    ∧ (st = 2 → s.clocked = true → x.group = none → s.gateMembers u = [] → s.fld (Reg.SCALE_ADDR u) Fl.SCALE_ADDR_EN = 0 →
      ∃ t, exec (.gateScanComplete u) s = .next t ∧ t.gateState u = 1 ∧ t.gateStep u = (s.gateStep u + 1) % 2 ^ 32
        ∧ t.fld (Reg.GATE_LAST u) Fl.GATE_LAST_DECISION = 1 ∧ t.fld (Reg.GATE_LAST u) Fl.GATE_LAST_STEP = s.gateStep u
        ∧ t.fld (Reg.DIGEST_STATUS u) Fl.DIGEST_STATUS_CURRENT = 0
        ∧ (t.gateRun u).due = x.due + s.fld (Reg.GATE_CONTROL u) Fl.GATE_CONTROL_STEP_KNOT_EN)
    ∧ (∀ g, st = 2 → s.clocked = true → x.group = none → s.gateMembers u = [g] → s.unitState (s.groupUnit g) = 0 →
        s.fld (Reg.GROUP_STEP g) Fl.GROUP_STEP_STEP ≠ s.gateStep u → (s.groupRun g).leaving = false →
        ∃ t, exec (.gateScanComplete u) s = .next t ∧ t.gateState u = 5 ∧ t.gateStep u = s.gateStep u
          ∧ t.fld (Reg.GATE_LAST u) Fl.GATE_LAST_DECISION = 3 ∧ t.fld (Reg.GATE_LAST u) Fl.GATE_LAST_CAUSES % 2 = 1
          ∧ Reported s t .stepSkew (some u.val))
    ∧ ((st ≠ 2 ∨ ∃ g ∈ s.gateMembers u, s.unitState (s.groupUnit g) ≠ 0) → DoesNothing s (.gateScanComplete u))
    ∧ (∀ k, k = s.fld (Reg.GATE_CONTROL u) Fl.GATE_CONTROL_STEP_KNOT → x.due ≠ 0 → QuietKnot s k →
        Does s (.stepKnotAdd u) [.upd] (fun off => off = knotStateReg k) fun t =>
          t.knotCount k = (s.knotCount k + 1) % 2 ^ 32 ∧ t.gateRun u = { x with due := x.due - 1 })
    ∧ (x.due = 0 → DoesNothing s (.stepKnotAdd u))
    ∧ (∀ since, x.since = some since → x.raised = false →
        since + max 1 (s.fld (Reg.GATE_WAIT_LIMIT u) Fl.GATE_WAIT_LIMIT_STITCHES) ≤ s.stitchClock →
        Does s (.gateWaitLimit u) [.upd] (fun off => off = Reg.KNOT_WAIT_LIMIT (bankOf (s.gateKnot u))
            ∨ EventRegs .waitLimit (some u.val) off) fun t =>
          t.gateRun u = { x with raised := true } ∧ Reported s t .waitLimit (some u.val)
            ∧ t.fld (Reg.KNOT_WAIT_LIMIT (bankOf (s.gateKnot u))) Fl.KNOT_WAIT_LIMIT_COUNT
              = satNext (s.fld (Reg.KNOT_WAIT_LIMIT (bankOf (s.gateKnot u))) Fl.KNOT_WAIT_LIMIT_COUNT))

namespace Sys2Proof.Claims

/-- The registers of port p, and those of the report of a shed (R332, R335). -/
def PortRegs (p off : Nat) : Prop := (0x3000000 + p * 0x10000 ≤ off ∧ off < 0x3010000 + p * 0x10000) ∨ EventRegs .linkShed none off

/-- Field f of port p's register. -/
def portField (s : State) (p : Nat) (f : Fld) : Nat := s.fld (Reg.BRIDE_PORT_STATUS p) f

/-- Of the Bride state only port p's differs, and it is x. -/
def PortBecomes (s t : State) (p : Nat) (x : PortState) : Prop :=
  t.port p = x ∧ (∀ q ≠ p, t.port q = s.port q) ∧ t.net = { s.net with ports := t.net.ports }

/-- No lane of port p is over its shed limits, so a report of no errors sheds nothing (R329). -/
def CalmLanes (s : State) (p : Nat) : Prop :=
  ∀ l < 8, s.fld (Reg.BRIDE_PORT_LANE_STATUS p l) Fl.BRIDE_PORT_LANE_STATUS_WINDOW_SYMBOLS
        ≤ s.fld (Reg.BRIDE_PORT_SHED_LIMITS p) Fl.BRIDE_PORT_SHED_LIMITS_SYMBOLS
    ∧ s.fld (Reg.BRIDE_PORT_LANE_STATUS p l) Fl.BRIDE_PORT_LANE_STATUS_WINDOW_UNCORRECTABLE
        < max 1 (s.fld (Reg.BRIDE_PORT_SHED_LIMITS p) Fl.BRIDE_PORT_SHED_LIMITS_UNCORRECTABLE)

/-- What a passing flit with acknowledgement a and no NAK does to a port (R322). -/
def ackedBy (x : PortState) (a : Nat) : PortState :=
  let left := x.replay.dropWhile (fun e => decide ((a + 4096 - e.flit.seq % 4096) % 4096 < 2048))
  { x with replay := left, nakFor := none
           resendFrom := x.resendFrom.bind (fun n => if min n left.length = 0 then none else some (min n left.length)) }

/-- Port p once one more flit has come in whose lanes changed no symbol (R314 to R316). -/
def oneMoreFlit (s : State) (p : Nat) : PortState :=
  let x := s.port p
  if beginsStripe x.rxFlits (widthOf (s.rxMap p)) then
    { x with rxFlits := x.rxFlits + 1, lostNow := [], lostBefore := x.lostNow }
  else { x with rxFlits := x.rxFlits + 1 }

/-- A flit that passes on an ACTIVE port that is not draining, with no uncorrectable pair in its stripes, no NAK and no tick edge
(R316, R320, R322, R327). -/
def Passes (s : State) (p : Nat) (f : Flit) : Prop :=
  s.linkUp p = true ∧ s.portState p ≠ 1 ∧ CalmLanes s p ∧ (s.port p).lostNow = [] ∧ (s.port p).lostBefore = []
    ∧ f.fails false = false ∧ f.ack < 2 ^ 15 ∧ f.tickKind = 0

/-- The port's link is DOWN: no lane is in use, the shed is reported as width 0, and replay buffer, numbers and credits stay (R331, R332). -/
def GoesDown (s t : State) (p : Nat) : Prop :=
  t.linkState p = 0 ∧ t.rxMap p = 0 ∧ t.txMap p = 0 ∧ portField t p Fl.BRIDE_PORT_STATUS_RX_WIDTH = 0
    ∧ portField t p Fl.BRIDE_PORT_STATUS_TX_WIDTH = 0 ∧ Reported s t .linkShed none
    ∧ (t.port p).txSeq = (s.port p).txSeq ∧ (t.port p).expected = (s.port p).expected ∧ (t.port p).sent = (s.port p).sent

/-- Lane l of a map of lanes. -/
def hasLane (map l : Nat) : Prop := map / 2 ^ l % 2 = 1

/-- The map is that of the widest of 8, 7, 6 or 4 lanes that the good lanes allow, the highest left out first; 0 below four (R312). -/
def WidestUse (good map : Nat) : Prop :=
  (∀ l, hasLane map l → hasLane good l ∧ l < 8)
    ∧ (widthOf good < 4 → map = 0)
    ∧ (4 ≤ widthOf good → widthOf map = if widthOf good = 5 then 4 else widthOf good)
    ∧ ∀ l m, hasLane map l → m < l → hasLane good m → hasLane map m

/-- Lane l leaves the receive lanes of port p, which are `use` from then on; whether RESTORE retrains it and it fails again is remembered
for that lane alone (R330, R333). -/
def LaneLeaves (s t : State) (p l use : Nat) : Prop :=
  ∃ k, PortBecomes s t p { s.port p with goodLanes := use, rxLanes := use, failing := k }
    ∧ ∀ m < 8, m ≠ l → (hasLane k m ↔ hasLane (s.port p).failing m)

end Sys2Proof.Claims

/-- Flits received (R314 to R316, R319 to R322, R330): a failing flit, or one that an uncorrectable codeword pair touches, counts and asks for a
replay; every passing flit acknowledges; a numbered flit is taken only in order; a control flit updates the credits and starts a change of lanes
at a frame-group boundary. -/
def Obligations.FlitsAreTakenInOrder : Prop :=
  ∀ (s : State) (p : Fin 24) (f : Flit),
    let x := ackedBy (oneMoreFlit s p) (f.ack % 4096)
    let net := fun off => 0x3000000 + p.val * 0x10000 ≤ off ∧ off < 0x3010000 + p.val * 0x10000
    (∀ c, (c = Instr.idleFlit p f {} ∧ f.body = .idle) ∨ (c = .dataFlit p f {} ∧ ∃ bs, f.body = .data bs)
        ∨ (c = .controlFlit p f {} ∧ ∃ b, f.body = .control b) →
      (s.linkUp p = true → CalmLanes s p → f.fails false = true → Does s c [.net] net fun t =>
        PortBecomes s t p { oneMoreFlit s p with nak := true }
          ∧ t.fld (Reg.BRIDE_PORT_FLIT_ERROR p) Fl.BRIDE_PORT_FLIT_ERROR_COUNT
            = satNext (s.fld (Reg.BRIDE_PORT_FLIT_ERROR p) Fl.BRIDE_PORT_FLIT_ERROR_COUNT)
          ∧ portField t p Fl.BRIDE_PORT_STATUS_RETRYING = 1)
      ∧ (s.linkUp p = false → DoesNothing s c))
    ∧ (∀ (l : Fin 8) (errs : List (Nat × Nat)),
        let fec : FecInfo := { changed := List.replicate l.val [] ++ [errs] }
        let lane := Reg.BRIDE_PORT_LANE_STATUS p l
        let count := fun (v : State) (off : Nat) => v.fld off ⟨0, 32⟩
        f.body = .idle → s.linkUp p = true → CalmLanes s p → hasLane (s.rxMap p) l → pairDecode errs = none →
          beginsStripe (s.port p).rxFlits (widthOf (s.rxMap p)) = true →
          flitLost (lanesOf (s.rxMap p)) (s.port p).rxFlits [l.val] (s.port p).lostNow = true →
          s.fld lane Fl.BRIDE_PORT_LANE_STATUS_WINDOW_UNCORRECTABLE + 1
            < max 1 (s.fld (Reg.BRIDE_PORT_SHED_LIMITS p) Fl.BRIDE_PORT_SHED_LIMITS_UNCORRECTABLE) →
          Does s (.idleFlit p f fec) [.net] net fun t => PortBecomes s t p { oneMoreFlit s p with lostNow := [l.val], nak := true }
            ∧ t.fld lane Fl.BRIDE_PORT_LANE_STATUS_WINDOW_UNCORRECTABLE
              = s.fld lane Fl.BRIDE_PORT_LANE_STATUS_WINDOW_UNCORRECTABLE + 1
            ∧ count t (Reg.BRIDE_PORT_FEC_UNCORRECTABLE p) = satNext (count s (Reg.BRIDE_PORT_FEC_UNCORRECTABLE p))
            ∧ count t (Reg.BRIDE_PORT_FLIT_ERROR p) = satNext (count s (Reg.BRIDE_PORT_FLIT_ERROR p)))
    ∧ (f.body = .idle → Passes s p f → Does s (.idleFlit p f {}) [.net] net fun t => PortBecomes s t p x)
    ∧ (∀ bs, f.body = .data bs → Passes s p f →
      (f.seq % 4096 ≠ (s.port p).expected →
        Does s (.dataFlit p f {}) [.net] net fun t => PortBecomes s t p { x with nak := true })
      ∧ (f.seq % 4096 = (s.port p).expected →
        let k := f.cls % 4
        let acc := x.assembly.getD k [] ++ fitBytes 240 bs
        let whole := (32 + natLE ((acc.drop 12).take 2) % 8192 + 239) / 240 * 240 ≤ acc.length
        let y := { x with expected := (x.expected + 1) % 4096, nak := false
                          freed := x.freed.set k ((x.freed.getD k 0 + 1) % 4096)
                          assembly := x.assembly.set k (if whole then [] else acc) }
        (¬whole → Does s (.dataFlit p f {}) [.net] net fun t => PortBecomes s t p y)
        ∧ (whole → (parseTxn k acc).typ = 0x0C ∨ (parseTxn k acc).typ = 0x0D →
          Does s (.dataFlit p f {}) [.net] net fun t => t.port p = y
            ∧ t.net.arrived = s.net.arrived ++ [{ port := some p, txn := parseTxn k acc }])))
    ∧ (∀ b, f.body = .control b → b.replyCount = 0 → b.switchFrame = b.frame → b.tick.flags % 2 = 0 → Passes s p f →
      let z := { x with peerCredits := (List.range 4).map (fun i => b.credits.getD i 0 % 4096), peerRxLanes := b.rxLanes }
      let start := (s.port p).switchFrame = none ∧ b.rxLanes ≠ s.txMap p ∧ 4 ≤ widthOf b.rxLanes ∧ widthOf b.rxLanes ≠ 5
      (¬start → Does s (.controlFlit p f {}) [.net] net fun t => PortBecomes s t p z)
      ∧ (start → Does s (.controlFlit p f {}) [.net] net fun t => ∃ at_,
          PortBecomes s t p { z with txMapNext := b.rxLanes, switchFrame := some at_ }
            ∧ (s.port p).frame + 4 ≤ at_ ∧ at_ < (s.port p).frame + 4 + groupFrames (s.width p)
            ∧ at_ % groupFrames (s.width p) = 0 ∧ portField t p Fl.BRIDE_PORT_STATUS_SWITCH_PENDING = 1))

/-- Lanes shed and restored (R329, R330, R332, R333): windows start again from zero, a lane that loses lock or is named in SHED leaves the lanes asked for,
width changes come into force at their frame, RESTORE and a good retraining bring a lane back unless it fails again, and a lost alignment takes the port DOWN. -/
def Obligations.LanesAreShedAndRestored : Prop :=
  ∀ (s : State) (p : Fin 24) (l : Fin 8),
    let lane := Reg.BRIDE_PORT_LANE_STATUS p l
    let ctl := Reg.BRIDE_PORT_CONTROL p
    let x := s.port p
    let without := mapOf ((lanesOf x.goodLanes).filter (fun m => m != l.val))
    (Does s (.shedWindow p l) [] (fun off => off = lane) fun t =>
      t.fld lane Fl.BRIDE_PORT_LANE_STATUS_WINDOW_SYMBOLS = 0 ∧ t.fld lane Fl.BRIDE_PORT_LANE_STATUS_WINDOW_UNCORRECTABLE = 0
        ∧ t.fld lane Fl.BRIDE_PORT_LANE_STATUS_LOCKED = s.fld lane Fl.BRIDE_PORT_LANE_STATUS_LOCKED)
    ∧ (∀ alignment, s.linkUp p = false → DoesNothing s (.laneLockLoss p l alignment))
    ∧ (s.linkUp p = true → Does s (.laneLockLoss p l true) [.net] (PortRegs p) fun t =>
        GoesDown s t p ∧ (t.port p).replay = x.replay)
    ∧ (∀ use, s.linkUp p = true → hasLane x.goodLanes l → WidestUse without use → use ≠ 0 →
        Does s (.laneLockLoss p l false) [.net] (fun off => off = lane) fun t =>
          LaneLeaves s t p l use ∧ t.fld lane Fl.BRIDE_PORT_LANE_STATUS_LOCKED = 0)
    ∧ (∀ (who : Requester) (v : Word), s.mayWrite who ctl = true → s.linkState p = 2 →
        (∀ use, Fl.BRIDE_PORT_CONTROL_SHED.read v = 2 ^ l.val → Fl.BRIDE_PORT_CONTROL_RESTORE.read v = 0 →
          hasLane x.goodLanes l → WidestUse without use → use ≠ 0 →
          Does s (.laneShedReq who p v) [.net] (fun off => off = ctl) fun t =>
            LaneLeaves s t p l use ∧ hasLane (t.fld ctl Fl.BRIDE_PORT_CONTROL_SHED) l)
        ∧ (Fl.BRIDE_PORT_CONTROL_SHED.read v = 0 → Fl.BRIDE_PORT_CONTROL_RESTORE.read v = 2 ^ l.val →
          hasLane (s.fld (Reg.BRIDE_PORT_LANES p) Fl.BRIDE_PORT_LANES_RX_SHED) l →
          Does s (.laneRestore who p v) [.net] (fun off => off = ctl) fun t =>
            hasLane (t.fld ctl Fl.BRIDE_PORT_CONTROL_RESTORE) l
              ∧ (∃ k, PortBecomes s t p { x with failing := k } ∧ ¬hasLane k l
                ∧ ∀ m < 8, m ≠ l.val → (hasLane k m ↔ hasLane x.failing m))
              ∧ t.fld ctl Fl.BRIDE_PORT_CONTROL_SHED = s.fld ctl Fl.BRIDE_PORT_CONTROL_SHED))
    ∧ (s.linkUp p = true → hasLane (s.fld ctl Fl.BRIDE_PORT_CONTROL_RESTORE) l →
        (¬hasLane x.failing l → Does s (.laneRetrained p l true) [.net] (fun off => off = ctl ∨ off = lane) fun t =>
          ¬hasLane (t.fld ctl Fl.BRIDE_PORT_CONTROL_RESTORE) l ∧ t.fld lane Fl.BRIDE_PORT_LANE_STATUS_LOCKED = 1
            ∧ hasLane (t.port p).goodLanes l ∧ WidestUse (t.port p).goodLanes (t.port p).rxLanes)
        ∧ (∀ ok, ok = false ∨ hasLane x.failing l → Does s (.laneRetrained p l ok) [] (fun off => off = ctl) fun t =>
          ¬hasLane (t.fld ctl Fl.BRIDE_PORT_CONTROL_RESTORE) l))
    ∧ (s.linkUp p = true → ∀ at_, x.switchFrame = some at_ →
        (x.frame < at_ → DoesNothing s (.widthSwitch p false))
        ∧ (at_ ≤ x.frame → Does s (.widthSwitch p false) [.net] (PortRegs p) fun t =>
          t.txMap p = x.txMapNext % 256 ∧ portField t p Fl.BRIDE_PORT_STATUS_TX_WIDTH = widthOf (x.txMapNext % 256)
            ∧ (t.port p).switchFrame = none ∧ t.rxMap p = s.rxMap p
            ∧ (widthOf (x.txMapNext % 256) < widthOf (s.txMap p) → Reported s t .linkShed none)))
    ∧ (∀ f d, s.linkUp p = true → x.rxSwitchFrame = some f → d = (f + 65536 - (x.rxBase + x.rxFlits / 16) % 65536) % 65536 →
      (0 < d ∧ d < 32768 → DoesNothing s (.widthSwitch p true))
      ∧ (¬(0 < d ∧ d < 32768) → Does s (.widthSwitch p true) [.net] (PortRegs p) fun t =>
        t.rxMap p = x.rxSwitchMap % 256 ∧ portField t p Fl.BRIDE_PORT_STATUS_RX_WIDTH = widthOf (x.rxSwitchMap % 256)
          ∧ t.fld (Reg.BRIDE_PORT_LANES p) Fl.BRIDE_PORT_LANES_RX_SHED = 255 - x.rxSwitchMap % 256
          ∧ (t.port p).rxSwitchFrame = none ∧ t.txMap p = s.txMap p
          ∧ (widthOf (x.rxSwitchMap % 256) < widthOf (s.rxMap p) → Reported s t .linkShed none)))

/-- A port at work and out of service (R312, R313, R317, R320, R334): training ends ACTIVE on the widest good lanes that are not shed, with NEIGHBOUR sent, or DOWN; a frame is sixteen flits, exactly
one of kind CONTROL; a drain with nothing unacknowledged ends DISABLED and DOWN at once, at DRAIN_LIMIT what is unacknowledged is dropped. -/
def Obligations.PortsTrainSendDrainAndEnable : Prop :=
  (∀ (s : State) (p : Fin 24),
    (∀ (x : Training) (good rx tx : Nat),
      (∀ l, hasLane good l ↔ l < 8 ∧ hasLane x.rxGood.toNat l ∧ ¬hasLane (s.fld (Reg.BRIDE_PORT_LANES p) Fl.BRIDE_PORT_LANES_RX_SHED) l) →
      WidestUse good rx → WidestUse x.txGood.toNat tx →
      (s.linkState p = 1 → s.portAbsent p = false → s.clocked = true →
        (rx = 0 ∨ tx = 0 → Does s (.linkTrained p x) [.boot] (fun off => off = Reg.BRIDE_PORT_STATUS p) fun t =>
          t.linkState p = 0)
        ∧ (rx ≠ 0 → tx ≠ 0 → s.net.routeHeld = [] → s.net.heldReplies = [] → s.portState p ≠ 1 →
          Does s (.linkTrained p x) [.boot, .net] (PortRegs p) fun t =>
            t.linkState p = 2 ∧ t.rxMap p = rx ∧ t.txMap p = tx ∧ portField t p Fl.BRIDE_PORT_STATUS_RX_WIDTH = widthOf rx
              ∧ portField t p Fl.BRIDE_PORT_STATUS_TX_WIDTH = widthOf tx
              ∧ t.fld (Reg.BRIDE_PORT_DELAY p) Fl.BRIDE_PORT_DELAY_ONE_WAY
                = min 65535 ((x.roundTrip.toNat - x.turnaround.toNat) / 2)
              ∧ (∀ l < 8, t.fld (Reg.BRIDE_PORT_LANE_STATUS p l) Fl.BRIDE_PORT_LANE_STATUS_LOCKED
                  = x.rxGood.toNat / 2 ^ l % 2)
              ∧ (t.port p).frame = 0 ∧ (t.port p).goodLanes = rx
              ∧ (rx ≠ 255 ∨ tx ≠ 255 → t.bit Reg.EVENT_STICKY Cond.linkShed.number = true)
              ∧ (∃ i : TxItem, (t.port p).txQueue = (s.port p).txQueue ++ [i] ∧ i.txn.typ = 0x0D ∧ i.txn.src = s.deviceId)))
      ∧ (s.linkState p ≠ 1 → DoesNothing s (.linkTrained p x)))
    ∧ (let may := s.linkState p = 0 ∧ s.fld (Reg.BRIDE_PORT_CONTROL p) Fl.BRIDE_PORT_CONTROL_AUTO_RETRAIN = 1
          ∧ s.portState p < 2 ∧ s.portAbsent p = false ∧ s.clocked = true
          ∧ 6 ≤ s.fld Reg.SECURITY_BOOT_STATUS Fl.SECURITY_BOOT_STATUS_STAGE
      (may → Does s (.autoRetrain p) [] (fun off => off = Reg.BRIDE_PORT_STATUS p) fun t => t.linkState p = 1)
      ∧ (¬may → DoesNothing s (.autoRetrain p)))
    ∧ (∀ phase : W32, (s.linkUp p = false → DoesNothing s (.linkFrame p phase))
      ∧ (s.linkUp p = true →
        Does s (.linkFrame p phase) [.net] (fun off => off = Reg.BRIDE_PORT_REPLY_DEFERRED p) fun t =>
          (∃ fs, Out.flits p fs ∈ t.out ∧ fs.length = 16 ∧ (fs.filter (fun f => f.kind == 2)).length = 1
            ∧ ∀ f ∈ fs, f.crc = f.computeCrc
                ∧ f.ack = ((s.port p).expected + 4095) % 4096 + if (s.port p).nak = true then 2 ^ 15 else 0)
          ∧ (t.port p).frame = (s.port p).frame + 1 ∧ (t.port p).expected = (s.port p).expected
          ∧ (∀ q : Nat, q ≠ p.val → t.port q = s.port q) ∧ t.net = { s.net with ports := t.net.ports })))
  ∧ (∀ (s : State) (p : Fin 24) (who : Requester) (v : Word), s.core.retiring = [] →
    let ctl := Reg.BRIDE_PORT_CONTROL p
    let x := s.port p
    let plain := s.portAbsent p = false ∧ s.mayWrite who ctl = true ∧ Fl.BRIDE_PORT_CONTROL_SHED.read v = 0 ∧ Fl.BRIDE_PORT_CONTROL_RESTORE.read v = 0
    (plain → s.portState p = 0 → x.txQueue = [] →
      (x.replay = [] → s.linkState p = 2 → Does s (.bridePortDrainReq who p v) [.net, .core] (PortRegs p) fun t =>
        t.portState p = 2 ∧ GoesDown s t p ∧ OnlyDrains s t)
      ∧ (x.replay = [] → s.linkState p ≠ 2 → Does s (.bridePortDrainReq who p v) [.net, .core, .boot] (PortRegs p) fun t =>
        t.portState p = 2 ∧ t.linkState p = 0 ∧ OnlyDrains s t)
      ∧ (x.replay ≠ [] → Does s (.bridePortDrainReq who p v) [.net, .core] (fun off => off = ctl ∨ off = Reg.BRIDE_PORT_STATUS p)
        fun t => t.portState p = 1 ∧ PortBecomes s t p x ∧ OnlyDrains s t
          ∧ t.entryStitch (.port p) = (s.rd Reg.TICK_STITCH_COUNT).toNat))
    ∧ (plain → s.portState p ≠ 0 → Does s (.bridePortDrainReq who p v) [] (fun off => off = ctl) fun _ => True)
    ∧ (plain → s.portState p = 2 →
      Does s (.bridePortEnableReq who p v) [] (fun off => off = ctl ∨ off = Reg.BRIDE_PORT_STATUS p) fun t => t.portState p = 0)
    ∧ (plain → s.portState p ≠ 2 → Does s (.bridePortEnableReq who p v) [] (fun off => off = ctl) fun _ => True)
    ∧ (∀ d limit, limit = max 1 (s.fld (Reg.BRIDE_PORT_DRAIN_LIMIT p) Fl.BRIDE_PORT_DRAIN_LIMIT_STITCHES) →
        s.drainOf (.port p) = some d → d.timedOut = false →
        (s.stitchClock < d.since + min limit (d.cap.getD limit) → DoesNothing s (.portDrainLimit p))
        ∧ (d.since + min limit (d.cap.getD limit) ≤ s.stitchClock → s.portState p = 1 → s.linkState p = 2 → x.txQueue = [] →
          (∀ i ∈ x.replay, i.txn = none) →
          Does s (.portDrainLimit p) [.net, .core]
            (fun off => PortRegs p off ∨ EventRegs .drainTimeout none off) fun t =>
            t.portState p = 2 ∧ GoesDown s t p ∧ (t.port p).replay = [] ∧ Reported s t .drainTimeout none ∧ OnlyDrains s t)))

namespace Sys2Proof.Claims

/-- Device d is another device, and port p is the one ENABLED port with an ACTIVE link that its ROUTE entry names (R341). -/
def SoleWay (s : State) (d p : Nat) : Prop :=
  d < 65280 ∧ d ≠ s.deviceId ∧ (portsOf (s.fld (Reg.ROUTE d) Fl.ROUTE_MASK)).filter s.portUp = [p]

/-- One transaction, of which f holds, is queued on port p as the flit bodies of `out`, no other port changes, and `rest` is what
remains to be handled. -/
def Queues (s t : State) (rest : List Arrival) (p : Nat) (out : Txn → Txn) (f : Txn → Prop) : Prop :=
  (∃ i : TxItem, (t.port p).txQueue = (s.port p).txQueue ++ [i] ∧ f i.txn ∧ i.left = (out i.txn).bodies ∧ i.begun = false)
    ∧ t.net.arrived = rest ∧ ∀ q ≠ p, t.port q = s.port q

/-- One transaction, of which f holds, leaves the routing stage by port p with HOPS one higher (R341). -/
def Sends (s t : State) (rest : List Arrival) (p : Nat) (f : Txn → Prop) : Prop :=
  Queues s t rest p (fun u => { u with hops := u.hops + 1 }) f

/-- One link-local or directed transaction, of which f holds, leaves by port p (R339, R340). -/
def SendsLocal (s t : State) (rest : List Arrival) (p : Nat) (f : Txn → Prop) : Prop := Queues s t rest p (fun u => u) f

/-- Transaction u answers arrival a with a type and ARG (R352). -/
def answersTo (s : State) (a : Arrival) (typ arg : Nat) (u : Txn) : Prop :=
  u.dest = a.txn.src ∧ u.src = s.deviceId ∧ u.typ = typ ∧ u.tag = a.txn.tag ∧ u.seq = a.txn.seq ∧ u.arg = arg

/-- A test of the type of a transaction. -/
def isType (typ : Nat) (t : Txn) : Bool := t.typ == typ

/-- The wholly handled arrival: nothing of the Bride state changes but that it is gone. -/
def Handled (s t : State) (rest : List Arrival) : Prop := t.net = { s.net with arrived := rest }

/-- The source's flow f takes the place of the one for its destination and class, and `rest` is what remains to be handled. -/
def FlowBecomes (s t : State) (rest : List Arrival) (f : TxFlow) : Prop :=
  t.net = { s.net with
    arrived := rest
    txFlows := s.net.txFlows.filter (fun g => !(g.dest == f.dest && g.cls == f.cls)) ++ [f] }

/-- Transaction e of flow f, with a tag, is unanswered; it goes to one device, nothing waits behind it, no answer waits to be taken and no
boundary is held. -/
def Unanswered (s : State) (tag : Nat) (f : TxFlow) (e : TxEntry) : Prop :=
  findEntry tag s.net.txFlows = some (f, e) ∧ e.txn.dest < 65280 ∧ e.refused = none ∧ f.waiting = [] ∧ s.net.answers = []
    ∧ s.tick.hold = none

/-- A flow without the transaction of a tag. -/
def without (f : TxFlow) (tag : Nat) : TxFlow := { f with unacked := f.unacked.filter (fun g => g.txn.tag != tag) }

/-- The command that owns transaction e: command x of queue q of core n, whose earlier transfers have not failed and which
owes no check. -/
def Owns (s : State) (n : Fin 128) (q : Fin 4) (x : QEntry) (e : TxEntry) : Prop :=
  (∃ k, e.owner = .step n q x.uid k) ∧ s.entryUid n q x.uid = some x ∧ x.failed = none ∧ x.checks = []

end Sys2Proof.Claims

/-- Transactions at their destination (R352, R422, R489): a TILE_WRITE stores its bytes and is acknowledged, a TILE_READ is answered with the bytes, a REDUCE
adds, a mailbox message goes to Tambour or to the ring of its tenant, a contribution is kept for its collective; what a tenant may not do is answered NAK RIGHTS. -/
def Obligations.TransactionsActAtDestination : Prop :=
  ∀ (s : State) (a : Arrival) (rest : List Arrival) (p : Nat), SoleWay s a.txn.src p →
    let addr := a.txn.address % 2 ^ 48
    let n := a.txn.payload.length
    let u := a.txn.tenant
    let acks := fun t => Sends s t rest p (answersTo s a 8 0)
    let naks := fun (reason : Nat) (t : State) => Sends s t rest p (answersTo s a 9 reason)
    (NextArrival s (isType 1) a rest → a.dup = false →
      (n ≠ 0 → s.extentOk u addr n true = true → inHost addr = false → a.txn.poison = false → SoundFar s →
        Does s .tileWrite [.net, .mem] MemoryRegs fun t => t.bytesAt addr n = a.txn.payload
          ∧ BytesKept s t (InSpans [(addr, n)]) ∧ acks t)
      ∧ (s.extentOk u addr n true = false → Does s .tileWrite [.net] noReg (naks 3)))
    ∧ (NextArrival s (isType 1) a rest → a.dup = true → s.dma = [] → Does s .tileWrite [.net] noReg acks)
    ∧ (NextArrival s (isType 2) a rest →
      let k := bitsOf a.txn.arg 0 13
      (0 < k → k ≤ 4096 → (linesOf addr k).length ≤ 64 → s.extentOk u addr k false = true → inHost addr = false →
        CleanSpans s [(addr, k)] →
        Does s .tileRead [.net, .mem] MemoryRegs fun t =>
          Sends s t rest p (fun v => v.dest = a.txn.src ∧ v.typ = 3 ∧ v.tag = a.txn.tag ∧ v.payload = s.bytesAt addr k
            ∧ v.poison = false ∧ v.address = 0) ∧ BytesKept s t (fun _ => False))
      ∧ (k = 0 ∨ s.extentOk u addr k false = false → Does s .tileRead [.net] noReg (naks 3)))
    ∧ (NextArrival s (isType 4) a rest →
      let op := bitsOf a.txn.arg 0 3
      let fmt := bitsOf a.txn.arg 4 4
      let size := cellBytes op fmt
      let count := n / addendBytes fmt
      let addend := fun (i : Nat) => natLE ((a.txn.payload.drop (i * addendBytes fmt)).take (addendBytes fmt))
      let cell := fun (v : State) (i : Nat) => natLE (v.bytesAt (addr + i * size) size)
      (a.dup = false → reduceFormatOk op fmt = true → op ≠ 3 → op ≠ 4 → SoundFar s → CleanSpans s [(addr, count * size)] →
        s.addTargetOk (some u) op fmt addr (count * size) = true → s.cellsOk op size count addr = true →
        Does s .reduce [.net, .mem] MemoryRegs fun t =>
          (∀ i < count, cell t i = plainAdd op fmt (cell s i) (addend i) % 2 ^ (8 * size))
            ∧ BytesKept s t (InSpans [(addr, count * size)]) ∧ acks t)
      ∧ (a.dup = false → reduceFormatOk op fmt = true → s.addTargetOk (some u) op fmt addr (count * size) = false →
        Does s .reduce [.net] noReg (naks 3))
      ∧ (a.dup = true → Does s .reduce [.net] noReg acks))
    ∧ (NextArrival s (isType 6) a rest → a.dup = false →
      let box := a.txn.address % 64
      (box = 0 → Does s .mailbox [.net] noReg fun t => Out.toTambour a.txn ∈ t.out ∧ acks t)
      ∧ (32 < box → Does s .mailbox [.net] noReg (naks 3))
      ∧ (1 ≤ box → box ≤ 32 → s.primaryFn (box - 1) = none → findRx a.txn s.net.rxFlows = none →
        Does s .mailbox [.net] noReg (naks 1))
      ∧ (∀ f, 1 ≤ box → box ≤ 32 → s.primaryFn (box - 1) = some f →
        let ring := Reg.FUNCTION_MAILBOX_RING f
        let size := 2 ^ s.fld ring Fl.FUNCTION_MAILBOX_RING_SIZE
        let wp := s.fld ring Fl.FUNCTION_MAILBOX_RING_WRITE_PTR % size
        let full := (wp + 1) % size = s.fld (Reg.FUNCTION_MAILBOX_READ f) Fl.FUNCTION_MAILBOX_READ_READ_PTR % size
        (full → findRx a.txn s.net.rxFlows = none → Does s .mailbox [.net] noReg (naks 1))
        ∧ (¬full → s.fld ring Fl.FUNCTION_MAILBOX_RING_EN = 1 → s.canDma f = true →
          s.fld ring Fl.FUNCTION_MAILBOX_RING_INT_EN = 0 → 64 + n ≤ (s.cfg f).maxPayload → 64 + n ≤ 4096 →
          Does s .mailbox [.net, .dma, .dmaTag] (fun off => off = ring) fun t => Handled s t rest
            ∧ Out.hostWrite f (s.fld (Reg.FUNCTION_MAILBOX_BASE f) Fl.FUNCTION_MAILBOX_BASE_ADDR * 4096 + wp * 8192)
                (mailboxSlot (s.phase ring) a.txn) false ∈ t.out
            ∧ t.fld ring Fl.FUNCTION_MAILBOX_RING_WRITE_PTR = (wp + 1) % size % 2 ^ 16)))
    ∧ (NextArrival s (fun t => t.typ == 7 && (!t.digest || s.digestCurrent (t.tenant % 32))) a rest → a.dup = false →
      a.txn.digest = false → a.txn.abort = false →
      ((∀ e < 16, s.collectiveTenant e ≠ some u) → Does s .collective [.net] noReg (naks 3))
      ∧ ((∃ e < 16, s.collectiveTenant e = some u) → s.collOf a.txn = none →
        (a.txn.arg % 65536 + 65536 - Sparse.get (fun _ => 0) s.coll.seqs u) % 65536 < 32768 →
        Does s .collective [.net, .coll] noReg fun t => t.coll = { s.coll with stored := s.coll.stored ++ [a.txn] } ∧ acks t))

/-- Answers and timers at the source (R344, R349 to R351, R353): an ACK frees the transaction and counts the command's transfer done, NAK RIGHTS and NAK DIGEST abort the
command with cause 4, NAK BUSY, UNDELIVERABLE and a timeout resend until RETRY_LIMIT and then abort with cause 5, a NAK and a timeout at one time once (R357); a READ_RESPONSE fills the step that asked. -/
def Obligations.AnswersEndOrResendTransactions : Prop :=
  ∀ (s : State) (a : Arrival) (rest : List Arrival) (tag : Nat) (f : TxFlow) (e : TxEntry) (n : Fin 128) (q : Fin 4)
    (x : QEntry), Unanswered s tag f e →
    let left := x.outstanding - 1
    let status := fun off => off = Reg.QUEUE_STATUS n q
    (a.txn.tag = tag → a.txn.seq = e.txn.seq → Owns s n q x e →
      (NextArrival s (isType 8) a rest → Does s .ack [.net, .core] status fun t =>
        FlowBecomes s t rest (without f tag) ∧ Replaces s t n q x { x with outstanding := left })
      ∧ (NextArrival s (isType 9) a rest → a.txn.arg = 2 ∨ a.txn.arg = 3 → Does s .nak [.net, .core] status fun t =>
        FlowBecomes s t rest (without f tag) ∧ Replaces s t n q x { x with
          outstanding := left, workDone := true
          failed := some { cause := 4, address := e.txn.address % 2 ^ 48, device := e.txn.dest } }))
    ∧ (∀ c rest, (c = Instr.undeliverable ∧ NextArrival s (isType 0x0A) a rest ∧ a.txn.tag = tag
          ∧ a.txn.seq = e.txn.seq ∧ a.txn.address % 65536 = e.txn.dest)
        ∨ (c = .nak ∧ NextArrival s (isType 9) a rest ∧ a.txn.tag = tag ∧ a.txn.seq = e.txn.seq
          ∧ a.txn.arg = 1)
        ∨ (c = .transportTimeout (BitVec.ofNat 16 tag) ∧ rest = s.net.arrived ∧ tag < 65536) →
      let limit := s.fld Reg.BRIDE_ROUTE_TRANSPORT Fl.BRIDE_ROUTE_TRANSPORT_RETRY_LIMIT
      (e.resent = some (true, s.uptime) → c = .transportTimeout (BitVec.ofNat 16 tag) → DoesNothing s c)
      ∧ (∀ p, (∀ why, e.resent ≠ some (why, s.uptime)) → e.resends < limit → s.idValid = true → e.txn.hops = 0 → numberedType e.txn.typ = true → SoleWay s e.txn.dest p →
        Does s c [.net] (fun off => off = Reg.ROUTE_RESENT) fun t =>
          Sends s t rest p (fun v => v.resend = true ∧ v.seq = e.txn.seq ∧ v.tag = e.txn.tag ∧ v.payload = e.txn.payload)
            ∧ (∃ g ∈ t.net.txFlows, ∃ d ∈ g.unacked, d.txn.tag = tag ∧ d.resends = e.resends + 1)
            ∧ t.fld Reg.ROUTE_RESENT Fl.ROUTE_RESENT_COUNT = satNext (s.fld Reg.ROUTE_RESENT Fl.ROUTE_RESENT_COUNT))
      ∧ ((∀ why, e.resent ≠ some (why, s.uptime)) → limit ≤ e.resends → f.unacked = [e] → Owns s n q x e →
        Does s c [.net, .core] (fun off => off = Reg.ROUTE_UNDELIVERABLE ∨ status off) fun t =>
          FlowBecomes s t rest { f with unacked := [], resync := true }
            ∧ Replaces s t n q x { x with
                outstanding := left, workDone := true
                failed := some { cause := 5, address := e.txn.address % 2 ^ 48, device := e.txn.dest } }
            ∧ t.fld Reg.ROUTE_UNDELIVERABLE Fl.ROUTE_UNDELIVERABLE_COUNT
              = satNext (s.fld Reg.ROUTE_UNDELIVERABLE Fl.ROUTE_UNDELIVERABLE_COUNT)))
    ∧ (∀ g : Gather, NextArrival s (isType 3) a rest → a.txn.tag = tag → a.txn.seq = e.txn.seq → e.owner = .read n q x.uid g.step →
        s.entryUid n q x.uid = some x → x.failed = none → x.checks = [] → x.gathers = [g] → a.txn.payload.length < g.need →
        a.txn.address = 0 → x.hostTail = none →
        Does s .readResponse [.net, .core] status fun t => FlowBecomes s t rest (without f tag)
          ∧ ∃ g' : Gather, Replaces s t n q x { x with outstanding := left, gathers := [g'] } ∧ g'.step = g.step
            ∧ g'.need = g.need - a.txn.payload.length ∧ g'.bytes = splice g.bytes (e.txn.address - g.mem) a.txn.payload)

/-- Timers of the routing stage and of flows, and the transactions between neighbours (R339, R340, R344, R349, R351, R366): a held transaction is given back undeliverable, a held successor discarded,
an idle flow resynchronises; NEIGHBOUR fills its register, a BEACON is compared, a DIRECTED list is followed and answered along
its record (the body of the answer is the model's choice, notes/assumptions/121); a new device ID is told to the neighbours. -/
def Obligations.RoutingTimersAndNeighbours : Prop :=
  ∀ (s : State),
    (∀ (src dest : BitVec 16) (k : Fin 4) (seq : W32),
      let isFlow := fun (g : RxFlow) => g.src == src.toNat && g.dest == dest.toNat && g.cls == k.val
      (s.net.rxFlows.find? isFlow = none → DoesNothing s (.reorderTimeout src dest k seq))
      ∧ (∀ g, s.net.rxFlows.find? isFlow = some g →
        Does s (.reorderTimeout src dest k seq) [.net] (fun off => off = Reg.BRIDE_ROUTE_STATUS) fun t =>
          t.net = { s.net with rxFlows := s.net.rxFlows.filter (fun h => !isFlow h)
            ++ [{ g with held := g.held.filter (fun a => a.txn.seq != seq.toNat) }] }))
    ∧ (∀ (dest : BitVec 16) (k : Fin 4),
      (∀ f, findTx dest.toNat k.val s.net.txFlows = some f →
        (f.unacked = [] ∧ f.waiting = [] → Does s (.flowIdle dest k) [.net] noReg fun t =>
          FlowBecomes s t s.net.arrived { f with resync := true })
        ∧ (¬(f.unacked = [] ∧ f.waiting = []) → DoesNothing s (.flowIdle dest k)))
      ∧ (findTx dest.toNat k.val s.net.txFlows = none → DoesNothing s (.flowIdle dest k)))
    ∧ (let limit := max 1 (s.fld Reg.BRIDE_ROUTE_TRANSPORT Fl.BRIDE_ROUTE_TRANSPORT_ROUTE_WAIT)
      ((∀ h ∈ s.net.routeHeld, s.stitchClock < h.since + limit) →
        ((∀ h ∈ s.net.heldReplies, s.stitchClock < h.since + limit) → DoesNothing s .routeWait)
        ∧ (∀ h, s.net.heldReplies = [h] → h.since + limit ≤ s.stitchClock →
          Does s .routeWait [.net] noReg fun t => t.net = { s.net with heldReplies := [] }))
      ∧ (∀ h p, s.net.routeHeld = [h] → h.since + limit ≤ s.stitchClock → h.txn.typ ≠ 0x0A → SoleWay s h.txn.src p →
        s.net.answers = [] → s.tick.hold = none →
        Does s .routeWait [.net] noReg fun t => t.net.routeHeld = []
          ∧ Sends s t s.net.arrived p (fun v => v.typ = 0x0A ∧ v.dest = h.txn.src ∧ v.tag = h.txn.tag ∧ v.seq = h.txn.seq
            ∧ v.address = h.txn.dest)))
    ∧ (∀ (a : Arrival) (rest : List Arrival),
      let sound := a.txn.malformed = false ∧ a.txn.check = a.txn.computeCheck
      let counted := fun (c : Instr) => a.txn.malformed = false → a.txn.check ≠ a.txn.computeCheck →
        Does s c [.net] (fun off => off = Reg.ROUTE_E2E_MISMATCH) fun t => Handled s t rest
          ∧ t.fld Reg.ROUTE_E2E_MISMATCH Fl.ROUTE_E2E_MISMATCH_COUNT
            = satNext (s.fld Reg.ROUTE_E2E_MISMATCH Fl.ROUTE_E2E_MISMATCH_COUNT)
      (NextArrival s (isType 0x0D) a rest → counted .neighbour
        ∧ ∀ p, a.port = some p → sound → Does s .neighbour [.net] (fun off => off = Reg.NEIGHBOUR p) fun t => Handled s t rest
          ∧ t.fld (Reg.NEIGHBOUR p) Fl.NEIGHBOUR_DEVICE = natLE (a.txn.payload.take 8) % 2 ^ 16
          ∧ t.fld (Reg.NEIGHBOUR p) Fl.NEIGHBOUR_SERIAL = natLE (a.txn.payload.take 8) / 2 ^ 32)
      ∧ (NextArrival s (isType 0x0C) a rest → counted .directed
        ∧ (sound → (a.txn.hops < 16 → payloadByte a.txn a.txn.hops = 0xFF) →
          (a.txn.response = true ∨ a.txn.hops = 0 →
            Does s .directed [.net] noReg fun t => Out.toTambour a.txn ∈ t.out ∧ Handled s t rest)
          ∧ (∀ p, a.txn.response = false → 0 < a.txn.hops → a.txn.hops ≤ 16 → a.txn.payload.length = 32 →
            p = payloadByte a.txn (15 + a.txn.hops) → p < 24 → s.linkUp p = true →
            Does s .directed [.net] noReg fun t => Out.toTambour a.txn ∈ t.out ∧ SendsLocal s t rest p (fun v =>
              v.typ = 0x0C ∧ v.response = true ∧ v.dest = a.txn.src ∧ v.tag = a.txn.tag ∧ v.hops = 1
                ∧ ∀ i < a.txn.hops, payloadByte v i = payloadByte a.txn (15 + a.txn.hops - i))))
        ∧ (∀ p, sound → a.txn.hops < 16 → p = payloadByte a.txn a.txn.hops → p < 24 → s.linkUp p = true →
          Does s .directed [.net] noReg fun t => SendsLocal s t rest p (fun v => v.typ = 0x0C ∧ v.hops = a.txn.hops + 1
            ∧ v.payload = a.txn.payload.set (16 + a.txn.hops) ((a.port.map (BitVec.ofNat 8)).getD 0xFF)
            ∧ v.check = v.computeCheck)))
      ∧ (∀ p, p = (fun (t : Txn) => t.typ == 0x0B && (s.beaconOurs t).all (fun e => s.digestCurrent e.1)) →
        NextArrival s p a rest → counted .beacon
        ∧ (sound → (∀ e ∈ s.beaconOurs a.txn, s.digestMatches e.1 e.2.2 = true) →
          Does s .beacon [.net] noReg fun t => Handled s t rest)
        ∧ (∀ e, sound → s.beaconOurs a.txn = [e] → s.digestMatches e.1 e.2.2 = false →
          Does s .beacon [.net] (fun off => off = Reg.ROUTE_SAMPLER_MISMATCH ∨ EventRegs .samplerMismatch (some e.1) off)
            fun t => Handled s t rest ∧ Reported s t .samplerMismatch (some e.1))))
    ∧ (let told := fun (t : State) (typ : Nat) => ∀ p, p < 24 →
        (s.linkUp p = true → ∃ i : TxItem, (t.port p).txQueue = (s.port p).txQueue ++ [i] ∧ i.txn.typ = typ)
        ∧ (s.linkUp p = false → t.port p = s.port p)
      let off := Reg.BRIDE_ROUTE_CONTROL
      (s.fld Reg.BRIDE_ROUTE_BEACON Fl.BRIDE_ROUTE_BEACON_PERIOD = 0 → DoesNothing s .beaconPeriod)
      ∧ (s.fld Reg.BRIDE_ROUTE_BEACON Fl.BRIDE_ROUTE_BEACON_PERIOD ≠ 0 →
        Does s .beaconPeriod [.net] noReg fun t => told t 0x0B)
      ∧ (∀ (who : Requester) (v : Word), s.mayWrite who off = true →
        let id := Fl.BRIDE_ROUTE_CONTROL_DEVICE_ID.read v
        let valid := Fl.BRIDE_ROUTE_CONTROL_ID_VALID.read v
        (id = s.deviceId → (valid = 1 ↔ s.idValid = true) →
          Does s (.deviceIdWrite who v) [] (fun o => o = off) fun t => t.deviceId = id ∧ t.idValid = s.idValid)
        ∧ (¬(id = s.deviceId ∧ (valid = 1 ↔ s.idValid = true)) → s.net.txFlows = [] → s.net.answers = [] → s.tick.hold = none →
          Does s (.deviceIdWrite who v) [.net] (fun o => o = off ∨ o = Reg.DEVICE_DIGEST_STATUS) fun t =>
            t.deviceId = id ∧ (t.idValid = true ↔ valid = 1)
              ∧ t.fld Reg.DEVICE_DIGEST_STATUS Fl.DEVICE_DIGEST_STATUS_CURRENT = 0 ∧ told t 0x0D)))

namespace Sys2Proof.Claims

/-- Engine e runs nothing, and has fetched everything up to its doorbell (R359). -/
def CollIdle (s : State) (e : Nat) : Prop := (s.collE e).run = none ∧ (s.collE e).fetch = s.collWp e

/-- Descriptor d is the front of engine e's ring, may start now, and its ring has nothing left to fetch. -/
def CollStarts (s : State) (e : Nat) (d : TierEntry) : Prop :=
  s.collFront e = some d ∧ s.triggerHolds (s.collectiveTenant e) d = true ∧ CollIdle s e

/-- Descriptor d has left engine e's ring with a status, and the engine runs nothing (R359). -/
def DescriptorEnds (s t : State) (e : Nat) (d : TierEntry) (status : Nat) : Prop :=
  (t.collE e).staged = (s.collE e).staged.drop 1 ∧ (t.collE e).run = none
    ∧ t.fld (Reg.COLLECTIVE_STATUS e) Fl.COLLECTIVE_STATUS_LAST_STATUS = status
    ∧ t.fld (Reg.COLLECTIVE_STATUS e) Fl.COLLECTIVE_STATUS_READ_PTR = (d.index + 1) % s.collRing e % 2 ^ 16

/-- The rows of collective descriptors and their OP codes (R360). -/
def collOps (e : Fin 16) : List (Nat × Instr) := [(1, .reduceScatter e), (2, .allGather e), (3, .allReduce e)]

/-- Eight registers hold the 64 bytes of a digest, little-endian (R364). -/
def HoldsDigest (s : State) (reg : Nat → Nat) (bytes : List Byte) : Prop :=
  ∀ w < 8, (s.rd (reg w)).toNat = natLE ((bytes.drop (8 * w)).take 8)

end Sys2Proof.Claims

/-- Collective engines and digests (R217, R359 to R361, R364, R365, R98): a doorbell fetches descriptors, an invalid one completes INVALID and one on a frayed knot FRAYED_KNOT, a collective of one member copies
SOURCE to DEST, waits are reported at WAIT_LIMIT, engines drain and return; a refreshed digest is CURRENT and is compared with its reference. -/
def Obligations.CollectivesAndDigests : Prop :=
  ∀ (s : State) (e : Fin 16), s.core.retiring = [] →
    let st := Reg.COLLECTIVE_STATUS e
    let owner := s.collectiveTenant e
    let x := s.collE e
    (∀ (who : Requester) (ptr : BitVec 16),
      let off := Reg.COLLECTIVE_DOORBELL e
      let i := x.fetch
      let a := s.fld (Reg.COLLECTIVE_LIST_BASE e) Fl.COLLECTIVE_LIST_BASE_ADDR + i * 64
      let at_ := ptr.toNat % s.collRing e
      let may := s.mayRing who owner off = true
      (¬may → DoesNothing s (.collectiveDoorbell who e ptr))
      ∧ (may → s.collectiveAbsent e = true → Does s (.collectiveDoorbell who e ptr) [] (EventRegs .absentUnit owner) fun t =>
        Reported s t .absentUnit owner)
      ∧ (may → s.collectiveAbsent e = false → s.collUnit e = 0 → at_ = i →
        Does s (.collectiveDoorbell who e ptr) [] (fun o => o = off) fun t => t.fld off Fl.COLLECTIVE_DOORBELL_WRITE_PTR = at_)
      ∧ (may → s.collectiveAbsent e = false → s.collUnit e = 0 → at_ = (i + 1) % s.collRing e → at_ ≠ i →
        x.staged.length < 16384 → s.tenantMay owner a 64 false = true → inHost a = false → CleanSpans s [(a, 64)] →
        Does s (.collectiveDoorbell who e ptr) [.coll, .mem] (fun o => o = off ∨ MemoryRegs o) fun t =>
          t.collE e = { x with staged := x.staged ++ [{ index := i, bytes := s.bytesAt a 64 }], fetch := at_ }))
    ∧ (∀ d op c, (op, c) ∈ collOps e → CollStarts s e d → d.op = op →
      (s.descriptorInvalid e d = true → d.doneKnot = none →
        Does s c [.coll] (fun off => off = st) fun t => DescriptorEnds s t e d 5)
      ∧ (s.descriptorInvalid e d = false → d.trigger = 2 → s.knotFrayed d.knot = true → d.doneKnot = none →
        Does s c [.coll] (fun off => off = st) fun t => DescriptorEnds s t e d 3)
      ∧ (∀ u, s.descriptorInvalid e d = false → (d.trigger = 2 → s.knotFrayed d.knot = false ∧ SoundKnot s d.knot) → d.doneKnot = none →
        owner = some u → s.fld (Reg.MCAST (d.field 4 1)) Fl.MCAST_MEMBERS = 0 →
        s.fld (Reg.MCAST (d.field 4 1)) Fl.MCAST_INDEX = 0 → d.algorithm = 0 → s.coll.stored = [] → s.coll.refused = [] → SoundFar s →
        s.digestCurrent u = true → inHost d.source = false → inHost d.dest = false →
        let len := d.elements * elementSize d.element
        s.tenantMay owner d.source len false = true → s.tenantMay owner d.dest len true = true →
        CleanSpans s [(d.source, len)] →
        Does s c [.coll, .mem] (fun off => off = st ∨ MemoryRegs off) fun t =>
          t.bytesAt d.dest len = s.bytesAt d.source len ∧ BytesKept s t (InSpans [(d.dest, len)])
            ∧ DescriptorEnds s t e d 0))
    ∧ (∀ d since, x.run = none → s.collWaiting e = some d → d.since = some since → d.doneKnot = none →
      (s.stitchClock < since + s.collLimit e → DoesNothing s (.collectiveWaitLimit e))
      ∧ (since + s.collLimit e ≤ s.stitchClock →
        Does s (.collectiveWaitLimit e) [.coll] (fun off => off = st ∨ off = Reg.KNOT_WAIT_LIMIT (bankOf d.knot)
            ∨ EventRegs .waitLimit owner off ∨ EventRegs .aborted owner off) fun t =>
          DescriptorEnds s t e d 2 ∧ Reported s t .waitLimit owner ∧ Reported s t .aborted owner))
    ∧ (∀ r, x.run = some r → r.begun = true → r.due ≠ 0 → r.entry.doneKnot = none → inHost r.entry.dest = true →
        s.collUnit e = 0 → r.last + s.collLimit e ≤ s.stitchClock →
        Does s (.collectiveWaitLimit e) [.coll] (fun off => off = st ∨ EventRegs .waitLimit owner off
            ∨ EventRegs .aborted owner off) fun t =>
          (t.collE e).run = none ∧ t.fld st Fl.COLLECTIVE_STATUS_LAST_STATUS = 2 ∧ Reported s t .waitLimit owner
            ∧ Reported s t .aborted owner)
    ∧ (∀ who, s.mayWrite who (Reg.COLLECTIVE_CONTROL e) = true →
      (s.collUnit e = 0 → CollIdle s e → x.staged = [] →
        Does s (.collectiveDrainReq who e) [.core] (fun off => off = st) fun t => t.collUnit e = 2 ∧ OnlyDrains s t)
      ∧ (s.collUnit e = 0 → x.run ≠ none → x.staged = [] → x.fetch = s.collWp e →
        Does s (.collectiveDrainReq who e) [.core] (fun off => off = st) fun t => t.collUnit e = 1 ∧ OnlyDrains s t)
      ∧ (∀ d, s.collUnit e = 0 → CollIdle s e → x.staged = [d] → d.here = true → d.doneKnot = none →
        Does s (.collectiveDrainReq who e) [.core, .coll] (fun off => off = st ∨ EventRegs .cancelled owner off) fun t =>
          t.collUnit e = 2 ∧ DescriptorEnds s t e d 1 ∧ Reported s t .cancelled owner ∧ OnlyDrains s t)
      ∧ (s.collUnit e ≠ 0 → DoesNothing s (.collectiveDrainReq who e))
      ∧ (let may := s.collUnit e = 2 ∧ x.staged = [] ∧ x.run = none ∧ s.collectiveAbsent e = false
        (may → Does s (.collectiveEnableReq who e) [] (fun off => off = st) fun t => t.collUnit e = 0)
        ∧ (¬may → DoesNothing s (.collectiveEnableReq who e))))
    ∧ (∀ r d limit, limit = max 1 (s.fld (Reg.COLLECTIVE_LIMITS e) Fl.COLLECTIVE_LIMITS_DRAIN_LIMIT) →
        s.drainOf (.collective e) = some d → d.timedOut = false →
        (s.stitchClock < d.since + min limit (d.cap.getD limit) → DoesNothing s (.collectiveDrainLimit e))
        ∧ (d.since + min limit (d.cap.getD limit) ≤ s.stitchClock → s.collUnit e = 1 → x.run = some r →
          r.entry.doneKnot = none → inHost r.entry.dest = true →
          Does s (.collectiveDrainLimit e) [.coll, .core] (fun off => off = st ∨ EventRegs .drainTimeout owner off
              ∨ EventRegs .aborted owner off) fun t =>
            t.collUnit e = 2 ∧ (t.collE e).run = none ∧ Reported s t .drainTimeout owner ∧ Reported s t .aborted owner
              ∧ OnlyDrains s t))
    ∧ ((∀ i < 16, (s.collE i).run = none) →
      (∀ u : Fin 32, (s.gateRun u).unsent = false →
        let d := sha512 (s.sharedInputs u)
        let c : Instr := .digestRefresh u.castSucc
        let regs := fun off => off = Reg.DIGEST_STATUS u ∨ ∃ w < 8, off = Reg.DIGEST u w
        let agrees := HoldsDigest s (Reg.DIGEST_REF u) d
        let same := fun (t : State) => HoldsDigest t (Reg.DIGEST u) d ∧ t.digestCurrent u = true
        (s.fld (Reg.DIGEST_STATUS u) Fl.DIGEST_STATUS_REF_VALID = 0 → Does s c [] regs same)
        ∧ (s.fld (Reg.DIGEST_STATUS u) Fl.DIGEST_STATUS_REF_VALID = 1 → agrees → Does s c [] regs fun t => same t
          ∧ t.fld (Reg.DIGEST_STATUS u) Fl.DIGEST_STATUS_REF_MATCH = 1)
        ∧ (s.fld (Reg.DIGEST_STATUS u) Fl.DIGEST_STATUS_REF_VALID = 1 → ¬agrees →
          Does s c [] (fun off => regs off ∨ off = Reg.ROUTE_SAMPLER_MISMATCH ∨ EventRegs .samplerMismatch (some u.val) off)
            fun t => same t ∧ t.fld (Reg.DIGEST_STATUS u) Fl.DIGEST_STATUS_REF_MATCH = 0
              ∧ Reported s t .samplerMismatch (some u.val)))
      ∧ (s.fld Reg.DEVICE_DIGEST_STATUS Fl.DEVICE_DIGEST_STATUS_REF_VALID = 0 →
        Does s (.digestRefresh 32) [] (fun off => off = Reg.DEVICE_DIGEST_STATUS ∨ ∃ w < 8, off = Reg.DEVICE_DIGEST w) fun t =>
          HoldsDigest t Reg.DEVICE_DIGEST (sha512 s.deviceInputs)
            ∧ t.fld Reg.DEVICE_DIGEST_STATUS Fl.DEVICE_DIGEST_STATUS_CURRENT = 1))

namespace Sys2Proof.Claims

/-- The registers that a thermal round may write: those of the THERMAL block, the stacks' status, the reports of its conditions, and at a
trip the links' states (R401, R405). -/
def RoundRegs (off : Nat) : Prop :=
  (0x800000 ≤ off ∧ off < 0x802000) ∨ (∃ k < 8, off = Reg.FAR_STATUS k) ∨ (∃ e < 2, off = Reg.ENDPOINT_STATUS e)
    ∨ (∃ p < 24, off = Reg.BRIDE_PORT_STATUS p)
    ∨ EventRegs .sensorSuspect none off ∨ EventRegs .thermalWarning none off ∨ EventRegs .thermalThrottle none off
    ∨ EventRegs .thermalTrip none off

/-- The sensors' registers. -/
def SensorRegs (off : Nat) : Prop := ∃ n < 160, off = Reg.THERMAL_SENSOR n

/-- The registers of the cap: its duty, its count and the clusters' effective duties. -/
def CapRegs (off : Nat) : Prop :=
  off = Reg.THERMAL_STATUS ∨ off = Reg.THERMAL_CAP_STEPS ∨ (∃ c < 8, off = Reg.THERMAL_CLUSTER_DUTY c)
    ∨ EventRegs .thermalThrottle none off

/-- D_cap is d, and every cluster's effective duty is the lower of its thermal duty and d (R397). -/
def CapIs (s t : State) (d : Nat) : Prop :=
  t.capDuty = d ∧ ∀ c < 8, t.fld (Reg.THERMAL_CLUSTER_DUTY c) Fl.THERMAL_CLUSTER_DUTY_EFFECTIVE = min (s.thermalDuty c) d

end Sys2Proof.Claims

/-- Power and temperature (R396, R397, R400 to R405): samples and energy, the cap's steps, conversions on demand, suspects cleared, and the round: readings, estimates,
governing values, the clusters' duty, the stacks' temperatures and the trip. -/
def Obligations.PowerAndTemperature : Prop :=
  ∀ (s : State),
    (∀ (v i : BitVec 16) (temp : BitVec 8),
      let p := v.toNat * i.toNat
      let peak := min 3000 (s.fld Reg.THERMAL_POWER_LIMIT Fl.THERMAL_POWER_LIMIT_PEAK_W) * 10000
      let beyond := s.capEnabled = true ∧ (peak < p ∨ (v.toNat < 4000 ∧ 6000 < i.toNat))
      let base := fun off => off = Reg.THERMAL_INPUT ∨ off = Reg.THERMAL_STATUS ∨ off = Reg.THERMAL_ENERGY
      let sampled := fun (t : State) => t.fld Reg.THERMAL_INPUT Fl.THERMAL_INPUT_VOLTAGE = v.toNat
        ∧ t.fld Reg.THERMAL_INPUT Fl.THERMAL_INPUT_CURRENT = i.toNat
        ∧ t.fld Reg.THERMAL_INPUT Fl.THERMAL_INPUT_REGULATOR_TEMP = temp.toNat
        ∧ t.fld Reg.THERMAL_STATUS Fl.THERMAL_STATUS_INPUT_LOW = (if v.toNat < 4000 then 1 else 0)
        ∧ t.fld Reg.THERMAL_STATUS Fl.THERMAL_STATUS_INPUT_HIGH = (if 6000 < v.toNat then 1 else 0)
        ∧ (t.rd Reg.THERMAL_ENERGY).toNat = ((s.rd Reg.THERMAL_ENERGY).toNat + (s.therm.energyRest + p) / 1000) % 2 ^ 64
        ∧ t.therm = { s.therm with
            energyRest := (s.therm.energyRest + p) % 1000, capSum := s.therm.capSum + p, capCount := s.therm.capCount + 1 }
      (s.boot.powered = false → DoesNothing s (.powerSample v i temp))
      ∧ (s.boot.powered = true → ¬beyond → Does s (.powerSample v i temp) [.therm] base fun t => sampled t ∧ t.capDuty = s.capDuty)
      ∧ (s.boot.powered = true → beyond → 1 < s.capDuty → Does s (.powerSample v i temp) [.therm] (fun off => base off ∨ CapRegs off) fun t => sampled t
        ∧ CapIs s t (max (s.capDuty - 2) 1)))
    ∧ (let n := s.therm.capCount
      let sum := s.therm.capSum
      let limit := min 2400 (s.fld Reg.THERMAL_POWER_LIMIT Fl.THERMAL_POWER_LIMIT_LIMIT_W) * 10000 * n
      let margin := s.fld Reg.THERMAL_POWER_LIMIT Fl.THERMAL_POWER_LIMIT_MARGIN_W * 10000 * n
      let shown := fun (t : State) => t.fld Reg.THERMAL_INPUT Fl.THERMAL_INPUT_POWER = sum / (10000 * n) % 2 ^ 16
        ∧ t.therm = { s.therm with capSum := 0, capCount := 0 }
      (n = 0 → DoesNothing s .capWindow)
      ∧ (n ≠ 0 → s.capEnabled = true → limit < sum → 1 < s.capDuty →
        Does s .capWindow [.therm] (fun off => off = Reg.THERMAL_INPUT ∨ CapRegs off) fun t => shown t
          ∧ CapIs s t (s.capDuty - 1))
      ∧ (n ≠ 0 → s.capEnabled = true → sum + margin < limit → s.capDuty < 8 →
        Does s .capWindow [.therm] (fun off => off = Reg.THERMAL_INPUT ∨ CapRegs off) fun t => shown t
          ∧ CapIs s t (s.capDuty + 1))
      ∧ (n ≠ 0 → s.capEnabled = false ∨ (sum ≤ limit ∧ limit ≤ sum + margin) →
        Does s .capWindow [.therm] (fun off => off = Reg.THERMAL_INPUT) fun t => shown t))
    ∧ (∀ (who : Requester) (v : Word), s.mayWrite who Reg.THERMAL_DEMAND = true →
      let w := Fl.THERMAL_DEMAND_SENSOR.read v
      Does s (.sensorDemand who v) [.therm] noReg fun t =>
        t.therm = { s.therm with converting := t.therm.converting }
          ∧ ∀ n, NatSet.has t.therm.converting n = (NatSet.has s.therm.converting n || (decide (n < 160) && (w == 255 || w == n))))
    ∧ (∀ n : Fin 160,
      let off := Reg.THERMAL_SENSOR n
      (∀ r, NatSet.has s.therm.converting n = false → DoesNothing s (.sensorConversion n r))
      ∧ (∀ v, NatSet.has s.therm.converting n = true → s.suspect n = false →
        Does s (.sensorConversion n (some v)) [.therm] SensorRegs fun t =>
          t.reading n = signedOf 12 v.toNat ∧ t.governing n = signedOf 12 v.toNat ∧ t.fld off Fl.THERMAL_SENSOR_VALID = 1
            ∧ t.failedSensor n = false ∧ NatSet.has t.therm.converting n = false)
      ∧ (NatSet.has s.therm.converting n = true → s.suspect n = false →
        Does s (.sensorConversion n none) [.therm] (fun o => SensorRegs o ∨ o = Reg.THERMAL_SENSOR_SUSPECT
            ∨ EventRegs .sensorSuspect none o) fun t =>
          t.reading n = s.reading n ∧ t.failedSensor n = true ∧ t.suspect n = true ∧ Reported s t .sensorSuspect none)
      ∧ (∀ (who : Requester) (v : Word), s.mayWrite who off = true →
        (Fl.THERMAL_SENSOR_SUSPECT.read v = 1 → Does s (.sensorSuspectClear who n v) [.therm] (fun o => o = off) fun t =>
          t.suspect n = false ∧ t.reading n = s.reading n ∧ t.lowRounds n = 0)
        ∧ (Fl.THERMAL_SENSOR_SUSPECT.read v ≠ 1 → DoesNothing s (.sensorSuspectClear who n v))))
    ∧ (∀ x : ThermalResults,
      (s.clocked = false ∨ s.boot.powered = false → DoesNothing s (.thermalRound x))
      ∧ (s.clocked = true → s.boot.powered = true → Does s (.thermalRound x) [.therm, .free] RoundRegs fun t =>
        (∀ n < 160, ∀ v, x.readings[n]? = some (some v) → t.reading n = signedOf 12 v.toNat ∧ t.failedSensor n = false)
        ∧ (∀ n < 160, x.readings[n]? = some none → t.failedSensor n = true ∧ t.suspect n = true)
        ∧ (∀ n < 160, t.suspect n = false → t.governing n = t.reading n)
        ∧ (∀ n, 64 ≤ n → n < 128 →
            let one := decide (n < 96)
            let j := sensorColumn n
            let tg := t.governing (128 + 2 * j + n % 2)
            let tc := t.governing (4 * j + n % 2)
            let w : Int := s.fld Reg.THERMAL_ESTIMATE (if one = true then Fl.THERMAL_ESTIMATE_WEIGHT1 else Fl.THERMAL_ESTIMATE_WEIGHT2)
            let k : Int := s.fld Reg.THERMAL_ESTIMATE (if one = true then Fl.THERMAL_ESTIMATE_K1 else Fl.THERMAL_ESTIMATE_K2)
            let num : Int := (tg * 256 + (tc - tg) * w) * 1000 + k * (x.power.getD j 0 : Nat) * 1024
            (∃ est : Int, num ≤ est * 256000 ∧ est * 256000 < num + 256000
              ∧ t.fld (Reg.THERMAL_SENSOR n) Fl.THERMAL_SENSOR_ESTIMATE = unsignedOf 12 est)
            ∧ (t.suspect n = true → t.governing n = t.estimate n))
        ∧ (∀ c < 8,
            let d := s.thermalDuty c
            ((∃ n ∈ clusterSensors c, throttleOf n ≤ t.governing n) → t.thermalDuty c = if d = 8 then 4 else max (d - 1) 1)
            ∧ ((∀ n ∈ clusterSensors c, t.governing n ≤ throttleOf n - 20) → t.thermalDuty c = min (d + 1) 8)
            ∧ t.fld (Reg.THERMAL_CLUSTER_DUTY c) Fl.THERMAL_CLUSTER_DUTY_EFFECTIVE = min (t.thermalDuty c) s.capDuty)
        ∧ (∀ k < 8, s.stackAbsent k = false →
            t.fld (Reg.FAR_STATUS k) Fl.FAR_STATUS_TEMPERATURE = x.readouts.getD k 0 % 2 ^ 8)
        ∧ ((∃ n < 160, (thresholds (sensorLayer n)).2.2 ≤ t.governing n) →
            t.clocked = false ∧ Out.thermtrip ∈ t.out ∧ Reported s t .thermalTrip none
              ∧ t.fld Reg.EVENT_ALERT Fl.EVENT_ALERT_ASSERTED = 1
              ∧ ∀ p < 24, t.linkState p = 0)))

namespace Sys2Proof.Claims

/-- Nothing of tenant u but idle cores is at work: no tier queue, collective engine, pin, parameter group or logged tile is its own (R425). -/
def QuietTenant (s : State) (u : Nat) : Prop :=
  (∀ n < 128, s.coreTenant n = some u → s.coreAbsent n = false →
      QuietCore s n ∧ s.coreState n = 0 ∧ s.clusterState (n / 16) = 0)
    ∧ (∀ q < 32, s.tierQueueTenant q ≠ some u) ∧ (∀ e < 16, s.collectiveTenant e ≠ some u)
    ∧ (∀ o < 16384, s.pinned o u = false) ∧ (∀ g ∈ s.validGroups, s.groupTenant g ≠ some u)
    ∧ (∀ i < 40, s.unitState i ≠ 1 ∧ ∀ e ∈ s.ledger i, s.groupTenant e.group ≠ some u)
    ∧ s.gateState u ≠ 4 ∧ s.tick.hold = none
    ∧ ∀ j ∈ s.dma, j.queued = [] ∧ j.owner ≠ .firmware ∧ (∀ q i, j.owner ≠ .tierList q i) ∧ ∀ e i, j.owner ≠ .collectiveList e i

/-- No function of endpoint e is bound to a tenant. -/
def Unbound (s : State) (e : Fin 2) : Prop := ∀ i < 16, s.fnBound (16 * e.val + i) = none

/-- The endpoint's functions stand at their reset configuration, and no other function's configuration differs but for vectors pending (R411). -/
def FunctionsReset (s t : State) (e : Fin 2) : Prop :=
  (∀ i < 16, t.cfg (16 * e.val + i) = {})
    ∧ ∀ f, f / 16 ≠ e.val → { t.cfg f with pendingVectors := [] } = { s.cfg f with pendingVectors := [] }

/-- The reset r of a tenant is recorded in place of the one that runs. -/
def ResetBecomes (s t : State) (r : FlrState) : Prop := t.flrs = s.flrs.map (fun x => if x.tenant = r.tenant then r else x)

end Sys2Proof.Claims

/-- Resets from the host (R40, R186, R228, R411, R425): a function-level reset drains its tenant's cores, ends its DMA and disarms its gate; the knots reset once the cores are DISABLED,
the objects once no entry is in flight, and then the functions return to their reset values; PERST#, hot reset and link loss reset every function of the endpoint. -/
def Obligations.HostResets : Prop :=
  ∀ (s : State) (lost : List Nat),
    (∀ f : Fin 32, NothingWaits s →
      (s.fnBound f = none → Does s (.functionLevelReset f lost) [.config] noReg fun t =>
        (f.val % 16 = 0 → t.cfg f = {} ∧ ∀ i, 1 ≤ i → i < 16 → t.cfg (f.val + i) = { s.cfg (f.val + i) with bar4Log := 36 })
        ∧ (f.val % 16 ≠ 0 → t.cfg f = { bar4Log := (s.cfg f).bar4Log })
        ∧ ∀ g : Nat, g ≠ f.val → (f.val % 16 = 0 → g / 16 ≠ f.val / 16) → t.cfg g = s.cfg g)
      ∧ (∀ u, s.fnBound f = some u → s.inReset u = true → Does s (.functionLevelReset f lost) [.flrs] noReg fun t =>
        t.flrs = s.flrs.map (fun r =>
          if r.tenant = u ∧ r.starters.contains f.val = false then { r with starters := r.starters ++ [f.val] } else r))
      ∧ (∀ u, s.fnBound f = some u → s.inReset u = false → QuietTenant s u →
        Does s (.functionLevelReset f lost) [.flrs, .dma, .core, .upd]
          (fun off => off = Reg.GATE_STATE u ∨ ∃ n < 128, s.coreTenant n = some u ∧ CoreUnitRegs n off) fun t =>
          t.flrs = s.flrs ++ [⟨u, [f.val], false, false⟩] ∧ t.dma = s.dma.filter (fun j => j.tenant != u)
            ∧ (∀ n < 128, s.coreTenant n = some u → s.coreAbsent n = false → t.coreState n = 2)
            ∧ t.gateState u = 0 ∧ OnlyDrains s t ∧ t.canDma f = false))
    ∧ (∀ u : Fin 32, (s.flrOf u = none → DoesNothing s (.flrKnotReset u) ∧ DoesNothing s (.flrObjectDelete u))
      ∧ (∀ r, s.flrOf u = some r →
        (s.coresDown u = false → DoesNothing s (.flrKnotReset u))
        ∧ (s.coresDown u = true → r.knotsDone = false → r.objectsDone = false → (∀ e ∈ s.mem.upsets, e.1 < pathBase) →
          Does s (.flrKnotReset u) [.flrs, .remoteQ, .notifies, .core]
            (fun off => ∃ k, regionOf off = .knot k ∧ s.knotTenant k = some u.val) fun t =>
            (∀ k < 131072, s.knotTenant k = some u.val → t.rd (knotStateReg k) = resetValue (knotStateReg k)
                ∧ t.rd (knotArmReg k) = resetValue (knotArmReg k))
              ∧ t.remoteQ = s.remoteQ.filter (fun x => s.knotTenant x.knot != some u.val)
              ∧ ResetBecomes s t { r with knotsDone := true })
        ∧ ((∃ p ∈ s.tierRuns, s.tierQueueTenant p.1 = some u.val) → DoesNothing s (.flrObjectDelete u))
        ∧ (s.tierRuns = [] → r.objectsDone = false → (∀ o < 16384, s.pinned o u = false) →
          let os := s.listedObjects.filter (fun o => s.objectTenant o == some u.val && s.objFld o Fl.TIER_OBJECT_CONTROL_VALID == 1)
          (os = [] → r.knotsDone = false → Does s (.flrObjectDelete u) [.flrs] noReg fun t =>
            ResetBecomes s t { r with objectsDone := true })
          ∧ (∀ o, os = [o] → s.residency o = 0 → (∀ v < 32, s.pinned o v = false) → r.knotsDone = false →
            ∃ t, exec (.flrObjectDelete u) s = .next t ∧ t.objFld o Fl.TIER_OBJECT_CONTROL_VALID = 0
              ∧ t.rd (Reg.TIER_OBJECT_STATUS o) = 0 ∧ ResetBecomes s t { r with objectsDone := true })
          ∧ (os = [] → r.knotsDone = true → s.notifies = [] →
            Does s (.flrObjectDelete u) [.flrs, .config]
              (fun off => eventRingRegs u off = true ∨ ∃ f < 32, s.fnBound f = some u.val ∧ functionRegs f off = true) fun t =>
              t.flrs = s.flrs.filter (fun x => x.tenant != r.tenant) ∧ (∀ f ∈ r.starters, { t.cfg f with bar4Log := 36 } = ({} : FnCfg))
                ∧ ∀ f < 32, s.fnBound f = some u.val →
                    t.rd (Reg.FUNCTION_COMPLETION_RING f) = resetValue (Reg.FUNCTION_COMPLETION_RING f)))))
    ∧ (∀ e : Fin 2,
      let st := Reg.ENDPOINT_STATUS e
      let up := NatSet.has s.boot.perstHigh e = true ∧ s.boot.powered = true ∧ s.clocked = true
        ∧ 2 ≤ s.fld Reg.SECURITY_BOOT_STATUS Fl.SECURITY_BOOT_STATUS_STAGE
      (s.boot.powered = true → Unbound s e →
        Does s (.perstAssert e lost) [.boot, .config] (fun off => off = st) fun t => t.endpointLink e = 0
          ∧ FunctionsReset s t e ∧ NatSet.has t.boot.perstHigh e = false)
      ∧ (s.boot.powered = false → Does s (.perstAssert e lost) [.boot] noReg fun t => NatSet.has t.boot.perstHigh e = false)
      ∧ (NatSet.has s.boot.perstHigh e = true → DoesNothing s (.perstDeassert e))
      ∧ (NatSet.has s.boot.perstHigh e = false →
        Does s (.perstDeassert e) [.boot] (fun off => off = st) fun t => NatSet.has t.boot.perstHigh e = true
          ∧ (s.boot.powered = true → s.clocked = true → 2 ≤ s.fld Reg.SECURITY_BOOT_STATUS Fl.SECURITY_BOOT_STATUS_STAGE →
              t.endpointLink e = 1)
          ∧ (¬(s.boot.powered = true ∧ s.clocked = true
              ∧ 2 ≤ s.fld Reg.SECURITY_BOOT_STATUS Fl.SECURITY_BOOT_STATUS_STAGE) → t.endpointLink e = 0))
      ∧ (∀ c, c = Instr.hotReset e lost ∨ c = .pcieLinkDown e lost →
        (s.endpointLink e ≠ 2 → DoesNothing s c)
        ∧ (s.endpointLink e = 2 → Unbound s e → Does s c [.config] (fun off => off = st) fun t => FunctionsReset s t e
          ∧ (up → t.endpointLink e = 1) ∧ (¬up → t.endpointLink e = 0)))
      ∧ (∀ (width : Fin 4) (speed : Fin 6) (flit : Bool),
        (s.endpointLink e ≠ 1 → DoesNothing s (.pcieLinkUp e width speed flit))
        ∧ (s.endpointLink e = 1 → Does s (.pcieLinkUp e width speed flit) [] (fun off => off = st) fun t =>
          t.endpointLink e = 2 ∧ t.fld st Fl.ENDPOINT_STATUS_WIDTH = 2 ^ width.val
            ∧ t.fld st Fl.ENDPOINT_STATUS_SPEED = speed.val + 1 ∧ t.fld st Fl.ENDPOINT_STATUS_FLIT = flit.toNat)))

namespace Sys2Proof.Claims

/-- Request p of job j is the one that a tag names. -/
def Requested (s : State) (f : Fin 32) (tag : Fin 16384) (j : DmaJob) (p : DmaPart) : Prop :=
  findPart f tag s.dma = some (j, p)

/-- The configuration after a write, by the field that each row of R410 names. -/
def Configured (c : FnCfg) : ConfigWrite → FnCfg → Prop
  | .power d3, d => d = { c with d3hot := d3 }
  | .command bm ms, d => d = { c with busMaster := bm, memSpace := ms }
  | .bar4 k, d => d = { c with bar4Log := 30 + k.val }
  | .deviceControl p r, d => d = { c with maxPayload := d.maxPayload, maxRead := d.maxRead }
      ∧ (p.val ≤ 2 → d.maxPayload = 128 * 2 ^ p.val) ∧ (r.val ≤ 5 → d.maxRead = 128 * 2 ^ r.val)
  | .msixControl en mask, d => d = { c with msixEnable := en, msixMaskAll := mask }
  | .msixMask v masked, d => d = { c with unmasked := d.unmasked }
      ∧ ∀ w, NatSet.has d.unmasked w = if w = v.val then !masked else NatSet.has c.unmasked w
  | .msixEntry v a x, d => d = { c with msixTable := d.msixTable }
      ∧ ∀ w, Sparse.get (fun _ => (0, 0)) d.msixTable w
        = if w = v.val then (a.toNat / 4 * 4, x.toNat) else Sparse.get (fun _ => (0, 0)) c.msixTable w
  | .completionTimeout r off, d => d = { c with timeoutRange := r, timeoutDisable := off }
  | .aerClear bits, d => d = { c with aer := c.aer &&& ~~~bits }
  | .vfEnable _, _ => False
  | .vfBar4 _, _ => False
  | .numVfs _, _ => False

/-- Advanced Error Reporting of function f has a bit of an uncorrectable error set, and no other configuration differs but for vectors
pending (R410; which bit is the model's choice, notes/assumptions/111). -/
def AerIs (s t : State) (f bit : Nat) : Prop :=
  { t.cfg f with pendingVectors := [] }
      = { s.cfg f with pendingVectors := [], aer := (s.cfg f).aer ||| BitVec.ofNat 32 (2 ^ bit) }
    ∧ ∀ g, g ≠ f → { t.cfg g with pendingVectors := [] } = { s.cfg g with pendingVectors := [] }

/-- The parts that a poisoned write changes beside others: Advanced Error Reporting. -/
def withAer (ep : Bool) (parts : List Part) : List Part := if ep then .config :: parts else parts

end Sys2Proof.Claims

/-- Host accesses, completions of DMA and configuration (R410, R413, R417, R420, R421, R423): BAR4 reads and writes reach the far memory that the tenant may access and are
counted where they are denied; completions end requests, failed ones end the command; freed ring entries, held interrupts and configuration writes take effect;
configuration space shows each function's identity (R412). -/
def Obligations.HostAccessesAndDma : Prop :=
  ∀ (s : State) (f : Fin 32),
    let denied := Reg.FUNCTION_DENIED f
    let refused := fun (t : State) => t.fld denied Fl.FUNCTION_DENIED_COUNT = satNext (s.fld denied Fl.FUNCTION_DENIED_COUNT)
    (∀ (o : BitVec 40) (len : Fin 4097) (u : Nat),
      let a := s.apertureAddress f o.toNat
      let inside := o.toNat < 2 ^ (s.cfg f).bar4Log
      let onePage := 0 < len.val ∧ a % 4096 + len.val ≤ 4096
      (¬inside → DoesNothing s (.apertureRead f o len))
      ∧ (inside → s.decodes f = false → Does s (.apertureRead f o len) [.config] noReg fun t =>
        Out.unsupported f ∈ t.out ∧ AerIs s t f 20)
      ∧ (inside → s.decodes f = true → s.apertureTenant f = none → Does s (.apertureRead f o len) [] noReg fun t =>
        Out.completion f (List.replicate len.val 0) false ∈ t.out)
      ∧ (inside → s.decodes f = true → s.apertureTenant f = some u → onePage → s.mayAccess u a false = true →
        CleanSpans s [(a, len.val)] → Does s (.apertureRead f o len) [.mem] MemoryRegs fun t =>
          Out.completion f (s.bytesAt a len) false ∈ t.out ∧ BytesKept s t (fun _ => False))
      ∧ (inside → s.decodes f = true → s.apertureTenant f = some u → onePage → s.mayAccess u a false = false →
        Does s (.apertureRead f o len) [] (fun off => off = denied) fun t => refused t
          ∧ Out.completion f (List.replicate len.val 0) false ∈ t.out))
    ∧ (∀ (o : BitVec 40) (bytes : List Byte) (ep : Bool) (u : Nat),
      let a := s.apertureAddress f o.toNat
      let reaches := o.toNat < 2 ^ (s.cfg f).bar4Log ∧ s.decodes f = true
      let onePage := 0 < bytes.length ∧ a % 4096 + bytes.length ≤ 4096
      (¬reaches → DoesNothing s (.apertureWrite f o bytes ep))
      ∧ (reaches → s.apertureTenant f = none → Does s (.apertureWrite f o bytes ep) (withAer ep []) noReg fun t =>
        ep = true → AerIs s t f 12)
      ∧ (reaches → s.apertureTenant f = some u → onePage → s.mayAccess u a true = true → SoundFar s →
        Does s (.apertureWrite f o bytes ep) (withAer ep [.mem]) MemoryRegs fun t => t.bytesAt a bytes.length = bytes
          ∧ BytesKept s t (InSpans [(a, bytes.length)])
          ∧ (ep = true → ∀ l ∈ linesOf a bytes.length, t.linePoisoned l = true))
      ∧ (reaches → s.apertureTenant f = some u → onePage → s.mayAccess u a true = false →
        Does s (.apertureWrite f o bytes ep) (withAer ep []) (fun off => off = denied) refused))
    ∧ (∀ (tag : Fin 16384) (j : DmaJob) (p : DmaPart), Requested s f tag j p → (∀ i ∈ s.dma, i.queued = []) →
      (∀ bytes, bytes.length < p.missing → s.dma = [j] → j.parts = [p] →
        Does s (.pcieCompletion f tag true false bytes) [.dma] noReg fun t => ∃ j' : DmaJob, t.dma = [j'] ∧ j'.owner = j.owner
          ∧ j'.bytes = splice j.bytes p.off bytes
          ∧ j'.parts = [{ p with off := p.off + bytes.length, missing := p.missing - bytes.length }])
      ∧ (∀ bytes, bytes.length = p.missing → s.dma = [j] → j.parts = [p] → j.bad = [] → j.owner = .firmware →
        (∀ e ∈ s.mem.upsets, e.1 < stagedBase) →
        Does s (.pcieCompletion f tag true false bytes) [.dma, .fw] noReg fun t => t.dma = [] ∧ t.fw.stagedLen = (splice j.bytes p.off bytes).length
          ∧ t.fw.fetchFailed = false)
      ∧ (∀ c n e x step, (c = Instr.pcieCompletion f tag false false [] ∨ c = .completionTimeout f tag) →
        j.owner = .moverRead n e x.uid step → n < 128 → e < 4 → s.entryUid n e x.uid = some x → x.failed = none →
        Does s c [.dma, .core, .config] (fun off => off = Reg.QUEUE_STATUS n e ∨ off = Reg.ENDPOINT_DMA_ERROR (f.val / 16)) fun t =>
          t.dma = s.dma.erase j
            ∧ (c = .completionTimeout f tag → AerIs s t f 14)
            ∧ (c ≠ .completionTimeout f tag → Part.Same s t .config)
            ∧ t.entryUid n e x.uid = some { x with
                outstanding := x.outstanding - 1, workDone := true
                failed := some { cause := 6, address := p.addr % 2 ^ 48 } }
            ∧ t.fld (Reg.ENDPOINT_DMA_ERROR (f.val / 16)) Fl.ENDPOINT_DMA_ERROR_COUNT
              = satNext (s.fld (Reg.ENDPOINT_DMA_ERROR (f.val / 16)) Fl.ENDPOINT_DMA_ERROR_COUNT)))
    ∧ (∀ (tag : Fin 16384) (ok ep : Bool) (bytes : List Byte), findPart f tag s.dma = none →
      DoesNothing s (.pcieCompletion f tag ok ep bytes) ∧ DoesNothing s (.completionTimeout f tag))
    ∧ (∀ (who : Requester) (v : Word), s.mayWrite who (Reg.FUNCTION_COMPLETION_READ f) = true → s.notifies = [] →
      Does s (.completionReadWrite who f v) [] (fun off => off = Reg.FUNCTION_COMPLETION_READ f) fun t =>
        t.fld (Reg.FUNCTION_COMPLETION_READ f) Fl.FUNCTION_COMPLETION_READ_READ_PTR = Fl.FUNCTION_COMPLETION_READ_READ_PTR.read v)
    ∧ (∀ k : Fin 100, Does s (.msixHoldoff k) [] noReg fun t =>
        ∀ i, findIntr (ringReg k) s.intrs = some i → i.held = true →
          i.last + s.fld (ringReg k) ⟨48, 8⟩ * 1000 ≤ s.uptime → (s.cfg i.fn).msixEnable = true → (s.cfg i.fn).msixMaskAll = false →
          NatSet.has (s.cfg i.fn).unmasked (s.fld (ringReg k) ⟨16, 11⟩) = true → s.canDma i.fn = true →
          Out.msix i.fn (s.fld (ringReg k) ⟨16, 11⟩) ∈ t.out)
    ∧ (s.notifies = [] → (s.cfg f).pendingVectors = [] → s.occs = [] →
      (∀ w, (∀ on, w ≠ .vfEnable on) → (∀ k, w ≠ .vfBar4 k) → (∀ k, w ≠ .numVfs k) →
        Does s (.configurationWrite f w) [.config] noReg fun t => Configured (s.cfg f) w (t.cfg f)
          ∧ ∀ g : Nat, g ≠ f.val → t.cfg g = s.cfg g)
      ∧ (∀ on, f.val % 16 = 0 → Does s (.configurationWrite f (.vfEnable on)) [.config] noReg fun t =>
        t.cfg f = { s.cfg f with vfEnable := on })
      ∧ (∀ k, f.val % 16 = 0 → Does s (.configurationWrite f (.numVfs k)) [.config] noReg fun t =>
        t.cfg f = if (s.cfg f).vfEnable = true then s.cfg f else { s.cfg f with numVfs := k })
      ∧ (∀ k, f.val % 16 = 0 → Does s (.configurationWrite f (.vfBar4 k)) [.config] noReg fun t =>
        ∀ i, 1 ≤ i → i < 16 → (t.cfg (f.val + i)).bar4Log = 30 + k.val)
      ∧ (∀ on k m, f.val % 16 ≠ 0 → DoesNothing s (.configurationWrite f (.vfEnable on))
        ∧ DoesNothing s (.configurationWrite f (.vfBar4 k)) ∧ DoesNothing s (.configurationWrite f (.numVfs m))))
    ∧ (let x := s.fnIdentity f
      x.vendor = 0x1F6E ∧ x.classCode = 0x120000 ∧ x.subVendor = 0x1F6E ∧ x.subsystem = f.val / 16 + 1
        ∧ x.device = (if s.is7160 = true then 0x7160 else 0x7200) + (if f.val % 16 = 0 then 0 else 1))

namespace Sys2Proof.Claims

/-- The registers that starting an image writes: the firmware's, its measurement, and the status of the digests that cover it (R434, R438). -/
def ImageRegs (off : Nat) : Prop :=
  off = Reg.SECURITY_FIRMWARE ∨ off = Reg.SECURITY_UPDATE_STATUS ∨ off = Reg.SECURITY_BOOT_STATUS ∨ off = Reg.DEVICE_DIGEST_STATUS
    ∨ (∃ w < 8, off = Reg.SECURITY_MEASUREMENT w) ∨ ∃ u < 32, off = Reg.DIGEST_STATUS u

/-- Tambour runs an image: the firmware registers, the measurement and the running-image copy are the image's, the digests are out of date, and an
activation in progress has ended (R434, R437, R438, R440). -/
def Started (s t : State) (image : List Byte) : Prop :=
  t.fld Reg.SECURITY_FIRMWARE Fl.SECURITY_FIRMWARE_SVN = headerField image 12 4 % 64
    ∧ t.fld Reg.SECURITY_FIRMWARE Fl.SECURITY_FIRMWARE_BUILD_ID = headerField image 24 4
    ∧ t.fld Reg.SECURITY_FIRMWARE Fl.SECURITY_FIRMWARE_MIN_SVN = s.fld Reg.SECURITY_FIRMWARE Fl.SECURITY_FIRMWARE_MIN_SVN
    ∧ HoldsDigest t Reg.SECURITY_MEASUREMENT (measurementOf image) ∧ t.fw.tambour = .running
    ∧ t.fw.running = image.take (512 + headerField image 16 4) ∧ t.feedWaits = false ∧ t.digestCurrent 0 = false
    ∧ t.updateState = (if s.updateState = 5 then 0 else s.updateState)
    ∧ t.fw = { s.fw with running := t.fw.running, tambour := .running, fromCopy := false }

/-- BOOT_STATUS is the one register that may differ. -/
def BootOnly (off : Nat) : Prop := off = Reg.SECURITY_BOOT_STATUS

/-- A field of BOOT_STATUS. -/
def bootField (s : State) (f : Fld) : Nat := s.fld Reg.SECURITY_BOOT_STATUS f

end Sys2Proof.Claims

/-- Power and the stages of start-up (R395, R431, R373, R375, R435, R436, R234, R312): each stage runs only where the one before it has ended, and what it leaves; loss of power-good
returns everything but the flash, the fuses with the fused repair map, and the pins to the values of reset. That the ribbons keep the records of stage 2 is notes/assumptions/43. -/
def Obligations.StartUpStages : Prop :=
  ∀ s : State,
    (s.boot.powered = true → DoesNothing s .powerGood)
    ∧ (s.boot.powered = false → Does s .powerGood [.boot] noReg fun t => t.boot = { s.boot with powered := true } ∧ Out.powerGood true ∈ t.out)
    ∧ (s.boot.powered = false → DoesNothing s .powerGoodLoss ∧ DoesNothing s .senseFallback)
    ∧ (s.boot.powered = true →
      (∃ t, exec .powerGoodLoss s = .next t ∧ t.pending = s.pending ∧ t.boot = { perstHigh := s.boot.perstHigh }
        ∧ t.fw = { flash := s.fw.flash, certs := s.fw.certs, repairLog := s.fw.repairLog } ∧ Out.powerGood false ∈ t.out
        ∧ t.bond = { fuseMap := s.bond.fuseMap }
        ∧ (∀ p, p ∉ [Part.pending, .free, .boot, .fw, .bond] → p.Same State.reset t)
        ∧ (∀ off, ¬RecordBlock off → off ∉ fuseRegs → off ≠ Reg.SECURITY_FIRMWARE →
          (∀ e ∈ s.bond.fuseMap, off ≠ Reg.INTEGRITY_BUNDLE e.1) → t.rd off = State.reset.rd off)
        ∧ (∀ b w, s.bond.fuseMap = [(b, w)] → t.rd (Reg.INTEGRITY_BUNDLE b) = w)
        ∧ (∀ off ∈ fuseRegs, off ≠ Reg.DEVICE_CAPABILITY → t.rd off = s.rd off)
        ∧ t.fld Reg.SECURITY_FIRMWARE Fl.SECURITY_FIRMWARE_MIN_SVN = s.fld Reg.SECURITY_FIRMWARE Fl.SECURITY_FIRMWARE_MIN_SVN)
      ∧ Does s .senseFallback [.therm] noReg fun t => t.therm = { s.therm with atContacts := true })
    ∧ (∀ strap : BitVec 3,
      (¬(s.boot.powered = true ∧ s.stage = 1) → DoesNothing s (.pllLock strap))
      ∧ (s.boot.powered = true → s.stage = 1 → Does s (.pllLock strap) [.boot]
          (fun o => o = Reg.SECURITY_UPTIME_NS ∨ BootOnly o ∨ ∃ e < 2, o = Reg.ENDPOINT_STATUS e) fun t =>
        t.stage = 2 ∧ t.uptime = 0 ∧ t.boot = { s.boot with strap := strap.toNat }
          ∧ ∀ e < 2, t.endpointLink e = if NatSet.has s.boot.perstHigh e = true ∧ s.clocked = true then 1 else 0))
    ∧ (let test := Reg.INTEGRITY_SELFTEST
      let due := s.stage = 2 ∧ s.flag test Fl.INTEGRITY_SELFTEST_DONE = false
      let fine := s.flag test Fl.INTEGRITY_SELFTEST_FATAL = false
      let regs := fun off => off = test ∨ BootOnly off
      (∀ failed wires, ¬due → DoesNothing s (.bootRomSelfTest failed wires))
      ∧ (due → fine → Does s (.bootRomSelfTest [] []) [] regs fun t => t.stage = 3 ∧ t.fld test Fl.INTEGRITY_SELFTEST_DONE = 1)
      ∧ (∀ k : Fin 8, due → fine → Does s (.bootRomSelfTest [.stack k] []) []
          (fun o => regs o ∨ o = Reg.DEVICE_RETIRE_UNITS ∨ o = Reg.UNIT_STATUS k ∨ o = Reg.DEVICE_DIGEST_STATUS ∨ EventRegs .absentUnit none o) fun t =>
        t.stage = 3 ∧ t.stackAbsent k = true ∧ t.updateUnitAbsent k = true ∧ Reported s t .absentUnit none
          ∧ t.fld test Fl.INTEGRITY_SELFTEST_RETIRED = min 255 (s.fld test Fl.INTEGRITY_SELFTEST_RETIRED + 1))
      ∧ (∀ n : Fin 128, due → fine → Does s (.bootRomSelfTest [.core n] []) []
          (fun o => regs o ∨ o = Reg.DEVICE_RETIRE_CORES (n.val / 64) ∨ o = Reg.CORE_UNIT_STATUS n ∨ o = Reg.SHUTTLE_STATUS n
            ∨ o = Reg.DEVICE_DIGEST_STATUS ∨ EventRegs .absentUnit none o) fun t =>
        t.stage = 3 ∧ t.coreAbsent n = true ∧ t.coreState n = 3 ∧ t.shuttleState n = 4 ∧ Reported s t .absentUnit none)
      ∧ (∀ c, checkerRetires c = false → due → Does s (.bootRomSelfTest [c] []) []
          (fun o => regs o ∨ EventRegs .absentUnit none o) fun t =>
        t.stage = 2 ∧ t.fld test Fl.INTEGRITY_SELFTEST_FATAL = 1 ∧ bootField t Fl.SECURITY_BOOT_STATUS_FATAL = 1
          ∧ t.fld test Fl.INTEGRITY_SELFTEST_DONE = 1 ∧ t.fld Reg.EVENT_ALERT Fl.EVENT_ALERT_ASSERTED = 1))
    ∧ (s.stage ≠ 3 → DoesNothing s .memoryFill)
    ∧ (s.stage = 3 → Does s .memoryFill [.mem, .fw, .upd, .core]
        (fun off => BootOnly off ∨ filledRegister off = true ∨ ∃ i < 128, off = Reg.NEAR_PANEL_STATUS i) fun t =>
      t.stage = 4 ∧ (∀ a, nearBase ≤ a → t.byteAt a = 0) ∧ (∀ a, a < nearBase → t.byteAt a = s.byteAt a)
        ∧ (∀ l, nearBase / 64 ≤ l → t.linePoisoned l = false) ∧ (∀ off, t.arrayErrors off = []) ∧ t.upd = { s.upd with ledgers := [] }
        ∧ (∀ off, filledRegister off = true → t.rd off = resetValue off) ∧ t.core = { s.core with staging := [] }
        ∧ (∀ i, Sparse.get emptyByte t.fw.staging i = 0) ∧ t.fw.running = []
        ∧ ∀ i < 128, t.fld (Reg.NEAR_PANEL_STATUS i) Fl.NEAR_PANEL_STATUS_ACTIVE = 1)
    ∧ (∀ readOk : Bool,
      let code := s.checkFlash readOk
      let due := s.stage = 4 ∧ s.fw.tambour = .rom ∧ s.feedWaits = false
      (¬due → DoesNothing s (.firmwareLoad readOk))
      ∧ (due → code = 0 → Does s (.firmwareLoad readOk) [.fw] ImageRegs fun t =>
        Started s t s.flashImage ∧ t.stage = 5 ∧ bootField t Fl.SECURITY_BOOT_STATUS_FLASH_RESULT = 0)
      ∧ (due → code ≠ 0 → Does s (.firmwareLoad readOk) [.fw] BootOnly fun t =>
        t.stage = 4 ∧ t.feedWaits = true ∧ bootField t Fl.SECURITY_BOOT_STATUS_FLASH_RESULT = code
          ∧ t.fw = { s.fw with fromCopy := false })
      ∧ (readOk = false → code = 1)
      ∧ (headerValid s.flashImage s.is7160 16777216 = false → readOk = true → code = 2))
    ∧ (∀ (who : Requester) (v : Word),
      let feed := Reg.SECURITY_FEED_CONTROL
      let image := s.stagedImage (min (Fl.SECURITY_FEED_CONTROL_LENGTH.read v) 16777216)
      let code := s.checkImage image image.length
      let c := Instr.feedGo who v
      let asWritten := fun (t : State) => t.fld feed Fl.SECURITY_FEED_CONTROL_CHUNK = Fl.SECURITY_FEED_CONTROL_CHUNK.read v
        ∧ t.fld feed Fl.SECURITY_FEED_CONTROL_LENGTH = Fl.SECURITY_FEED_CONTROL_LENGTH.read v
      (s.mayWrite who feed = false → DoesNothing s c)
      ∧ (s.mayWrite who feed = true → (∀ e ∈ s.mem.upsets, e.1 < stagedBase) → code ≠ 0 → Does s c [] (fun off => off = feed ∨ BootOnly off) fun t =>
        asWritten t ∧ bootField t Fl.SECURITY_BOOT_STATUS_FEED_RESULT = code ∧ t.feedWaits = true ∧ t.stage = s.stage)
      ∧ (s.mayWrite who feed = true → (∀ e ∈ s.mem.upsets, e.1 < stagedBase) → code = 0 → Does s c [.fw] (fun off => off = feed ∨ ImageRegs off) fun t =>
        asWritten t ∧ Started s t image ∧ bootField t Fl.SECURITY_BOOT_STATUS_FEED_RESULT = 0
          ∧ bootField t Fl.SECURITY_BOOT_STATUS_HOST_FED = 1 ∧ t.stage = if s.stage = 4 then 5 else s.stage))
    ∧ (∀ (ok : BitVec 8) (repairs : List Bool),
      let up := fun (k : Nat) => ok.toNat / 2 ^ k % 2 = 1 ∧ s.bit Reg.DEVICE_RETIRE_UNITS (8 + k) = false
      (s.stage ≠ 5 → DoesNothing s (.farMemoryTraining ok repairs))
      ∧ (s.stage = 5 → s.fw.repairLog = [] → Does s (.farMemoryTraining ok repairs) [.mem, .boot]
          (fun o => BootOnly o ∨ o = Reg.DEVICE_CAPABILITY ∨ (∃ k < 8, o = Reg.FAR_STATUS k ∨ o = Reg.FAR_IDENTITY k ∨ o = Reg.UNIT_STATUS k)
            ∨ (∃ p < 24, o = Reg.BRIDE_PORT_STATUS p) ∨ EventRegs .absentUnit none o) fun t =>
        t.stage = 6 ∧ (∀ k < 8, up k → t.fld (Reg.FAR_STATUS k) Fl.FAR_STATUS_STATE = 0
            ∧ (t.rd (Reg.FAR_IDENTITY k)).toNat = (if s.is7160 = true then 48 else 64) + 16 * 2 ^ 8 + 2 ^ 16)
          ∧ (∀ k < 8, ¬up k → t.fld (Reg.UNIT_STATUS k) Fl.UNIT_STATUS_STATE = 3 ∧ t.rd (Reg.FAR_STATUS k) = s.rd (Reg.FAR_STATUS k))
          ∧ ((∀ k < 8, up k) → t.fld Reg.DEVICE_CAPABILITY Fl.DEVICE_CAPABILITY_STACKS = 8)
          ∧ (∀ a, a < nearBase → t.byteAt a = 0) ∧ (∀ a, nearBase ≤ a → t.byteAt a = s.byteAt a) ∧ t.mem.written = []
          ∧ ∀ p < 24, s.portAbsent p = false → s.portState p < 2 → t.linkState p = 1 ∧ NatSet.has t.boot.firstTry p = true))
    ∧ (¬(s.stage = 6 ∧ s.boot.firstTry = []) → DoesNothing s .coresReleased)
    ∧ (s.stage = 6 → s.boot.firstTry = [] → Does s .coresReleased [] BootOnly fun t =>
      t.stage = 7 ∧ t.ready = true ∧ bootField t Fl.SECURITY_BOOT_STATUS_READY_MS = s.uptime / 1000000 % 2 ^ 32)

namespace Sys2Proof.Claims

/-- Tambour takes function f's request of a code (R424). -/
def Requests (s : State) (f : Fin 32) (code : Nat) : Prop :=
  s.flag (Reg.MGMT_STATUS f) Fl.MGMT_STATUS_BUSY = true ∧ s.tambourServes = true ∧ s.mgmtField f 0 2 = code

/-- Tambour takes function f's request of a code, the function may make it, and its arguments are there. -/
def Orders (s : State) (f : Fin 32) (code n : Nat) : Prop :=
  Requests s f code ∧ s.fnPrivileged f = true ∧ n ≤ s.mgmtField f 2 2

/-- Function f's request is answered with a RESULT and the bytes of a response (R424). -/
def Answered (t : State) (f : Fin 32) (result : Nat) (bytes : List Byte) : Prop :=
  t.flag (Reg.MGMT_STATUS f) Fl.MGMT_STATUS_BUSY = false ∧ t.fld (Reg.MGMT_STATUS f) Fl.MGMT_STATUS_RESULT = result
    ∧ t.fld (Reg.MGMT_STATUS f) Fl.MGMT_STATUS_RESPONSE_LENGTH = bytes.length
    ∧ ∀ w < 32, (t.rd (Reg.MGMT_RESPONSE f w)).toNat = natLE ((bytes.drop (8 * w)).take 8)

/-- The registers an answer to function f writes. -/
def AnswerRegs (f : Fin 32) (off : Nat) : Prop := off = Reg.MGMT_STATUS f ∨ ∃ w < 32, off = Reg.MGMT_RESPONSE f w

/-- The requests of privileged functions: code, length of the arguments, command (R424, R437 to R439, R444). -/
def orders (f : Fin 32) : List (Nat × Nat × Instr) :=
  [(0x0001, 24, .mgmtWrite f), (0x0003, 4, .retire f), (0x0100, 12, .fwFetch f), (0x0101, 0, .fwCommit f), (0x0102, 8, .fwActivate f),
    (0x0103, 0, .svnAdvance f), (0x0110, 0, .debugNonce f), (0x0111, 140, .debugOpen f), (0x0112, 0, .debugClose f)]

/-- A block whose registers have no rule of their own for writes. -/
def PlainRegion : Region → Prop
  | .device | .bank | .near | .telltale _ | .tierTenant _ _ | .tierRegion | .tier | .endpoint | .coreOwner _ | .host | .integrity => True
  | _ => False

/-- The registers that retiring a unit writes: its bit of the retirement map, its state, and the device digest's status (R98, R365, R472). -/
def RetireRegs (u : DrainUnit) (off : Nat) : Prop :=
  (0x28 ≤ off ∧ off < 0x90) ∨ off = Reg.DEVICE_DIGEST_STATUS ∨
    match u with
    | .queue n e => off = Reg.QUEUE_STATUS n e
    | .core n => off = Reg.CORE_UNIT_STATUS n ∨ off = Reg.SHUTTLE_STATUS n
    | .cluster c => off = Reg.CLUSTER_UNIT_STATUS c
    | .tierQueue q => off = Reg.TIER_QUEUE_STATUS q
    | .updateUnit i => off = Reg.UNIT_STATUS i
    | .port p => off = Reg.BRIDE_PORT_STATUS p
    | .collective e => off = Reg.COLLECTIVE_STATUS e

/-- UPDATE_STATUS is the one register that may differ. -/
def UpdateOnly (off : Nat) : Prop := off = Reg.SECURITY_UPDATE_STATUS

/-- A field of UPDATE_STATUS. -/
def updateField (s : State) (f : Fld) : Nat := s.fld Reg.SECURITY_UPDATE_STATUS f

/-- A field of SECURITY.DEBUG. -/
def debugField (s : State) (f : Fld) : Nat := s.fld Reg.SECURITY_DEBUG f

end Sys2Proof.Claims

/-- Management requests and retirement (R424, R98, R262, R440): who may make a request and how a refused one is answered; WRITE writes the masked bits and READ returns the register; RETIRE
retires a DISABLED unit at once, is REFUSED for an update unit in use, and West's Tambour core retires at the next boundary. What a request too short answers is notes/assumptions/41,
the SOURCE form of RETIRE's arguments notes/assumptions/45. -/
def Obligations.ManagementRequests : Prop :=
  ∀ (s : State) (f : Fin 32),
    let done := AnswerRegs f
    (∀ x ∈ orders f,
      (¬Requests s f x.1 → DoesNothing s x.2.2)
      ∧ (Requests s f x.1 → s.fnPrivileged f = false → Does s x.2.2 [] done fun t => Answered t f 2 [])
      ∧ (Requests s f x.1 → s.fnPrivileged f = true → s.mgmtField f 2 2 < x.2.1 → Does s x.2.2 [] done fun t => Answered t f 1 []))
    ∧ (∀ code, mgmtDefined code = false → Requests s f code → Does s (.mgmtReserved f) [] done fun t => Answered t f 1 [])
    ∧ (∀ code, mgmtDefined code = true → Requests s f code → DoesNothing s (.mgmtReserved f))
    ∧ (let off := s.mgmtField f 8 8
      let v := s.maskedValue off (BitVec.ofNat 64 (s.mgmtField f 16 8)) (BitVec.ofNat 64 (s.mgmtField f 24 8))
      (Orders s f 1 24 → offsetOk off = false → Does s (.mgmtWrite f) [] done fun t => Answered t f 1 [])
      ∧ (∀ c, Orders s f 1 24 → offsetOk off = true → PlainRegion (regionOf off) → RegTable.find off = some c →
        Does s (.mgmtWrite f) [] (fun o => done o ∨ o = off) fun t => Answered t f 0 [] ∧ t.rd off = putFields v c.fields (s.rd off))
      ∧ (∀ g : Fin 32, Orders s f 1 24 → off = Reg.FUNCTION_BINDING g → s.bindConflict g v = true →
        Does s (.mgmtWrite f) [] (fun o => done o ∨ o = off) fun t => Answered t f 3 [] ∧ t.fld off Fl.FUNCTION_BINDING_BIND_ERR = 1
          ∧ t.fnTenant g = s.fnTenant g)
      ∧ (¬Requests s f 2 → DoesNothing s (.mgmtRead f))
      ∧ (Requests s f 2 → (s.mgmtField f 2 2 < 8 ∨ offsetOk off = false) → Does s (.mgmtRead f) [] done fun t => Answered t f 1 [])
      ∧ (Requests s f 2 → 8 ≤ s.mgmtField f 2 2 → offsetOk off = true → s.mayMgmtRead f off = false →
        Does s (.mgmtRead f) [] done fun t => Answered t f 2 [])
      ∧ (Requests s f 2 → 8 ≤ s.mgmtField f 2 2 → offsetOk off = true → s.mayMgmtRead f off = true → s.arrayErrors off = [] →
        Does s (.mgmtRead f) [] done fun t => Answered t f 0 (bytesLE 8 (s.readValue off).toNat)))
    ∧ (let kind := s.mgmtField f 8 1
      let index := s.mgmtField f 9 2
      let target := retireTarget kind index (s.mgmtField f 11 1)
      Orders s f 3 4 →
        (∀ u, target = some u → s.retireRefused u = true → Does s (.retire f) [] done fun t => Answered t f 3 [])
        ∧ (∀ u, target = some u → s.retireRefused u = false → s.unitStateOf u = 3 → Does s (.retire f) [] done fun t => Answered t f 0 [])
        ∧ (∀ u, target = some u → s.retireRefused u = false → s.unitStateOf u = 2 →
          Does s (.retire f) [] (fun o => done o ∨ RetireRegs u o) fun t => Answered t f 0 [] ∧ t.unitStateOf u = 3)
        ∧ (∀ u, target = some u → s.retireRefused u = false → ∃ t, exec (.retire f) s = .next t ∧ Answered t f 0 [])
        ∧ (target = none → kind = 0 → index = 0 → s.fw.east = false → Does s (.retire f) [.fw] done fun t =>
          Answered t f 0 [] ∧ t.fw = { s.fw with retirePending := true })
        ∧ (target = none → kind = 6 → index < 8 → Does s (.retire f) [] done fun t => Answered t f 3 [])
        ∧ (target = none → ¬(kind = 0 ∧ index = 0) → ¬(kind = 6 ∧ index < 8) → Does s (.retire f) [] done fun t => Answered t f 1 []))

/-- Firmware update, activation and the debug lock (R437, R438, R439, R440, R444): what each request and each event of the update does in each state, what Tambour runs after a start, and
who opens the debug scope. The answers to a request of the wrong state are REFUSED; those to a bad length and to a failed DEBUG_OPEN are notes/assumptions/41, the erased flash notes/assumptions/44. -/
def Obligations.FirmwareUpdateAndDebug : Prop :=
  ∀ (s : State) (f : Fin 32) (ok : Bool),
    let done := AnswerRegs f
    let image := s.stagedImage s.fw.stagedLen
    (Orders s f 0x0100 12 →
      let len := s.mgmtField f 16 4
      let free := s.updateState = 0 ∨ s.updateState = 2
      let staging := fun (t : State) => Answered t f 0 [] ∧ t.updateState = 1
        ∧ updateField t Fl.SECURITY_UPDATE_STATUS_STAGED_SVN = 0 ∧ t.side.update = none
        ∧ t.fw = { s.fw with staging := [], stagedLen := 0, fetchFailed := !s.canDma f }
      (¬free → Does s (.fwFetch f) [] done fun t => Answered t f 3 [])
      ∧ (free → 16777216 < len → Does s (.fwFetch f) [] done fun t => Answered t f 1 [])
      ∧ (free → len ≤ 16777216 → s.canDma f = true → (∀ i ∈ s.dma, i.queued = []) →
        Does s (.fwFetch f) [.fw, .side, .dma, .dmaTag] (fun o => done o ∨ UpdateOnly o) fun t => staging t
          ∧ ∃ j, t.dma = s.dma ++ [j] ∧ j.owner = .firmware ∧ j.bytes.length = len)
      ∧ (free → len ≤ 16777216 → s.canDma f = false →
        Does s (.fwFetch f) [.fw, .side] (fun o => done o ∨ UpdateOnly o ∨ o = Reg.ENDPOINT_DMA_ERROR (f.val / 16)) staging))
    ∧ ((∀ e ∈ s.mem.upsets, e.1 < stagedBase) →
      let code := if s.fw.fetchFailed then 1 else s.checkImage image image.length
      (¬(s.updateState = 1 ∧ s.transferred = true) → DoesNothing s .fwStagingComplete)
      ∧ (s.updateState = 1 → s.transferred = true → code = 0 → Does s .fwStagingComplete [] UpdateOnly fun t => t.updateState = 2
          ∧ updateField t Fl.SECURITY_UPDATE_STATUS_STAGED_SVN = headerField image 12 4 % 64
          ∧ ∀ b k, s.side.update = some (b, k) → Out.mctp b (.verifyComplete 0) ∈ t.out)
      ∧ (s.updateState = 1 → s.transferred = true → code ≠ 0 → Does s .fwStagingComplete [.fw, .side] UpdateOnly fun t => t.updateState = 0
          ∧ updateField t Fl.SECURITY_UPDATE_STATUS_ERR = code ∧ t.fw.staging = [] ∧ t.fw.stagedLen = 0 ∧ t.side.update = none
          ∧ ∀ b k, s.side.update = some (b, k) → Out.mctp b (.verifyComplete code) ∈ t.out))
    ∧ (Orders s f 0x0101 0 → (s.updateState ≠ 2 → Does s (.fwCommit f) [] done fun t => Answered t f 3 [])
      ∧ (s.updateState = 2 → Does s (.fwCommit f) [.fw] (fun o => done o ∨ UpdateOnly o) fun t => Answered t f 0 [] ∧ t.updateState = 3
          ∧ t.fw = { s.fw with flash := [], retries := 0 }))
    ∧ (s.updateState ≠ 3 → DoesNothing s (.flashWriteComplete ok))
    ∧ (s.updateState = 3 → (∀ e ∈ s.mem.upsets, e.1 < stagedBase) →
      Does s (.flashWriteComplete true) [.fw] UpdateOnly (fun t => t.updateState = 4 ∧ t.fw = { s.fw with flash := image, retries := 0 })
      ∧ (s.fw.retries < 3 → Does s (.flashWriteComplete false) [.fw] noReg fun t => t.fw = { s.fw with retries := s.fw.retries + 1 })
      ∧ (3 ≤ s.fw.retries → Does s (.flashWriteComplete false) [.fw, .side] UpdateOnly fun t => t.updateState = 0
          ∧ updateField t Fl.SECURITY_UPDATE_STATUS_ERR = 6 ∧ t.fw.staging = []))
    ∧ (Orders s f 0x0102 8 → (s.updateState ≠ 4 → Does s (.fwActivate f) [] done fun t => Answered t f 3 [])
      ∧ (s.updateState = 4 →
        let a := max (s.mgmtField f 8 8) (s.stitch + 2)
        Does s (.fwActivate f) [.fw] (fun o => done o ∨ o = Reg.SECURITY_ACTIVATE_AT) fun t => Answered t f 0 []
          ∧ t.fw = { s.fw with activateAt := some a } ∧ t.rd Reg.SECURITY_ACTIVATE_AT = BitVec.ofNat 64 a))
    ∧ (∀ lost : Bool,
      let c := Instr.tambourStart ok lost
      let flashOk := s.checkFlash ok = 0
      let copyOk := lost = false ∧ s.checkImage s.fw.running s.fw.running.length = 0
      let fails := Does s c [.fw] (fun o => BootOnly o ∨ UpdateOnly o) fun t => updateField t Fl.SECURITY_UPDATE_STATUS_ERR = 7
        ∧ t.feedWaits = true ∧ t.fw = { s.fw with tambour := .rom, fromCopy := false }
      (s.fw.tambour ≠ .starting → DoesNothing s c)
      ∧ (s.fw.tambour = .starting → s.fw.fromCopy = false → flashOk → Does s c [.fw] ImageRegs fun t => Started s t s.flashImage
          ∧ bootField t Fl.SECURITY_BOOT_STATUS_HOST_FED = 0)
      ∧ (s.fw.tambour = .starting → s.fw.fromCopy = false → ¬flashOk → fails)
      ∧ (s.fw.tambour = .starting → s.fw.fromCopy = true → copyOk → Does s c [.fw] ImageRegs fun t => Started s t s.fw.running
          ∧ bootField t Fl.SECURITY_BOOT_STATUS_HOST_FED = bootField s Fl.SECURITY_BOOT_STATUS_HOST_FED)
      ∧ (s.fw.tambour = .starting → s.fw.fromCopy = true → ¬copyOk → flashOk → measurementOf s.flashImage = s.measurement →
        Does s c [.fw] ImageRegs fun t => Started s t s.flashImage)
      ∧ (s.fw.tambour = .starting → s.fw.fromCopy = true → ¬copyOk → ¬(flashOk ∧ measurementOf s.flashImage = s.measurement) → fails))
    ∧ (∀ w, s.fw.windowEnd = some w →
      (s.stitch < w → DoesNothing s .activationWindowEnd)
      ∧ (w ≤ s.stitch → Does s .activationWindowEnd [.fw] noReg fun t => t.fw = { s.fw with windowEnd := none, oldDigests := [] }))
    ∧ (s.fw.windowEnd = none → DoesNothing s .activationWindowEnd)
    ∧ (Orders s f 0x0103 0 →
      let r := Reg.SECURITY_FIRMWARE
      let may := s.updateState = 0 ∧ bootField s Fl.SECURITY_BOOT_STATUS_HOST_FED = 0
      (¬may → Does s (.svnAdvance f) [] done fun t => Answered t f 3 [])
      ∧ (may → Does s (.svnAdvance f) [] (fun o => done o ∨ o = r) fun t => Answered t f 0 []
          ∧ t.fld r Fl.SECURITY_FIRMWARE_MIN_SVN = max (s.fld r Fl.SECURITY_FIRMWARE_MIN_SVN) (s.fld r Fl.SECURITY_FIRMWARE_SVN)
          ∧ t.fld r Fl.SECURITY_FIRMWARE_SVN = s.fld r Fl.SECURITY_FIRMWARE_SVN))
    ∧ (Orders s f 0x0110 0 → (debugField s Fl.SECURITY_DEBUG_LOCKED_OUT = 1 → Does s (.debugNonce f) [] done fun t => Answered t f 3 [])
      ∧ (debugField s Fl.SECURITY_DEBUG_LOCKED_OUT = 0 → Does s (.debugNonce f) [.fw, .free] done fun t => ∃ nonce, nonce.length = 64
          ∧ Answered t f 0 nonce ∧ t.fw = { s.fw with nonce := some (nonce, s.uptime + 60000000000) }))
    ∧ (Orders s f 0x0111 140 →
      let scope := s.mgmtField f 8 8
      let opens := s.opensScope scope (((s.mgmtRequest f).drop 16).take 132)
      let failures := min 8 (debugField s Fl.SECURITY_DEBUG_FAILURES + 1)
      let regs := fun o => done o ∨ o = Reg.SECURITY_DEBUG ∨ EventRegs .debugScope none o
      (s.fw.nonce = none ∨ 8 ≤ scope → opens = false)
      ∧ (opens = true → Does s (.debugOpen f) [.fw] regs fun t => Answered t f 0 [] ∧ t.fw = { s.fw with nonce := none }
          ∧ t.rd Reg.SECURITY_DEBUG = s.rd Reg.SECURITY_DEBUG ||| BitVec.ofNat 64 scope ∧ Reported s t .debugScope none)
      ∧ (opens = false → Does s (.debugOpen f) [.fw] regs fun t => Answered t f 3 [] ∧ t.fw = { s.fw with nonce := none }
          ∧ debugField t Fl.SECURITY_DEBUG_FAILURES = failures ∧ debugField t Fl.SECURITY_DEBUG_SCOPE = debugField s Fl.SECURITY_DEBUG_SCOPE
          ∧ debugField t Fl.SECURITY_DEBUG_LOCKED_OUT = (if failures = 8 then 1 else debugField s Fl.SECURITY_DEBUG_LOCKED_OUT)
          ∧ Reported s t .debugScope none))
    ∧ (Orders s f 0x0112 0 → Does s (.debugClose f) [.fw] (fun o => done o ∨ o = Reg.SECURITY_DEBUG ∨ EventRegs .debugScope none o) fun t =>
        Answered t f 0 [] ∧ debugField t Fl.SECURITY_DEBUG_SCOPE = 0 ∧ t.fw = { s.fw with halted := false } ∧ Reported s t .debugScope none)
    ∧ (s.fw.nonce = none → DoesNothing s .debugNonceExpiry)
    ∧ (∀ x e, s.fw.nonce = some (x, e) → (s.uptime < e → DoesNothing s .debugNonceExpiry)
      ∧ (e ≤ s.uptime → Does s .debugNonceExpiry [.fw] noReg fun t => t.fw = { s.fw with nonce := none }))

namespace Sys2Proof.Claims

/-- Tambour serves the messages of a binding: the binding is up, and Tambour runs an image and is not halted (R428, R444). -/
def Serves (s : State) (b : Nat) : Prop := s.bindingUp b = true ∧ s.tambourServes = true

/-- A message that arrives where Tambour does not serve: without a binding nothing happens; while Tambour does not run it waits, to be
answered afterwards (R428; notes/assumptions/126). -/
def Awaits (s : State) (b : Fin 3) (c : Instr) : Prop :=
  (s.bindingUp b = false → DoesNothing s c)
    ∧ (s.bindingUp b = true → s.tambourServes = false →
      Does s c [.side] noReg fun t => t.side = { s.side with held := s.side.held ++ [c] })

/-- The message is answered, and what holds of the state then. -/
def Answers (b : Fin 3) (m : Message) (post : State → Prop) (t : State) : Prop := Out.mctp b m ∈ t.out ∧ post t

/-- No more than the answer. -/
def Only (_ : State) : Prop := True

/-- The binding's SPDM negotiation has come to step k, and nothing else of the sideband differs. -/
def Negotiated (s t : State) (b : Fin 3) (k : Nat) : Prop := t.side = { s.side with spdm := s.side.spdm.set b k }

/-- The binding's PLDM update has come to step k. -/
def UpdateAt (t : State) (b : Fin 3) (k : Nat) : Prop := t.side.update = some (b.val, k)

end Sys2Proof.Claims

/-- The sideband (R428, R442, R443, R437, R460, R461, R482, R484): what Tambour answers to MCTP control, SPDM and PLDM messages and when it refuses them, the I3C target, the SMBus alert response
and the JTAG registers. That a binding has its own SPDM negotiation and that message contents stand for messages is notes/assumptions/42; ERR after a cancelled update is a free value. -/
def Obligations.SidebandAnswers : Prop :=
  ∀ (s : State) (b : Fin 3),
    (∀ (eid index : Byte) (offered : Bool) (slot : Fin 8) (off len comp : BitVec 16) (nonce bytes : List Byte) (sig : Option (List Byte))
        (size : W32) (x : Sensor),
      let spdm : List (Nat × Instr) := [(1, .getCapabilities b), (2, .negotiateAlgorithms b offered), (3, .getDigests b),
        (3, .getCertificate b slot off len), (3, .challenge b slot nonce), (3, .getMeasurements b index sig)]
      let others : List Instr := [.setEndpointId b eid, .getVersion b, .requestUpdate b, .passComponentTable b comp, .updateComponent b comp size,
        .requestFirmwareData b bytes, .activateFirmware b, .getStatus b, .cancelUpdate b, .getSensorReading b x, .setEventReceiver b eid,
        .pollForPlatformEventMessage b]
      (∀ c ∈ others, Awaits s b c) ∧ (∀ p ∈ spdm, Awaits s b p.2)
      ∧ (Serves s b → ∀ p ∈ spdm, s.spdmAt b < p.1 → Does s p.2 [] noReg (Answers b .spdmError Only)))
    ∧ (Serves s b →
      (∀ eid : Byte, (eid = 0 ∨ eid = 0xFF → Does s (.setEndpointId b eid) [] noReg (Answers b .refused Only))
        ∧ (eid ≠ 0 → eid ≠ 0xFF → Does s (.setEndpointId b eid) [.side] noReg (Answers b (.endpointId eid.toNat) (fun t =>
          t.side = { s.side with eids := s.side.eids.set b eid.toNat }))))
      ∧ Does s (.getVersion b) [.side] noReg (Answers b .version (fun t => Negotiated s t b 1))
      ∧ (1 ≤ s.spdmAt b → Does s (.getCapabilities b) [.side] noReg (Answers b .capabilities (fun t => Negotiated s t b 2)))
      ∧ (2 ≤ s.spdmAt b → Does s (.negotiateAlgorithms b true) [.side] noReg (Answers b .algorithms (fun t => Negotiated s t b 3))
        ∧ Does s (.negotiateAlgorithms b false) [] noReg (Answers b .spdmError Only))
      ∧ (3 ≤ s.spdmAt b →
        let chain := s.fw.certs
        let block := fun (k : Nat) =>
          if k = 1 then Config.romDigest
          else if k = 2 then s.digestBytes Reg.SECURITY_MEASUREMENT
          else if k = 3 then [s.fld Reg.SECURITY_FIRMWARE Fl.SECURITY_FIRMWARE_SVN, s.fld Reg.SECURITY_FIRMWARE Fl.SECURITY_FIRMWARE_MIN_SVN,
            bootField s Fl.SECURITY_BOOT_STATUS_HOST_FED].map (BitVec.ofNat 8)
          else if k = 4 then sha512 s.mapBytes
          else bytesLE 8 (debugField s Fl.SECURITY_DEBUG_SCOPE) ++ [BitVec.ofNat 8 (debugField s Fl.SECURITY_DEBUG_FAILURES)]
        let all := [1, 2, 3, 4, 5].map fun k => (k, block k)
        Does s (.getDigests b) [] noReg (Answers b (.digests (sha512 chain)) Only)
        ∧ (∀ off len : BitVec 16, off.toNat < chain.length →
          Does s (.getCertificate b 0 off len) [] noReg (Answers b (.certificate ((chain.drop off.toNat).take len.toNat)) Only))
        ∧ (∀ (slot : Fin 8) (off len : BitVec 16), slot ≠ 0 ∨ chain.length ≤ off.toNat →
          Does s (.getCertificate b slot off len) [] noReg (Answers b .spdmError Only))
        ∧ (∀ nonce, Does s (.challenge b 0 nonce) [] noReg (Answers b (.challengeAuth (Config.sign (nonce ++ sha512 chain))) Only))
        ∧ (∀ (slot : Fin 8) nonce, slot ≠ 0 → Does s (.challenge b slot nonce) [] noReg (Answers b .spdmError Only))
        ∧ (∀ k : Byte, 1 ≤ k.toNat → k.toNat ≤ 5 →
          Does s (.getMeasurements b k none) [] noReg (Answers b (.measurements [(k.toNat, block k.toNat)] []) Only)
          ∧ ∀ x, Does s (.getMeasurements b k (some x)) [] noReg
            (Answers b (.measurements [(k.toNat, block k.toNat)] (Config.sign (x ++ block k.toNat))) Only))
        ∧ Does s (.getMeasurements b 0xFF none) [] noReg (Answers b (.measurements all []) Only)
        ∧ (∀ x, Does s (.getMeasurements b 0xFF (some x)) [] noReg
          (Answers b (.measurements all (Config.sign (x ++ all.flatMap (·.2)))) Only))
        ∧ Does s (.getMeasurements b 0 none) [] noReg (Answers b (.measurements [] []) Only)
        ∧ ∀ (index : Byte) sig, 6 ≤ index.toNat → index ≠ 0xFF → Does s (.getMeasurements b index sig) [] noReg (Answers b .spdmError Only)))
    ∧ (Serves s b →
      let free := s.updateState = 0 ∨ s.updateState = 2
      let want := min 4096 (s.side.size - s.fw.stagedLen)
      (¬free → Does s (.requestUpdate b) [] noReg (Answers b .refused Only))
      ∧ (free → Does s (.requestUpdate b) [.fw, .side] UpdateOnly fun t => Out.mctp b .accepted ∈ t.out ∧ UpdateAt t b 1 ∧ t.updateState = 1
          ∧ t.fw = { s.fw with staging := [], stagedLen := 0, fetchFailed := false })
      ∧ (∀ comp : BitVec 16, ¬(s.updateAt b = 1 ∧ comp = 1) → Does s (.passComponentTable b comp) [] noReg (Answers b .refused Only))
      ∧ (s.updateAt b = 1 → Does s (.passComponentTable b 1) [.side] noReg (Answers b .accepted (fun t => UpdateAt t b 2)))
      ∧ (∀ (comp : BitVec 16) (size : W32),
        let good := s.updateAt b = 2 ∧ comp = 1 ∧ 0 < size.toNat ∧ size.toNat ≤ 16777216
        (¬good → Does s (.updateComponent b comp size) [] noReg (Answers b .refused Only))
        ∧ (good → Does s (.updateComponent b comp size) [.side] noReg (Answers b .accepted (fun t => UpdateAt t b 3 ∧ t.side.size = size.toNat
          ∧ Out.mctp b (.requestFirmwareData s.fw.stagedLen (min 4096 (size.toNat - s.fw.stagedLen))) ∈ t.out))))
      ∧ (∀ bytes, ¬(s.updateAt b = 3 ∧ bytes.length = want) → DoesNothing s (.requestFirmwareData b bytes))
      ∧ (∀ bytes, s.updateAt b = 3 → bytes.length = want → (∀ e ∈ s.mem.upsets, e.1 < stagedBase) →
        let at' := s.fw.stagedLen + bytes.length
        let kept := fun (t : State) => t.fw.stagedLen = at'
          ∧ (∀ i < bytes.length, Sparse.get emptyByte t.fw.staging (s.fw.stagedLen + i) = bytes.getD i 0)
          ∧ ∀ i, i < s.fw.stagedLen ∨ at' ≤ i → Sparse.get emptyByte t.fw.staging i = Sparse.get emptyByte s.fw.staging i
        (at' = s.side.size → Does s (.requestFirmwareData b bytes) [.fw, .side] noReg (Answers b .transferComplete (fun t => kept t ∧ UpdateAt t b 4)))
        ∧ (at' ≠ s.side.size → Does s (.requestFirmwareData b bytes) [.fw] noReg (Answers b (.requestFirmwareData at' (min 4096 (s.side.size - at'))) kept)))
      ∧ (s.updateState ≠ 4 → Does s (.activateFirmware b) [] noReg (Answers b .refused Only))
      ∧ (s.updateState = 4 →
        let a := max (s.fw.activateAt.getD 0) (s.stitch + 2)
        Does s (.activateFirmware b) [.fw] (fun o => o = Reg.SECURITY_ACTIVATE_AT) fun t => Out.mctp b .accepted ∈ t.out
          ∧ t.fw = { s.fw with activateAt := some a } ∧ t.rd Reg.SECURITY_ACTIVATE_AT = BitVec.ofNat 64 a)
      ∧ Does s (.getStatus b) [] noReg (Answers b (.updateStatus s.updateState (updateField s Fl.SECURITY_UPDATE_STATUS_ERR)) Only)
      ∧ (s.updateState ≠ 1 → Does s (.cancelUpdate b) [] noReg (Answers b .refused Only))
      ∧ (s.updateState = 1 → Does s (.cancelUpdate b) [.fw, .side, .dma, .free] UpdateOnly fun t => Out.mctp b .accepted ∈ t.out
          ∧ t.updateState = 0 ∧ 1 ≤ updateField t Fl.SECURITY_UPDATE_STATUS_ERR ∧ t.fw.staging = [] ∧ t.side.update = none
          ∧ t.dma = s.dma.filter (fun j => j.owner != DmaOwner.firmware)))
    ∧ (Serves s b →
      let tells := fun (x : Sensor) (v : Int) => Does s (.getSensorReading b x) [] noReg (Answers b (.sensor v) Only)
      tells .inputVoltage (s.fld Reg.THERMAL_INPUT Fl.THERMAL_INPUT_VOLTAGE) ∧ tells .inputCurrent (s.fld Reg.THERMAL_INPUT Fl.THERMAL_INPUT_CURRENT)
      ∧ tells .averagePower (s.fld Reg.THERMAL_INPUT Fl.THERMAL_INPUT_POWER) ∧ tells .energy (s.rd Reg.THERMAL_ENERGY).toNat
      ∧ tells .trip (s.fld Reg.THERMAL_TRIP Fl.THERMAL_TRIP_LATCHED)
      ∧ (∀ k : Fin 8, tells (.stack k) (s.fld (Reg.FAR_STATUS k) Fl.FAR_STATUS_TEMPERATURE))
      ∧ (∀ l : Fin 4, ∃ v : Int, tells (.layer l) v ∧ (∃ n < 160, sensorLayer n = l ∧ s.governing n = v)
          ∧ ∀ n < 160, sensorLayer n = l → s.governing n ≤ v)
      ∧ (∀ x, x = Sensor.warning ∨ x = .throttle → ∃ v : Int, tells x v ∧ (v = 0 ∨ v = 1))
      ∧ ∀ eid : Byte, Does s (.setEventReceiver b eid) [.side] noReg (Answers b .accepted (fun t => t.side = { s.side with receiver := some (b.val, eid.toNat) })))
    ∧ (let entry := fun (rb : Nat) => s.entryBytes rb (s.mctpPos.getD rb 0 % 4096)
      let passed := fun (t : State) (rb : Nat) => s.occs = [] → t.mctpPos = s.mctpPos.set rb ((s.mctpPos.getD rb 0 + 1) % 65536)
      (Serves s b →
        (s.recordReady 0 = true → Does s (.pollForPlatformEventMessage b) [] noReg (Answers b (.polled (some (entry 0))) (fun t => passed t 0)))
        ∧ (s.recordReady 0 = false → s.recordReady 1 = true → Does s (.pollForPlatformEventMessage b) [] noReg (Answers b (.polled (some (entry 1))) (fun t => passed t 1)))
        ∧ (s.recordReady 0 = false → s.recordReady 1 = false → Does s (.pollForPlatformEventMessage b) [] noReg (Answers b (.polled none) Only)))
      ∧ (s.side.receiver = none → DoesNothing s .platformEventMessage)
      ∧ ∀ eid, s.side.receiver = some (b.val, eid) →
        (¬Serves s b → DoesNothing s .platformEventMessage) ∧ (s.recordReady 0 = false → s.recordReady 1 = false → DoesNothing s .platformEventMessage)
        ∧ (Serves s b → s.recordReady 0 = true → Does s .platformEventMessage [] noReg (Answers b (.platformEvent (entry 0)) (fun t => passed t 0)))
        ∧ (Serves s b → s.recordReady 0 = false → s.recordReady 1 = true → Does s .platformEventMessage [] noReg (Answers b (.platformEvent (entry 1)) (fun t => passed t 1))))
    ∧ (∀ a static : BitVec 7,
      let up := s.boot.powered = true ∧ 2 ≤ s.stage
      let fresh := up ∧ s.side.i3c = none
      let own := 0x60 + s.boot.strap
      let mine := up ∧ s.side.i3c = some a.toNat
      let sends := fun (x : List Byte) (t : State) => Out.i3c x ∈ t.out
      (¬fresh → DoesNothing s (.entdaa a))
      ∧ (fresh → Does s (.entdaa a) [.side] noReg fun t => Out.i3c (Config.i3cPid ++ [Config.i3cBcr, Config.i3cDcr]) ∈ t.out
          ∧ t.side = { s.side with i3c := some a.toNat })
      ∧ (¬(fresh ∧ static.toNat = own) → DoesNothing s (.setdasa static a))
      ∧ (fresh → static.toNat = own → Does s (.setdasa static a) [.side] noReg fun t => t.side = { s.side with i3c := some a.toNat })
      ∧ (mine → Does s (.getpid a) [] noReg (sends Config.i3cPid) ∧ Does s (.getbcr a) [] noReg (sends [Config.i3cBcr])
        ∧ Does s (.getdcr a) [] noReg (sends [Config.i3cDcr]) ∧ Does s (.getmwl a) [] noReg (sends Config.i3cMwl)
        ∧ Does s (.getmrl a) [] noReg (sends Config.i3cMrl)
        ∧ Does s (.getstatus a) [.free] noReg fun t => ∃ x, x.length = 2 ∧ sends x t)
      ∧ (¬mine → DoesNothing s (.getpid a) ∧ DoesNothing s (.getbcr a) ∧ DoesNothing s (.getdcr a) ∧ DoesNothing s (.getmwl a)
        ∧ DoesNothing s (.getmrl a) ∧ Does s (.getstatus a) [.free] noReg fun _ => True)
      ∧ (up → s.fld Reg.EVENT_ALERT Fl.EVENT_ALERT_ASSERTED = 1 → Does s .alertResponse [] noReg fun t => Out.smbusAlert own ∈ t.out)
      ∧ (¬(up ∧ s.fld Reg.EVENT_ALERT Fl.EVENT_ALERT_ASSERTED = 1) → DoesNothing s .alertResponse))
    ∧ (s.boot.powered = false → DoesNothing s .idcode ∧ DoesNothing s .bypass)
    ∧ (s.boot.powered = true →
      Does s .idcode [.side] noReg (fun t => t.side = { s.side with jtag := 0 }
          ∧ Out.debugPort (if s.is7160 = true then 0x07160DDD else 0x07200DDD) ∈ t.out)
      ∧ Does s .bypass [.side] noReg fun t => t.side = { s.side with jtag := 1 })

namespace Sys2Proof.Claims

/-- A register has no rule of its own for writes, and its fields are those of a row of the register table. -/
def PlainReg (off : Nat) (c : RegClass) : Prop := off % 8 = 0 ∧ off < bar2 ∧ PlainRegion (regionOf off) ∧ RegTable.find off = some c

/-- A whole write of a plain register by its access codes, with what else of the state may differ. -/
def WritesPlain (s : State) (c : Instr) (parts : List Part) (off : Nat) (fields : List FieldSpec) (v : Word) (post : State → Prop) : Prop :=
  Does s c parts (fun o => o = off) fun t => t.rd off = putFields v fields (s.rd off) ∧ post t

/-- The requester holds no latched low half. -/
def NoLatch (t : State) (who : Requester) : Prop := ∀ off, t.latched who off = none

end Sys2Proof.Claims

/-- Register access (R19, R20, R94, R413, R444, R466, R467, R468, R469): what a write does by the access codes; a requester without the right changes nothing; the 32-bit halves and the write latch;
wrong widths count; the debug port with and without its scopes. Which scope opens which registers to the debug port is notes/assumptions/15. -/
def Obligations.RegisterAccess : Prop :=
  (∀ (f : FieldSpec) (v w : Word), f.lo + f.width ≤ 64 →
    let after := f.fld.read (f.put v w)
    (f.access = .rw → after = f.fld.read v) ∧ (f.access = .ro → f.put v w = w) ∧ (f.access = .wo → f.put v w = w)
      ∧ (f.access = .sat → after = if f.fld.read v = 0 then 0 else f.fld.read w)
      ∧ (f.access = .w1c → after = f.fld.read w &&& (2 ^ f.width - 1 - f.fld.read v))
      ∧ (f.access = .w1s → after = f.fld.read w ||| f.fld.read v)
      ∧ ∀ i, (i < f.lo ∨ f.lo + f.width ≤ i) → (f.put v w).getLsbD i = w.getLsbD i)
  ∧ ∀ (s : State) (who : Requester) (o : BitVec 27),
    let off := o.toNat
    let errors := Reg.DEVICE_ACCESS_ERROR
    let counted := fun (t : State) => t.fld errors Fl.DEVICE_ACCESS_ERROR_COUNT = satNext (s.fld errors Fl.DEVICE_ACCESS_ERROR_COUNT)
    let miscounted := fun (c : Instr) => Does s c [] (fun x => x = errors) counted
    (∀ (high : Bool) (v : Word) (h : W32) (r : Option (Fin 4097)),
      (s.reaches who = false → DoesNothing s (.registerWrite who o high v) ∧ DoesNothing s (.lowHalfWrite who o h)
        ∧ DoesNothing s (.accessError who r))
      ∧ (s.reaches who = true → off % 8 ≠ 0 → miscounted (.registerWrite who o high v))
      ∧ (s.reaches who = true → s.tooEarly who off = true → DoesNothing s (.lowHalfWrite who o h))
      ∧ (s.reaches who = true → s.tooEarly who off = false → off % 8 ≠ 0 → miscounted (.lowHalfWrite who o h))
      ∧ (s.reaches who = true → miscounted (.accessError who r))
      ∧ (∀ (f : Fin 32) (n : Fin 4097), who = .function f → r = some n → s.reaches who = true →
        ∃ t, exec (.accessError who r) s = .next t ∧ Out.completion f (List.replicate n.val 0) false ∈ t.out))
    ∧ (∀ v : Word, s.reaches who = true → off % 8 = 0 → off < bar2 →
      (s.mayWriteReg who off = false → DoesNothing s (.registerWrite who o false v))
      ∧ (∀ c, PlainReg off c → s.mayWriteReg who off = true → WritesPlain s (.registerWrite who o false v) [] off c.fields v fun _ => True))
    ∧ (∀ v : W32, s.reaches who = true → s.tooEarly who off = false → off % 8 = 0 → Does s (.lowHalfWrite who o v) [.writeLatch] noReg fun t =>
        t.latched who off = some v ∧ ∀ other, requesterNum other ≠ requesterNum who → ∀ x, t.latched other x = s.latched other x)
    ∧ (∀ (v : Word) (c : RegClass), s.reaches who = true → PlainReg off c →
      let w := Instr.registerWrite who o true v
      let kept := (s.rd off &&& maskOf FieldSpec.keepMask c.fields).setWidth 32
      (∀ low, s.latched who off = some low → s.mayWriteReg who off = true →
        WritesPlain s w [.writeLatch] off c.fields ((v.setWidth 32 : W32) ++ low) fun t => NoLatch t who)
      ∧ (s.latched who off = none → highWritable off = true → s.mayWriteReg who off = true →
        WritesPlain s w [.writeLatch] off c.fields ((v.setWidth 32 : W32) ++ kept) fun t => NoLatch t who)
      ∧ (s.latched who off = none → highWritable off = false → Does s w [.writeLatch] noReg fun t => NoLatch t who)
      ∧ (s.mayWriteReg who off = false → Does s w [.writeLatch] noReg fun t => NoLatch t who))
    ∧ (∀ (n : Fin 128) (k : Fin 128) (v : Word), off = bar2 + 4096 * n.val + 8 * k.val → s.reaches who = true →
      let c := Instr.registerWrite who o false v
      (s.mayDoorbell who (s.coreTenant n) = false → DoesNothing s c)
      ∧ (s.mayDoorbell who (s.coreTenant n) = true → Does s c [.core] noReg fun t =>
        t.launch n = { s.launch n with words := (s.launch n).words.set k v }
          ∧ t.core = { s.core with launches := t.core.launches } ∧ ∀ m : Nat, m ≠ n.val → t.launch m = s.launch m))
    ∧ (∀ r : DebugRequest,
      let c := Instr.debugPortAccess r
      let port := s.boot.powered = true ∧ s.bit Reg.SECURITY_DEBUG 1 = true
      let tambour := s.boot.powered = true ∧ s.bit Reg.SECURITY_DEBUG 2 = true
      let toTambour := r = .halt ∨ r = .resume ∨ r = .step ∨ r = .inspect
      (¬toTambour → ¬port → DoesNothing s c) ∧ (toTambour → ¬tambour → DoesNothing s c)
      ∧ (tambour → (r = .halt → Does s c [.fw] noReg fun t => t.fw = { s.fw with halted := true })
        ∧ (r = .resume → Does s c [.fw] noReg fun t => t.fw = { s.fw with halted := false })
        ∧ (r = .step → DoesNothing s c) ∧ (r = .inspect → Does s c [.free] noReg fun t => ∃ x, Out.debugPort x ∈ t.out))
      ∧ (port → ∀ x : Nat, x % 8 ≠ 0 → (r = .read x ∨ r = .readLow x ∨ r = .readHigh x ∨ (∃ v, r = .write x v) ∨ (∃ v, r = .writeLow x v)
          ∨ ∃ v, r = .writeHigh x v) → miscounted c)
      ∧ (port → ∀ x : Nat, x % 8 = 0 → s.arrayErrors x = [] →
        let value := if s.mayRead .debugPort x then (s.readValue x).toNat else 0
        (r = .read x → Does s c [.readLatch] noReg fun t => Out.debugPort value ∈ t.out ∧ t.readLatch = [])
        ∧ (r = .readLow x → Does s c [.readLatch] noReg fun t => Out.debugPort (value % 2 ^ 32) ∈ t.out
            ∧ t.readLatch = [(33, x, BitVec.ofNat 64 value)])
        ∧ (∀ w, r = .readHigh x → s.readLatch = [(33, x, w)] → Does s c [.readLatch] noReg fun t =>
            Out.debugPort (w.toNat / 2 ^ 32) ∈ t.out ∧ t.readLatch = [])
        ∧ (r = .readHigh x → (∀ e ∈ s.readLatch, e.2.1 ≠ x) → Does s c [.readLatch] noReg fun t =>
            Out.debugPort (value / 2 ^ 32) ∈ t.out ∧ t.readLatch = []))
      ∧ (port → ∀ (x : Nat) (v : Word) (sp : RegClass), PlainReg x sp → r = .write x v →
        (s.mayWriteReg .debugPort x = true → WritesPlain s c [] x sp.fields v fun _ => True)
        ∧ (s.mayWriteReg .debugPort x = false → DoesNothing s c)))

/-- The event block (R448, R449, R453, R456, R457, R458, R461): acknowledging a ribbon and the end of a flood, clearing sticky bits with ALERT# following its causes, and the FOLDED record
that a fold window leaves when it closes. -/
def Obligations.RibbonsAndStickyBits : Prop :=
  ∀ (s : State) (who : Requester) (v : Word), s.occs = [] →
    (∀ r : Fin 4,
      let p := Reg.RIBBON_POINTERS r
      let ack := Fl.RIBBON_POINTERS_ACK_PTR.read v
      let write := s.fld p Fl.RIBBON_POINTERS_WRITE_PTR
      let passes := (write + 65536 - s.fld p Fl.RIBBON_POINTERS_ACK_PTR) % 65536 < (ack + 65536 - s.fld p Fl.RIBBON_POINTERS_ACK_PTR) % 65536
      let left := (write + 65536 - ack) % 65536
      let c := Instr.ribbonAck who r v
      let moved := fun (t : State) => t.fld p Fl.RIBBON_POINTERS_ACK_PTR = ack ∧ t.fld p Fl.RIBBON_POINTERS_WRITE_PTR = write
        ∧ t.fld (Reg.RIBBON_STATUS r) Fl.RIBBON_STATUS_UNACKED = left % 8192
      (s.mayWrite who p = false ∨ passes → DoesNothing s c ∧ ∃ t, exec c s = .next t ∧ t.rd p = s.rd p)
      ∧ (s.mayWrite who p = true → ¬passes → findFlood r s.floods = none → Does s c [] noReg moved)
      ∧ (∀ f, s.mayWrite who p = true → ¬passes → findFlood r s.floods = some f → (if r = 0 then 4014 else 4030) < left →
        Does s c [] noReg fun t => moved t ∧ t.floods = s.floods)
      ∧ (∀ f, s.mayWrite who p = true → ¬passes → findFlood r s.floods = some f → left ≤ (if r = 0 then 4014 else 4030) →
        Does s c [] (EventRegs .eventCoalesced none) fun t => t.fld (Reg.RIBBON_STATUS r) Fl.RIBBON_STATUS_FLOOD = 0
          ∧ Reported s t .eventCoalesced none ∧ t.fld p Fl.RIBBON_POINTERS_ACK_PTR = ack
          ∧ t.fld p Fl.RIBBON_POINTERS_WRITE_PTR = (write + 1) % 65536))
    ∧ (∀ x : Fin 34,
      let reg := stickyReg x
      let c := Instr.stickyClear who x v
      let cause := fun (t : State) => t.fld Reg.EVENT_ALERT Fl.EVENT_ALERT_CRITICAL = 1
        ∨ t.rd Reg.EVENT_STICKY &&& t.rd Reg.EVENT_ALERT_MASK ≠ 0 ∨ t.fld Reg.THERMAL_TRIP Fl.THERMAL_TRIP_LATCHED = 1
        ∨ t.fld Reg.INTEGRITY_SELFTEST Fl.INTEGRITY_SELFTEST_FATAL = 1
      let driven := fun (t : State) => (t.fld Reg.EVENT_ALERT Fl.EVENT_ALERT_ASSERTED = 1 ↔ cause t)
        ∧ (s.fld Reg.EVENT_ALERT Fl.EVENT_ALERT_ASSERTED = 1 → ¬cause t → Out.alert false ∈ t.out)
      (s.mayWrite who reg = false → DoesNothing s c)
      ∧ (s.mayWrite who reg = true → x.val ≠ 1 → Does s c [] (fun o => o = reg) fun t =>
        t.rd reg = s.rd reg &&& ~~~(v &&& (stickyBits x).mask) ∧ driven t)
      ∧ (s.mayWrite who reg = true → x.val = 1 → Does s c [] noReg fun t => driven t
        ∧ t.fld reg Fl.EVENT_ALERT_CRITICAL
          = if Fl.EVENT_ALERT_CRITICAL.read v = 1 then 0 else s.fld reg Fl.EVENT_ALERT_CRITICAL))
    ∧ (let due := fun (e : FoldEntry) =>
        e.opened + s.fld Reg.EVENT_CONTROL Fl.EVENT_CONTROL_COALESCE_WINDOW_US * 1000 ≤ s.uptime
      ((∀ e ∈ s.folds, ¬due e) → Does s .foldWindowClose [] noReg fun t => t.folds = s.folds)
      ∧ (∀ e, s.folds = [e] → due e → e.count = 0 → Does s .foldWindowClose [] noReg fun t => t.folds = [])
      ∧ ∀ e, s.folds = [e] → due e → 0 < e.count → (e.latest.ribbon = 1 ∨ e.latest.ribbon = 2) → e.latest.tenant = none →
        findFlood e.latest.ribbon s.floods = none → s.unacked e.latest.ribbon < 4094 →
        Does s .foldWindowClose [] noReg fun t =>
          let rb := e.latest.ribbon
          let wp := s.fld (Reg.RIBBON_POINTERS rb) Fl.RIBBON_POINTERS_WRITE_PTR
          let word := fun k => (t.rd (Reg.RIBBON_ENTRY rb (wp % 4096) k)).toNat
          t.folds = [] ∧ t.fld (Reg.RIBBON_POINTERS rb) Fl.RIBBON_POINTERS_WRITE_PTR = (wp + 1) % 65536
            ∧ word 0 % 65536 = e.latest.code % 65536 ∧ word 0 / 2 ^ 16 % 4 = rb ∧ word 0 / 2 ^ 18 % 2 = 1
            ∧ word 0 / 2 ^ 23 % 2 = 1 - wp / 4096 % 2 ∧ word 0 / 2 ^ 32 = e.latest.source % 2 ^ 32
            ∧ word 1 = e.latest.uptime % 2 ^ 64 ∧ word 2 % 2 ^ 32 = e.count % 2 ^ 32
            ∧ word 2 / 2 ^ 32 = e.latest.detail % 2 ^ 32 ∧ word 3 = e.latest.detail / 2 ^ 32 % 2 ^ 64)

namespace Sys2Proof.Claims

/-- A cause of ALERT# holds: an unacknowledged CRITICAL record, a sticky bit that the mask selects, a latched trip or a fatal self-test (R461). -/
def AlertCause (s : State) : Prop :=
  s.fld Reg.EVENT_ALERT Fl.EVENT_ALERT_CRITICAL = 1 ∨ s.rd Reg.EVENT_STICKY &&& s.rd Reg.EVENT_ALERT_MASK ≠ 0
    ∨ s.fld Reg.THERMAL_TRIP Fl.THERMAL_TRIP_LATCHED = 1 ∨ s.fld Reg.INTEGRITY_SELFTEST Fl.INTEGRITY_SELFTEST_FATAL = 1

/-- The invariant: ALERT# is asserted exactly while a cause holds, LATCHED tells that the cause cannot be cleared, and no occurrence waits for
its record (R448, R461). -/
def Settled (s : State) : Prop :=
  s.occs = [] ∧ (s.fld Reg.EVENT_ALERT Fl.EVENT_ALERT_ASSERTED = 1 ↔ AlertCause s)
    ∧ (s.fld Reg.EVENT_ALERT Fl.EVENT_ALERT_LATCHED = 1
      ↔ s.fld Reg.THERMAL_TRIP Fl.THERMAL_TRIP_LATCHED = 1 ∨ s.fld Reg.INTEGRITY_SELFTEST Fl.INTEGRITY_SELFTEST_FATAL = 1)

end Sys2Proof.Claims

/-- The state right after reset: reset values of the register tables, one or more of each block (R71, R105, R155, R179, R205, R232, R261, R286, R309, R336, R368, R394, R409, R430, R447, R464,
R472), empty queues, and the invariant. Memory that nothing has written reads 0 by the model's choice (notes/assumptions/6). -/
def Obligations.ResetValuesOfTheBlocks : Prop :=
  let s := State.reset
  (s.fld Reg.TICK_STITCH_LEN Fl.TICK_STITCH_LEN_LEN = 1024 ∧ s.fld Reg.TICK_SLIP_LIMIT Fl.TICK_SLIP_LIMIT_STITCHES = 64 ∧ s.stitch = 0)
  ∧ (∀ n < 128, s.shuttleState n = 0 ∧ s.pc n = 0 ∧ (∀ g < 8, s.fld (Reg.GEN_CONFIG n g) Fl.GEN_CONFIG_DIMS = 1)
      ∧ s.fld (Reg.CORE_DRAIN_LIMIT n) Fl.CORE_DRAIN_LIMIT_STITCHES = 16 ∧ s.fld (Reg.MX_PROMOTE n) Fl.MX_PROMOTE_MXFP4 = 27
      ∧ s.fld (Reg.MX_DRAIN_SCALE n) Fl.MX_DRAIN_SCALE_SCALE = 0x3F800000
      ∧ s.fld (Reg.VX_VLEN n) Fl.VX_VLEN_ROWS = 15 ∧ (∀ m < 2, s.fld (Reg.MV_CHECK_RUNNING n m) Fl.MV_CHECK_RUNNING_CRC = 0xFFFFFFFF)
      ∧ ∀ e < 4, s.queue n e = [] ∧ s.queueState n e = 0)
  ∧ (∀ c < 8, s.fld (Reg.KNOT_TANGLE_CONTROL c) Fl.KNOT_TANGLE_CONTROL_ENABLE = 1 ∧ s.thermalDuty c = 8)
  ∧ (∀ k < 131072, s.knotCount k = 0 ∧ s.knotFrayed k = false ∧ s.knotArmed k = false)
  ∧ (∀ q < 32, s.tierState q = 2 ∧ s.fld (Reg.LOSS_SCALE q) Fl.LOSS_SCALE_GROWTH_STEPS = 2000
      ∧ s.fld (Reg.GATE_LIMITS q) Fl.GATE_LIMITS_NORM_LIMIT = 0x7F800000 ∧ s.gateState q = 0
      ∧ s.fld (Reg.FUNCTION_COMPLETION_RING q) Fl.FUNCTION_COMPLETION_RING_SIZE = 4
      ∧ s.fld (Reg.EVTENANT_RING_CONTROL q) Fl.EVTENANT_RING_CONTROL_SIZE = 4)
  ∧ (∀ e < 16, s.fld (Reg.COLLECTIVE_STATUS e) Fl.COLLECTIVE_STATUS_STATE = 2)
  ∧ (∀ k < 8, s.stackAbsent k = true ∧ s.fld (Reg.FAR_CONTROL k) Fl.FAR_CONTROL_STREAM_WEIGHT = 12)
  ∧ s.fld Reg.UPDATE_DRAIN_LIMIT Fl.UPDATE_DRAIN_LIMIT_STITCHES = 16
  ∧ (∀ p < 24, s.linkState p = 0 ∧ s.fld (Reg.BRIDE_PORT_SHED_LIMITS p) Fl.BRIDE_PORT_SHED_LIMITS_SYMBOLS = 4096)
  ∧ s.fld Reg.BRIDE_ROUTE_TRANSPORT Fl.BRIDE_ROUTE_TRANSPORT_WINDOW = 63
  ∧ (∀ b < 5120, s.fld (Reg.INTEGRITY_BUNDLE b) Fl.INTEGRITY_BUNDLE_SPARE0 = 127)
  ∧ s.fld Reg.THERMAL_POWER_LIMIT Fl.THERMAL_POWER_LIMIT_LIMIT_W = 2400
  ∧ (∀ f < 32, s.flag (Reg.FUNCTION_BINDING f) Fl.FUNCTION_BINDING_PRIVILEGED = decide (f % 16 = 0))
  ∧ (s.stage = 1 ∧ s.ready = false ∧ s.uptime = 0 ∧ s.rd Reg.EVENT_ALERT_MASK = 0x10080000
      ∧ s.fld Reg.DEVICE_IDENTITY Fl.DEVICE_IDENTITY_VENDOR_ID = 0x1F6E)
  ∧ s.pending = [] ∧ (∀ a, s.byteAt a = 0) ∧ Settled s

/-- A step takes the command at the front of the queue and runs it with the rest of the queue; on an empty queue a message that waited for
Tambour is answered (notes/assumptions/126), or else 10 ns pass (notes/assumptions/7): UPTIME_NS runs from stage 2 on (R445) and
stalled shuttles count (R105). -/
def Obligations.StepRunsTheFrontCommand : Prop :=
  ∀ s : State,
    (∀ (c : Instr) (rest : List Instr), s.pending = c :: rest → step s = exec c { s with pending := rest })
    ∧ (∀ c, s.pending = [] → s.dueMessage = some c → step s = exec c s.takeMessage)
    ∧ (s.pending = [] → s.dueMessage = none → s.clocked = false → ∃ t, step s = .next t
        ∧ t.rd Reg.SECURITY_UPTIME_NS = s.rd Reg.SECURITY_UPTIME_NS + (if 2 ≤ s.stage then 10 else 0)
        ∧ Changes [] (fun o => o = Reg.SECURITY_UPTIME_NS) s t)
    ∧ (s.pending = [] → s.dueMessage = none → s.clocked = true → s.tick.hold = none → s.tick.due = none → ∃ t, step s = .next t
        ∧ t.rd Reg.SECURITY_UPTIME_NS = s.rd Reg.SECURITY_UPTIME_NS + (if 2 ≤ s.stage then 10 else 0)
        ∧ (∀ n < 128, t.rd (Reg.SHUTTLE_STALL_CYCLES n)
          = s.rd (Reg.SHUTTLE_STALL_CYCLES n) + (if s.shuttleState n = 2 then 30 else 0))
        ∧ Changes [] (fun o => o = Reg.SECURITY_UPTIME_NS ∨ ∃ n < 128, o = Reg.SHUTTLE_STALL_CYCLES n) s t)

/-- Every step answers a next state, from every state and whatever command stands at the front of the queue, and in it ALERT# follows its causes and no occurrence waits for its record (R448, R461): the
invariant holds after every step, whether or not it held before. That an event which cannot occur in a state changes nothing is notes/assumptions/4. -/
def Obligations.EveryStepAnswersAndSettles : Prop :=
  ∀ s : State, ∃ t, step s = .next t ∧ Settled t
end

