-- ==== Sys2Proof/Laws/Sparse.lean ====
section
/-! SUPPORT. Laws of sparse tables and sorted sets: a read after a write, and the canonical form kept by every operation. -/

namespace Sys2Proof.Machine

variable {α : Type}

/-! ### Reads -/

@[simp] theorem Sparse.get_nil (d : Nat → α) (k : Nat) : Sparse.get d [] k = d k := rfl

theorem Sparse.get_insert (d : Nat → α) (m : Sparse α) (k : Nat) (v : α) (j : Nat) :
    Sparse.get d (Sparse.insert m k v) j = if j = k then v else Sparse.get d m j := by
  induction m with
  | nil => simp [Sparse.insert, Sparse.get]
  | cons x rest ih =>
    obtain ⟨a, w⟩ := x
    simp only [Sparse.insert]
    split_ifs with h1 h2 <;> simp only [Sparse.get, *] <;> split_ifs <;> simp_all

theorem Sparse.get_drop (d : Nat → α) (p : Nat → Bool) (m : Sparse α) (j : Nat) :
    Sparse.get d (Sparse.drop p m) j = if p j then d j else Sparse.get d m j := by
  induction m with
  | nil => simp [Sparse.drop, Sparse.get]
  | cons x rest ih =>
    obtain ⟨a, w⟩ := x
    simp only [Sparse.drop]
    split_ifs with h1 h2 <;> simp only [Sparse.get, ih] <;> split_ifs <;> simp_all

variable [DecidableEq α]

theorem Sparse.get_set (d : Nat → α) (m : Sparse α) (k : Nat) (v : α) (j : Nat) :
    Sparse.get d (Sparse.set d m k v) j = if j = k then v else Sparse.get d m j := by
  unfold Sparse.set
  split_ifs with h1 h2
  · subst h2; simp [Sparse.get_drop, h1]
  · simp [Sparse.get_drop, h2]
  · simp [Sparse.get_insert, *]
  · simp [Sparse.get_insert, *]

@[simp] theorem Sparse.get_set_same (d : Nat → α) (m : Sparse α) (k : Nat) (v : α) :
    Sparse.get d (Sparse.set d m k v) k = v := by simp [Sparse.get_set]

theorem Sparse.get_set_ne (d : Nat → α) (m : Sparse α) (k : Nat) (v : α) {j : Nat} (h : j ≠ k) :
    Sparse.get d (Sparse.set d m k v) j = Sparse.get d m j := by simp [Sparse.get_set, h]

/-! ### The canonical form -/

/-- The canonical form of a table that begins with a key: its tail is canonical and begins later. -/
theorem Sparse.wf_cons (d : Nat → α) (a : Nat) (v : α) (m : Sparse α) :
    Sparse.wf d ((a, v) :: m) = true ↔ v ≠ d a ∧ (∀ x ∈ m, a < x.1) ∧ Sparse.wf d m = true := by
  induction m generalizing a v with
  | nil => simp [Sparse.wf]
  | cons x rest ih =>
    obtain ⟨b, w⟩ := x
    simp only [Sparse.wf, Bool.and_eq_true, decide_eq_true_eq, ih, List.forall_mem_cons]
    constructor
    · rintro ⟨⟨h1, h2⟩, h3, h4, h5⟩
      exact ⟨h1, ⟨h2, fun x hx => lt_trans h2 (h4 x hx)⟩, h3, h4, h5⟩
    · rintro ⟨h1, ⟨h2, _⟩, h3, h4, h5⟩
      exact ⟨⟨h1, h2⟩, h3, h4, h5⟩

theorem Sparse.mem_insert {m : Sparse α} {k : Nat} {v : α} {x : Nat × α} (h : x ∈ Sparse.insert m k v) :
    x = (k, v) ∨ x ∈ m := by
  induction m with
  | nil => simp_all [Sparse.insert]
  | cons y rest ih =>
    obtain ⟨a, w⟩ := y
    simp only [Sparse.insert] at h
    split_ifs at h with h1 h2
    · simpa using h
    · subst h2; simp only [List.mem_cons] at h ⊢; tauto
    · simp only [List.mem_cons] at h ⊢
      rcases h with h | h
      · tauto
      · rcases ih h with h | h <;> tauto

omit [DecidableEq α] in
theorem Sparse.mem_drop {p : Nat → Bool} {m : Sparse α} {x : Nat × α} (h : x ∈ Sparse.drop p m) :
    x ∈ m ∧ p x.1 = false := by
  induction m with
  | nil => simp [Sparse.drop] at h
  | cons y rest ih =>
    obtain ⟨a, w⟩ := y
    simp only [Sparse.drop] at h
    split_ifs at h with h1
    · exact ⟨List.mem_cons_of_mem _ (ih h).1, (ih h).2⟩
    · rcases List.mem_cons.1 h with h | h
      · subst h; simpa using h1
      · exact ⟨List.mem_cons_of_mem _ (ih h).1, (ih h).2⟩

theorem Sparse.wf_insert {d : Nat → α} {m : Sparse α} {k : Nat} {v : α} (hm : Sparse.wf d m = true) (hv : v ≠ d k) :
    Sparse.wf d (Sparse.insert m k v) = true := by
  induction m with
  | nil => simpa [Sparse.insert, Sparse.wf]
  | cons y rest ih =>
    obtain ⟨a, w⟩ := y
    rw [Sparse.wf_cons] at hm
    obtain ⟨h1, h2, h3⟩ := hm
    simp only [Sparse.insert]
    split_ifs with c1 c2
    · rw [Sparse.wf_cons]
      refine ⟨hv, ?_, (Sparse.wf_cons _ _ _ _).2 ⟨h1, h2, h3⟩⟩
      intro x hx
      rcases List.mem_cons.1 hx with rfl | hx
      · exact c1
      · exact lt_trans c1 (h2 x hx)
    · subst c2; exact (Sparse.wf_cons _ _ _ _).2 ⟨hv, h2, h3⟩
    · rw [Sparse.wf_cons]
      refine ⟨h1, ?_, ih h3⟩
      intro x hx
      rcases Sparse.mem_insert hx with rfl | hx
      · simp only; omega
      · exact h2 x hx

theorem Sparse.wf_drop {d : Nat → α} {m : Sparse α} (p : Nat → Bool) (hm : Sparse.wf d m = true) :
    Sparse.wf d (Sparse.drop p m) = true := by
  induction m with
  | nil => rfl
  | cons y rest ih =>
    obtain ⟨a, w⟩ := y
    rw [Sparse.wf_cons] at hm
    obtain ⟨h1, h2, h3⟩ := hm
    simp only [Sparse.drop]
    split_ifs with c
    · exact ih h3
    · rw [Sparse.wf_cons]
      exact ⟨h1, fun x hx => h2 x (Sparse.mem_drop hx).1, ih h3⟩

theorem Sparse.wf_set {d : Nat → α} {m : Sparse α} {k : Nat} {v : α} (hm : Sparse.wf d m = true) :
    Sparse.wf d (Sparse.set d m k v) = true := by
  unfold Sparse.set
  split_ifs with h
  · exact Sparse.wf_drop _ hm
  · exact Sparse.wf_insert hm h

/-- Dropping entries by any test on the entry keeps the canonical form. -/
theorem Sparse.wf_filter {d : Nat → α} {m : Sparse α} (p : Nat × α → Bool) (hm : Sparse.wf d m = true) :
    Sparse.wf d (m.filter p) = true := by
  induction m with
  | nil => rfl
  | cons y rest ih =>
    obtain ⟨a, w⟩ := y
    rw [Sparse.wf_cons] at hm
    obtain ⟨h1, h2, h3⟩ := hm
    rw [List.filter_cons]
    split_ifs with c
    · rw [Sparse.wf_cons]
      exact ⟨h1, fun x hx => h2 x (List.mem_filter.1 hx).1, ih h3⟩
    · exact ih h3

omit [DecidableEq α] in
/-- Canonical tables that read the same everywhere are the same table. -/
theorem Sparse.wf_ext [DecidableEq α] {d : Nat → α} {m m' : Sparse α} (hm : Sparse.wf d m = true)
    (hm' : Sparse.wf d m' = true) (h : ∀ k, Sparse.get d m k = Sparse.get d m' k) : m = m' := by
  have off : ∀ (m : Sparse α) (a : Nat), (∀ x ∈ m, a < x.1) → Sparse.get d m a = d a := by
    intro m a hx
    induction m with
    | nil => rfl
    | cons y rest ih =>
      obtain ⟨b, w⟩ := y
      have hb : a < b := hx (b, w) (by simp)
      simp only [Sparse.get, if_neg (by omega : ¬ a = b)]
      exact ih fun x h => hx x (by simp [h])
  induction m generalizing m' with
  | nil =>
    cases m' with
    | nil => rfl
    | cons y rest =>
      obtain ⟨b, w⟩ := y
      have := h b
      simp only [Sparse.get, if_true] at this
      exact absurd this.symm ((Sparse.wf_cons _ _ _ _).1 hm').1
  | cons x rest ih =>
    obtain ⟨a, v⟩ := x
    obtain ⟨h1, h2, h3⟩ := (Sparse.wf_cons _ _ _ _).1 hm
    cases m' with
    | nil =>
      have := h a
      simp only [Sparse.get, if_true] at this
      exact absurd this h1
    | cons y rest' =>
      obtain ⟨b, w⟩ := y
      obtain ⟨g1, g2, g3⟩ := (Sparse.wf_cons _ _ _ _).1 hm'
      have key : a = b := by
        rcases lt_trichotomy a b with c | c | c
        · have := h a
          simp only [Sparse.get, if_true, if_neg (by omega : ¬ a = b)] at this
          rw [off rest' a fun x hx => lt_trans c (g2 x hx)] at this
          exact absurd this h1
        · exact c
        · have := h b
          simp only [Sparse.get, if_true, if_neg (by omega : ¬ b = a)] at this
          rw [off rest b fun x hx => lt_trans c (h2 x hx)] at this
          exact absurd this.symm g1
      subst key
      have hv : v = w := by have := h a; simpa [Sparse.get] using this
      subst hv
      rw [ih h3 g3]
      intro k
      by_cases c : k = a
      · subst c; rw [off rest k h2, off rest' k g2]
      · have := h k; simpa [Sparse.get, c] using this

/-! ### Sets -/

theorem NatSet.has_add (m : NatSet) (k j : Nat) : NatSet.has (NatSet.add m k) j = (decide (j = k) || NatSet.has m j) := by
  induction m with
  | nil => simp only [NatSet.add, NatSet.has]; split_ifs <;> simp_all
  | cons a rest ih =>
    simp only [NatSet.add]
    split_ifs with h1 h2 <;> simp only [NatSet.has] <;> split_ifs <;> simp_all

theorem NatSet.has_del (m : NatSet) (k j : Nat) : NatSet.has (NatSet.del m k) j = (decide (j ≠ k) && NatSet.has m j) := by
  induction m with
  | nil => simp [NatSet.del, NatSet.has]
  | cons a rest ih =>
    simp only [NatSet.del] at ih ⊢
    rw [List.filter_cons]
    split_ifs with h <;> simp only [NatSet.has, ih] <;> split_ifs <;> simp_all

end Sys2Proof.Machine
end

