-- ==== Sys2Proof/Laws/State.lean ====
section
/-! SUPPORT. What each primitive update of the state leaves unchanged, field by field, so that no proof unfolds a record
update. -/

namespace Sys2Proof.Machine

variable (s : State)

@[simp] theorem State.wr_pending (off : Nat) (v : Word) : (s.wr off v).pending = s.pending := rfl
@[simp] theorem State.wr_out (off : Nat) (v : Word) : (s.wr off v).out = s.out := rfl
@[simp] theorem State.wr_free (off : Nat) (v : Word) : (s.wr off v).free = s.free := rfl
@[simp] theorem State.wr_phases (off : Nat) (v : Word) : (s.wr off v).phases = s.phases := rfl
@[simp] theorem State.wr_occs (off : Nat) (v : Word) : (s.wr off v).occs = s.occs := rfl
@[simp] theorem State.wr_folds (off : Nat) (v : Word) : (s.wr off v).folds = s.folds := rfl
@[simp] theorem State.wr_floods (off : Nat) (v : Word) : (s.wr off v).floods = s.floods := rfl
@[simp] theorem State.wr_intrs (off : Nat) (v : Word) : (s.wr off v).intrs = s.intrs := rfl
@[simp] theorem State.wr_mctpPos (off : Nat) (v : Word) : (s.wr off v).mctpPos = s.mctpPos := rfl
@[simp] theorem State.wr_fnCfg (off : Nat) (v : Word) : (s.wr off v).fnCfg = s.fnCfg := rfl
@[simp] theorem State.wr_notifies (off : Nat) (v : Word) : (s.wr off v).notifies = s.notifies := rfl
@[simp] theorem State.wr_flrs (off : Nat) (v : Word) : (s.wr off v).flrs = s.flrs := rfl
@[simp] theorem State.wr_writeLatch (off : Nat) (v : Word) : (s.wr off v).writeLatch = s.writeLatch := rfl
@[simp] theorem State.wr_readLatch (off : Nat) (v : Word) : (s.wr off v).readLatch = s.readLatch := rfl
@[simp] theorem State.wr_mem (off : Nat) (v : Word) : (s.wr off v).mem = s.mem := rfl
@[simp] theorem State.wr_bond (off : Nat) (v : Word) : (s.wr off v).bond = s.bond := rfl
@[simp] theorem State.wr_remoteQ (off : Nat) (v : Word) : (s.wr off v).remoteQ = s.remoteQ := rfl
@[simp] theorem State.wr_net (off : Nat) (v : Word) : (s.wr off v).net = s.net := rfl
@[simp] theorem State.wr_dma (off : Nat) (v : Word) : (s.wr off v).dma = s.dma := rfl
@[simp] theorem State.wr_dmaTag (off : Nat) (v : Word) : (s.wr off v).dmaTag = s.dmaTag := rfl
@[simp] theorem State.wr_core (off : Nat) (v : Word) : (s.wr off v).core = s.core := rfl
@[simp] theorem State.wr_tier (off : Nat) (v : Word) : (s.wr off v).tier = s.tier := rfl
@[simp] theorem State.wr_upd (off : Nat) (v : Word) : (s.wr off v).upd = s.upd := rfl
@[simp] theorem State.wr_coll (off : Nat) (v : Word) : (s.wr off v).coll = s.coll := rfl
@[simp] theorem State.wr_tick (off : Nat) (v : Word) : (s.wr off v).tick = s.tick := rfl
@[simp] theorem State.wr_therm (off : Nat) (v : Word) : (s.wr off v).therm = s.therm := rfl
@[simp] theorem State.wr_boot (off : Nat) (v : Word) : (s.wr off v).boot = s.boot := rfl
@[simp] theorem State.wr_side (off : Nat) (v : Word) : (s.wr off v).side = s.side := rfl
@[simp] theorem State.wr_fw (off : Nat) (v : Word) : (s.wr off v).fw = s.fw := rfl
@[simp] theorem State.wr_stitchClock (off : Nat) (v : Word) : (s.wr off v).stitchClock = s.stitchClock := rfl

@[simp] theorem State.setFld_pending (off : Nat) (f : Fld) (v : Nat) : (s.setFld off f v).pending = s.pending := rfl
@[simp] theorem State.setFld_out (off : Nat) (f : Fld) (v : Nat) : (s.setFld off f v).out = s.out := rfl
@[simp] theorem State.setFld_free (off : Nat) (f : Fld) (v : Nat) : (s.setFld off f v).free = s.free := rfl
@[simp] theorem State.setFld_phases (off : Nat) (f : Fld) (v : Nat) : (s.setFld off f v).phases = s.phases := rfl
@[simp] theorem State.setFld_occs (off : Nat) (f : Fld) (v : Nat) : (s.setFld off f v).occs = s.occs := rfl
@[simp] theorem State.setFld_folds (off : Nat) (f : Fld) (v : Nat) : (s.setFld off f v).folds = s.folds := rfl
@[simp] theorem State.setFld_floods (off : Nat) (f : Fld) (v : Nat) : (s.setFld off f v).floods = s.floods := rfl
@[simp] theorem State.setFld_intrs (off : Nat) (f : Fld) (v : Nat) : (s.setFld off f v).intrs = s.intrs := rfl
@[simp] theorem State.setFld_mctpPos (off : Nat) (f : Fld) (v : Nat) : (s.setFld off f v).mctpPos = s.mctpPos := rfl
@[simp] theorem State.setFld_fnCfg (off : Nat) (f : Fld) (v : Nat) : (s.setFld off f v).fnCfg = s.fnCfg := rfl
@[simp] theorem State.setFld_notifies (off : Nat) (f : Fld) (v : Nat) : (s.setFld off f v).notifies = s.notifies := rfl
@[simp] theorem State.setFld_flrs (off : Nat) (f : Fld) (v : Nat) : (s.setFld off f v).flrs = s.flrs := rfl
@[simp] theorem State.setFld_writeLatch (off : Nat) (f : Fld) (v : Nat) : (s.setFld off f v).writeLatch = s.writeLatch := rfl
@[simp] theorem State.setFld_readLatch (off : Nat) (f : Fld) (v : Nat) : (s.setFld off f v).readLatch = s.readLatch := rfl
@[simp] theorem State.setFld_mem (off : Nat) (f : Fld) (v : Nat) : (s.setFld off f v).mem = s.mem := rfl
@[simp] theorem State.setFld_bond (off : Nat) (f : Fld) (v : Nat) : (s.setFld off f v).bond = s.bond := rfl
@[simp] theorem State.setFld_remoteQ (off : Nat) (f : Fld) (v : Nat) : (s.setFld off f v).remoteQ = s.remoteQ := rfl
@[simp] theorem State.setFld_net (off : Nat) (f : Fld) (v : Nat) : (s.setFld off f v).net = s.net := rfl
@[simp] theorem State.setFld_dma (off : Nat) (f : Fld) (v : Nat) : (s.setFld off f v).dma = s.dma := rfl
@[simp] theorem State.setFld_dmaTag (off : Nat) (f : Fld) (v : Nat) : (s.setFld off f v).dmaTag = s.dmaTag := rfl
@[simp] theorem State.setFld_core (off : Nat) (f : Fld) (v : Nat) : (s.setFld off f v).core = s.core := rfl
@[simp] theorem State.setFld_tier (off : Nat) (f : Fld) (v : Nat) : (s.setFld off f v).tier = s.tier := rfl
@[simp] theorem State.setFld_upd (off : Nat) (f : Fld) (v : Nat) : (s.setFld off f v).upd = s.upd := rfl
@[simp] theorem State.setFld_coll (off : Nat) (f : Fld) (v : Nat) : (s.setFld off f v).coll = s.coll := rfl
@[simp] theorem State.setFld_tick (off : Nat) (f : Fld) (v : Nat) : (s.setFld off f v).tick = s.tick := rfl
@[simp] theorem State.setFld_therm (off : Nat) (f : Fld) (v : Nat) : (s.setFld off f v).therm = s.therm := rfl
@[simp] theorem State.setFld_boot (off : Nat) (f : Fld) (v : Nat) : (s.setFld off f v).boot = s.boot := rfl
@[simp] theorem State.setFld_side (off : Nat) (f : Fld) (v : Nat) : (s.setFld off f v).side = s.side := rfl
@[simp] theorem State.setFld_fw (off : Nat) (f : Fld) (v : Nat) : (s.setFld off f v).fw = s.fw := rfl
@[simp] theorem State.setFld_stitchClock (off : Nat) (f : Fld) (v : Nat) : (s.setFld off f v).stitchClock = s.stitchClock := rfl

@[simp] theorem State.emit_pending (o : Out) : (s.emit o).pending = s.pending := rfl
@[simp] theorem State.emit_free (o : Out) : (s.emit o).free = s.free := rfl
@[simp] theorem State.emit_regs (o : Out) : (s.emit o).regs = s.regs := rfl
@[simp] theorem State.emit_phases (o : Out) : (s.emit o).phases = s.phases := rfl
@[simp] theorem State.emit_occs (o : Out) : (s.emit o).occs = s.occs := rfl
@[simp] theorem State.emit_folds (o : Out) : (s.emit o).folds = s.folds := rfl
@[simp] theorem State.emit_floods (o : Out) : (s.emit o).floods = s.floods := rfl
@[simp] theorem State.emit_intrs (o : Out) : (s.emit o).intrs = s.intrs := rfl
@[simp] theorem State.emit_mctpPos (o : Out) : (s.emit o).mctpPos = s.mctpPos := rfl
@[simp] theorem State.emit_fnCfg (o : Out) : (s.emit o).fnCfg = s.fnCfg := rfl
@[simp] theorem State.emit_notifies (o : Out) : (s.emit o).notifies = s.notifies := rfl
@[simp] theorem State.emit_flrs (o : Out) : (s.emit o).flrs = s.flrs := rfl
@[simp] theorem State.emit_writeLatch (o : Out) : (s.emit o).writeLatch = s.writeLatch := rfl
@[simp] theorem State.emit_readLatch (o : Out) : (s.emit o).readLatch = s.readLatch := rfl
@[simp] theorem State.emit_mem (o : Out) : (s.emit o).mem = s.mem := rfl
@[simp] theorem State.emit_bond (o : Out) : (s.emit o).bond = s.bond := rfl
@[simp] theorem State.emit_remoteQ (o : Out) : (s.emit o).remoteQ = s.remoteQ := rfl
@[simp] theorem State.emit_net (o : Out) : (s.emit o).net = s.net := rfl
@[simp] theorem State.emit_dma (o : Out) : (s.emit o).dma = s.dma := rfl
@[simp] theorem State.emit_dmaTag (o : Out) : (s.emit o).dmaTag = s.dmaTag := rfl
@[simp] theorem State.emit_core (o : Out) : (s.emit o).core = s.core := rfl
@[simp] theorem State.emit_tier (o : Out) : (s.emit o).tier = s.tier := rfl
@[simp] theorem State.emit_upd (o : Out) : (s.emit o).upd = s.upd := rfl
@[simp] theorem State.emit_coll (o : Out) : (s.emit o).coll = s.coll := rfl
@[simp] theorem State.emit_tick (o : Out) : (s.emit o).tick = s.tick := rfl
@[simp] theorem State.emit_therm (o : Out) : (s.emit o).therm = s.therm := rfl
@[simp] theorem State.emit_boot (o : Out) : (s.emit o).boot = s.boot := rfl
@[simp] theorem State.emit_side (o : Out) : (s.emit o).side = s.side := rfl
@[simp] theorem State.emit_fw (o : Out) : (s.emit o).fw = s.fw := rfl
@[simp] theorem State.emit_stitchClock (o : Out) : (s.emit o).stitchClock = s.stitchClock := rfl
@[simp] theorem State.emit_rd (o : Out) (a : Nat) : (s.emit o).rd a = s.rd a := rfl

@[simp] theorem State.begin_pending : (s.begin).pending = s.pending := rfl
@[simp] theorem State.begin_free : (s.begin).free = s.free := rfl
@[simp] theorem State.begin_regs : (s.begin).regs = s.regs := rfl
@[simp] theorem State.begin_phases : (s.begin).phases = s.phases := rfl
@[simp] theorem State.begin_occs : (s.begin).occs = s.occs := rfl
@[simp] theorem State.begin_folds : (s.begin).folds = s.folds := rfl
@[simp] theorem State.begin_floods : (s.begin).floods = s.floods := rfl
@[simp] theorem State.begin_intrs : (s.begin).intrs = s.intrs := rfl
@[simp] theorem State.begin_mctpPos : (s.begin).mctpPos = s.mctpPos := rfl
@[simp] theorem State.begin_fnCfg : (s.begin).fnCfg = s.fnCfg := rfl
@[simp] theorem State.begin_notifies : (s.begin).notifies = s.notifies := rfl
@[simp] theorem State.begin_flrs : (s.begin).flrs = s.flrs := rfl
@[simp] theorem State.begin_writeLatch : (s.begin).writeLatch = s.writeLatch := rfl
@[simp] theorem State.begin_readLatch : (s.begin).readLatch = s.readLatch := rfl
@[simp] theorem State.begin_mem : (s.begin).mem = s.mem := rfl
@[simp] theorem State.begin_bond : (s.begin).bond = s.bond := rfl
@[simp] theorem State.begin_remoteQ : (s.begin).remoteQ = s.remoteQ := rfl
@[simp] theorem State.begin_net : (s.begin).net = s.net := rfl
@[simp] theorem State.begin_dma : (s.begin).dma = s.dma := rfl
@[simp] theorem State.begin_dmaTag : (s.begin).dmaTag = s.dmaTag := rfl
@[simp] theorem State.begin_core : (s.begin).core = s.core := rfl
@[simp] theorem State.begin_tier : (s.begin).tier = s.tier := rfl
@[simp] theorem State.begin_upd : (s.begin).upd = s.upd := rfl
@[simp] theorem State.begin_coll : (s.begin).coll = s.coll := rfl
@[simp] theorem State.begin_tick : (s.begin).tick = s.tick := rfl
@[simp] theorem State.begin_therm : (s.begin).therm = s.therm := rfl
@[simp] theorem State.begin_boot : (s.begin).boot = s.boot := rfl
@[simp] theorem State.begin_side : (s.begin).side = s.side := rfl
@[simp] theorem State.begin_fw : (s.begin).fw = s.fw := rfl
@[simp] theorem State.begin_stitchClock : (s.begin).stitchClock = s.stitchClock := rfl
@[simp] theorem State.begin_rd (a : Nat) : (s.begin).rd a = s.rd a := rfl

@[simp] theorem State.setCfg_pending (f : Nat) (c : FnCfg) : (s.setCfg f c).pending = s.pending := rfl
@[simp] theorem State.setCfg_out (f : Nat) (c : FnCfg) : (s.setCfg f c).out = s.out := rfl
@[simp] theorem State.setCfg_free (f : Nat) (c : FnCfg) : (s.setCfg f c).free = s.free := rfl
@[simp] theorem State.setCfg_regs (f : Nat) (c : FnCfg) : (s.setCfg f c).regs = s.regs := rfl
@[simp] theorem State.setCfg_phases (f : Nat) (c : FnCfg) : (s.setCfg f c).phases = s.phases := rfl
@[simp] theorem State.setCfg_occs (f : Nat) (c : FnCfg) : (s.setCfg f c).occs = s.occs := rfl
@[simp] theorem State.setCfg_folds (f : Nat) (c : FnCfg) : (s.setCfg f c).folds = s.folds := rfl
@[simp] theorem State.setCfg_floods (f : Nat) (c : FnCfg) : (s.setCfg f c).floods = s.floods := rfl
@[simp] theorem State.setCfg_intrs (f : Nat) (c : FnCfg) : (s.setCfg f c).intrs = s.intrs := rfl
@[simp] theorem State.setCfg_mctpPos (f : Nat) (c : FnCfg) : (s.setCfg f c).mctpPos = s.mctpPos := rfl
@[simp] theorem State.setCfg_notifies (f : Nat) (c : FnCfg) : (s.setCfg f c).notifies = s.notifies := rfl
@[simp] theorem State.setCfg_flrs (f : Nat) (c : FnCfg) : (s.setCfg f c).flrs = s.flrs := rfl
@[simp] theorem State.setCfg_writeLatch (f : Nat) (c : FnCfg) : (s.setCfg f c).writeLatch = s.writeLatch := rfl
@[simp] theorem State.setCfg_readLatch (f : Nat) (c : FnCfg) : (s.setCfg f c).readLatch = s.readLatch := rfl
@[simp] theorem State.setCfg_mem (f : Nat) (c : FnCfg) : (s.setCfg f c).mem = s.mem := rfl
@[simp] theorem State.setCfg_bond (f : Nat) (c : FnCfg) : (s.setCfg f c).bond = s.bond := rfl
@[simp] theorem State.setCfg_remoteQ (f : Nat) (c : FnCfg) : (s.setCfg f c).remoteQ = s.remoteQ := rfl
@[simp] theorem State.setCfg_net (f : Nat) (c : FnCfg) : (s.setCfg f c).net = s.net := rfl
@[simp] theorem State.setCfg_dma (f : Nat) (c : FnCfg) : (s.setCfg f c).dma = s.dma := rfl
@[simp] theorem State.setCfg_dmaTag (f : Nat) (c : FnCfg) : (s.setCfg f c).dmaTag = s.dmaTag := rfl
@[simp] theorem State.setCfg_core (f : Nat) (c : FnCfg) : (s.setCfg f c).core = s.core := rfl
@[simp] theorem State.setCfg_tier (f : Nat) (c : FnCfg) : (s.setCfg f c).tier = s.tier := rfl
@[simp] theorem State.setCfg_upd (f : Nat) (c : FnCfg) : (s.setCfg f c).upd = s.upd := rfl
@[simp] theorem State.setCfg_coll (f : Nat) (c : FnCfg) : (s.setCfg f c).coll = s.coll := rfl
@[simp] theorem State.setCfg_tick (f : Nat) (c : FnCfg) : (s.setCfg f c).tick = s.tick := rfl
@[simp] theorem State.setCfg_therm (f : Nat) (c : FnCfg) : (s.setCfg f c).therm = s.therm := rfl
@[simp] theorem State.setCfg_boot (f : Nat) (c : FnCfg) : (s.setCfg f c).boot = s.boot := rfl
@[simp] theorem State.setCfg_side (f : Nat) (c : FnCfg) : (s.setCfg f c).side = s.side := rfl
@[simp] theorem State.setCfg_fw (f : Nat) (c : FnCfg) : (s.setCfg f c).fw = s.fw := rfl
@[simp] theorem State.setCfg_stitchClock (f : Nat) (c : FnCfg) : (s.setCfg f c).stitchClock = s.stitchClock := rfl
@[simp] theorem State.setCfg_rd (f : Nat) (c : FnCfg) (a : Nat) : (s.setCfg f c).rd a = s.rd a := rfl

@[simp] theorem State.setPort_pending (p : Nat) (x : PortState) : (s.setPort p x).pending = s.pending := rfl
@[simp] theorem State.setPort_out (p : Nat) (x : PortState) : (s.setPort p x).out = s.out := rfl
@[simp] theorem State.setPort_free (p : Nat) (x : PortState) : (s.setPort p x).free = s.free := rfl
@[simp] theorem State.setPort_regs (p : Nat) (x : PortState) : (s.setPort p x).regs = s.regs := rfl
@[simp] theorem State.setPort_phases (p : Nat) (x : PortState) : (s.setPort p x).phases = s.phases := rfl
@[simp] theorem State.setPort_occs (p : Nat) (x : PortState) : (s.setPort p x).occs = s.occs := rfl
@[simp] theorem State.setPort_folds (p : Nat) (x : PortState) : (s.setPort p x).folds = s.folds := rfl
@[simp] theorem State.setPort_floods (p : Nat) (x : PortState) : (s.setPort p x).floods = s.floods := rfl
@[simp] theorem State.setPort_intrs (p : Nat) (x : PortState) : (s.setPort p x).intrs = s.intrs := rfl
@[simp] theorem State.setPort_mctpPos (p : Nat) (x : PortState) : (s.setPort p x).mctpPos = s.mctpPos := rfl
@[simp] theorem State.setPort_fnCfg (p : Nat) (x : PortState) : (s.setPort p x).fnCfg = s.fnCfg := rfl
@[simp] theorem State.setPort_notifies (p : Nat) (x : PortState) : (s.setPort p x).notifies = s.notifies := rfl
@[simp] theorem State.setPort_flrs (p : Nat) (x : PortState) : (s.setPort p x).flrs = s.flrs := rfl
@[simp] theorem State.setPort_writeLatch (p : Nat) (x : PortState) : (s.setPort p x).writeLatch = s.writeLatch := rfl
@[simp] theorem State.setPort_readLatch (p : Nat) (x : PortState) : (s.setPort p x).readLatch = s.readLatch := rfl
@[simp] theorem State.setPort_mem (p : Nat) (x : PortState) : (s.setPort p x).mem = s.mem := rfl
@[simp] theorem State.setPort_bond (p : Nat) (x : PortState) : (s.setPort p x).bond = s.bond := rfl
@[simp] theorem State.setPort_remoteQ (p : Nat) (x : PortState) : (s.setPort p x).remoteQ = s.remoteQ := rfl
@[simp] theorem State.setPort_dma (p : Nat) (x : PortState) : (s.setPort p x).dma = s.dma := rfl
@[simp] theorem State.setPort_dmaTag (p : Nat) (x : PortState) : (s.setPort p x).dmaTag = s.dmaTag := rfl
@[simp] theorem State.setPort_core (p : Nat) (x : PortState) : (s.setPort p x).core = s.core := rfl
@[simp] theorem State.setPort_tier (p : Nat) (x : PortState) : (s.setPort p x).tier = s.tier := rfl
@[simp] theorem State.setPort_upd (p : Nat) (x : PortState) : (s.setPort p x).upd = s.upd := rfl
@[simp] theorem State.setPort_coll (p : Nat) (x : PortState) : (s.setPort p x).coll = s.coll := rfl
@[simp] theorem State.setPort_tick (p : Nat) (x : PortState) : (s.setPort p x).tick = s.tick := rfl
@[simp] theorem State.setPort_therm (p : Nat) (x : PortState) : (s.setPort p x).therm = s.therm := rfl
@[simp] theorem State.setPort_boot (p : Nat) (x : PortState) : (s.setPort p x).boot = s.boot := rfl
@[simp] theorem State.setPort_side (p : Nat) (x : PortState) : (s.setPort p x).side = s.side := rfl
@[simp] theorem State.setPort_fw (p : Nat) (x : PortState) : (s.setPort p x).fw = s.fw := rfl
@[simp] theorem State.setPort_stitchClock (p : Nat) (x : PortState) : (s.setPort p x).stitchClock = s.stitchClock := rfl
@[simp] theorem State.setPort_rd (p : Nat) (x : PortState) (a : Nat) : (s.setPort p x).rd a = s.rd a := rfl

@[simp] theorem State.setShuttle_pending (n : Nat) (x : Shuttle) : (s.setShuttle n x).pending = s.pending := rfl
@[simp] theorem State.setShuttle_out (n : Nat) (x : Shuttle) : (s.setShuttle n x).out = s.out := rfl
@[simp] theorem State.setShuttle_free (n : Nat) (x : Shuttle) : (s.setShuttle n x).free = s.free := rfl
@[simp] theorem State.setShuttle_regs (n : Nat) (x : Shuttle) : (s.setShuttle n x).regs = s.regs := rfl
@[simp] theorem State.setShuttle_phases (n : Nat) (x : Shuttle) : (s.setShuttle n x).phases = s.phases := rfl
@[simp] theorem State.setShuttle_occs (n : Nat) (x : Shuttle) : (s.setShuttle n x).occs = s.occs := rfl
@[simp] theorem State.setShuttle_folds (n : Nat) (x : Shuttle) : (s.setShuttle n x).folds = s.folds := rfl
@[simp] theorem State.setShuttle_floods (n : Nat) (x : Shuttle) : (s.setShuttle n x).floods = s.floods := rfl
@[simp] theorem State.setShuttle_intrs (n : Nat) (x : Shuttle) : (s.setShuttle n x).intrs = s.intrs := rfl
@[simp] theorem State.setShuttle_mctpPos (n : Nat) (x : Shuttle) : (s.setShuttle n x).mctpPos = s.mctpPos := rfl
@[simp] theorem State.setShuttle_fnCfg (n : Nat) (x : Shuttle) : (s.setShuttle n x).fnCfg = s.fnCfg := rfl
@[simp] theorem State.setShuttle_notifies (n : Nat) (x : Shuttle) : (s.setShuttle n x).notifies = s.notifies := rfl
@[simp] theorem State.setShuttle_flrs (n : Nat) (x : Shuttle) : (s.setShuttle n x).flrs = s.flrs := rfl
@[simp] theorem State.setShuttle_writeLatch (n : Nat) (x : Shuttle) : (s.setShuttle n x).writeLatch = s.writeLatch := rfl
@[simp] theorem State.setShuttle_readLatch (n : Nat) (x : Shuttle) : (s.setShuttle n x).readLatch = s.readLatch := rfl
@[simp] theorem State.setShuttle_mem (n : Nat) (x : Shuttle) : (s.setShuttle n x).mem = s.mem := rfl
@[simp] theorem State.setShuttle_bond (n : Nat) (x : Shuttle) : (s.setShuttle n x).bond = s.bond := rfl
@[simp] theorem State.setShuttle_remoteQ (n : Nat) (x : Shuttle) : (s.setShuttle n x).remoteQ = s.remoteQ := rfl
@[simp] theorem State.setShuttle_net (n : Nat) (x : Shuttle) : (s.setShuttle n x).net = s.net := rfl
@[simp] theorem State.setShuttle_dma (n : Nat) (x : Shuttle) : (s.setShuttle n x).dma = s.dma := rfl
@[simp] theorem State.setShuttle_dmaTag (n : Nat) (x : Shuttle) : (s.setShuttle n x).dmaTag = s.dmaTag := rfl
@[simp] theorem State.setShuttle_tier (n : Nat) (x : Shuttle) : (s.setShuttle n x).tier = s.tier := rfl
@[simp] theorem State.setShuttle_upd (n : Nat) (x : Shuttle) : (s.setShuttle n x).upd = s.upd := rfl
@[simp] theorem State.setShuttle_coll (n : Nat) (x : Shuttle) : (s.setShuttle n x).coll = s.coll := rfl
@[simp] theorem State.setShuttle_tick (n : Nat) (x : Shuttle) : (s.setShuttle n x).tick = s.tick := rfl
@[simp] theorem State.setShuttle_therm (n : Nat) (x : Shuttle) : (s.setShuttle n x).therm = s.therm := rfl
@[simp] theorem State.setShuttle_boot (n : Nat) (x : Shuttle) : (s.setShuttle n x).boot = s.boot := rfl
@[simp] theorem State.setShuttle_side (n : Nat) (x : Shuttle) : (s.setShuttle n x).side = s.side := rfl
@[simp] theorem State.setShuttle_fw (n : Nat) (x : Shuttle) : (s.setShuttle n x).fw = s.fw := rfl
@[simp] theorem State.setShuttle_stitchClock (n : Nat) (x : Shuttle) : (s.setShuttle n x).stitchClock = s.stitchClock := rfl
@[simp] theorem State.setShuttle_rd (n : Nat) (x : Shuttle) (a : Nat) : (s.setShuttle n x).rd a = s.rd a := rfl

@[simp] theorem State.setLaunch_pending (n : Nat) (l : Launch) : (s.setLaunch n l).pending = s.pending := rfl
@[simp] theorem State.setLaunch_out (n : Nat) (l : Launch) : (s.setLaunch n l).out = s.out := rfl
@[simp] theorem State.setLaunch_free (n : Nat) (l : Launch) : (s.setLaunch n l).free = s.free := rfl
@[simp] theorem State.setLaunch_regs (n : Nat) (l : Launch) : (s.setLaunch n l).regs = s.regs := rfl
@[simp] theorem State.setLaunch_phases (n : Nat) (l : Launch) : (s.setLaunch n l).phases = s.phases := rfl
@[simp] theorem State.setLaunch_occs (n : Nat) (l : Launch) : (s.setLaunch n l).occs = s.occs := rfl
@[simp] theorem State.setLaunch_folds (n : Nat) (l : Launch) : (s.setLaunch n l).folds = s.folds := rfl
@[simp] theorem State.setLaunch_floods (n : Nat) (l : Launch) : (s.setLaunch n l).floods = s.floods := rfl
@[simp] theorem State.setLaunch_intrs (n : Nat) (l : Launch) : (s.setLaunch n l).intrs = s.intrs := rfl
@[simp] theorem State.setLaunch_mctpPos (n : Nat) (l : Launch) : (s.setLaunch n l).mctpPos = s.mctpPos := rfl
@[simp] theorem State.setLaunch_fnCfg (n : Nat) (l : Launch) : (s.setLaunch n l).fnCfg = s.fnCfg := rfl
@[simp] theorem State.setLaunch_notifies (n : Nat) (l : Launch) : (s.setLaunch n l).notifies = s.notifies := rfl
@[simp] theorem State.setLaunch_flrs (n : Nat) (l : Launch) : (s.setLaunch n l).flrs = s.flrs := rfl
@[simp] theorem State.setLaunch_writeLatch (n : Nat) (l : Launch) : (s.setLaunch n l).writeLatch = s.writeLatch := rfl
@[simp] theorem State.setLaunch_readLatch (n : Nat) (l : Launch) : (s.setLaunch n l).readLatch = s.readLatch := rfl
@[simp] theorem State.setLaunch_mem (n : Nat) (l : Launch) : (s.setLaunch n l).mem = s.mem := rfl
@[simp] theorem State.setLaunch_bond (n : Nat) (l : Launch) : (s.setLaunch n l).bond = s.bond := rfl
@[simp] theorem State.setLaunch_remoteQ (n : Nat) (l : Launch) : (s.setLaunch n l).remoteQ = s.remoteQ := rfl
@[simp] theorem State.setLaunch_net (n : Nat) (l : Launch) : (s.setLaunch n l).net = s.net := rfl
@[simp] theorem State.setLaunch_dma (n : Nat) (l : Launch) : (s.setLaunch n l).dma = s.dma := rfl
@[simp] theorem State.setLaunch_dmaTag (n : Nat) (l : Launch) : (s.setLaunch n l).dmaTag = s.dmaTag := rfl
@[simp] theorem State.setLaunch_tier (n : Nat) (l : Launch) : (s.setLaunch n l).tier = s.tier := rfl
@[simp] theorem State.setLaunch_upd (n : Nat) (l : Launch) : (s.setLaunch n l).upd = s.upd := rfl
@[simp] theorem State.setLaunch_coll (n : Nat) (l : Launch) : (s.setLaunch n l).coll = s.coll := rfl
@[simp] theorem State.setLaunch_tick (n : Nat) (l : Launch) : (s.setLaunch n l).tick = s.tick := rfl
@[simp] theorem State.setLaunch_therm (n : Nat) (l : Launch) : (s.setLaunch n l).therm = s.therm := rfl
@[simp] theorem State.setLaunch_boot (n : Nat) (l : Launch) : (s.setLaunch n l).boot = s.boot := rfl
@[simp] theorem State.setLaunch_side (n : Nat) (l : Launch) : (s.setLaunch n l).side = s.side := rfl
@[simp] theorem State.setLaunch_fw (n : Nat) (l : Launch) : (s.setLaunch n l).fw = s.fw := rfl
@[simp] theorem State.setLaunch_stitchClock (n : Nat) (l : Launch) : (s.setLaunch n l).stitchClock = s.stitchClock := rfl
@[simp] theorem State.setLaunch_rd (n : Nat) (l : Launch) (a : Nat) : (s.setLaunch n l).rd a = s.rd a := rfl

@[simp] theorem State.setStation_pending (n j : Nat) (x : Station) : (s.setStation n j x).pending = s.pending := rfl
@[simp] theorem State.setStation_out (n j : Nat) (x : Station) : (s.setStation n j x).out = s.out := rfl
@[simp] theorem State.setStation_free (n j : Nat) (x : Station) : (s.setStation n j x).free = s.free := rfl
@[simp] theorem State.setStation_regs (n j : Nat) (x : Station) : (s.setStation n j x).regs = s.regs := rfl
@[simp] theorem State.setStation_phases (n j : Nat) (x : Station) : (s.setStation n j x).phases = s.phases := rfl
@[simp] theorem State.setStation_occs (n j : Nat) (x : Station) : (s.setStation n j x).occs = s.occs := rfl
@[simp] theorem State.setStation_folds (n j : Nat) (x : Station) : (s.setStation n j x).folds = s.folds := rfl
@[simp] theorem State.setStation_floods (n j : Nat) (x : Station) : (s.setStation n j x).floods = s.floods := rfl
@[simp] theorem State.setStation_intrs (n j : Nat) (x : Station) : (s.setStation n j x).intrs = s.intrs := rfl
@[simp] theorem State.setStation_mctpPos (n j : Nat) (x : Station) : (s.setStation n j x).mctpPos = s.mctpPos := rfl
@[simp] theorem State.setStation_fnCfg (n j : Nat) (x : Station) : (s.setStation n j x).fnCfg = s.fnCfg := rfl
@[simp] theorem State.setStation_notifies (n j : Nat) (x : Station) : (s.setStation n j x).notifies = s.notifies := rfl
@[simp] theorem State.setStation_flrs (n j : Nat) (x : Station) : (s.setStation n j x).flrs = s.flrs := rfl
@[simp] theorem State.setStation_writeLatch (n j : Nat) (x : Station) : (s.setStation n j x).writeLatch = s.writeLatch := rfl
@[simp] theorem State.setStation_readLatch (n j : Nat) (x : Station) : (s.setStation n j x).readLatch = s.readLatch := rfl
@[simp] theorem State.setStation_mem (n j : Nat) (x : Station) : (s.setStation n j x).mem = s.mem := rfl
@[simp] theorem State.setStation_bond (n j : Nat) (x : Station) : (s.setStation n j x).bond = s.bond := rfl
@[simp] theorem State.setStation_remoteQ (n j : Nat) (x : Station) : (s.setStation n j x).remoteQ = s.remoteQ := rfl
@[simp] theorem State.setStation_net (n j : Nat) (x : Station) : (s.setStation n j x).net = s.net := rfl
@[simp] theorem State.setStation_dma (n j : Nat) (x : Station) : (s.setStation n j x).dma = s.dma := rfl
@[simp] theorem State.setStation_dmaTag (n j : Nat) (x : Station) : (s.setStation n j x).dmaTag = s.dmaTag := rfl
@[simp] theorem State.setStation_tier (n j : Nat) (x : Station) : (s.setStation n j x).tier = s.tier := rfl
@[simp] theorem State.setStation_upd (n j : Nat) (x : Station) : (s.setStation n j x).upd = s.upd := rfl
@[simp] theorem State.setStation_coll (n j : Nat) (x : Station) : (s.setStation n j x).coll = s.coll := rfl
@[simp] theorem State.setStation_tick (n j : Nat) (x : Station) : (s.setStation n j x).tick = s.tick := rfl
@[simp] theorem State.setStation_therm (n j : Nat) (x : Station) : (s.setStation n j x).therm = s.therm := rfl
@[simp] theorem State.setStation_boot (n j : Nat) (x : Station) : (s.setStation n j x).boot = s.boot := rfl
@[simp] theorem State.setStation_side (n j : Nat) (x : Station) : (s.setStation n j x).side = s.side := rfl
@[simp] theorem State.setStation_fw (n j : Nat) (x : Station) : (s.setStation n j x).fw = s.fw := rfl
@[simp] theorem State.setStation_stitchClock (n j : Nat) (x : Station) : (s.setStation n j x).stitchClock = s.stitchClock := rfl
@[simp] theorem State.setStation_rd (n j : Nat) (x : Station) (a : Nat) : (s.setStation n j x).rd a = s.rd a := rfl

@[simp] theorem State.setStaging_pending (n e : Nat) (v : BitVec 128) : (s.setStaging n e v).pending = s.pending := rfl
@[simp] theorem State.setStaging_out (n e : Nat) (v : BitVec 128) : (s.setStaging n e v).out = s.out := rfl
@[simp] theorem State.setStaging_free (n e : Nat) (v : BitVec 128) : (s.setStaging n e v).free = s.free := rfl
@[simp] theorem State.setStaging_regs (n e : Nat) (v : BitVec 128) : (s.setStaging n e v).regs = s.regs := rfl
@[simp] theorem State.setStaging_phases (n e : Nat) (v : BitVec 128) : (s.setStaging n e v).phases = s.phases := rfl
@[simp] theorem State.setStaging_occs (n e : Nat) (v : BitVec 128) : (s.setStaging n e v).occs = s.occs := rfl
@[simp] theorem State.setStaging_folds (n e : Nat) (v : BitVec 128) : (s.setStaging n e v).folds = s.folds := rfl
@[simp] theorem State.setStaging_floods (n e : Nat) (v : BitVec 128) : (s.setStaging n e v).floods = s.floods := rfl
@[simp] theorem State.setStaging_intrs (n e : Nat) (v : BitVec 128) : (s.setStaging n e v).intrs = s.intrs := rfl
@[simp] theorem State.setStaging_mctpPos (n e : Nat) (v : BitVec 128) : (s.setStaging n e v).mctpPos = s.mctpPos := rfl
@[simp] theorem State.setStaging_fnCfg (n e : Nat) (v : BitVec 128) : (s.setStaging n e v).fnCfg = s.fnCfg := rfl
@[simp] theorem State.setStaging_notifies (n e : Nat) (v : BitVec 128) : (s.setStaging n e v).notifies = s.notifies := rfl
@[simp] theorem State.setStaging_flrs (n e : Nat) (v : BitVec 128) : (s.setStaging n e v).flrs = s.flrs := rfl
@[simp] theorem State.setStaging_writeLatch (n e : Nat) (v : BitVec 128) : (s.setStaging n e v).writeLatch = s.writeLatch := rfl
@[simp] theorem State.setStaging_readLatch (n e : Nat) (v : BitVec 128) : (s.setStaging n e v).readLatch = s.readLatch := rfl
@[simp] theorem State.setStaging_mem (n e : Nat) (v : BitVec 128) : (s.setStaging n e v).mem = s.mem := rfl
@[simp] theorem State.setStaging_bond (n e : Nat) (v : BitVec 128) : (s.setStaging n e v).bond = s.bond := rfl
@[simp] theorem State.setStaging_remoteQ (n e : Nat) (v : BitVec 128) : (s.setStaging n e v).remoteQ = s.remoteQ := rfl
@[simp] theorem State.setStaging_net (n e : Nat) (v : BitVec 128) : (s.setStaging n e v).net = s.net := rfl
@[simp] theorem State.setStaging_dma (n e : Nat) (v : BitVec 128) : (s.setStaging n e v).dma = s.dma := rfl
@[simp] theorem State.setStaging_dmaTag (n e : Nat) (v : BitVec 128) : (s.setStaging n e v).dmaTag = s.dmaTag := rfl
@[simp] theorem State.setStaging_tier (n e : Nat) (v : BitVec 128) : (s.setStaging n e v).tier = s.tier := rfl
@[simp] theorem State.setStaging_upd (n e : Nat) (v : BitVec 128) : (s.setStaging n e v).upd = s.upd := rfl
@[simp] theorem State.setStaging_coll (n e : Nat) (v : BitVec 128) : (s.setStaging n e v).coll = s.coll := rfl
@[simp] theorem State.setStaging_tick (n e : Nat) (v : BitVec 128) : (s.setStaging n e v).tick = s.tick := rfl
@[simp] theorem State.setStaging_therm (n e : Nat) (v : BitVec 128) : (s.setStaging n e v).therm = s.therm := rfl
@[simp] theorem State.setStaging_boot (n e : Nat) (v : BitVec 128) : (s.setStaging n e v).boot = s.boot := rfl
@[simp] theorem State.setStaging_side (n e : Nat) (v : BitVec 128) : (s.setStaging n e v).side = s.side := rfl
@[simp] theorem State.setStaging_fw (n e : Nat) (v : BitVec 128) : (s.setStaging n e v).fw = s.fw := rfl
@[simp] theorem State.setStaging_stitchClock (n e : Nat) (v : BitVec 128) : (s.setStaging n e v).stitchClock = s.stitchClock := rfl
@[simp] theorem State.setStaging_rd (n e : Nat) (v : BitVec 128) (a : Nat) : (s.setStaging n e v).rd a = s.rd a := rfl

@[simp] theorem State.setBit_occs (off bit : Nat) : (s.setBit off bit).occs = s.occs := rfl
@[simp] theorem State.setBit_out (off bit : Nat) : (s.setBit off bit).out = s.out := rfl
@[simp] theorem State.setBit_mem (off bit : Nat) : (s.setBit off bit).mem = s.mem := rfl
@[simp] theorem State.setBit_core (off bit : Nat) : (s.setBit off bit).core = s.core := rfl
@[simp] theorem State.setBit_net (off bit : Nat) : (s.setBit off bit).net = s.net := rfl
@[simp] theorem State.setBit_tick (off bit : Nat) : (s.setBit off bit).tick = s.tick := rfl

@[simp] theorem State.addWrap_occs (off n : Nat) : (s.addWrap off n).occs = s.occs := rfl
@[simp] theorem State.addWrap_out (off n : Nat) : (s.addWrap off n).out = s.out := rfl
@[simp] theorem State.addWrap_mem (off n : Nat) : (s.addWrap off n).mem = s.mem := rfl
@[simp] theorem State.addWrap_core (off n : Nat) : (s.addWrap off n).core = s.core := rfl
@[simp] theorem State.addWrap_net (off n : Nat) : (s.addWrap off n).net = s.net := rfl
@[simp] theorem State.addWrap_tick (off n : Nat) : (s.addWrap off n).tick = s.tick := rfl

@[simp] theorem State.countN_occs (off n : Nat) : (s.countN off n).occs = s.occs := rfl
@[simp] theorem State.countN_out (off n : Nat) : (s.countN off n).out = s.out := rfl
@[simp] theorem State.countN_mem (off n : Nat) : (s.countN off n).mem = s.mem := rfl
@[simp] theorem State.countN_core (off n : Nat) : (s.countN off n).core = s.core := rfl
@[simp] theorem State.countN_net (off n : Nat) : (s.countN off n).net = s.net := rfl
@[simp] theorem State.countN_tick (off n : Nat) : (s.countN off n).tick = s.tick := rfl

@[simp] theorem State.togglePhase_occs (ring : Nat) : (s.togglePhase ring).occs = s.occs := rfl
@[simp] theorem State.togglePhase_out (ring : Nat) : (s.togglePhase ring).out = s.out := rfl
@[simp] theorem State.togglePhase_mem (ring : Nat) : (s.togglePhase ring).mem = s.mem := rfl
@[simp] theorem State.togglePhase_regs (ring : Nat) : (s.togglePhase ring).regs = s.regs := rfl
@[simp] theorem State.togglePhase_core (ring : Nat) : (s.togglePhase ring).core = s.core := rfl
@[simp] theorem State.togglePhase_net (ring : Nat) : (s.togglePhase ring).net = s.net := rfl
@[simp] theorem State.togglePhase_tick (ring : Nat) : (s.togglePhase ring).tick = s.tick := rfl
@[simp] theorem State.togglePhase_rd (ring : Nat) (a : Nat) : (s.togglePhase ring).rd a = s.rd a := rfl

@[simp] theorem State.setFlood_occs (rb : Nat) (f : Option Flood) : (s.setFlood rb f).occs = s.occs := rfl
@[simp] theorem State.setFlood_out (rb : Nat) (f : Option Flood) : (s.setFlood rb f).out = s.out := rfl
@[simp] theorem State.setFlood_mem (rb : Nat) (f : Option Flood) : (s.setFlood rb f).mem = s.mem := rfl
@[simp] theorem State.setFlood_regs (rb : Nat) (f : Option Flood) : (s.setFlood rb f).regs = s.regs := rfl
@[simp] theorem State.setFlood_core (rb : Nat) (f : Option Flood) : (s.setFlood rb f).core = s.core := rfl
@[simp] theorem State.setFlood_net (rb : Nat) (f : Option Flood) : (s.setFlood rb f).net = s.net := rfl
@[simp] theorem State.setFlood_tick (rb : Nat) (f : Option Flood) : (s.setFlood rb f).tick = s.tick := rfl
@[simp] theorem State.setFlood_rd (rb : Nat) (f : Option Flood) (a : Nat) : (s.setFlood rb f).rd a = s.rd a := rfl

@[simp] theorem State.setWide_occs (n r c : Nat) (v : W32) : (s.setWide n r c v).occs = s.occs := rfl
@[simp] theorem State.setWide_out (n r c : Nat) (v : W32) : (s.setWide n r c v).out = s.out := rfl
@[simp] theorem State.setWide_mem (n r c : Nat) (v : W32) : (s.setWide n r c v).mem = s.mem := rfl
@[simp] theorem State.setWide_regs (n r c : Nat) (v : W32) : (s.setWide n r c v).regs = s.regs := rfl
@[simp] theorem State.setWide_net (n r c : Nat) (v : W32) : (s.setWide n r c v).net = s.net := rfl
@[simp] theorem State.setWide_tick (n r c : Nat) (v : W32) : (s.setWide n r c v).tick = s.tick := rfl
@[simp] theorem State.setWide_rd (n r c : Nat) (v : W32) (a : Nat) : (s.setWide n r c v).rd a = s.rd a := rfl

@[simp] theorem State.setVreg_occs (n v r c : Nat) (x : W32) : (s.setVreg n v r c x).occs = s.occs := rfl
@[simp] theorem State.setVreg_out (n v r c : Nat) (x : W32) : (s.setVreg n v r c x).out = s.out := rfl
@[simp] theorem State.setVreg_mem (n v r c : Nat) (x : W32) : (s.setVreg n v r c x).mem = s.mem := rfl
@[simp] theorem State.setVreg_regs (n v r c : Nat) (x : W32) : (s.setVreg n v r c x).regs = s.regs := rfl
@[simp] theorem State.setVreg_net (n v r c : Nat) (x : W32) : (s.setVreg n v r c x).net = s.net := rfl
@[simp] theorem State.setVreg_tick (n v r c : Nat) (x : W32) : (s.setVreg n v r c x).tick = s.tick := rfl
@[simp] theorem State.setVreg_rd (n v r c : Nat) (x : W32) (a : Nat) : (s.setVreg n v r c x).rd a = s.rd a := rfl

@[simp] theorem State.setVlen_occs (n rows cols : Nat) : (s.setVlen n rows cols).occs = s.occs := rfl
@[simp] theorem State.setVlen_out (n rows cols : Nat) : (s.setVlen n rows cols).out = s.out := rfl
@[simp] theorem State.setVlen_mem (n rows cols : Nat) : (s.setVlen n rows cols).mem = s.mem := rfl
@[simp] theorem State.setVlen_regs (n rows cols : Nat) : (s.setVlen n rows cols).regs = s.regs := rfl
@[simp] theorem State.setVlen_net (n rows cols : Nat) : (s.setVlen n rows cols).net = s.net := rfl
@[simp] theorem State.setVlen_tick (n rows cols : Nat) : (s.setVlen n rows cols).tick = s.tick := rfl
@[simp] theorem State.setVlen_rd (n rows cols : Nat) (a : Nat) : (s.setVlen n rows cols).rd a = s.rd a := rfl

@[simp] theorem State.setLow_occs (n k : Nat) : (s.setLow n k).occs = s.occs := rfl
@[simp] theorem State.setLow_out (n k : Nat) : (s.setLow n k).out = s.out := rfl
@[simp] theorem State.setLow_mem (n k : Nat) : (s.setLow n k).mem = s.mem := rfl
@[simp] theorem State.setLow_regs (n k : Nat) : (s.setLow n k).regs = s.regs := rfl
@[simp] theorem State.setLow_core (n k : Nat) : (s.setLow n k).core = s.core := rfl
@[simp] theorem State.setLow_net (n k : Nat) : (s.setLow n k).net = s.net := rfl
@[simp] theorem State.setLow_tick (n k : Nat) : (s.setLow n k).tick = s.tick := rfl
@[simp] theorem State.setLow_rd (n k : Nat) (a : Nat) : (s.setLow n k).rd a = s.rd a := rfl

@[simp] theorem State.setGateRun_occs (t : Nat) (x : GateRun) : (s.setGateRun t x).occs = s.occs := rfl
@[simp] theorem State.setGateRun_out (t : Nat) (x : GateRun) : (s.setGateRun t x).out = s.out := rfl
@[simp] theorem State.setGateRun_mem (t : Nat) (x : GateRun) : (s.setGateRun t x).mem = s.mem := rfl
@[simp] theorem State.setGateRun_regs (t : Nat) (x : GateRun) : (s.setGateRun t x).regs = s.regs := rfl
@[simp] theorem State.setGateRun_core (t : Nat) (x : GateRun) : (s.setGateRun t x).core = s.core := rfl
@[simp] theorem State.setGateRun_net (t : Nat) (x : GateRun) : (s.setGateRun t x).net = s.net := rfl
@[simp] theorem State.setGateRun_tick (t : Nat) (x : GateRun) : (s.setGateRun t x).tick = s.tick := rfl
@[simp] theorem State.setGateRun_rd (t : Nat) (x : GateRun) (a : Nat) : (s.setGateRun t x).rd a = s.rd a := rfl

@[simp] theorem State.setGroupRun_occs (g : Nat) (x : GroupRun) : (s.setGroupRun g x).occs = s.occs := rfl
@[simp] theorem State.setGroupRun_out (g : Nat) (x : GroupRun) : (s.setGroupRun g x).out = s.out := rfl
@[simp] theorem State.setGroupRun_mem (g : Nat) (x : GroupRun) : (s.setGroupRun g x).mem = s.mem := rfl
@[simp] theorem State.setGroupRun_regs (g : Nat) (x : GroupRun) : (s.setGroupRun g x).regs = s.regs := rfl
@[simp] theorem State.setGroupRun_core (g : Nat) (x : GroupRun) : (s.setGroupRun g x).core = s.core := rfl
@[simp] theorem State.setGroupRun_net (g : Nat) (x : GroupRun) : (s.setGroupRun g x).net = s.net := rfl
@[simp] theorem State.setGroupRun_tick (g : Nat) (x : GroupRun) : (s.setGroupRun g x).tick = s.tick := rfl
@[simp] theorem State.setGroupRun_rd (g : Nat) (x : GroupRun) (a : Nat) : (s.setGroupRun g x).rd a = s.rd a := rfl

end Sys2Proof.Machine
end

