-- ==== Sys2Proof/Laws/Registers.lean ====
section
/-! SUPPORT. Laws of the register file: a read after a write, fields of one register, counters. -/

namespace Sys2Proof.Machine

/-! ### Bits of a field -/

theorem Fld.testBit_read (f : Fld) (w : Word) (i : Nat) :
    (f.read w).testBit i = (decide (i < f.width) && w.getLsbD (f.lo + i)) := by
  unfold Fld.read
  rw [Nat.testBit_mod_two_pow, ← Nat.shiftRight_eq_div_pow, Nat.testBit_shiftRight, BitVec.testBit_toNat]

theorem Fld.getLsbD_mask (f : Fld) (i : Nat) :
    f.mask.getLsbD i = (decide (i < 64) && decide (f.lo ≤ i) && decide (i < f.lo + f.width)) := by
  unfold Fld.mask
  rw [BitVec.getLsbD_ofNat, Nat.testBit_mul_two_pow, Nat.testBit_two_pow_sub_one]
  by_cases h1 : i < 64 <;> by_cases h2 : f.lo ≤ i <;> simp [h1, h2]
  omega

theorem Fld.getLsbD_write (f : Fld) (w : Word) (v i : Nat) :
    (f.write w v).getLsbD i =
      if i < 64 ∧ f.lo ≤ i ∧ i < f.lo + f.width then v.testBit (i - f.lo) else w.getLsbD i := by
  unfold Fld.write
  rw [BitVec.getLsbD_or, BitVec.getLsbD_and, BitVec.getLsbD_not, Fld.getLsbD_mask, BitVec.getLsbD_ofNat,
    Nat.testBit_mul_two_pow, Nat.testBit_mod_two_pow]
  by_cases h1 : i < 64
  · by_cases h2 : f.lo ≤ i
    · by_cases h3 : i < f.lo + f.width
      · have : i - f.lo < f.width := by omega
        simp [h1, h2, h3, this]
      · have : ¬ i - f.lo < f.width := by omega
        simp [h1, h2, h3, this]
    · simp [h1, h2]
  · simp [h1, BitVec.getLsbD_of_ge _ _ (not_lt.1 h1)]

/-- A field reads what was written to it. -/
theorem Fld.read_write (f : Fld) (w : Word) (v : Nat) (h : f.lo + f.width ≤ 64) :
    f.read (f.write w v) = v % 2 ^ f.width := by
  apply Nat.eq_of_testBit_eq
  intro i
  rw [Fld.testBit_read, Fld.getLsbD_write, Nat.testBit_mod_two_pow]
  by_cases c : i < f.width
  · simp [c, show f.lo + i < 64 by omega]
  · simp [c]

/-- A write of a field leaves a field that shares no bit with it. -/
theorem Fld.read_write_disjoint (f g : Fld) (w : Word) (v : Nat) (h : g.lo + g.width ≤ f.lo ∨ f.lo + f.width ≤ g.lo) :
    g.read (f.write w v) = g.read w := by
  apply Nat.eq_of_testBit_eq
  intro i
  rw [Fld.testBit_read, Fld.testBit_read, Fld.getLsbD_write]
  by_cases c : i < g.width
  · rw [if_neg (by omega)]
  · simp [c]

theorem Fld.read_lt (f : Fld) (w : Word) : f.read w < 2 ^ f.width := Nat.mod_lt _ (by positivity)

variable (s : State)

/-! ### Registers -/

theorem State.rd_wr (off : Nat) (v : Word) (a : Nat) : (s.wr off v).rd a = if a = off then v else s.rd a :=
  Sparse.get_set _ _ _ _ _

@[simp] theorem State.rd_wr_same (off : Nat) (v : Word) : (s.wr off v).rd off = v := by simp [State.rd_wr]

theorem State.rd_wr_ne {off a : Nat} (v : Word) (h : a ≠ off) : (s.wr off v).rd a = s.rd a := by simp [State.rd_wr, h]

theorem State.rd_setFld (off : Nat) (f : Fld) (v a : Nat) :
    (s.setFld off f v).rd a = if a = off then f.write (s.rd off) v else s.rd a := State.rd_wr _ _ _ _

theorem State.rd_setFld_ne {off a : Nat} (f : Fld) (v : Nat) (h : a ≠ off) : (s.setFld off f v).rd a = s.rd a := by
  simp [State.rd_setFld, h]

theorem State.fld_setFld_same (off : Nat) (f : Fld) (v : Nat) (h : f.lo + f.width ≤ 64) :
    (s.setFld off f v).fld off f = v % 2 ^ f.width := by
  simp [State.fld, State.rd_setFld, Fld.read_write _ _ _ h]

theorem State.fld_setFld_disjoint (off : Nat) (f g : Fld) (v : Nat)
    (h : g.lo + g.width ≤ f.lo ∨ f.lo + f.width ≤ g.lo) : (s.setFld off f v).fld off g = s.fld off g := by
  simp [State.fld, State.rd_setFld, Fld.read_write_disjoint _ _ _ _ h]

theorem State.fld_setFld_ne {off a : Nat} (f g : Fld) (v : Nat) (h : a ≠ off) :
    (s.setFld off f v).fld a g = s.fld a g := by simp [State.fld, State.rd_setFld_ne _ _ _ h]

theorem State.fld_wr_ne {off a : Nat} (v : Word) (g : Fld) (h : a ≠ off) : (s.wr off v).fld a g = s.fld a g := by
  simp [State.fld, State.rd_wr_ne _ _ h]

/-! ### Counters -/

theorem State.rd_count_ne {off a : Nat} (h : a ≠ off) : (s.count off).rd a = s.rd a := by
  unfold State.count
  simp only
  split_ifs
  · rfl
  · exact State.rd_setFld_ne _ _ _ h

/-- A SAT counter counts up to 0xFFFF_FFFF and stops there (R19). -/
theorem State.fld_count_same (off : Nat) :
    (s.count off).fld off ⟨0, 32⟩ = min 0xFFFFFFFF (s.fld off ⟨0, 32⟩ + 1) := by
  have hlt : s.fld off ⟨0, 32⟩ < 2 ^ 32 := Fld.read_lt _ _
  unfold State.count
  simp only
  split_ifs with h
  · rw [h]; rfl
  · rw [State.fld_setFld_same _ _ _ _ (by decide)]
    simp only
    omega

theorem State.rd_countAll_ne {offs : List Nat} {a : Nat} (h : a ∉ offs) : (s.countAll offs).rd a = s.rd a := by
  induction offs generalizing s with
  | nil => rfl
  | cons off rest ih =>
    simp only [List.mem_cons, not_or] at h
    rw [State.countAll, ih _ h.2, State.rd_count_ne _ h.1]

theorem State.rd_setBit_ne {off a : Nat} (bit : Nat) (h : a ≠ off) : (s.setBit off bit).rd a = s.rd a :=
  State.rd_wr_ne _ _ h

/-- The register file keeps its canonical form. -/
theorem State.wr_regs_wf (off : Nat) (v : Word) (h : Sparse.wf resetValue s.regs = true) :
    Sparse.wf resetValue (s.wr off v).regs = true := Sparse.wf_set h

/-! ### Counting leaves everything but the register file -/

theorem State.count_eq (off : Nat) : ∃ r, s.count off = { s with regs := r } := by
  unfold State.count
  simp only
  split_ifs
  · exact ⟨s.regs, rfl⟩
  · exact ⟨_, rfl⟩

theorem State.countAll_eq (offs : List Nat) : ∃ r, s.countAll offs = { s with regs := r } := by
  induction offs generalizing s with
  | nil => exact ⟨s.regs, rfl⟩
  | cons off rest ih =>
    obtain ⟨r, hr⟩ := s.count_eq off
    obtain ⟨r', hr'⟩ := ih (s.count off)
    exact ⟨r', by rw [State.countAll, hr', hr]⟩

end Sys2Proof.Machine
end

