-- ==== Sys2Proof/Laws/Events.lean ====
section
/-! SUPPORT. What the event path can change: the registers that writing records touches, the rings' PHASE bits, the coalescing
and flood state, held interrupts, pending MSI-X bits and the outputs. Every command ends in `finish`, which therefore leaves
everything else. -/

namespace Sys2Proof.Machine

/-- t differs from s in the event path alone. -/
structure EventsOnly (s t : State) : Prop where
  pending : t.pending = s.pending
  free : t.free = s.free
  rd : ∀ off, ¬ RecordBlock off → t.rd off = s.rd off
  cfg : ∀ f, { t.cfg f with pendingVectors := [] } = { s.cfg f with pendingVectors := [] }
  notifies : t.notifies = s.notifies
  flrs : t.flrs = s.flrs
  writeLatch : t.writeLatch = s.writeLatch
  readLatch : t.readLatch = s.readLatch
  mem : t.mem = { s.mem with arrayUpsets := t.mem.arrayUpsets }
  arr : ∀ e : Nat × Nat, ¬ RecordBlock (e.1 / 8 * 8) → (e ∈ t.mem.arrayUpsets ↔ e ∈ s.mem.arrayUpsets)
  bond : t.bond = s.bond
  remoteQ : t.remoteQ = s.remoteQ
  net : t.net = s.net
  dma : t.dma = s.dma
  dmaTag : t.dmaTag = s.dmaTag
  core : t.core = s.core
  tier : t.tier = s.tier
  upd : t.upd = s.upd
  coll : t.coll = s.coll
  tick : t.tick = s.tick
  therm : t.therm = s.therm
  boot : t.boot = s.boot
  side : t.side = s.side
  fw : t.fw = s.fw
  stitchClock : t.stitchClock = s.stitchClock
  out : ∃ l, t.out = s.out ++ l

variable {s t u : State}

theorem EventsOnly.refl (s : State) : EventsOnly s s := by constructor <;> first | rfl | exact fun _ _ => rfl | exact fun _ => rfl | exact fun _ _ => Iff.rfl | exact ⟨[], (List.append_nil _).symm⟩

theorem EventsOnly.trans (h : EventsOnly s t) (g : EventsOnly t u) : EventsOnly s u where
  pending := g.pending.trans h.pending
  free := g.free.trans h.free
  rd := fun off ho => (g.rd off ho).trans (h.rd off ho)
  cfg := fun f => (g.cfg f).trans (h.cfg f)
  notifies := g.notifies.trans h.notifies
  flrs := g.flrs.trans h.flrs
  writeLatch := g.writeLatch.trans h.writeLatch
  readLatch := g.readLatch.trans h.readLatch
  mem := g.mem.trans (by rw [h.mem])
  arr := fun e he => (g.arr e he).trans (h.arr e he)
  bond := g.bond.trans h.bond
  remoteQ := g.remoteQ.trans h.remoteQ
  net := g.net.trans h.net
  dma := g.dma.trans h.dma
  dmaTag := g.dmaTag.trans h.dmaTag
  core := g.core.trans h.core
  tier := g.tier.trans h.tier
  upd := g.upd.trans h.upd
  coll := g.coll.trans h.coll
  tick := g.tick.trans h.tick
  therm := g.therm.trans h.therm
  boot := g.boot.trans h.boot
  side := g.side.trans h.side
  fw := g.fw.trans h.fw
  stitchClock := g.stitchClock.trans h.stitchClock
  out := by
    obtain ⟨l, hl⟩ := h.out
    obtain ⟨k, hk⟩ := g.out
    exact ⟨l ++ k, by rw [hk, hl, List.append_assoc]⟩

/-- A field outside the EVENT block reads as before. -/
theorem EventsOnly.fld (h : EventsOnly s t) {off : Nat} (ho : ¬ RecordBlock off) (f : Fld) : t.fld off f = s.fld off f := by
  simp [State.fld, h.rd off ho]

/-- Either branch of a choice. -/
theorem EventsOnly.ite {c : Prop} [Decidable c] (h : EventsOnly s t) (g : EventsOnly s u) :
    EventsOnly s (if c then t else u) := by
  split
  · exact h
  · exact g

/-! ### The steps of the event path -/

theorem EventsOnly.wr {off : Nat} (ho : RecordBlock off) (v : Word) : EventsOnly s (s.wr off v) := by
  constructor <;> first
    | rfl
    | exact fun a ha => State.rd_wr_ne _ _ (fun h => ha (h ▸ ho))
    | exact fun _ => rfl
    | exact fun _ _ => Iff.rfl
    | exact ⟨[], (List.append_nil _).symm⟩

theorem EventsOnly.setFld {off : Nat} (ho : RecordBlock off) (f : Fld) (v : Nat) : EventsOnly s (s.setFld off f v) :=
  EventsOnly.wr ho _

theorem EventsOnly.setBit {off : Nat} (ho : RecordBlock off) (b : Nat) : EventsOnly s (s.setBit off b) := EventsOnly.wr ho _

theorem EventsOnly.count {off : Nat} (ho : RecordBlock off) : EventsOnly s (s.count off) := by
  unfold State.count
  simp only
  split_ifs
  · exact EventsOnly.refl s
  · exact EventsOnly.setFld ho _ _

/-- Updates that touch no field named in `EventsOnly`. -/
theorem EventsOnly.of_fields (s : State) (ph : Sparse Nat) (oc : List EventRec) (fo : List FoldEntry)
    (fl : List Flood) (i : List Intr) (p : List Nat) :
    EventsOnly s { s with phases := ph, occs := oc, folds := fo, floods := fl, intrs := i, mctpPos := p } := by
  constructor <;> first | rfl | exact fun _ _ => rfl | exact fun _ => rfl | exact fun _ _ => Iff.rfl | exact ⟨[], (List.append_nil _).symm⟩

theorem EventsOnly.emit (o : Out) : EventsOnly s (s.emit o) := by
  constructor <;> first | rfl | exact fun _ _ => rfl | exact fun _ => rfl | exact fun _ _ => Iff.rfl | exact ⟨[o], rfl⟩

theorem EventsOnly.hostWrite (f addr : Nat) (bytes : List Byte) : EventsOnly s (s.hostWrite f addr bytes) := by
  unfold State.hostWrite
  split_ifs
  · exact EventsOnly.emit _
  · exact EventsOnly.refl s

theorem EventsOnly.setPending (f : Nat) (p : NatSet) :
    EventsOnly s (s.setCfg f { s.cfg f with pendingVectors := p }) := by
  constructor <;> first
    | rfl
    | exact fun _ _ => rfl
    | exact fun _ _ => Iff.rfl
    | exact ⟨[], (List.append_nil _).symm⟩
    | skip
  intro g
  by_cases h : g = f
  · subst h; simp [State.cfg, State.setCfg]
  · simp [State.cfg, State.setCfg, Sparse.get_set_ne _ _ _ _ h]

theorem EventsOnly.sendMsix (f vector : Nat) : EventsOnly s (s.sendMsix f vector) := by
  unfold State.sendMsix
  simp only
  split_ifs
  · exact EventsOnly.refl s
  · exact EventsOnly.setPending _ _
  · exact EventsOnly.emit _

theorem EventsOnly.ringInterrupt (ring f vector holdoff : Nat) : EventsOnly s (s.ringInterrupt ring f vector holdoff) := by
  unfold State.ringInterrupt
  simp only
  split
  · split_ifs
    · exact EventsOnly.of_fields _ _ _ _ _ _ _
    · exact (EventsOnly.sendMsix _ _).trans (EventsOnly.of_fields _ _ _ _ _ _ _)
  · exact (EventsOnly.sendMsix _ _).trans (EventsOnly.of_fields _ _ _ _ _ _ _)

theorem recordBlock_ribbon {rb : Nat} (h : rb < 4) :
    RecordBlock (Reg.RIBBON_POINTERS rb) ∧ RecordBlock (Reg.RIBBON_STATUS rb) ∧ RecordBlock (Reg.RIBBON_DROPPED rb)
      ∧ RecordBlock (Reg.RIBBON_FOLDED rb) := by
  simp only [RecordBlock, Reg.RIBBON_POINTERS, Reg.RIBBON_STATUS, Reg.RIBBON_DROPPED, Reg.RIBBON_FOLDED]; omega

theorem recordBlock_entry {rb i k : Nat} (h : rb < 4) (hi : i < 4096) (hk : k < 4) : RecordBlock (Reg.RIBBON_ENTRY rb i k) := by
  simp only [RecordBlock, Reg.RIBBON_ENTRY]; omega

theorem recordBlock_tenant {t : Nat} (h : t < 32) :
    RecordBlock (Reg.EVTENANT_RING_POINTERS t) ∧ RecordBlock (Reg.EVTENANT_RING_DROPPED t) := by
  simp only [RecordBlock, Reg.EVTENANT_RING_POINTERS, Reg.EVTENANT_RING_DROPPED]; omega

/-- A register of the event path that is written clean. -/
theorem EventsOnly.healSpan {off : Nat} (ho : RecordBlock off) (h8 : off % 8 = 0) : EventsOnly s (s.healSpan off 8) := by
  constructor <;> first
    | rfl
    | exact fun _ _ => rfl
    | exact fun _ => rfl
    | exact ⟨[], (List.append_nil _).symm⟩
    | skip
  intro e he
  have h : e.1 / 8 * 8 ≠ off := fun h => he (h ▸ ho)
  simp only [State.healSpan, List.mem_filter, Bool.not_eq_true', Bool.and_eq_false_imp, decide_eq_true_eq, decide_eq_false_iff_not,
    and_iff_left_iff_imp]
  omega

theorem EventsOnly.putEntry {rb i : Nat} (h : rb < 4) (hi : i < 4096) (ws : List Nat) (k : Nat) (hk : k + ws.length ≤ 4) :
    EventsOnly s (s.putEntry rb i ws k) := by
  induction ws generalizing s k with
  | nil => exact EventsOnly.refl s
  | cons w rest ih =>
    simp only [List.length_cons] at hk
    have hb := recordBlock_entry (k := k) h hi (by omega)
    exact ((EventsOnly.wr hb _).trans (EventsOnly.healSpan hb (by simp only [Reg.RIBBON_ENTRY]; omega))).trans (ih _ (by omega))

theorem EventsOnly.mirror (rb ptr : Nat) (bytes : List Byte) : EventsOnly s (s.mirror rb ptr bytes) := by
  unfold State.mirror
  simp only
  split_ifs
  · exact (EventsOnly.hostWrite _ _ _).trans (EventsOnly.ringInterrupt _ _ _ _)
  · exact EventsOnly.hostWrite _ _ _
  · exact EventsOnly.refl s

theorem EventsOnly.putRecord {rb : Nat} (h : rb < 4) (ptr : Nat) (x : EventRec) : EventsOnly s (s.putRecord rb ptr x) := by
  unfold State.putRecord
  exact (EventsOnly.putEntry h (Nat.mod_lt _ (by decide)) _ _ (by simp [EventRec.words])).trans (EventsOnly.mirror _ _ _)

theorem EventsOnly.syncUnacked {rb : Nat} (h : rb < 4) : EventsOnly s (s.syncUnacked rb) :=
  EventsOnly.setFld (recordBlock_ribbon h).2.1 _ _

theorem EventsOnly.skipOverwritten (rb : Nat) : EventsOnly s (s.skipOverwritten rb) := by
  unfold State.skipOverwritten
  simp only
  split_ifs
  · exact (EventsOnly.count (by simp [RecordBlock, Reg.EVENT_MCTP_SKIPPED])).trans (EventsOnly.of_fields _ _ _ _ _ _ _)
  · exact EventsOnly.refl s

theorem EventsOnly.appendRecord {rb : Nat} (h : rb < 4) (x : EventRec) : EventsOnly s (s.appendRecord rb x) := by
  unfold State.appendRecord
  exact (((EventsOnly.putRecord h _ _).trans (EventsOnly.setFld (recordBlock_ribbon h).1 _ _)).trans
    (EventsOnly.syncUnacked h)).trans (EventsOnly.skipOverwritten _)

theorem EventsOnly.setFlood (rb : Nat) (f : Option Flood) : EventsOnly s (s.setFlood rb f) :=
  EventsOnly.of_fields _ _ _ _ _ _ _

theorem EventsOnly.record {rb : Nat} (h : rb < 4) (x : EventRec) : EventsOnly s (s.record rb x) := by
  unfold State.record
  split
  · split_ifs
    · exact EventsOnly.appendRecord h _
    · exact ((EventsOnly.appendRecord h _).trans (EventsOnly.setFlood _ _)).trans
        (EventsOnly.setFld (recordBlock_ribbon h).2.1 _ _)
  · split_ifs
    · exact (EventsOnly.appendRecord h _).trans (EventsOnly.setFlood _ _)
    · exact (EventsOnly.count (recordBlock_ribbon h).2.2.1).trans (EventsOnly.setFlood _ _)
    · split
      · exact (EventsOnly.appendRecord h _).trans (EventsOnly.setFlood _ _)
      · exact ((EventsOnly.putRecord h _ _).trans (EventsOnly.count (recordBlock_ribbon h).2.2.1)).trans
          (EventsOnly.setFlood _ _)

theorem EventsOnly.copyToTenant (x : EventRec) : EventsOnly s (s.copyToTenant x) := by
  unfold State.copyToTenant
  cases x.tenant with
  | none => exact EventsOnly.refl s
  | some u =>
    have h := recordBlock_tenant (Nat.mod_lt u (by decide : 32 > 0))
    by_cases hr : x.ribbon = 1 ∨ x.ribbon = 2
    · simp only [if_pos hr]
      cases s.primaryFn (u % 32) with
      | none => exact EventsOnly.count h.2
      | some f =>
        simp only
        split
        · exact EventsOnly.count h.2
        · have last : ∀ r : State, EventsOnly s r → EventsOnly s (if x.ribbon = 1 ∧ r.flag
              (Reg.EVTENANT_RING_CONTROL (u % 32)) Fl.EVTENANT_RING_CONTROL_INT_EN = true then
              r.ringInterrupt (Reg.EVTENANT_RING_CONTROL (u % 32)) f
                (r.fld (Reg.EVTENANT_RING_CONTROL (u % 32)) Fl.EVTENANT_RING_CONTROL_VECTOR)
                (r.fld (Reg.EVTENANT_RING_CONTROL (u % 32)) Fl.EVTENANT_RING_CONTROL_HOLDOFF_US) else r) :=
            fun r hr => EventsOnly.ite (hr.trans (EventsOnly.ringInterrupt _ _ _ _)) hr
          have put := (EventsOnly.hostWrite (s := s) f
            (s.fld (Reg.EVTENANT_RING_BASE (u % 32)) Fl.EVTENANT_RING_BASE_ADDR * 4096
              + s.fld (Reg.EVTENANT_RING_POINTERS (u % 32)) Fl.EVTENANT_RING_POINTERS_WRITE_PTR
                % 2 ^ s.fld (Reg.EVTENANT_RING_CONTROL (u % 32)) Fl.EVTENANT_RING_CONTROL_SIZE * 32)
            (x.bytes (s.phase (Reg.EVTENANT_RING_CONTROL (u % 32))))).trans
              (EventsOnly.setFld h.1 Fl.EVTENANT_RING_POINTERS_WRITE_PTR
                ((s.fld (Reg.EVTENANT_RING_POINTERS (u % 32)) Fl.EVTENANT_RING_POINTERS_WRITE_PTR + 1)
                  % 2 ^ s.fld (Reg.EVTENANT_RING_CONTROL (u % 32)) Fl.EVTENANT_RING_CONTROL_SIZE))
          apply last
          exact EventsOnly.ite (put.trans (EventsOnly.of_fields _ _ _ _ _ _ _)) put
    · simp only [if_neg hr]
      exact EventsOnly.refl s

theorem EventsOnly.deliver (x : EventRec) : EventsOnly s (s.deliver x) :=
  (EventsOnly.record (Nat.mod_lt _ (by decide)) _).trans (EventsOnly.copyToTenant _)

theorem EventsOnly.closeFolds (l : List FoldEntry) : EventsOnly s (s.closeFolds l) := by
  induction l generalizing s with
  | nil => exact EventsOnly.refl s
  | cons e rest ih =>
    unfold State.closeFolds
    simp only
    split_ifs
    · exact ((EventsOnly.of_fields _ _ _ _ _ _ _).trans (EventsOnly.deliver _)).trans ih
    · exact (EventsOnly.of_fields _ _ _ _ _ _ _).trans ih
    · exact ih

theorem EventsOnly.coalesce (x : EventRec) : EventsOnly s (s.coalesce x) := by
  unfold State.coalesce
  by_cases hr : x.ribbon = 0 ∨ x.ribbon = 3 ∨ x.code = Cond.eventCoalesced.code
  · simp only [if_pos hr]
    exact EventsOnly.deliver _
  · simp only [if_neg hr]
    cases findFold x (s.closeFolds s.folds).folds with
    | some e =>
      exact ((EventsOnly.closeFolds _).trans
        (EventsOnly.count (recordBlock_ribbon (Nat.mod_lt _ (by decide))).2.2.2)).trans (EventsOnly.of_fields _ _ _ _ _ _ _)
    | none =>
      simp only
      split
      · exact ((EventsOnly.closeFolds _).trans (EventsOnly.deliver _)).trans (EventsOnly.of_fields _ _ _ _ _ _ _)
      · exact (EventsOnly.closeFolds _).trans (EventsOnly.deliver _)

theorem EventsOnly.writeRecords (l : List EventRec) : EventsOnly s (s.writeRecords l) := by
  induction l generalizing s with
  | nil => exact EventsOnly.refl s
  | cons x rest ih => exact (EventsOnly.coalesce x).trans ih

theorem EventsOnly.flushRecords (s : State) : EventsOnly s s.flushRecords :=
  (EventsOnly.of_fields s s.phases [] s.folds s.floods s.intrs s.mctpPos).trans (EventsOnly.writeRecords _)

theorem EventsOnly.driveAlert (s : State) : EventsOnly s s.driveAlert := by
  have h : RecordBlock Reg.EVENT_ALERT := by simp [RecordBlock, Reg.EVENT_ALERT]
  have k := ((EventsOnly.setFld (s := s) h Fl.EVENT_ALERT_ASSERTED s.alertCause.toNat)).trans
    (EventsOnly.setFld h Fl.EVENT_ALERT_LATCHED
      (s.flag Reg.THERMAL_TRIP Fl.THERMAL_TRIP_LATCHED || s.flag Reg.INTEGRITY_SELFTEST Fl.INTEGRITY_SELFTEST_FATAL).toNat)
  unfold State.driveAlert
  simp only
  split_ifs
  · exact k
  · exact k.trans ((EventsOnly.emit _).trans (EventsOnly.emit _))
  · exact k.trans (EventsOnly.emit _)

/-- A command ends in a next state that differs from the state its meaning reached in the event path alone. -/
theorem finish_spec (s : State) : ∃ t, finish s = .next t ∧ EventsOnly s t :=
  ⟨_, rfl, (EventsOnly.flushRecords s).trans (EventsOnly.driveAlert _)⟩

/-! ### Occurrences -/

/-- The authoritative record of an occurrence (R448): unit counters, condition counter, sticky bits. -/
def State.tallied (s : State) (o : Occurrence) : State :=
  let s1 := ((s.countAll o.counters).count (Reg.EVENT_CONDITION o.cond.number)).setBit Reg.EVENT_STICKY o.cond.number
  match o.tenant with
  | some t => s1.setBit (Reg.EVTENANT_STICKY (t % 32)) o.cond.number
  | none => s1

/-- An occurrence counts in its unit counters, its condition counter and the sticky bits, and otherwise changes the event path
alone (R448). -/
theorem EventsOnly.raise (s : State) (o : Occurrence) : EventsOnly (s.tallied o) (s.raise o) := by
  have a : RecordBlock Reg.EVENT_ALERT := by simp [RecordBlock, Reg.EVENT_ALERT]
  have tally : EventsOnly (s.tallied o) (s.tally o) := by
    unfold State.tally State.tallied
    cases o.tenant with
    | some u => exact EventsOnly.ite (EventsOnly.setFld a _ _) (EventsOnly.refl _)
    | none => exact EventsOnly.ite (EventsOnly.setFld a _ _) (EventsOnly.refl _)
  unfold State.raise
  exact (tally.trans (EventsOnly.of_fields _ _ _ _ _ _ _)).trans (EventsOnly.driveAlert _)

end Sys2Proof.Machine
end

