-- ==== Sys2Proof/Laws/Frames.lean ====
section
/-! SUPPORT. Frames: the event path changes nothing that a frame speaks of, and frames compose. -/

namespace Sys2Proof

open Machine

theorem Part.Same.refl (s : State) (p : Part) : p.Same s s := by cases p <;> first | rfl | exact fun _ => rfl

theorem Part.Same.trans {s t u : State} {p : Part} (h : p.Same s t) (g : p.Same t u) : p.Same s u := by
  cases p
  case config => exact fun f => (g f).trans (h f)
  case mem => exact Eq.trans g (by rw [show t.mem = _ from h])
  all_goals exact Eq.trans g h

/-- A part that the event path does not touch is the same. -/
theorem Machine.EventsOnly.same {s t : State} (h : EventsOnly s t) (p : Part) : p.Same s t := by
  cases p
  case config => exact h.cfg
  case mem => exact h.mem
  all_goals first | exact h.pending | exact h.free | exact h.notifies | exact h.flrs | exact h.writeLatch
                  | exact h.readLatch | exact h.bond | exact h.remoteQ | exact h.net | exact h.dma
                  | exact h.dmaTag | exact h.core | exact h.tier | exact h.upd | exact h.coll | exact h.tick
                  | exact h.therm | exact h.boot | exact h.side | exact h.fw | exact h.stitchClock

theorem Changes.refl (parts : List Part) (offs : Nat → Prop) (s : State) : Changes parts offs s s :=
  ⟨fun p _ => Part.Same.refl s p, fun _ _ _ => rfl, fun _ _ _ => Iff.rfl⟩

theorem Changes.trans {parts : List Part} {offs : Nat → Prop} {s t u : State} (h : Changes parts offs s t)
    (g : Changes parts offs t u) : Changes parts offs s u :=
  ⟨fun p hp => (h.1 p hp).trans (g.1 p hp), fun o h1 h2 => (g.2.1 o h1 h2).trans (h.2.1 o h1 h2),
    fun hm e he => (g.2.2 hm e he).trans (h.2.2 hm e he)⟩

/-- A frame outlives the end of the command. -/
theorem Changes.events {parts : List Part} {offs : Nat → Prop} {s r t : State} (h : Changes parts offs s r)
    (e : EventsOnly r t) : Changes parts offs s t :=
  ⟨fun p hp => (h.1 p hp).trans (e.same p), fun o h1 h2 => (e.rd o h1).trans (h.2.1 o h1 h2),
    fun hm x hx => (e.arr x fun hr => hx (.inl hr)).trans (h.2.2 hm x hx)⟩

/-- A larger frame. -/
theorem Changes.mono {parts parts' : List Part} {offs offs' : Nat → Prop} {s t : State} (h : Changes parts offs s t)
    (hp : ∀ p ∈ parts, p ∈ parts') (ho : ∀ o, offs o → offs' o) : Changes parts' offs' s t :=
  ⟨fun p hq => h.1 p fun x => hq (hp p x), fun o h1 h2 => h.2.1 o h1 fun x => h2 (ho o x),
    fun hm e he => h.2.2 (fun x => hm (hp _ x)) e fun x =>
      he (x.imp id fun y => y.imp (ho _) fun z => ⟨z.1, hp _ z.2⟩)⟩

/-- The command's end as one fact: a frame up to the records of the command is a frame of the command. -/
theorem Changes.finish {parts : List Part} {offs : Nat → Prop} {s r : State} (h : Changes parts offs s r) :
    ∃ t, Machine.finish r = .next t ∧ EventsOnly r t ∧ Changes parts offs s t :=
  let ⟨t, ht, he⟩ := finish_spec r
  ⟨t, ht, he, h.events he⟩

/-- One write of a register. -/
theorem Changes.wr (s : State) (off : Nat) (v : Word) : Changes [] (· = off) s (s.wr off v) :=
  ⟨fun p _ => by cases p <;> first | rfl | exact fun _ => rfl, fun _ _ h => State.rd_wr_ne s v h, fun _ _ _ => Iff.rfl⟩

/-- One write of a field. -/
theorem Changes.setFld (s : State) (off : Nat) (f : Fld) (v : Nat) : Changes [] (· = off) s (s.setFld off f v) :=
  Changes.wr s off _

/-- The start of a command clears the outputs alone. -/
theorem Changes.begin (s : State) : Changes [] (fun _ => False) s s.begin :=
  ⟨fun p _ => by cases p <;> first | rfl | exact fun _ => rfl, fun _ _ _ => rfl, fun _ _ _ => Iff.rfl⟩

end Sys2Proof
end

