-- ==== Sys2Proof/Laws/Memory.lean ====
section
/-! SUPPORT. Laws of memory: a byte read after a write, the frame of a write, and the canonical form, which every operation on
the bytes keeps and the state after reset has. -/

namespace Sys2Proof.Machine

variable (s : State)

/-! ### A read after a write -/

theorem State.byteAt_putByte (a : Nat) (b : Byte) (x : Nat) :
    (s.putByte a b).byteAt x = if x = a then b else s.byteAt x := Sparse.get_set _ _ _ _ _

theorem State.byteAt_putByte_ne {a x : Nat} (b : Byte) (h : x ≠ a) : (s.putByte a b).byteAt x = s.byteAt x := by
  simp [State.byteAt_putByte, h]

/-- What every byte reads as after a write of bytes: the byte written there, and outside them what it read as before. -/
theorem State.byteAt_putBytes (a : Nat) (bs : List Byte) (x : Nat) :
    (s.putBytes a bs).byteAt x = if a ≤ x ∧ x < a + bs.length then bs.getD (x - a) 0 else s.byteAt x := by
  induction bs generalizing s a with
  | nil => rw [if_neg (by simp)]; rfl
  | cons b rest ih =>
    rw [State.putBytes, ih, List.length_cons]
    by_cases h : x = a
    · subst h; simp [State.byteAt_putByte]
    · rw [State.byteAt_putByte_ne s b h]
      by_cases h1 : a + 1 ≤ x ∧ x < a + 1 + rest.length
      · rw [if_pos h1, if_pos (by omega)]
        obtain ⟨k, rfl⟩ : ∃ k, x = a + 1 + k := ⟨x - (a + 1), by omega⟩
        rw [show a + 1 + k - a = k + 1 by omega, show a + 1 + k - (a + 1) = k by omega, List.getD_cons_succ]
      · rw [if_neg h1, if_neg (by omega)]

/-! ### The canonical form -/

/-- The memory of a state has the canonical form. -/
def State.memOk (s : State) : Prop := Memory.wf s.mem.bytes = true

theorem State.reset_memOk : State.reset.memOk := rfl

theorem State.memOk_putByte {s : State} (h : s.memOk) (a : Nat) (b : Byte) : (s.putByte a b).memOk := Sparse.wf_set h

theorem State.memOk_putBytes {s : State} (h : s.memOk) (a : Nat) (bs : List Byte) : (s.putBytes a bs).memOk := by
  induction bs generalizing s a with
  | nil => exact h
  | cons b rest ih => exact ih (State.memOk_putByte h a b) (a + 1)

theorem State.memOk_putUnmasked {s : State} (h : s.memOk) (a mask : Nat) (bs : List Byte) : (s.putUnmasked a mask bs).memOk := by
  induction bs generalizing s a mask with
  | nil => exact h
  | cons b rest ih =>
    refine ih ?_ (a + 1) (mask / 2)
    split
    · exact h
    · exact State.memOk_putByte h a b

theorem State.memOk_applyResidual {s : State} (h : s.memOk) (a n residual mask : Nat) :
    (s.applyResidual a n residual mask).memOk := by
  unfold State.applyResidual
  split
  · exact h
  · exact State.memOk_putUnmasked h _ _ _

theorem State.memOk_putUpset {s : State} (h : s.memOk) (key e : Nat) : (s.putUpset key e).memOk := by
  unfold State.putUpset State.memOk
  split <;> exact h

theorem State.memOk_absorb {s : State} (h : s.memOk) (key residual fix : Nat) : (s.absorb key residual fix).memOk := by
  unfold State.absorb
  split
  · exact h
  · refine State.memOk_putUpset ?_ _ _
    split_ifs
    · exact State.memOk_applyResidual h _ _ _ _
    · exact State.memOk_applyResidual h _ _ _ _
    · exact State.memOk_applyResidual h _ _ _ _
    · exact h
    · exact h

/-- UNWRITE clears an extent. -/
theorem State.memOk_clearExtent {s : State} (h : s.memOk) (a len : Nat) : (s.clearExtent a len).memOk := Sparse.wf_drop _ h

/-- What the fills and the training of the stacks keep of memory. -/
theorem Memory.wf_filter {m : List Host.Cell} (p : Host.Cell → Bool) (h : Memory.wf m = true) :
    Memory.wf (m.filter p) = true := Sparse.wf_filter p h

/-- Two memories in canonical form that read the same are the same. -/
theorem Memory.ext {m m' : List Host.Cell} (h : Memory.wf m = true) (h' : Memory.wf m' = true)
    (e : ∀ a, Sparse.get emptyByte m a = Sparse.get emptyByte m' a) : m = m' := Sparse.wf_ext h h' e

/-! ### Poison -/

/-- A line reads poisoned after its mark as it was marked, and every other line as before. -/
theorem State.linePoisoned_setPoison (l : Nat) (p : Bool) (j : Nat) :
    (s.setPoison l p).linePoisoned j = if j = l then p else s.linePoisoned j := by
  cases p <;> simp only [State.linePoisoned, State.setPoison, NatSet.has_add, NatSet.has_del, if_true, Bool.false_eq_true,
    if_false]
  all_goals by_cases h : j = l
  · subst h; simp
  · rw [if_neg h]
    have h1 : 2 * j ≠ 2 * l := by omega
    have h2 : 2 * j ≠ 2 * l + 1 := by omega
    have h3 : 2 * j + 1 ≠ 2 * l := by omega
    simp [h1, h2, h3]
  · subst h; simp
  · rw [if_neg h]
    have h1 : 2 * j ≠ 2 * l := by omega
    have h2 : 2 * j ≠ 2 * l + 1 := by omega
    have h3 : 2 * j + 1 ≠ 2 * l := by omega
    simp [h1, h2, h3]

end Sys2Proof.Machine
end

