-- ==== Sys2Proof/Laws/Shuttle.lean ====
section
/-! SUPPORT. The shared operations of the shuttle, said once: the fetch, the move past an instruction, a branch, a stop. -/

namespace Sys2Proof.Machine

variable (s : State)

/-- Spans of the byte-coded arrays without latent errors read as they stand. -/
theorem State.readSpans_sound {who : Option Nat} {ps : List (Nat × Nat)} (h : ∀ p ∈ ps, s.errorsIn p.1 p.2 = []) :
    s.readSpans who ps = (s, false) := by
  induction ps with
  | nil => rfl
  | cons p rest ih =>
    have h1 := h p (List.mem_cons_self ..)
    have h2 := ih fun o ho => h o (List.mem_cons_of_mem _ ho)
    simp [State.readSpans, h1, State.readArrayList, h2]

/-- Arrays without latent errors read as they stand. -/
theorem State.readArrays_sound {who : Option Nat} {offs : List Nat} (h : ∀ off ∈ offs, s.arrayErrors off = []) :
    s.readArrays who offs = (s, false) :=
  s.readSpans_sound fun p hp => by
    obtain ⟨off, ho, rfl⟩ := List.mem_map.1 hp
    exact h off ho

/-- An instruction that the shuttle fetches while the cores run, and whose bytes and sources hold no error, runs. -/
theorem State.fetchDo_run {n op : Nat} {w : W32} {p : W32 → Bool} {f : W32 → State → State} (h0 : s.coresRun = true)
    (h1 : s.shuttleState n = 1) (h2 : s.instructionAt n (s.pc n) = w) (h3 : insOpcode w = op) (h4 : insReserved w = false)
    (h5 : p w = true) (h6 : s.errorsIn (insSpan n (s.pc n)).1 (insSpan n (s.pc n)).2 = [])
    (h7 : ∀ p ∈ s.insSources n w, s.errorsIn p.1 p.2 = []) : s.fetchDo n op p f = f w s := by
  have own : s.readSpans (s.coreTenant n) [insSpan n (s.pc n)] = (s, false) :=
    s.readSpans_sound fun q hq => by rw [List.mem_singleton.1 hq]; exact h6
  unfold State.fetchDo
  simp only [own, h2, h0, h1, h3, h4, h5, and_self, if_true, Bool.false_eq_true, if_false, s.readSpans_sound h7]

/-! ### The fields of SHUTTLE_STATUS -/

/-- What a write of one field of SHUTTLE_STATUS leaves in the others, and in every other register. -/
theorem State.fld_setFld (off : Nat) (f : Fld) (v a : Nat) (g : Fld)
    (h : f = g ∨ g.lo + g.width ≤ f.lo ∨ f.lo + f.width ≤ g.lo) (hw : f.lo + f.width ≤ 64) :
    (s.setFld off f v).fld a g = if a = off ∧ f = g then v % 2 ^ f.width else s.fld a g := by
  by_cases ha : a = off
  · subst ha
    rcases h with h | h
    · subst h; simp [State.fld_setFld_same _ _ _ _ hw]
    · by_cases hfg : f = g
      · subst hfg
        simp [State.fld_setFld_same _ _ _ _ hw]
      · simp [hfg, State.fld_setFld_disjoint _ _ _ _ _ h]
  · simp [ha, State.fld_setFld_ne _ _ _ _ ha]

/-- The move past an instruction below the last address. -/
theorem State.nextPc_of_lt {n : Nat} (h : s.pc n ≠ 8191) :
    s.nextPc n = s.setFld (Reg.SHUTTLE_STATUS n) Fl.SHUTTLE_STATUS_PC (s.pc n + 1) := if_neg h

/-- The move past the last address stops the shuttle with PC_RANGE (R74). -/
theorem State.nextPc_last {n : Nat} (h : s.pc n = 8191) : s.nextPc n = s.stopShuttle n 12 := if_pos h

end Sys2Proof.Machine
end

