-- ==== Sys2Proof/WellFormed.lean ====
section
/-! DEFINITION. Which commands are well formed: the conditions on a command's operands that their types do not express. -/

namespace Sys2Proof

/-- A register offset (R467): a multiple of 8 in BAR0, or in BAR2 (1 MiB, R415), which follows it at 2^26. -/
def offsetWf (off : Nat) : Bool := off % 8 == 0 && decide (off < 2 ^ 26 + 2 ^ 20)

/-- Eight lanes, each at one place of the eight, and four credits of 12 bits (R312, R324). -/
def Training.wf (t : Training) : Bool :=
  t.physical.length == 8 && t.physical.all (fun l => decide (l < 8)) && decide t.physical.Nodup
    && t.credits.length == 4 && t.credits.all (fun c => decide (c < 4096))

/-- Changed symbols for each of the eight lanes, or for none: each place of a pair at most once, with a value of ten bits that is
not zero (R314). -/
def FecInfo.wf (x : FecInfo) : Bool :=
  (x.changed.length == 8 || x.changed.isEmpty)
    && x.changed.all (fun l => decide (l.map (·.1)).Nodup
      && l.all (fun e => decide (e.1 < 544) && decide (0 < e.2) && decide (e.2 < 1024)))

/-- The fields of a reply entry fit its 12 bytes (R328). -/
def ReplyEntry.wf (r : ReplyEntry) : Bool :=
  decide (r.device < 2 ^ 16) && decide (r.tag < 2 ^ 16) && decide (r.count < 2 ^ 32) && decide (r.word < 2 ^ 24)
    && decide (r.flags < 2 ^ 8)

/-- The fields of a tick block fit their bits (R325). -/
def TickBlock.wf (x : TickBlock) : Bool :=
  decide (x.count < 2 ^ 64) && decide (x.phase < 2 ^ 32) && decide (x.len < 2 ^ 32) && decide (x.flags < 2 ^ 8)
    && decide (x.slip < 2 ^ 32) && decide (x.eventBoundary < 2 ^ 32) && decide (x.lenNext < 2 ^ 32)
    && decide (x.lenChangeAt < 2 ^ 64)

/-- The fields of a control body fit it: four credits, at most 15 replies (R319). -/
def ControlBody.wf (c : ControlBody) : Bool :=
  c.credits.length == 4 && c.credits.all (fun x => decide (x < 4096)) && decide (c.frame < 2 ^ 16)
    && decide (c.rxLanes < 2 ^ 8) && decide (c.txLanesNext < 2 ^ 8) && decide (c.switchFrame < 2 ^ 16) && c.tick.wf
    && decide (c.replies.length ≤ 15) && c.replies.all ReplyEntry.wf && decide (c.replyCount < 2 ^ 8)

/-- The fields of a flit fit its 256 bytes; a data flit carries 240 bytes of transport body (R318). -/
def Flit.wf (f : Flit) : Bool :=
  decide (f.kind < 8) && decide (f.cls < 4) && decide (f.seq < 2 ^ 16) && decide (f.tickKind < 2 ^ 8)
    && decide (f.tickArg < 2 ^ 32) && decide (f.ack < 2 ^ 16) && decide (f.edgeBoundary < 2 ^ 16) && decide (f.crc < 2 ^ 32)
    && match f.body with
      | .idle => true
      | .data bytes => bytes.length == 240
      | .control c => c.wf

/-- A thermal round: 160 conversions, 16 columns, 8 readouts (R398, R401, R259). -/
def ThermalResults.wf (x : ThermalResults) : Bool :=
  x.readings.length == 160 && x.power.length == 16 && x.readouts.length == 8

/-- The offset of an access through the debug port is a multiple of 8 in BAR0 (R444, R467). -/
def DebugRequest.wf : DebugRequest → Bool
  | .read off | .readLow off | .readHigh off | .write off _ | .writeLow off _ | .writeHigh off _ =>
    off % 8 == 0 && decide (off < 2 ^ 26)
  | .halt | .resume | .step | .inspect => true

/-- Whether a command is well formed. -/
def Instr.wf : Instr → Bool
  | .bootRomSelfTest failed wires => decide failed.Nodup && decide (wires.map (·.1)).Nodup
  | .apertureRead _ o len => decide (o.toNat % 4096 + len.val ≤ 4096)
  | .apertureWrite _ o bytes _ => decide (0 < bytes.length) && decide (o.toNat % 4096 + bytes.length ≤ 4096)
  | .pcieCompletion _ _ _ _ bytes => decide (bytes.length ≤ 4096)
  | .challenge _ _ nonce => decide (nonce.length = 32)
  | .getMeasurements _ _ nonce => match nonce with | some x => decide (x.length = 32) | none => true
  | .requestFirmwareData _ bytes => decide (bytes.length ≤ 4096)
  | .registerWrite _ off high v => offsetWf off.toNat && (!high || decide (v.toNat < 2 ^ 32))
  | .lowHalfWrite _ off _ => offsetWf off.toNat
  | .slotWordWrite _ _ program constant _ k _ => (program && !constant) || decide (k.val < 8)
  | .wcbWriteBack line => decide (line < 2 ^ 34)
  | .linkTrained _ t => t.wf
  | .idleFlit _ f fec => decide (f.body = .idle) && f.wf && fec.wf
  | .dataFlit _ f fec => (match f.body with | .data _ => true | _ => false) && f.wf && fec.wf
  | .controlFlit _ f fec => (match f.body with | .control _ => true | _ => false) && f.wf && fec.wf
  | .thermalRound x => x.wf
  | .debugPortAccess r => r.wf
  | .powerGood | .powerGoodLoss | .senseFallback | .pllLock _ | .memoryFill | .firmwareLoad _
  | .farMemoryTraining _ _ | .coresReleased | .feedGo _ _ | .perstAssert _ _ | .perstDeassert _ | .hotReset _ _
  | .pcieLinkDown _ _ | .pcieLinkUp _ _ _ _ | .functionLevelReset _ _ | .flrKnotReset _ | .flrObjectDelete _
  | .completionTimeout _ _ | .completionReadWrite _ _ _ | .msixHoldoff _ | .mgmtWrite _ | .mgmtRead _ | .retire _
  | .mgmtReserved _ | .fwFetch _ | .fwStagingComplete | .fwCommit _ | .flashWriteComplete _ | .fwActivate _
  | .tambourStart _ _ | .activationWindowEnd | .svnAdvance _ | .debugNonce _ | .debugOpen _ | .debugClose _
  | .debugNonceExpiry | .setEndpointId _ _ | .getVersion _ | .getCapabilities _ | .negotiateAlgorithms _ _
  | .getDigests _ | .getCertificate _ _ _ _ | .requestUpdate _ | .passComponentTable _ _ | .updateComponent _ _ _
  | .activateFirmware _ | .getStatus _ | .cancelUpdate _ | .getSensorReading _ _ | .setEventReceiver _ _
  | .pollForPlatformEventMessage _ | .platformEventMessage | .entdaa _ | .setdasa _ _ | .getpid _ | .getbcr _
  | .getdcr _ | .getstatus _ | .getmwl _ | .getmrl _ | .alertResponse | .idcode | .bypass | .accessError _ _
  | .stitchBoundary | .slipLimit | .tickHold _ _ | .tickClear _ _ _ | .tickDomainHold _ | .tickAnnounce _ _
  | .holdover | .tickInEdge _ | .tickInLoss | .lenChangeSchedule _ _ | .startStitchWrite _ _ _
  | .stationConfigWrite _ _ _ _ | .nop _ | .halt _ | .jump _ | .loop _ | .branchCounter _ | .branchImmediate _
  | .branchKnot _ | .counter _ | .addImmediate _ | .andImmediate _ | .orImmediate _ | .xorImmediate _
  | .shiftLeftImmediate _ | .shiftRightImmediate _ | .loadImmediate _ | .loadUpper _ | .readSystem _ | .knotWait _
  | .knotWaitIndirect _ | .shuttleWaitWake _ | .knotOp _ | .knotOpIndirect _ | .generator _ | .generatorImmediate _
  | .templateLoad _ | .fill _ | .fillImmediate _ | .fillGenerator _ | .issue _ | .issueResume _ | .actBegin _
  | .actEnd _ | .tileSet _ | .tileSetImmediate _ | .tileCopy _ | .reservedOpcode _ | .launchDoorbell _ _ _ | .start _
  | .stop _ | .launchReserved _ | .stopReq _ _ | .queueDrainReq _ _ _ | .queueEnableReq _ _ _ | .coreDrainReq _ _
  | .coreEnableReq _ _ | .clusterDrainReq _ _ | .clusterEnableReq _ _ | .drainLimit _ _ | .engineNop _ _
  | .matrixPass _ _ | .spill _ | .matrixDrain _ | .matrixSave _ | .matrixLoad _ | .vectorChain _ _
  | .vectorElement _ _ | .vectorSetLength _ | .vectorBlock _ _ | .moveRead _ _ _ | .moveWrite _ _ _ | .moveCopy _ _ _
  | .moveReduce _ _ _ | .queueFrontFrayed _ _ | .commandComplete _ _ | .slotValidate _ _ _ _ _
  | .checkRunningWrite _ _ _ _ | .checkControlWrite _ _ _ _ | .genIndexWrite _ _ _ _ _ | .knotStateWrite _ _ _
  | .knotArmWrite _ _ _ | .knotDisarmWrite _ _ _ | .knotSet | .knotAdd | .knotFray | .knotTest | .knotArm
  | .remoteUpdateApply | .notifyPendingDeliver _ | .tangleScan | .waitLimit _ _ | .tierDoorbell _ _ _ | .tierNop _
  | .promote _ | .evict _ | .place _ | .discard _ | .pin _ | .unpin _ | .swatchMove _ | .tierTriggerWaitLimit _
  | .tierQueueDrainReq _ _ | .tierQueueEnableReq _ _ | .tierDrainLimit _ | .objectCreate _ _ _ | .objectDelete _ _ _
  | .writeBatch _ _ | .perBankRefresh | .unwriteStart _ _ _ | .unwriteComplete _ | .farRowSelfTest _ _ _
  | .retireAck _ _ _ _ | .groupCreate _ _ _ | .groupDelete _ _ _ | .updateRetry _ _ _ | .updateUnitDrainReq _ _
  | .updateUnitEnableReq _ _ _ | .updateDrainLimit _ | .tileDone _ _ | .stateNotResident _ | .scheduleProbe _ _ _
  | .gateArm _ _ _ | .gateDisarm _ _ _ | .gateAbandon _ _ _ | .gateTrigger _ | .gateScanComplete _ | .stepKnotAdd _
  | .gateWaitLimit _ | .autoRetrain _ | .linkFrame _ _ | .shedWindow _ _ | .laneLockLoss _ _ _ | .laneShedReq _ _ _
  | .widthSwitch _ _ | .laneRestore _ _ _ | .laneRetrained _ _ _ | .bridePortDrainReq _ _ _
  | .bridePortEnableReq _ _ _ | .portDrainLimit _ | .tileWrite | .tileRead | .readResponse | .reduce | .mailbox
  | .collective | .ack | .nak | .undeliverable | .beacon | .directed | .neighbour | .transportTimeout _
  | .reorderTimeout _ _ _ _ | .flowIdle _ _ | .routeWait | .beaconPeriod | .deviceIdWrite _ _ | .digestRefresh _
  | .collectiveDoorbell _ _ _ | .reduceScatter _ | .allGather _ | .allReduce _ | .collectiveWaitLimit _
  | .collectiveDrainReq _ _ | .collectiveEnableReq _ _ | .collectiveDrainLimit _ | .targetedSelfTest _ _
  | .bondResend _ | .wireTest _ _ | .sensorDemand _ _ | .sensorConversion _ _ | .powerSample _ _ _ | .capWindow
  | .sensorSuspectClear _ _ _ | .ribbonAck _ _ _ | .stickyClear _ _ _ | .foldWindowClose | .configurationWrite _ _
  | .lossOfClockLock _ => true

end Sys2Proof
end

