-- ==== Sys2Proof/Tests/Slice0.lean ====
section
/-! SUPPORT. Tests: an ill-formed command for each check of WellFormed.lean, a witness for the hypotheses of each statement of
Obligations.lean, and small tests of single commands. -/

namespace Sys2Proof.Tests

open Machine Claims

set_option Elab.async false

/-! ### Ill-formed commands -/

theorem test_wf_self_test_failed : Instr.wf (.bootRomSelfTest [.core 3, .core 3] []) = false := by decide
theorem test_wf_self_test_wires : Instr.wf (.bootRomSelfTest [] [(7, 1), (7, 2)]) = false := by decide
theorem test_wf_aperture_read : Instr.wf (.apertureRead 0 0xFFF 2) = false := by decide
theorem test_wf_aperture_read_page : Instr.wf (.apertureRead 0 0 4096) = true := by decide
theorem test_wf_aperture_write_empty : Instr.wf (.apertureWrite 0 0 [] false) = false := by decide
theorem test_wf_aperture_write : Instr.wf (.apertureWrite 0 0xFFF [1, 2] false) = false := by decide
theorem test_wf_completion : Instr.wf (.pcieCompletion 0 0 true false (List.replicate 4097 0)) = false := by decide +kernel
theorem test_wf_challenge : Instr.wf (.challenge 0 0 [1]) = false := by decide
theorem test_wf_measurements : Instr.wf (.getMeasurements 0 0 (some [1])) = false := by decide
theorem test_wf_firmware_data : Instr.wf (.requestFirmwareData 0 (List.replicate 4097 0)) = false := by decide +kernel
theorem test_wf_write_offset : Instr.wf (.registerWrite .tambour 0x4 false 0) = false := by decide
theorem test_wf_write_range : Instr.wf (.registerWrite .tambour 0x4100000 false 0) = false := by decide
theorem test_wf_write_half : Instr.wf (.registerWrite .tambour 0x8 true 0x100000000) = false := by decide
theorem test_wf_low_half : Instr.wf (.lowHalfWrite .tambour 0xC 0) = false := by decide
theorem test_wf_slot_word : Instr.wf (.slotWordWrite .tambour 0 false false 0 8 0) = false := by decide
theorem test_wf_slot_constant : Instr.wf (.slotWordWrite .tambour 0 true true 0 8 0) = false := by decide
theorem test_wf_line : Instr.wf (.wcbWriteBack (2 ^ 34)) = false := by decide
theorem test_wf_training_lanes : Instr.wf (.linkTrained 0 { rxGood := 0, txGood := 0, physical := [0, 1, 2] }) = false := by decide
theorem test_wf_training_place :
    Instr.wf (.linkTrained 0 { rxGood := 0, txGood := 0, physical := [0, 1, 2, 3, 4, 5, 6, 8] }) = false := by decide
theorem test_wf_training_twice :
    Instr.wf (.linkTrained 0 { rxGood := 0, txGood := 0, physical := [0, 1, 2, 3, 4, 5, 6, 6] }) = false := by decide
theorem test_wf_training_credits : Instr.wf (.linkTrained 0 { rxGood := 0, txGood := 0, credits := [0] }) = false := by decide
theorem test_wf_training_credit :
    Instr.wf (.linkTrained 0 { rxGood := 0, txGood := 0, credits := [4096, 0, 0, 0] }) = false := by decide

/-- A control body that is well formed. -/
def body : ControlBody :=
  { credits := [0, 0, 0, 0], frame := 0, rxLanes := 255, txLanesNext := 255, switchFrame := 0, tick := {}, replies := [],
    replyCount := 0 }

/-- A reply entry that is well formed. -/
def entry : ReplyEntry := { device := 1, tag := 2, count := 3, word := 4, flags := 5 }

/-- A flit with a body. -/
def flit (b : FlitBody) : Flit := { kind := match b with | .idle => 0 | .data _ => 1 | .control _ => 2, body := b, crc := 0 }

/-- A control flit. -/
def ctl (c : ControlBody) : Instr := .controlFlit 0 (flit (.control c)) {}

theorem test_wf_control : Instr.wf (ctl { body with replies := [entry], replyCount := 1 }) = true := by decide
theorem test_wf_control_credits : Instr.wf (ctl { body with credits := [] }) = false := by decide
theorem test_wf_control_credit : Instr.wf (ctl { body with credits := [0, 0, 0, 4096] }) = false := by decide
theorem test_wf_control_frame : Instr.wf (ctl { body with frame := 65536 }) = false := by decide
theorem test_wf_control_rx : Instr.wf (ctl { body with rxLanes := 256 }) = false := by decide
theorem test_wf_control_next : Instr.wf (ctl { body with txLanesNext := 256 }) = false := by decide
theorem test_wf_control_switch : Instr.wf (ctl { body with switchFrame := 65536 }) = false := by decide
theorem test_wf_control_replies : Instr.wf (ctl { body with replies := List.replicate 16 entry }) = false := by decide
theorem test_wf_control_count : Instr.wf (ctl { body with replyCount := 256 }) = false := by decide
theorem test_wf_reply_device : Instr.wf (ctl { body with replies := [{ entry with device := 65536 }] }) = false := by decide
theorem test_wf_reply_tag : Instr.wf (ctl { body with replies := [{ entry with tag := 65536 }] }) = false := by decide
theorem test_wf_reply_count : Instr.wf (ctl { body with replies := [{ entry with count := 2 ^ 32 }] }) = false := by decide
theorem test_wf_reply_word : Instr.wf (ctl { body with replies := [{ entry with word := 2 ^ 24 }] }) = false := by decide
theorem test_wf_reply_flags : Instr.wf (ctl { body with replies := [{ entry with flags := 256 }] }) = false := by decide
theorem test_wf_tick_count : Instr.wf (ctl { body with tick := { count := 2 ^ 64 } }) = false := by decide
theorem test_wf_tick_phase : Instr.wf (ctl { body with tick := { phase := 2 ^ 32 } }) = false := by decide
theorem test_wf_tick_len : Instr.wf (ctl { body with tick := { len := 2 ^ 32 } }) = false := by decide
theorem test_wf_tick_flags : Instr.wf (ctl { body with tick := { flags := 256 } }) = false := by decide
theorem test_wf_tick_slip : Instr.wf (ctl { body with tick := { slip := 2 ^ 32 } }) = false := by decide
theorem test_wf_tick_boundary : Instr.wf (ctl { body with tick := { eventBoundary := 2 ^ 32 } }) = false := by decide
theorem test_wf_tick_next : Instr.wf (ctl { body with tick := { lenNext := 2 ^ 32 } }) = false := by decide
theorem test_wf_tick_change : Instr.wf (ctl { body with tick := { lenChangeAt := 2 ^ 64 } }) = false := by decide
theorem test_wf_flit_kind : Instr.wf (.idleFlit 0 { flit .idle with kind := 8 } {}) = false := by decide
theorem test_wf_flit_class : Instr.wf (.idleFlit 0 { flit .idle with cls := 4 } {}) = false := by decide
theorem test_wf_flit_seq : Instr.wf (.idleFlit 0 { flit .idle with seq := 65536 } {}) = false := by decide
theorem test_wf_flit_tick : Instr.wf (.idleFlit 0 { flit .idle with tickKind := 256 } {}) = false := by decide
theorem test_wf_flit_arg : Instr.wf (.idleFlit 0 { flit .idle with tickArg := 2 ^ 32 } {}) = false := by decide
theorem test_wf_flit_ack : Instr.wf (.idleFlit 0 { flit .idle with ack := 65536 } {}) = false := by decide
theorem test_wf_flit_edge : Instr.wf (.idleFlit 0 { flit .idle with edgeBoundary := 65536 } {}) = false := by decide
theorem test_wf_flit_crc : Instr.wf (.idleFlit 0 { flit .idle with crc := 2 ^ 32 } {}) = false := by decide
theorem test_wf_flit_data : Instr.wf (.dataFlit 0 (flit (.data [0])) {}) = false := by decide
theorem test_wf_flit_idle_body : Instr.wf (.idleFlit 0 (flit (.control body)) {}) = false := by decide
theorem test_wf_flit_data_body : Instr.wf (.dataFlit 0 (flit .idle) {}) = false := by decide
theorem test_wf_flit_control_body : Instr.wf (.controlFlit 0 (flit .idle) {}) = false := by decide
theorem test_wf_fec_lanes : Instr.wf (.idleFlit 0 (flit .idle) { changed := [[]] }) = false := by decide
theorem test_wf_fec_twice : Instr.wf (.idleFlit 0 (flit .idle) { changed := [[(3, 1), (3, 2)], [], [], [], [], [], [], []] }) = false := by decide
theorem test_wf_fec_place : Instr.wf (.idleFlit 0 (flit .idle) { changed := [[(544, 1)], [], [], [], [], [], [], []] }) = false := by decide
theorem test_wf_fec_zero : Instr.wf (.idleFlit 0 (flit .idle) { changed := [[(3, 0)], [], [], [], [], [], [], []] }) = false := by decide
theorem test_wf_fec_value : Instr.wf (.idleFlit 0 (flit .idle) { changed := [[(3, 1024)], [], [], [], [], [], [], []] }) = false := by decide
theorem test_wf_fec : Instr.wf (.idleFlit 0 (flit .idle) { changed := [[(543, 1023)], [], [], [], [], [], [], []] }) = true := by decide
theorem test_wf_thermal_readings : Instr.wf (.thermalRound { readings := [], power := List.replicate 16 0, readouts := List.replicate 8 0 }) = false := by
  decide
theorem test_wf_thermal_power :
    Instr.wf (.thermalRound { readings := List.replicate 160 none, power := [], readouts := List.replicate 8 0 }) = false := by
  decide +kernel
theorem test_wf_thermal_stacks :
    Instr.wf (.thermalRound { readings := List.replicate 160 none, power := List.replicate 16 0, readouts := [] }) = false := by
  decide +kernel
theorem test_wf_debug_offset : Instr.wf (.debugPortAccess (.read 4)) = false := by decide
theorem test_wf_debug_range : Instr.wf (.debugPortAccess (.write 0x4000000 0)) = false := by decide


/-! ### States for the witnesses -/

/-- Writes registers. -/
def regs (l : List (Nat × Nat)) (s : State) : State := l.foldl (fun s p => s.wr p.1 (BitVec.ofNat 64 p.2)) s

/-- A machine that has come up: stage 7, READY. -/
def live : State :=
  let s := (State.reset.setFld Reg.SECURITY_BOOT_STATUS Fl.SECURITY_BOOT_STATUS_STAGE 7).setFld Reg.SECURITY_BOOT_STATUS
    Fl.SECURITY_BOOT_STATUS_READY 1
  { s with boot := { s.boot with powered := true }, fw := { s.fw with tambour := .running } }

/-- Core 0 and the first knots belong to tenant 3; its shuttle is RUNNING at address pc, where w stands. -/
def running (pc : Nat) (w : Nat) : State :=
  (regs [(Reg.CORE_OWNER 0, 0x103), (Reg.KNOT_OWNER 0 0, 0x103), (Reg.INSTRUCTION 0 (pc / 2), w * 2 ^ (32 * (pc % 2)))] live
    |>.setFld (Reg.SHUTTLE_STATUS 0) Fl.SHUTTLE_STATUS_STATE 1).setFld (Reg.SHUTTLE_STATUS 0) Fl.SHUTTLE_STATUS_PC pc

/-- The shuttle of `running` stands at an instruction word. -/
def atWord (w : Nat) : State := running 0 w

/-! ### The shuttle -/

theorem test_witness_CounterInstructionsWriteResult : ∀ op ∈ [0x08, 0x09, 0x0A, 0x0B, 0x0C, 0x0D, 0x0E, 0x0F, 0x10, 0x11],
    Fetches (atWord (op * 2 ^ 26)) 0 op (BitVec.ofNat 32 (op * 2 ^ 26)) := by unfold Fetches SoundFetch; decide +kernel

theorem test_witness_read_system_tenant :
    Fetches (atWord 0x44000004) 0 0x11 0x44000004 ∧ insField 0x44000004 0 4 = 4 ∧ (atWord 0x44000004).coreTenant 0 = some 3 := by
  unfold Fetches SoundFetch; decide +kernel

theorem test_witness_reserved_counter : insOpcode 0x2000000E = 0x08 ∧ insField 0x2000000E 0 4 = 14 ∧ (atWord 0x2000000E).coresRun = true
    ∧ (atWord 0x2000000E).shuttleState 0 = 1 ∧ (atWord 0x2000000E).instructionAt 0 0 = 0x2000000E ∧ SoundFetch (atWord 0x2000000E) 0 := by
  unfold SoundFetch; decide +kernel

theorem test_witness_ControlInstructionsMoveProgramCounter : ∀ op ∈ [0x01, 0x03, 0x04, 0x05, 0x06, 0x07],
    Fetches (atWord (op * 2 ^ 26)) 0 op (BitVec.ofNat 32 (op * 2 ^ 26)) := by unfold Fetches SoundFetch; decide +kernel

theorem test_witness_branch_knot : SoundKnot (atWord 0x1C000000) 0 ∧ (atWord 0x1C000000).coreTenant 0 = some 3
    ∧ (atWord 0x1C000000).knotTenant 0 = some 3 := by unfold SoundKnot; decide +kernel

/-- COND codes at the edge of the reserved ones: 5 and 6 of BRANCH_COUNTER, 3 and 4 of BRANCH_KNOT. -/
theorem test_witness_branch_conditions :
    insReserved 0x1400A000 = false ∧ insReserved 0x1400C000 = true ∧ insReserved 0x1C006000 = false ∧ insReserved 0x1C008000 = true := by
  decide

/-- The states of the witnesses of HALT: no DONE_KNOT, one of the core's tenant, one of another. -/
def halting (k : Option Nat) : State := (atWord 0x08000000).setShuttle 0 { doneKnot := k }

theorem test_witness_ShuttleStopsKeepProgramCounter :
    (∀ k ∈ [none, some 5, some 256], Fetches (halting k) 0 0x02 0x08000000 ∧ ((halting k).shuttle 0).doneKnot = k)
    ∧ SoundKnot (halting (some 5)) 5 ∧ (halting (some 5)).knotArmed 5 = false ∧ (halting (some 5)).knotTenant 5 = some 3
    ∧ (halting (some 256)).knotTenant 256 = none := by
  unfold Fetches SoundFetch SoundKnot; decide +kernel

/-- A knot instruction of each opcode names knot 256, which nobody owns. -/
theorem test_witness_knot_of_another_tenant : ∀ p ∈ [(0x07, 0), (0x18, 256 + 2 ^ 17), (0x19, 1), (0x1A, 256), (0x1B, 0)],
    let s := regs [(Reg.COUNTER 0 0, 256)] (atWord (p.1 * 2 ^ 26 + p.2))
    Fetches s 0 p.1 (BitVec.ofNat 32 (p.1 * 2 ^ 26 + p.2)) ∧ s.knotTenant 256 = none := by
  unfold Fetches SoundFetch; decide +kernel

theorem test_witness_reserved_opcode : insReserved 0 = true ∧ SoundFetch (atWord 0) 0 ∧ (atWord 0).coresRun = true
    ∧ (atWord 0).shuttleState 0 = 1 := by unfold SoundFetch; decide +kernel

/-- KNOT_WAIT 1 GE, KNOT_WAIT_INDIRECT, KNOT_OP 2 ARM and KNOT_OP_INDIRECT of knot 0, whose count is 0, with the value 7 in counter 1. -/
theorem test_witness_ShuttleKnotInstructions : ∀ p ∈ [(0x18, 2 ^ 17), (0x19, 1), (0x1A, 2 * 2 ^ 17), (0x1B, 2)],
    let w := p.1 * 2 ^ 26 + 2 ^ 21 + p.2
    let s := regs [(Reg.COUNTER 0 1, 7)] (atWord w)
    Fetches s 0 p.1 (BitVec.ofNat 32 w) ∧ SoundKnot s 0 ∧ s.coreTenant 0 = some 3 ∧ s.knotTenant 0 = some 3 ∧ s.knotArmed 0 = false
      ∧ s.knotFrayed 0 = false ∧ ¬KnotReached (s.knotCount 0) 7 := by
  unfold Fetches SoundFetch SoundKnot KnotReached; decide +kernel

/-- A stalled shuttle whose knot is reached, and one whose knot is frayed. -/
def stalled (count : Nat) (frayed : Bool) : State :=
  ((((atWord 0).setFld (Reg.SHUTTLE_STATUS 0) Fl.SHUTTLE_STATUS_STATE 2).setShuttle 0 { wait := some (0, 1, 7, 0) }).setFld (knotStateReg 0)
    Fl.KNOT_STATE_COUNT count).setFld (knotStateReg 0) Fl.KNOT_STATE_FRAYED frayed.toNat

theorem test_witness_wait_wake :
    (stalled 7 false).coresRun = true ∧ (stalled 7 false).shuttleState 0 = 2 ∧ ((stalled 7 false).shuttle 0).wait = some (0, 1, 7, 0)
    ∧ (stalled 7 false).knotFrayed 0 = false ∧ WaitMet 1 ((stalled 7 false).knotCount 0) 7
    ∧ (stalled 7 true).knotFrayed 0 = true ∧ ((stalled 7 true).shuttle 0).wait = some (0, 1, 7, 0) := by
  unfold WaitMet KnotReached; decide +kernel

/-- GENERATOR with every OP; a counter of 3 is a number of dimensions, one of 7 is none. -/
theorem test_witness_GeneratorInstructions :
    (∀ op < 9, ∀ v ∈ [3, 7],
      Fetches (regs [(Reg.COUNTER 0 1, v)] (atWord (0x80008000 + op * 2 ^ 11))) 0 0x20 (BitVec.ofNat 32 (0x80008000 + op * 2 ^ 11)))
    ∧ GenOk (atWord 0x80008000) 0 0 ∧ Fetches (atWord 0x84000000) 0 0x21 0x84000000 := by
  unfold Fetches SoundFetch GenOk; decide +kernel

theorem test_witness_StagingAndTileInstructions :
    (∀ op ∈ [0x28, 0x29, 0x2A, 0x2B, 0x30, 0x31, 0x32], Fetches (atWord (op * 2 ^ 26)) 0 op (BitVec.ofNat 32 (op * 2 ^ 26)))
    ∧ FieldsInRange (tileFields (atWord 0) 0 0) ∧ ¬FieldsInRange ((tileFields (atWord 0) 0 0).set 3 15) := by
  unfold Fetches SoundFetch FieldsInRange tileFields; decide +kernel

/-- R73: all arithmetic is modulo 2^32. -/
theorem test_add_immediate_wraps :
    (match exec (.addImmediate 0) (regs [(Reg.COUNTER 0 0, 0xFFFFFFFF)] (atWord 0x24000001)) with
      | .next t => t.counter 0 0 | _ => 1) = 0 := by decide +kernel

/-- R74: past address 8,191 the shuttle stops with PC_RANGE. -/
theorem test_pc_range :
    (match exec (.nop 0) (running 8191 0x04000000) with
      | .next t => (t.shuttleState 0, t.fld (Reg.SHUTTLE_STATUS 0) Fl.SHUTTLE_STATUS_STOP_REASON) | _ => (0, 0)) = (3, 12) := by
  decide +kernel

/-! ### Issue, activations, launches, queues and drains -/

/-- An engine command from its fields (bit and value). -/
def cmd (fields : List (Nat × Nat)) : BitVec 128 := BitVec.ofNat 128 ((fields.map fun p => p.2 * 2 ^ p.1).sum)

/-- The shuttle of core 0 stands at an ISSUE of a command to engine e, with a SLOT. -/
def issuing (e slot : Nat) (c : BitVec 128) : State := (atWord (0xB0000000 + e * 2 ^ 24 + slot)).setStaging 0 e c

/-- Queue e of core 0 holds entries. -/
def queued (e : Nat) (q : List QEntry) (s : State) : State := s.setQueue 0 e q

/-- The checks of ISSUE from decidable facts. -/
theorem issueOk_of {s : State} {n : Fin 128} {e : Nat} {slot : Option Nat}
    (h : slot.all (fun j => (s.station n j).opened.isSome) = true ∧ s.issueForm n e (s.staging n e) = true
      ∧ s.issueRange n e (s.staging n e) = true ∧ s.issueAbsent n e (s.staging n e) = false) : IssueOk s n e slot :=
  ⟨fun j hj => by subst hj; simpa using h.1, h.2⟩

/-- A NOP untimed, one with a slot whose activation is open, and one behind 511 others. -/
theorem test_witness_IssueEntersEngineQueue :
    (Fetches (issuing 0 4 (cmd [(0, 1)])) 0 0x2C 0xB0000004 ∧ IssueOk (issuing 0 4 (cmd [(0, 1)])) 0 0 none)
    ∧ (let s := (issuing 3 1 (cmd [(0, 1)])).setStation 0 1 { opened := some 8 }
      Fetches s 0 0x2C 0xB3000001 ∧ IssueOk s 0 3 (slotNamed 0xB3000001) ∧ s.queueState 0 3 = 0 ∧ (s.queue 0 3).length = 0) := by
  refine ⟨⟨?_, issueOk_of (by decide +kernel)⟩, ?_, issueOk_of (by decide +kernel), by decide +kernel⟩ <;> unfold Fetches SoundFetch <;>
    decide +kernel

/-- A full queue, and a stalled ISSUE whose queue has room again. -/
theorem test_witness_issue_full :
    (let s := queued 0 (List.replicate 512 { uid := 0, cmd := 1 }) (issuing 0 4 (cmd [(0, 1)]));
      Fetches s 0 0x2C 0xB0000004 ∧ IssueOk s 0 0 none ∧ s.queueState 0 0 = 0 ∧ (s.queue 0 0).length = 512)
    ∧ (let s := regs [(Reg.SHUTTLE_STATUS 0, 0x22)] (issuing 0 4 (cmd [(0, 1)]))
      s.coresRun = true ∧ s.shuttleState 0 = 2 ∧ s.fld (Reg.SHUTTLE_STATUS 0) Fl.SHUTTLE_STATUS_STALL_CAUSE = 2
        ∧ s.fld (Reg.SHUTTLE_STATUS 0) Fl.SHUTTLE_STATUS_STALL_ENGINE = 0 ∧ s.instructionAt 0 (s.pc 0) = 0xB0000004
        ∧ s.queueState 0 0 = 0 ∧ (s.queue 0 0).length < 512) := by
  refine ⟨⟨?_, issueOk_of (by decide +kernel), by decide +kernel⟩, by decide +kernel⟩
  unfold Fetches SoundFetch; decide +kernel

/-- A closed slot, opcode 0, a wait on a knot of no tenant, an absent engine. -/
theorem test_witness_IssueRefusalsInOrder :
    (Fetches (issuing 0 3 1) 0 0x2C 0xB0000003 ∧ ((issuing 0 3 1).station 0 3).opened = none)
    ∧ (Fetches (issuing 0 4 0) 0 0x2C 0xB0000004 ∧ (issuing 0 4 0).issueForm 0 0 0 = false)
    ∧ (Fetches (issuing 0 4 (cmd [(0, 1), (76, 1), (79, 256)])) 0 0x2C 0xB0000004
      ∧ (issuing 0 4 (cmd [(0, 1), (76, 1), (79, 256)])).issueForm 0 0 (cmd [(0, 1), (76, 1), (79, 256)]) = true
      ∧ (issuing 0 4 (cmd [(0, 1), (76, 1), (79, 256)])).issueRange 0 0 (cmd [(0, 1), (76, 1), (79, 256)]) = false)
    ∧ (let s := regs [(Reg.DEVICE_RETIRE_ENGINES 0, 1)] (issuing 0 4 1)
      Fetches s 0 0x2C 0xB0000004 ∧ s.issueForm 0 0 1 = true ∧ s.issueRange 0 0 1 = true ∧ s.issueAbsent 0 0 1 = true) := by
  unfold Fetches SoundFetch; decide +kernel

/-- An ISSUE to a DISABLED engine. -/
def cancelling (c : BitVec 128) : State := (issuing 0 4 c).setFld (Reg.QUEUE_STATUS 0 0) Fl.QUEUE_STATUS_STATE 2

/-- A DISABLED engine: a NOP without a set field and one that sets knot 0. -/
theorem test_witness_issue_cancelled :
    Fetches (cancelling 1) 0 0x2C 0xB0000004 ∧ (cancelling 1).queueState 0 0 = 2 ∧ IssueOk (cancelling 1) 0 0 none ∧ cmdSetOp 1 = 0 := by
  refine ⟨?_, by decide +kernel, issueOk_of (by decide +kernel), by decide +kernel⟩
  unfold Fetches SoundFetch; decide +kernel

theorem test_witness_issue_cancelled_set :
    cmdSetOp (1 + 2 ^ 56) = 1 ∧ setIsLocal (1 + 2 ^ 56) = true ∧ cmdSetKnot (1 + 2 ^ 56) = 0 ∧ QuietKnot (cancelling (1 + 2 ^ 56)) 0
    ∧ IssueOk (cancelling (1 + 2 ^ 56)) 0 0 none := by
  refine ⟨by decide +kernel, by decide +kernel, by decide +kernel, ?_, issueOk_of (by decide +kernel)⟩
  unfold QuietKnot SoundKnot; decide +kernel

/-- ACT_BEGIN (END 0) and ACT_END of slot 0: enabled and closed, enabled and open, disabled. -/
def acting (last : Nat) (on : Bool) (opened : Option Nat) : State :=
  ((atWord (0xB4000000 + 4 * last)).setFld (Reg.STATION_CONFIG 0 0) Fl.STATION_CONFIG_ENABLE on.toNat).setStation 0 0
    { next := 8, opened := opened }

theorem test_witness_ActivationsOpenAndClose : ∀ x ∈ [(0, true, none), (0, false, none), (0, true, some 8), (1, true, some 8), (1, true, none)],
    let s := acting x.1 x.2.1 x.2.2
    Fetches s 0 0x2D (BitVec.ofNat 32 (0xB4000000 + 4 * x.1)) ∧ s.fld (Reg.STATION_CONFIG 0 0) Fl.STATION_CONFIG_ENABLE = x.2.1.toNat
      ∧ (s.station 0 0).opened = x.2.2 ∧ (s.station 0 0).resume = none ∧ s.tick.hold = none := by
  unfold Fetches SoundFetch; decide +kernel

/-- The launch queue of core 0 with words of descriptor 0, one waiting. -/
def launching (state : Nat) (words : List Nat) : State :=
  ((regs [(Reg.CORE_OWNER 0, 0x103), (Reg.KNOT_OWNER 0 0, 0x103)] live).setFld (Reg.SHUTTLE_STATUS 0) Fl.SHUTTLE_STATUS_STATE state).setLaunch 0
    { words := words.map (BitVec.ofNat 64) ++ List.replicate (128 - words.length) 0, wp := 1 }

theorem test_witness_LaunchQueueStartsAndStops :
    (∀ state ∈ [0, 3], ∀ pc ∈ [0, 8191, 8192], let s := launching state [1 + pc * 2 ^ 16, 0, 0, 0, 0, 0, 0, 2 ^ 31]
      LaunchFront s 0 1 ∧ s.shuttleState 0 = state ∧ s.launchField 0 2 2 = pc ∧ s.launchField 0 56 4 = 2 ^ 31
        ∧ s.coreTenant 0 = some 3 ∧ s.knotTenant 0 = some 3)
    ∧ (∀ state < 4, LaunchFront (launching state [2]) 0 2 ∧ (launching state [2]).shuttleState 0 = state)
    ∧ LaunchFront (launching 0 [0]) 0 0 ∧ LaunchFront (launching 0 [3]) 0 3
    ∧ (launching 1 []).mayWrite .tambour (Reg.SHUTTLE_CONTROL 0) = true := by
  unfold LaunchFront; decide +kernel

/-- Doorbells 16 and 17 ahead, to an ENABLED and to a DISABLED core, and to an absent one. -/
theorem test_witness_launch_doorbell :
    (∀ st ∈ [0, 2], let s := (launching 0 []).setFld (Reg.CORE_UNIT_STATUS 0) Fl.CORE_UNIT_STATUS_STATE st
      s.clocked = true ∧ s.mayDoorbell .tambour (s.coreTenant 0) = true ∧ s.coreAbsent 0 = false ∧ s.coreState 0 = st
        ∧ (16 + 32 - (s.launch 0).rp) % 32 = 16 ∧ (17 + 32 - (s.launch 0).rp) % 32 = 17)
    ∧ (regs [(Reg.DEVICE_RETIRE_CORES 0, 1)] live).coreAbsent 0 = true := by decide +kernel

/-- An entry of a queue. -/
def waitingNop : QEntry := { uid := 0, cmd := 1 }

/-- One that has been started. -/
def startedNop : QEntry := { uid := 0, cmd := 1, started := true, workDone := true, steps := 1 }

theorem test_witness_QueuesCoresAndClustersDrainAndEnable :
    (∀ q ∈ [[], [waitingNop], [startedNop]], ∀ st < 4, let s := (queued 2 q live).setFld (Reg.QUEUE_STATUS 0 2) Fl.QUEUE_STATUS_STATE st
      s.mayWrite .tambour (Reg.QUEUE_CONTROL 0 2) = true ∧ NothingWaits s ∧ s.queueState 0 2 = st ∧ s.coreState 0 = 0 ∧ s.queue 0 2 = q)
    ∧ cmdSetOp waitingNop.cmd = 0
    ∧ (∀ st < 3, let s := (live.setFld (Reg.CORE_UNIT_STATUS 0) Fl.CORE_UNIT_STATUS_STATE st).setFld (Reg.CLUSTER_UNIT_STATUS 1) Fl.CLUSTER_UNIT_STATUS_STATE st
      s.mayWrite .tambour (Reg.CORE_UNIT_CONTROL 0) = true ∧ s.clusterState 0 = 0 ∧ s.coreState 0 = st ∧ QuietCore s 0
        ∧ s.enableHeld 0 = false ∧ s.mayWrite .tambour (Reg.CLUSTER_UNIT_CONTROL 1) = true ∧ s.clusterState 1 = st
        ∧ (∀ i < 16, QuietCore s (16 * 1 + i) ∧ s.coreState (16 * 1 + i) = 0 ∧ s.enableHeld (16 * 1 + i) = false)) := by
  unfold NothingWaits QuietCore; decide +kernel

/-- A tenant in reset keeps its core from being enabled. -/
theorem test_witness_enable_held :
    (let s := (regs [(Reg.CORE_OWNER 0, 0x103)] live).setFld (Reg.CORE_UNIT_STATUS 0) Fl.CORE_UNIT_STATUS_STATE 2
     { s with flrs := [⟨3, [], false, false⟩] }).enableHeld 0 = true := by decide +kernel

/-- An untagged front may start, from decidable facts. -/
theorem mayStart_of {s : State} {n : Fin 128} {e : Nat} {x : QEntry} {op : Nat} (ht : x.tag = none)
    (h : ((s.queue n e).find? (fun y => !y.started) = some x ∧ s.coresRun = true ∧ s.queueState n e = 0
      ∧ ((s.queue n e).filter (·.started)).length < inFlightLimit e)
      ∧ (cmdWaitCond x.cmd = 0 ∨ (s.knotError (cmdWaitKnot x.cmd) = false
        ∧ condHolds (cmdWaitCond x.cmd) (s.knotCount (cmdWaitKnot x.cmd)) (cmdWaitValue x.cmd) = true))
      ∧ cmdOpcode x.cmd = op) : MayStart s n e x op :=
  ⟨h.1.1, h.1.2.1, h.1.2.2.1, h.1.2.2.2, by simp [ht], h.2⟩

/-- A NOP in the matrix queue that may start, without a wait and with one; a done one with a set of knot 0; a front whose knot is frayed. -/
theorem test_witness_EngineQueueStartsAndCompletes :
    NothingWaits (queued 0 [waitingNop] (atWord 0)) ∧ NotDraining (queued 0 [waitingNop] (atWord 0)) 0
    ∧ MayStart (queued 0 [waitingNop] (atWord 0)) 0 0 waitingNop 1
    ∧ MayStart (queued 0 [{ waitingNop with cmd := cmd [(0, 1), (76, 1)] }] (atWord 0)) 0 0
      { waitingNop with cmd := cmd [(0, 1), (76, 1)] } 1 := by
  refine ⟨?_, ?_, mayStart_of rfl (by decide +kernel), mayStart_of rfl (by decide +kernel)⟩
  · unfold NothingWaits; decide +kernel
  · unfold NotDraining; decide +kernel

theorem test_witness_commandComplete :
    (∀ op < 3, let x := { startedNop with cmd := cmd [(0, 1), (56, op)] }
      let s := queued 0 [x] (atWord 0)
      NotDraining s 0 ∧ s.queue 0 0 = [x] ∧ s.coresRun = true ∧ x.outstanding = 0 ∧ x.hostTail = none ∧ PlainSet s x ∧ NoReport 0 x
        ∧ s.net.answers = [])
    ∧ (let x := { waitingNop with cmd := cmd [(0, 1), (56, 1), (76, 1), (79, 1)] }
      let s := queued 0 [x] ((atWord 0).setFld (knotStateReg 1) Fl.KNOT_STATE_FRAYED 1)
      (s.queue 0 0).find? (fun y => !y.started) = some x ∧ s.queueState 0 0 = 0 ∧ (s.queue 0 0).filter (·.started) = []
        ∧ cmdWaitCond x.cmd ≠ 0 ∧ s.knotFrayed (cmdWaitKnot x.cmd) = true ∧ PlainSet s x) := by
  unfold NotDraining PlainSet NoReport QuietKnot SoundKnot; decide +kernel

/-- A front and a shuttle that have waited 1,024 stitches; an engine queue and a core that have drained for 16. -/
theorem test_witness_WaitAndDrainLimitsAbort :
    (let x := { waitingNop with cmd := cmd [(0, 1), (76, 1), (96, 7)], waitSince := some 0 }
      let s := { queued 0 [x] (atWord 0) with stitchClock := (atWord 0).waitLimit 0 }
      NothingWaits s ∧ NotDraining s 0 ∧ s.waitingFront 0 0 = some x ∧ 0 + s.waitLimit 0 ≤ s.stitchClock ∧ cmdSetOp x.cmd = 0
        ∧ (s.queue 0 0).filter (·.started) = [])
    ∧ (let s := { stalled 6 false with stitchClock := (stalled 6 false).waitLimit 0 }
      (s.shuttle 0).wait = some (0, 1, 7, 0) ∧ s.shuttleState 0 = 2 ∧ s.coresRun = true ∧ s.knotError 0 = false
        ∧ condHolds 1 (s.knotCount 0) 7 = false ∧ 0 + s.waitLimit 0 ≤ s.stitchClock)
    ∧ (let s0 := (queued 0 [startedNop] live).setFld (Reg.QUEUE_STATUS 0 0) Fl.QUEUE_STATUS_STATE 1
      let s := { s0 with stitchClock := 16, core := { s0.core with drains := [⟨.queue 0 0, 0, 0, false, none⟩] } }
      s.coreState 0 = 0 ∧ s.queueState 0 0 = 1 ∧ s.queue 0 0 = [startedNop] ∧ s.drainOf (.queue 0 0) = some ⟨.queue 0 0, 0, 0, false, none⟩
        ∧ 0 + min (s.drainLimit 0) (s.drainLimit 0) ≤ s.stitchClock)
    ∧ (let s0 := (((([1, 2, 3].foldl (fun s e => s.setFld (Reg.QUEUE_STATUS 0 e) Fl.QUEUE_STATUS_STATE 2)
        (queued 0 [startedNop] live))).setFld (Reg.QUEUE_STATUS 0 0) Fl.QUEUE_STATUS_STATE 1).setFld (Reg.CORE_UNIT_STATUS 0)
        Fl.CORE_UNIT_STATUS_STATE 1)
      let s := { s0 with stitchClock := 16, core := { s0.core with drains := [⟨.core 0, 0, 0, false, none⟩] } }
      s.coreState 0 = 1 ∧ s.clusterState 0 = 0 ∧ s.queueState 0 0 = 1 ∧ s.queue 0 0 = [startedNop]
        ∧ (∀ f : Fin 4, f ≠ 0 → s.queue 0 f = [] ∧ s.queueState 0 f = 2) ∧ s.drainOf (.core 0) = some ⟨.core 0, 0, 0, false, none⟩
        ∧ 0 + min (s.drainLimit 0) (s.drainLimit 0) ≤ s.stitchClock) := by
  unfold NothingWaits NotDraining; decide +kernel

/-! ### The matrix and vector engines -/

/-- A tile descriptor's LO word: rows − 1, columns − 1, format. -/
def lo (rows cols format : Nat) : Word :=
  Fl.TILE_LO_FORMAT.write (Fl.TILE_LO_COLS.write (Fl.TILE_LO_ROWS.write 0 rows) cols) format

/-- A matrix or vector command with tile registers 0, 1 and 2 in its three tile fields, and what else its fields hold. -/
def work (op : Nat) (started : Bool) (tile : Word) (more : List (Nat × Nat)) : QEntry :=
  { uid := 0, cmd := cmd ([(0, op), (6, 0), (12, 1), (18, 2)] ++ more), started := started,
    tiles := [(0, tile, 64), (1, tile, 64), (2, tile, 64)] }

/-- Core 0 runs with one command in queue e. -/
def withWork (e : Nat) (x : QEntry) : State := queued e [x] (atWord 0)

/-- FP8 tiles of two rows and four columns. -/
def passWork (started : Bool) : QEntry := work 2 started (lo 1 3 3) []

theorem test_witness_MatrixPassSteps :
    MayStart (withWork 0 (passWork false)) 0 0 (passWork false) 2
    ∧ (withWork 0 (passWork false)).fld (Reg.MX_SPILL 0) Fl.MX_SPILL_STITCHES = 0
    ∧ ((withWork 0 (passWork true)).coresRun = true ∧ (withWork 0 (passWork true)).queue 0 0 = [passWork true]
      ∧ cmdOpcode (passWork true).cmd = 2 ∧ (withWork 0 (passWork true)).startable 0 0 (isOp 2) = none)
    ∧ (∃ ta tb, stepTile ((passWork true).tile (cmdField (passWork true).cmd 6 6)) 0 (portAddress (passWork true).s0) = .ok ta
      ∧ stepTile ((passWork true).tile (cmdField (passWork true).cmd 12 6)) 1 (portAddress (passWork true).s1) = .ok tb
      ∧ ta.rows = 2 ∧ tb.rows = 2 ∧ CleanSpans (withWork 0 (passWork true)) (ta.spans 0 ++ tb.spans 0)) := by
  refine ⟨mayStart_of rfl (by decide +kernel), by decide +kernel, by decide +kernel, ⟨0, 2, 4, 3, 64, 0⟩, ⟨0, 2, 4, 3, 64, 0⟩, rfl, rfl, rfl, rfl, ?_⟩
  unfold CleanSpans; decide +kernel

/-- A spill tile: FP32, 32 rows of 16. -/
def spillWork (op : Nat) (due : Bool) : QEntry := { work op true (lo 31 15 0) [] with spillDue := due, spillPeriod := due.toNat }

/-- SAVE, LOAD and a due SPILL. -/
theorem test_witness_AccumulatorsMoveAndDrain :
    (∀ op ∈ [4, 5], let x := if op = 4 then work 4 true (lo 31 15 0) [] else work 5 true (lo 31 15 0) []
      let s := withWork 0 x
      s.coresRun = true ∧ s.queue 0 0 = [x] ∧ x.started = true ∧ x.workDone = false ∧ x.spillDue = false ∧ cmdOpcode x.cmd = op
        ∧ s.startable 0 0 (isOp op) = none ∧ (x.tile 2).isSpill = true ∧ (x.tile 0).isSpill = true ∧ 64 ≤ (x.tile 2).stride
        ∧ (x.tile 0).inHoop = true)
    ∧ CleanSpans (withWork 0 (work 5 true (lo 31 15 0) [])) (((work 5 true (lo 31 15 0) []).tile 0).spans 0)
    ∧ (let x := spillWork 2 true
      (withWork 0 x).queue 0 0 = [x] ∧ x.failed = none ∧ x.spillDue = true ∧ (x.tile (cmdField x.cmd 18 6)).isSpill = true
        ∧ 64 ≤ (x.tile (cmdField x.cmd 18 6)).stride) := by
  unfold CleanSpans; decide +kernel

/-- A drain of a 32 × 16 FP32 tile without side columns, with KEEP and without. -/
def drainWork (keep : Nat) : QEntry :=
  { uid := 0, cmd := cmd [(0, 3), (6, 0), (21, keep)], started := true, tiles := [(0, lo 31 15 0, 64)] }

theorem test_witness_matrixDrain : ∀ keep < 2, let x := drainWork keep
    let s := withWork 0 x
    s.coresRun = true ∧ s.queue 0 0 = [x] ∧ cmdOpcode x.cmd = 3 ∧ s.startable 0 0 (isOp 3) = none ∧ cmdField x.cmd 18 3 = 0
      ∧ cmdField x.cmd 21 1 = keep ∧ (x.tile 0).format ≤ 4 ∧ (x.tile 0).rows = 32 ∧ (x.tile 0).cols = 16
      ∧ (x.tile 0).rowBytes ≤ (x.tile 0).stride := by decide +kernel

/-- A chain and an element program on FP32 tiles, with OUTPUT set in the head and without. -/
def vectorWork (op output : Nat) : State :=
  regs [(slotHead 0 (op == 3) 0, output * 2 ^ 17 + 2 ^ 24)] (withWork 1 (work op true (lo 0 1 0) []))

theorem test_witness_VectorBlocksComputeElements : ∀ op ∈ [2, 3], ∀ output < 2,
    let x := work op true (lo 0 1 0) []
    let s := vectorWork op output
    s.running 0 1 (fun _ => true) = some x ∧ cmdOpcode x.cmd = op ∧ s.startable 0 1 (isOp op) = none
      ∧ s.fld (slotHead 0 (op == 3) (slotIndex x)) ⟨17, 1⟩ = output
      ∧ (∀ off ∈ s.slotRegs 0 (op == 3) (slotIndex x), s.arrayErrors off = []) ∧ s.mem.upsets = [] := by decide +kernel

/-- The tile of those commands. -/
def pair : Tile := ⟨0, 1, 2, 0, 64, 0⟩

theorem test_witness_vector_tiles : ∀ op ∈ [2, 3], let x := work op true (lo 0 1 0) []
    let s := vectorWork op 1
    let head := slotHead 0 (op == 3) (slotIndex x)
    x.tile (cmdField x.cmd 6 6) = pair ∧ x.tile (cmdField x.cmd 18 6) = pair ∧ portAddress x.s0 = none ∧ pair.inHoop = true
      ∧ min (s.vlenOf 0).1 pair.rows = 1 ∧ min (s.vlenOf 0).2 pair.cols = 2 ∧ formatVx pair.format = true ∧ pair.rowBytes ≤ pair.stride
      ∧ CleanSpans s (blockReads 0 pair (x.tile (cmdField x.cmd 12 6)) (s.slotReadsB 0 (op == 3) (slotIndex x)) (s.fld head ⟨11, 2⟩)
          (s.fld head ⟨13, 4⟩) 1 2) := by
  unfold CleanSpans; decide +kernel

theorem test_witness_vector_starts :
    MayStart (withWork 1 (work 2 false (lo 0 1 0) [])) 0 1 (work 2 false (lo 0 1 0) []) 2
    ∧ MayStart (withWork 1 (work 3 false (lo 0 1 0) [])) 0 1 (work 3 false (lo 0 1 0) []) 3
    ∧ MayStart (withWork 1 (work 4 false (lo 0 1 0) [])) 0 1 (work 4 false (lo 0 1 0) []) 4
    ∧ (∀ y ∈ (withWork 1 (work 4 false (lo 0 1 0) [])).queue 0 1, y.started = false) :=
  ⟨mayStart_of rfl (by decide +kernel), mayStart_of rfl (by decide +kernel), mayStart_of rfl (by decide +kernel), by decide +kernel⟩

/-- HEAD writes of a chain and of a program with VALID 0 and 1; an ill-formed chain; a busy queue. -/
theorem test_witness_VectorSlotsValidate :
    (∀ program : Bool, live.mayWrite .tambour (slotHead 0 program 15) = true) ∧ live.queue 0 1 = []
    ∧ live.mayWrite .tambour (slotWordReg 0 false false 0 0) = true
    ∧ Fld.read ⟨24, 1⟩ 0 = 0 ∧ Fld.read ⟨24, 1⟩ 0x1000000 = 1
    ∧ Fl.VX_CHAIN_HEAD_STAGES.read 0x1000000 = 0 ∧ (8 : Nat) < Fl.VX_CHAIN_HEAD_STAGES.read 0x100000F
    ∧ (withWork 1 waitingNop).queue 0 1 ≠ [] ∧ (withWork 1 waitingNop).queueState 0 1 ≠ 2 := by decide +kernel

/-! ### Movers and knots -/

/-- A stream at an address. -/
def stream (a : Nat) : Option GenState := some { base := a, dims := 1, counts := [1, 1, 1, 1, 1, 1], strides := [0, 0, 0, 0, 0, 0], idx := [0, 0, 0, 0, 0, 0] }

/-- A mover command on an INT32 tile of one row of two, its memory side at address a, its second port, a copy's target, at b. -/
def moveWork (op : Nat) (started : Bool) (a : Nat) (b : Option GenState) : QEntry :=
  { uid := 0, cmd := cmd [(0, op), (22, 0)], started := started, tiles := [(0, lo 0 1 0xB, 64)], s0 := stream a, s1 := b }

/-- Core 0's first mover queue holds it, and near memory's first region belongs to tenant 3. -/
def moving (x : QEntry) : State := regs [(Reg.TIER_REGION_NEAR 0, 0x103)] (withWork 2 x)

/-- The tile of those commands. -/
def two : Tile := ⟨0, 1, 2, 0xB, 64, 0⟩

/-- A move of each opcode between the hoop and near memory: at its work, its parts accessible. -/
theorem test_witness_MoversCopyBytes : ∀ op ∈ [2, 3, 4], let x := moveWork op true nearBase (if op = 4 then stream (nearBase + 64) else none)
    let s := moving x
    (s.running 0 2 (isOp op) = some x ∧ s.startable 0 2 (isOp op) = none ∧ cmdField x.cmd 18 2 = 0 ∧ cmdField x.cmd 25 1 = 0
      ∧ s.moverLocal x = true ∧ s.mem.upsets = [])
    ∧ moverTile x = two ∧ two.inHoop = true ∧ memAddress x = nearBase ∧ inHost nearBase = false
    ∧ s.tenantMay (s.coreTenant 0) nearBase two.dense true = true ∧ s.tenantMay (s.coreTenant 0) nearBase two.dense false = true
    ∧ s.tenantMay (s.coreTenant 0) (nearBase + 64) two.dense true = true
    ∧ CleanSpans s [(nearBase, two.dense)] ∧ CleanSpans s (two.spans 0) := by
  unfold CleanSpans memAddress; decide +kernel

theorem test_witness_moves_apart : MoverAtWork (moving (moveWork 2 true nearBase none)) 0 2 (moveWork 2 true nearBase none) 2
    ∧ SpansApart (two.spans 0) := by
  unfold MoverAtWork SoundFar SpansApart; decide +kernel

/-- Near memory that belongs to nobody. -/
theorem test_witness_move_refused : ∀ op ∈ [2, 3, 4], let x := moveWork op true nearBase (if op = 4 then stream nearBase else none)
    let s := withWork 2 x
    s.running 0 2 (isOp op) = some x ∧ s.startable 0 2 (isOp op) = none ∧ s.mem.upsets = []
      ∧ s.tenantMay (s.coreTenant 0) nearBase two.dense true = false ∧ s.tenantMay (s.coreTenant 0) nearBase two.dense false = false := by
  decide +kernel

theorem test_witness_move_starts :
    MayStart (moving (moveWork 2 false nearBase none)) 0 2 (moveWork 2 false nearBase none) 2
    ∧ MayStart (moving (moveWork 5 false nearBase none)) 0 2 (moveWork 5 false nearBase none) 5 :=
  ⟨mayStart_of rfl (by decide +kernel), mayStart_of rfl (by decide +kernel)⟩

/-- Adds of op and a tile format: INT32, then the exact sum. -/
def reduceWork (op fmt : Nat) : QEntry :=
  { moveWork 5 true nearBase none with cmd := cmd [(0, 5), (22, op)], tiles := [(0, lo 0 0 fmt, 64)] }

theorem test_witness_MoveReduceAddsIntoCells : ∀ p ∈ [(0, 0xB, 4), (3, 0xC, 16)], let x := reduceWork p.1 p.2.1
    let s := moving x
    MoverAtWork s 0 2 x 5 ∧ cmdField x.cmd 22 3 = p.1 ∧ (moverTile x).format = p.2.1 ∧ (moverTile x).inHoop = true
      ∧ reduceFormatOk p.1 p.2.1 = true ∧ cellBytes p.1 p.2.1 = p.2.2 ∧ CleanSpans s ((moverTile x).spans 0)
      ∧ (spanBytes s ((moverTile x).spans 0)).length = p.2.2 ∧ CleanSpans s [(nearBase, p.2.2)]
      ∧ s.addTargetOk (s.coreTenant 0) p.1 p.2.1 nearBase p.2.2 = true ∧ s.cellsOk p.1 p.2.2 1 nearBase = true
      ∧ s.frozenCells p.2.2 1 nearBase = [] := by
  unfold MoverAtWork SoundFar CleanSpans spanBytes; decide +kernel

/-- A mover queue that is empty, one that holds a command, and one that is DISABLED; a shuttle that stands and one that runs. -/
theorem test_witness_CheckAndIndexWrites :
    live.mayWrite .tambour (Reg.MV_CHECK_RUNNING 0 0) = true ∧ live.mayWrite .tambour (Reg.MV_CHECK_CONTROL 0 0) = true ∧ live.queue 0 2 = []
    ∧ (withWork 2 waitingNop).queue 0 2 ≠ [] ∧ (withWork 2 waitingNop).queueState 0 2 ≠ 2
    ∧ ((withWork 2 waitingNop).setFld (Reg.QUEUE_STATUS 0 2) Fl.QUEUE_STATUS_STATE 2).queueState 0 2 = 2
    ∧ live.mayWrite .tambour (Reg.GEN_INDEX 0 7) = true ∧ live.mayWrite .tambour (Reg.GEN_INDEX_HI 0 7) = true ∧ live.shuttleState 0 = 0
    ∧ (atWord 0).shuttleState 0 = 1 := by decide +kernel

/-- A knot, armed with threshold 7 and return knot 1, in a range that tenant 3 owns and that takes remote operations. -/
def armed : State :=
  regs [(Reg.KNOT_OWNER 0 0, 0x103 + 2 ^ Fl.KNOT_OWNER_REMOTE_OK.lo),
    (knotArmReg 0, (Fl.KNOT_ARM_RETURN_KNOT.write (Fl.KNOT_ARM_TARGET.write (Fl.KNOT_ARM_THRESHOLD.write 0 7) 1) 1).toNat),
    (knotStateReg 0, (Fl.KNOT_STATE_ARMED.write 0 1).toNat)] live

theorem test_witness_KnotRegisterWrites :
    armed.mayWrite .tambour (knotStateReg 0) = true ∧ armed.mayWrite .tambour (knotArmReg 0) = true ∧ SoundKnot armed 0
    ∧ armed.knotArmed 0 = true ∧ armed.knotFrayed 0 = false ∧ armed.fld (knotArmReg 0) Fl.KNOT_ARM_THRESHOLD = 7
    ∧ ¬KnotReached 6 7 ∧ KnotReached 7 7
    ∧ armed.fld (knotArmReg 0) Fl.KNOT_ARM_TARGET = 1 ∧ armed.fld (knotArmReg 0) Fl.KNOT_ARM_RETURN_KNOT = 1
    ∧ armed.knotTenant 0 ≠ none ∧ QuietKnot armed 1 ∧ armed.knotFrayed 1 = false ∧ armed.mayWrite .tambour (knotArmReg 131071) = true
    ∧ Fl.KNOT_ARM_TARGET.read (Fl.KNOT_ARM_TARGET.write 0 2) = 2 ∧ Fl.KNOT_ARM_THRESHOLD.read (Fl.KNOT_ARM_THRESHOLD.write 0 7) = 7 := by
  unfold SoundKnot QuietKnot SoundKnot KnotReached; decide +kernel

/-- A KNOT_OP that has arrived on port 2, of tenant 3, for a knot. -/
def knotTxn (op knot tenant : Nat) : Txn := { dest := 1, src := 2, typ := 5, tenant := tenant, address := knot + op * 2 ^ 17, arg := 7 }

/-- The state with it. -/
def knotArrived (op tenant : Nat) (dup : Bool) : State :=
  { armed with net := { armed.net with arrived := [⟨some 2, knotTxn op 0 tenant, dup⟩] } }

/-- A remote operation that is no ARM for a return knot is accepted where its range's tenant takes it. -/
theorem remoteOk_of {s : State} {op : Nat} {t : Txn} (h : s.knotTenant (t.address % 2 ^ 17) = some t.tenant
    ∧ s.knotRemoteOk (t.address % 2 ^ 17) = true ∧ bitsOf t.address 49 2 = 0) : RemoteOk s op t :=
  ⟨h.1, h.2.1, fun _ => ⟨by omega, by omega⟩⟩

theorem test_witness_RemoteKnotOperations : (∀ op < 5, ∀ tenant ∈ [3, 4], ∀ dup ∈ [false, true],
      NextArrival (knotArrived op tenant dup) (isKnotOp op) ⟨some 2, knotTxn op 0 tenant, dup⟩ [])
    ∧ RemoteOk (knotArrived 0 3 true) 0 (knotTxn 0 0 3) ∧ RemoteOk (knotArrived 4 3 false) 4 (knotTxn 4 0 3)
    ∧ ¬RemoteOk (knotArrived 1 4 false) 1 (knotTxn 1 0 4) := by
  refine ⟨?_, remoteOk_of (by decide +kernel), remoteOk_of (by decide +kernel), fun h => absurd h.1 (by decide +kernel)⟩
  unfold NextArrival; decide +kernel

/-- An update of each kind in the queue to its bank. -/
def updating (op : RemoteOp) : State := { live with remoteQ := [⟨5, op, (2, 1, 0)⟩] }

/-- A notification of tenant 3 that waits; function 3, bound to it, has its completion ring on. -/
def notifying : State :=
  { (regs [(Reg.FUNCTION_BINDING 16, 0x103 + 2 ^ Fl.FUNCTION_BINDING_PRIVILEGED.lo)] live).setFld (Reg.FUNCTION_COMPLETION_RING 16) Fl.FUNCTION_COMPLETION_RING_EN 1
    with notifies := [⟨5, 3, 7, false, true, 0, 0⟩] }

/-- Two NOPs in the queues of core 0 that wait for each other's knots. -/
def tangled : State :=
  queued 0 [{ waitingNop with cmd := cmd [(0, 1), (56, 1), (59, 1), (76, 1), (79, 0), (96, 1)] }]
    (queued 1 [{ waitingNop with cmd := cmd [(0, 1), (56, 1), (59, 0), (76, 1), (79, 1), (96, 1)] }] (atWord 0))

theorem test_witness_KnotUpdatesAndNotifications :
    (∀ op ∈ [RemoteOp.set 7, .add 7, .fray, .arm 7 3 1 2], (updating op).remoteQ = [⟨5, op, (2, 1, 0)⟩] ∧ QuietKnot (updating op) 5
      ∧ (updating op).knotFrayed 5 = false ∧ ¬KnotReached ((updating op).knotCount 5) 7)
    ∧ (notifying.completionFn 3 = some 16 ∧ notifying.completionFull 16 = false)
    ∧ (tangled.tangleOf 3 ≠ [] ∧ tangled.tick.hold = none) := by
  unfold QuietKnot SoundKnot KnotReached; decide +kernel

theorem test_witness_tangle_of_one_tenant :
    (∀ v < 32, v ≠ 3 → tangled.tangleOf v = []) ∧ (∀ v < 32, tangled.actingCluster ((tangled.tangleSeen v).1.map (·.1)) = none) := by
  decide +kernel

/-! ### The tick -/

/-- No command waits where no queue holds one. -/
theorem noNewWaits_of {s : State} (h : s.core.queues = [] ∧ s.tier.queues = []) : NoNewWaits s := ⟨by simp [h.1], by simp [h.2]⟩

/-- The device in a role, with port 2 linked and port 5 towards the master, at a stitch. -/
def ticking (role stitch : Nat) : State :=
  let s := regs [(Reg.TICK_CONTROL, (Fl.TICK_CONTROL_UPSTREAM_PORT.write (Fl.TICK_CONTROL_ROLE.write 0 role) 5).toNat),
    (Reg.TICK_STITCH_COUNT, stitch)] live
  { s with tick := { s.tick with role := role } }

/-- Slot 0 of core 0 with an activation in progress that ends at boundary 8 and whose front is not finished. -/
def lateTick (role : Nat) : State :=
  queued 0 [{ waitingNop with tag := some (0, 7) }]
    ((ticking role 7).setStation 0 0 { next := 9, opened := some 8, activated := true, active := [(7, 8)], lastOpen := some 8 })

/-- Roles 0 to 3 but the follower's, without a late slot and with one. -/
theorem test_witness_BoundariesFireOrHold :
    (∀ role ∈ [0, 1, 3], SteadyTick (ticking role 7) ∧ (ticking role 7).lateSlots 8 = [])
    ∧ ((lateTick 0).lateSlots 8 = [(0, 0)] ∧ (lateTick 0).faultPolicy 0 = false ∧ (lateTick 0).waitsClearance = false
      ∧ (lateTick 0).tick.hold = none ∧ ∀ x ∈ (lateTick 0).core.stations, x.2.change = none ∧ x.2.old = [])
    ∧ (let s := ticking 3 7; { s with tick := { s.tick with inLost := true } }).tick.inLost = true
    ∧ (ticking 3 65535).stitch + 1 = 65536 ∧ (ticking 3 7).tick.withhold = 0 := by
  refine ⟨?_, by decide +kernel, by decide +kernel, by decide +kernel⟩
  intro role hr
  refine ⟨⟨?_, ?_, ?_, ?_, ?_, ?_, ?_, ?_, ?_, noNewWaits_of ?_, ?_⟩, ?_⟩ <;> revert role <;> decide +kernel

/-- An EXTERNAL device that withholds an edge, and one that holds for a late slot. -/
def holding (byEdge : Bool) : State :=
  let s := ticking 3 7
  { s with tick := { s.tick with withhold := byEdge.toNat, hold := some { boundary := 8, since := 0, clock := 0, byEdge := byEdge } } }

/-- A device alone whose slot 0 of core 0 is still late at boundary 8 after 64 stitches. -/
def limited : State :=
  let s := (ticking 0 7).setStation 0 0 { next := 7, opened := some 7, activated := true, active := [(7, 8)] }
  { s with stitchClock := 64, tick := { s.tick with hold := some { boundary := 8, since := 0, clock := 0, late := [(0, 0)] } } }

theorem test_witness_WithheldEdgesSlipLimitAndHoldover :
    (∀ e ∈ [true, false], (holding e).tick.role = 3 ∧ (holding e).clocked = true ∧ (holding e).waitsClearance = false
      ∧ (holding e).tick.withhold = e.toNat ∧ (holding e).core.queues = [] ∧ (holding e).tier.queues = [])
    ∧ (limited.tick.role = 0 ∧ limited.tick.below = [] ∧ limited.lateAt 0 0 8 = true ∧ limited.faultCores 0 = [0]
      ∧ limited.core.retiring = [] ∧ limited.clusterState 0 = 0 ∧ limited.coreState 0 = 0 ∧ QuietCore limited 0
      ∧ (∀ x ∈ limited.core.stations, x.2.change = none ∧ x.2.old = []) ∧ limited.core.queues = [] ∧ limited.tier.queues = []
      ∧ 0 + max 1 (limited.fld Reg.TICK_SLIP_LIMIT Fl.TICK_SLIP_LIMIT_STITCHES) ≤ limited.stitchClock)
    ∧ (ticking 2 7).follows = true ∧ (ticking 2 7).tick.due = none ∧ (ticking 0 7).follows = false := by
  unfold QuietCore; decide +kernel

/-- A master and a follower with a device below on port 2 that holds boundary 8, and another on port 3. -/
def below (role : Nat) (ports : List Nat) : State :=
  let s := ticking role 7
  { s with tick := { s.tick with below := ports.map (·, 8) } }

theorem test_witness_TickTreeForwardsEdges :
    (∀ role ∈ [1, 2, 3], ∀ ports ∈ [[], [2], [2, 3]], NamedBoundary (below role ports) 8 8 ∧ (below role ports).staleHold 8 = false
      ∧ (below role ports).tick.hold = none ∧ (below role ports).tick.below = ports.map (·, 8) ∧ (below role ports).tick.heard = []
      ∧ (below role ports).tick.due = none ∧ (below role ports).tick.domain ≠ some 8 ∧ upPort (below role ports) = 5)
    ∧ (below 2 []).follows = true ∧ (below 1 []).isMaster = true
    ∧ NamedBoundary (below 1 []) 6 6 ∧ (below 1 []).staleHold 6 = true
    ∧ NamedBoundary (ticking 1 65535) 0 65536 ∧ NamedBoundary (ticking 1 65536) 0xFFFF 65535 := by
  unfold NamedBoundary upPort; decide +kernel

/-- A length change whose conditions hold, and the same one boundary too early. -/
theorem test_witness_TickWritesSchedule :
    (let s := regs [(Reg.TICK_LEN_NEXT, 256)] (ticking 0 7);
      s.mayWrite .tambour Reg.TICK_LEN_CHANGE_AT = true ∧ s.tick.role ≠ 2 ∧ s.fld Reg.TICK_STATUS Fl.TICK_STATUS_LEN_PENDING ≠ 1
        ∧ s.fld Reg.TICK_LEN_NEXT Fl.TICK_LEN_NEXT_LEN = 256 ∧ 2 * s.fld Reg.TICK_DOMAIN_REACH Fl.TICK_DOMAIN_REACH_CYCLES ≤ 256
        ∧ s.stitch + 3 = 10)
    ∧ (let s := (ticking 0 7).setStation 0 0 {}
      let w := (Fl.STATION_CONFIG_PHASE.write (Fl.STATION_CONFIG_CADENCE.write (Fl.STATION_CONFIG_ENABLE.write 0 1) 3) 3)
      s.mayWrite .tambour (Reg.TICK_TENANT_START_STITCH 3) = true ∧ s.mayWrite .tambour (Reg.STATION_CONFIG 0 0) = true
        ∧ s.slotOn 0 0 = false ∧ (regs [(Reg.STATION_CONFIG 0 0, w.toNat)] s).slotOn 0 0 = true
        ∧ Fl.STATION_CONFIG_ENABLE.read w = 1 ∧ Fl.STATION_CONFIG_PHASE.read w < Fl.STATION_CONFIG_CADENCE.read w + 1
        ∧ Fl.STATION_CONFIG_PHASE.read (Fl.STATION_CONFIG_PHASE.write w 4) = 4) := by decide +kernel

/-! ### The tier engine -/

/-- CONTROL of an object of two swatches of 16 × 16 FP32, its home in far memory, its up copy in near memory. -/
def objectWord (valid : Nat) : Word := BitVec.ofNat 64 (valid + 2 + 4 + 2 ^ 8 + 15 * 2 ^ 36 + 15 * 2 ^ 44)

/-- Tenant 3 owns function 0, tier queue 0, object segment 0, the first far and near regions; far stack 0 is up; object 0 has its bases,
a quota of 2 swatches in each tier and a borrow limit of 2. -/
def tiered (more : List (Nat × Nat)) : State :=
  (regs ([(Reg.FUNCTION_BINDING 0, 0x103 + 2 ^ Fl.FUNCTION_BINDING_PRIVILEGED.lo), (Reg.TIER_QUEUE_OWNER 0, 0x103), (Reg.TIER_OBJECT_OWNER 0, 0x103),
    (Reg.TIER_REGION_FAR 0, 0x103), (Reg.TIER_REGION_NEAR 0, 0x103), (Reg.FAR_STATUS 0, 0), (Reg.TIER_OBJECT_HOME_BASE 0, 0),
    (Reg.TIER_OBJECT_UP_BASE 0, nearBase), (Reg.TIER_TENANT_QUOTA 3 0, 2), (Reg.TIER_TENANT_QUOTA 3 1, 2), (Reg.TIER_TENANT_BORROW_LIMIT 3 0, 2),
    (Reg.KNOT_OWNER 0 0, 0x103), (Reg.TIER_QUEUE_STATUS 0, 0)] ++ more) live).setCfg 0 { memSpace := true }

/-- Object 0 is VALID in a state, with pins. -/
def objectIn (state pins : Nat) : List (Nat × Nat) :=
  [(Reg.TIER_OBJECT_CONTROL 0, (objectWord 1).toNat), (Reg.TIER_OBJECT_STATUS 0, state + pins * 2 ^ 32)]

/-- A schedule-list entry of an operation on object 0 that adds 1 to knot 5 when it is done. -/
def entryOf (op : Nat) : TierEntry := { index := 0, bytes := [BitVec.ofNat 8 op] ++ List.replicate 15 0 ++ [5, 0, 0, 0x80] ++ List.replicate 12 0 }

/-- Tier queue 0 holds it, fetched. -/
def staged (x : TierEntry) (s : State) : State := (regs [(Reg.TIER_QUEUE_DOORBELL 0, 1)] s).setTierQ 0 { staged := [x], fetch := 1 }

/-- An entry of tenant 3 for its own object at rest in a state. -/
def ownEntry (op state : Nat) : State := staged (entryOf op) (tiered (objectIn state 0))

/-- The object belongs to tenant 4 and is shared with tenant 3; the entry is tenant 3's. -/
def sharedEntry (op state pins : Nat) : State :=
  staged (entryOf op) (tiered (objectIn state pins ++ [(Reg.TIER_OBJECT_OWNER 0, 0x104), (Reg.TIER_OBJECT_SHARE 0, 2 ^ 3)]))

/-- The facts of EntryReady for a trigger-free entry. -/
theorem entryReady_of {s : State} {q : Fin 32} {x : TierEntry} {op : Nat} (hd : x.done = some 5) (ht : x.trigger = 0)
    (h : ((s.tierQ q).staged = [x] ∧ (s.tierQ q).fetch = s.tierWp q ∧ (∀ p ∈ s.tier.queues, p.2.flight = []) ∧ s.tierFront q = some x
      ∧ x.op = op ∧ s.triggerHolds (s.tierQueueTenant q) x = true ∧ s.entryInvalid q x = false) ∧ QuietKnot s 5 ∧ s.tier.moves = []) :
    EntryReady s q x op :=
  ⟨h.1.1, h.1.2.1, h.1.2.2.1, h.1.2.2.2.1, h.1.2.2.2.2.1, h.1.2.2.2.2.2.1, h.1.2.2.2.2.2.2, fun h2 => absurd (ht ▸ h2) (by decide),
    fun k hk => by rw [hd] at hk; cases hk; exact h.2.1, by simp [h.2.2]⟩

/-- NOP, PROMOTE, EVICT at HOME and RESIDENT, PLACE, DISCARD and PIN by the owner. -/
theorem test_witness_TierEntriesActOnObjects : EntryReady (ownEntry 1 0) 0 (entryOf 1) 1 ∧ EntryReady (ownEntry 2 0) 0 (entryOf 2) 2
    ∧ EntryReady (ownEntry 3 0) 0 (entryOf 3) 3 ∧ EntryReady (ownEntry 3 2) 0 (entryOf 3) 3 ∧ EntryReady (ownEntry 4 0) 0 (entryOf 4) 4
    ∧ EntryReady (ownEntry 5 2) 0 (entryOf 5) 5 ∧ EntryReady (ownEntry 6 0) 0 (entryOf 6) 6 := by
  refine ⟨?_, ?_, ?_, ?_, ?_, ?_, ?_⟩ <;> refine entryReady_of (by decide +kernel) (by decide +kernel) ?_ <;> unfold QuietKnot SoundKnot <;>
    decide +kernel

theorem test_witness_tier_objects : (ownEntry 2 0).tierQueueTenant 0 = some 3 ∧ ∀ p ∈ [(2, 0), (3, 0), (3, 2), (4, 0), (5, 2), (6, 0)],
    let s := ownEntry p.1 p.2
    CalmObject s 0 ∧ s.byOwner 0 (entryOf p.1) = true ∧ s.residency 0 = p.2 ∧ s.pins 0 = 0 ∧ s.writable 0 = true ∧ s.upTier 0 = 0
      ∧ charged s 3 0 + s.swatches 0 = s.fld (Reg.TIER_TENANT_QUOTA 3 0) Fl.TIER_TENANT_QUOTA_SWATCHES
      ∧ s.flag (Reg.TIER_OBJECT_SHARE 0) Fl.TIER_OBJECT_SHARE_RELEASE_EN = false := by
  unfold CalmObject charged; decide +kernel

/-- A PIN and an UNPIN of another tenant's object; a PROMOTE one swatch over its quota. -/
theorem test_witness_tier_pins : EntryReady (sharedEntry 6 2 0) 0 (entryOf 6) 6 ∧ EntryReady (sharedEntry 7 2 8) 0 (entryOf 7) 7
    ∧ CalmObject (sharedEntry 6 2 0) 0 ∧ CalmObject (sharedEntry 7 2 8) 0 ∧ (sharedEntry 6 2 0).byOwner 0 (entryOf 6) = false
    ∧ (sharedEntry 6 2 0).residency 0 = 2 ∧ (sharedEntry 6 2 0).pinned 0 3 = false ∧ (sharedEntry 7 2 8).pinned 0 3 = true
    ∧ borrowed (sharedEntry 6 2 0) 3 0 + 2 = (sharedEntry 6 2 0).fld (Reg.TIER_TENANT_BORROW_LIMIT 3 0) Fl.TIER_TENANT_BORROW_LIMIT_SWATCHES := by
  refine ⟨entryReady_of (by decide +kernel) (by decide +kernel) ?_, entryReady_of (by decide +kernel) (by decide +kernel) ?_, ?_⟩ <;>
    (try unfold QuietKnot SoundKnot) <;> (try unfold CalmObject borrowed) <;> decide +kernel

theorem test_witness_promote_over_quota :
    let s := staged { entryOf 2 with bytes := [2] ++ List.replicate 31 0 } (tiered (objectIn 0 0 ++ [(Reg.TIER_TENANT_CHARGED 3 0, 1)]))
    s.fld (Reg.TIER_TENANT_QUOTA 3 0) Fl.TIER_TENANT_QUOTA_SWATCHES < charged s 3 0 + s.swatches 0
      ∧ ({ entryOf 2 with bytes := [2] ++ List.replicate 31 0 } : TierEntry).done = none
      ∧ s.tierFront 0 = some { entryOf 2 with bytes := [2] ++ List.replicate 31 0 } := by
  unfold charged; decide +kernel

/-- Tier queue 0 in a state, with no entry, an entry fetched or an entry in flight. -/
def tierQ (state : Nat) (x : TierQueue) : State :=
  ((tiered [(Reg.TIER_QUEUE_DOORBELL 0, x.fetch), (Reg.TIER_QUEUE_LIST_BASE 0, nearBase)]).setTierQ 0 x).setFld (Reg.TIER_QUEUE_STATUS 0) Fl.TIER_QUEUE_STATUS_STATE state

/-- A NOP entry without a knot, and one that waits for knot 0 to reach 7. -/
def bare : TierEntry := { index := 0, bytes := [1] ++ List.replicate 31 0 }
def watching : TierEntry := { index := 0, bytes := [1, 2] ++ List.replicate 10 0 ++ [7] ++ List.replicate 19 0, since := some 0 }

theorem test_witness_TierQueuesRun :
    (let s := tierQ 0 {}; s.mayRing .tambour (s.tierQueueTenant 0) (Reg.TIER_QUEUE_DOORBELL 0) = true ∧ s.tierQueueAbsent 0 = false
      ∧ s.tierState 0 = 0 ∧ (s.tierQ 0).fetch = 0 ∧ (0 + 1) % s.ringSize 0 = 1 ∧ s.tenantMay (s.tierQueueTenant 0) nearBase 32 false = true
      ∧ s.fld (Reg.TIER_QUEUE_LIST_BASE 0) Fl.TIER_QUEUE_LIST_BASE_ADDR = nearBase ∧ CleanSpans s [(nearBase, 32)])
    ∧ (regs [(Reg.DEVICE_RETIRE_QUEUES, 1)] live).tierQueueAbsent 0 = true
    ∧ (∀ st < 3, ∀ x ∈ [{}, { flight := [{ entry := bare, uid := 0, wait := .resident }] }, { staged := [bare], fetch := 1 }],
      let s := tierQ st x
      s.mayWrite .tambour (Reg.TIER_QUEUE_CONTROL 0) = true ∧ s.core.retiring = [] ∧ (s.tierQ 0).fetch = s.tierWp 0 ∧ s.tierState 0 = st
        ∧ s.tierQ 0 = x)
    ∧ bare.here = true ∧ bare.done = none := by
  unfold CleanSpans; decide +kernel

theorem test_witness_tier_limits :
    (let s := { tierQ 0 { staged := [watching], fetch := 1 } with stitchClock := 2 ^ 32 };
      s.tierWaiting 0 = some watching ∧ watching.done = none ∧ watching.since = some 0
        ∧ 0 + max 1 (s.fld Reg.TIER_WAIT_LIMIT_STITCHES Fl.TIER_WAIT_LIMIT_STITCHES_STITCHES) ≤ s.stitchClock)
    ∧ (let s0 := tierQ 1 { flight := [{ entry := bare, uid := 0, wait := .resident }] }
      let s := { s0 with stitchClock := 2 ^ 32, core := { s0.core with drains := [⟨.tierQueue 0, 0, 0, false, none⟩] } }
      s.core.retiring = [] ∧ s.tierState 0 = 1 ∧ s.drainOf (.tierQueue 0) = some ⟨.tierQueue 0, 0, 0, false, none⟩
        ∧ 0 + min s.tierLimit s.tierLimit ≤ s.stitchClock ∧ s.movesOf bare.object = []) := by decide +kernel

/-- A promotion of object 0 at its first swatch, whose page has been written or not. -/
def promoting (written : Bool) : State :=
  let s := tiered (objectIn 1 0)
  let m : TierMove := { object := 0, kind := .promote, cls := 1, order := 0 }
  { s with tier := { s.tier with moves := [m] }, mem := { s.mem with written := if written then [0] else [] } }

theorem test_witness_SwatchesMove : ∀ w ∈ [true, false], let s := promoting w
    s.clocked = true ∧ s.halfOf 0 = 0 ∧ 0 + 1 < s.swatches 0 ∧ s.homeBase 0 = 0 ∧ s.upBase 0 = nearBase ∧ inHost 0 = false
      ∧ s.tenantMay (s.objectTenant 0) 0 4096 false = true ∧ s.tenantMay (s.objectTenant 0) nearBase 4096 true = true
      ∧ CleanSpans s [(0, 4096)] ∧ s.mem.upsets = [] ∧ s.pageUnwritten 0 = !w ∧ (∀ l ∈ linesOf 0 4096, s.lineHeld l = false) := by
  unfold CleanSpans; decide +kernel

theorem crcBit_lt {c : Nat} (h : c < 2 ^ 32) : crcBit c < 2 ^ 32 := by
  unfold crcBit; split
  · exact Nat.xor_lt_two_pow (by omega) (by decide)
  · omega

theorem crcFeed_lt (l : List Byte) : ∀ c < 2 ^ 32, crcFeed c l < 2 ^ 32 := by
  induction l with
  | nil => exact fun _ h => h
  | cons b l ih =>
    intro c h
    refine ih _ ?_
    have hb : c ^^^ b.toNat < 2 ^ 32 := Nat.xor_lt_two_pow h (by have := b.isLt; omega)
    unfold crcByte
    iterate 8 refine crcBit_lt ?_
    exact hb

theorem swatchCheck_lt (a : Nat) (image : List Byte) : swatchCheck a image < 2 ^ 32 := by
  unfold swatchCheck
  exact Nat.xor_lt_two_pow (crcFeed_lt _ _ (crcFeed_lt _ _ (crcFeed_lt _ _ (crcFeed_lt _ _ (by decide))))) (by decide)

theorem natLE_bytesLE (n : Nat) : ∀ x < 256 ^ n, natLE (bytesLE n x) = x := by
  induction n with
  | zero => intro x h; simp [bytesLE, natLE] at h ⊢; omega
  | succ n ih => intro x h; simp only [bytesLE, natLE, ih (x / 256) (by rw [pow_succ] at h; omega), BitVec.toNat_ofNat]; omega

/-- An image that withCheck made carries its own check. -/
theorem withCheck_carries (a : Nat) (image : List Byte) (h : 64 ≤ image.length) :
    headerCheck (withCheck a image) = swatchCheck a (withCheck a image) := by
  have h4 (x : Nat) : (bytesLE 4 x).length = 4 := rfl
  have hl : (image.take 60).length = 60 := by rw [List.length_take]; omega
  have hd : headerCheck (withCheck a image) = swatchCheck a image := by
    unfold headerCheck withCheck
    rw [List.append_assoc, List.drop_left' hl, List.take_left' (h4 _), natLE_bytesLE _ _ (swatchCheck_lt a image)]
  have keep (c : List Byte) (hc : c.length = 4) : swatchCheck a (image.take 60 ++ c ++ image.drop 64) = swatchCheck a image := by
    unfold swatchCheck
    have e16 : ((image.take 60 ++ c ++ image.drop 64).drop 16).take 8 = (image.drop 16).take 8 := by
      rw [List.append_assoc, List.drop_append_of_le_length (by omega), List.take_append_of_le_length (by simp; omega), List.drop_take,
        List.take_take]; simp
    have e60 : (image.take 60 ++ c ++ image.drop 64).take 60 = image.take 60 := by
      rw [List.append_assoc, List.take_left' hl]
    have e64 : (image.take 60 ++ c ++ image.drop 64).drop 64 = image.drop 64 := by
      rw [List.drop_left' (by rw [List.length_append, hl, hc])]
    rw [e16, e60, e64]
  rw [hd]; exact (keep _ (h4 _)).symm

/-- A swatch whose header fits the object and carries its check. -/
theorem test_witness_swatch_header : let image := withCheck 0 ((promoting true).headerOf 0 0 0 ++ List.replicate 4032 0)
    headerOk ((promoting true).shape 0) image = true ∧ headerCheck image = swatchCheck 0 image :=
  ⟨by decide +kernel, withCheck_carries 0 _ (by decide +kernel)⟩

/-- A creation by function 0 without a refusal, and with each; one of a VALID object. -/
def created (code : Nat) : State :=
  tiered (if code = 1 then [(Reg.TIER_OBJECT_OWNER 0, 0)] else if code = 2 then [(Reg.TIER_OBJECT_HOME_BASE 0, 64)]
    else if code = 3 then [(Reg.TIER_REGION_NEAR 0, 0)] else if code = 4 then [(Reg.TIER_TENANT_CHARGED 3 1, 1)] else [])

theorem test_witness_ObjectsCreateAndDelete :
    (∀ code ∈ [0, 2, 3, 4], (created code).mayWrite (.function 0) (Reg.TIER_OBJECT_CONTROL 0) = true
      ∧ createRefusal (created code) ((created code).actsFor (.function 0)) 0 (objectWord 1) = code
      ∧ (created code).fld (Reg.TIER_OBJECT_CONTROL 0) Fl.TIER_OBJECT_CONTROL_VALID = 0)
    ∧ ((created 1).mayWrite .tambour (Reg.TIER_OBJECT_CONTROL 0) = true ∧ createRefusal (created 1) none 0 (objectWord 1) = 1)
    ∧ (∀ st ∈ [0, 2], let s := tiered (objectIn st 0)
      s.fld (Reg.TIER_OBJECT_CONTROL 0) Fl.TIER_OBJECT_CONTROL_VALID = 1 ∧ s.residency 0 = st ∧ s.pins 0 = 0 ∧ s.objectInFlight 0 = false) := by
  unfold createRefusal charged; decide +kernel

/-! ### Far memory, the die stack's rows and the bonds -/

/-- Line 0 of far memory stands in the write-combining buffer whole; the buffer is above its threshold; 33 lines wait in the write queue of
pseudo-channel 0, whose page is written or not. -/
def buffered (written : Bool) : State :=
  { tiered [] with mem := { live.mem with
      wcb := [⟨0, BitVec.allOnes 64⟩], wcbBusy := [0], written := if written then [0] else [], writeQueue := List.replicate 33 64 } }

theorem test_witness_FarControllersWriteBack :
    (∀ w ∈ [true, false], (wcbMask 0 (buffered w).mem.wcb).isSome = true ∧ NatSet.has (buffered w).mem.wcbBusy (0 * 64 / 2 ^ 37) = true
      ∧ (buffered w).lineErrors 0 = [] ∧ (buffered w).pageUnwritten 0 = !w)
    ∧ wcbMask (2 ^ 34 - 1) (buffered true).mem.wcb = none ∧ farUnit (64 * 64) = 1000
    ∧ NatSet.has live.mem.wcbBusy 0 = false := by decide +kernel

/-- An UNWRITE of stack k, for Tambour; one in progress with or without a knot. -/
def unwriting (knot : Option Nat) : State :=
  let s := regs [(Reg.FAR_UNWRITE_STATUS 0, 1)] (tiered [])
  { s with mem := { s.mem with unwrites := [⟨0, 0, 2, knot⟩], written := [0, 1] } }

theorem test_witness_UnwriteErasesPages :
    (tiered []).mayWrite .tambour (Reg.FAR_UNWRITE_CONTROL 0) = true ∧ (tiered []).mayWrite .tambour (Reg.FAR_UNWRITE_CONTROL 7) = true
    ∧ (tiered []).unwriteErr .tambour 0 = 0 ∧ (tiered []).unwriteErr .tambour 7 = 1
    ∧ (regs [(Reg.FAR_STATUS 7, 3)] live).stackAbsent 7 = true
    ∧ (∀ o ∈ [none, some 5], (unwriting o).mem.unwrites = [⟨0, 0, 2, o⟩]) ∧ QuietKnot (unwriting (some 5)) 5 := by
  unfold QuietKnot SoundKnot; decide +kernel

/-- Row 64 of bank 3 of pseudo-channel 2 is under test; `n` of its region's rows stand in the darn table. -/
def darning (n : Nat) : State :=
  let s := regs ((List.range n).map (fun i => (Reg.FAR_DARN 0 i, 1 + 2 + 2 * 2 ^ 8 + 3 * 2 ^ 16 + (65 + i) * 2 ^ 22 + i * 2 ^ 40))) (tiered [])
  { s with mem := { s.mem with tests := [{ unit := 1002, bank := 3, row := 64 }] } }

theorem test_witness_FarRowsDarnAndRetire :
    (∀ n ∈ [0, 1, 2], let s := darning n
      s.mem.tests = [{ unit := 1002, bank := 3, row := 64 }] ∧ FarRowClean s 0 2 3 64 ∧ s.darns 0 = List.range n
        ∧ (∀ j ∈ s.darns 0, s.darnOf 0 2 3 j = true → s.fld (Reg.FAR_DARN 0 j) Fl.FAR_DARN_ROW ≠ 64)
        ∧ s.nextSpare 0 2 3 = some n ∧ s.regionListed 0 2 3 1 = false ∧ s.regionFailures 0 2 3 1 = n ∧ regionsListed s 0 = 0)
    ∧ (∀ v ∈ [0, 1], (regs [(Reg.FAR_RETIRE 0 0, v)] live).mayWrite .tambour (Reg.FAR_RETIRE 0 0) = true
      ∧ (regs [(Reg.FAR_RETIRE 0 0, v)] live).fld (Reg.FAR_RETIRE 0 0) Fl.FAR_RETIRE_VALID = v)
    ∧ Fl.FAR_RETIRE_ACK.read (BitVec.allOnes 64) = 1 := by unfold FarRowClean regionsListed; decide +kernel

/-- A row of a near panel, or of an array, is under test; spare rows are used. -/
def rowTesting (array : Option Nat) (used : Nat) : State :=
  let s := regs [(Reg.INTEGRITY_SPARES 0, used + 16 * 2 ^ 8)] live
  { s with mem := { s.mem with tests := [{ unit := 0, bank := 0, row := 9, array := array }],
                               remaps := if array = none then [] else List.replicate used ⟨0, 1, 0, array⟩ } }

theorem test_witness_TargetedTestsRemapRows : ∀ a ∈ [none, some 7], ∀ n ∈ [0, 3, 4, 15, 16], let s := rowTesting a n
    let x : RowTest := { unit := 0, bank := 0, row := 9, array := a }
    s.mem.tests = [x] ∧ SramRowClean s x ∧ s.fld (Reg.INTEGRITY_SPARES 0) Fl.INTEGRITY_SPARES_USED = n
      ∧ s.fld (Reg.INTEGRITY_SPARES 0) Fl.INTEGRITY_SPARES_TOTAL = 16
      ∧ (a ≠ none → (s.mem.remaps.filter (fun r => r.array == a)).length = n) := by unfold SramRowClean; decide +kernel

/-- The wire test of bundles runs, with repairs in use. -/
def wireTesting (bundles : List Nat) (spares : List Nat) : State :=
  let s := bundles.foldl (fun s b => (s.setFld (Reg.INTEGRITY_BUNDLE b) Fl.INTEGRITY_BUNDLE_SPARE0 (spares.getD 0 127)).setFld
    (Reg.INTEGRITY_BUNDLE b) Fl.INTEGRITY_BUNDLE_SPARE1 (spares.getD 1 127) |>.setFld
    (Reg.INTEGRITY_BUNDLE b) Fl.INTEGRITY_BUNDLE_SPARE2 (spares.getD 2 127)) live
  { s with bond := { s.bond with testing := bundles } }

theorem test_witness_BondsRepairAndDegrade :
    (∀ b ∈ [0, 1025, 5119], (wireTesting [b] []).wireTestRuns b = true ∧ (wireTesting [b] []).bundleState b = 0
      ∧ (∀ j < 3, (wireTesting [b] []).spareOf b j = 127)
      ∧ (wireTesting [b] [40, 41, 42]).bundleState b = 0 ∧ (∀ j < 3, (wireTesting [b] [40, 41, 42]).spareOf b j = 40 + j))
    ∧ NatSet.has live.bond.testing 0 = false ∧ pairedBundle 1 = 0 ∧ NatSet.has (wireTesting [0, 1] []).bond.testing (pairedBundle 1) = true := by
  decide +kernel
/-! ### Update units and the training step -/

/-- CONTROL of a group under PLAIN on unit 8. -/
def groupWord : Word := 1 + 2 + 8 * 2 ^ 16

/-- Tenant 3 owns group segment 0 and schedule 0; group 0 has its fields: 1,024 parameters in the first lines of near memory. -/
def grouped (more : List (Nat × Nat)) : State :=
  tiered ([(Reg.UPDATE_GROUP_OWNER 0, 0x103), (Reg.SCHEDULE_CONFIG 0, 0x300), (Reg.GROUP_ELEMENTS 0, 1023), (Reg.GROUP_ACC_BASE 0, nearBase),
    (Reg.GROUP_MASTER_BASE 0, nearBase + 0x10000), (Reg.UNIT_STATUS 8, 0)] ++ more)

/-- Group 0 exists in a phase, with n of its tiles taken, of which `done` are readable; `member` says that it takes part in the step. -/
def groupIn (phase next done : Nat) (member : Bool) : State :=
  (grouped [(Reg.GROUP_CONTROL 0, groupWord.toNat), (Reg.GROUP_STATUS 0, phase + done * 2 ^ 32)]).setGroupRun 0
    { member := member, next := next, words := [groupWord], eta := 0x3F000000, gamma := 0x3F800000 }

/-- Creations with each refusal code, by function 0. -/
def groupCase (code : Nat) : State :=
  grouped (if code = 1 then [(Reg.UPDATE_GROUP_OWNER 0, 0)] else if code = 2 then [(Reg.SCHEDULE_CONFIG 0, 0x400)]
    else if code = 3 then [(Reg.GROUP_ACC_BASE 0, nearBase + 0x8000000)]
    else if code = 4 then [(Reg.GROUP_CONTROL 1, groupWord.toNat), (Reg.GROUP_ACC_BASE 1, nearBase + 4096)] else [])

theorem test_witness_GroupsCreateAndDelete :
    (∀ code ∈ [0, 2, 3, 4], let s := groupCase code
      s.mayWrite (.function 0) (Reg.GROUP_CONTROL 0) = true ∧ s.fld (Reg.GROUP_CONTROL 0) Fl.GROUP_CONTROL_VALID = 0
        ∧ s.actsFor (.function 0) = some 3
        ∧ ((s.wr (Reg.GROUP_CONTROL 0) (Fl.GROUP_CONTROL_VALID.write groupWord 1 &&& groupControlMask)).setFld (Reg.GROUP_CONTROL 0)
            Fl.GROUP_CONTROL_VALID 0).groupError (s.actsFor (.function 0)) 0 = code)
    ∧ ((groupCase 1).mayWrite .tambour (Reg.GROUP_CONTROL 0) = true ∧ (groupCase 1).groupTenant 0 = none)
    ∧ ∀ phase < 5, ∀ m ∈ [true, false], let s := groupIn phase 0 0 m
      s.mayWrite (.function 0) (Reg.GROUP_CONTROL 0) = true ∧ s.fld (Reg.GROUP_CONTROL 0) Fl.GROUP_CONTROL_VALID = 1
        ∧ groupStatus s 0 Fl.GROUP_STATUS_PHASE = phase ∧ (s.groupRun 0).member = m ∧ s.stateObject 0 = none
        ∧ s.fld (Reg.GROUP_CONTROL 0) Fl.GROUP_CONTROL_UNIT = 8 := by unfold groupStatus; decide +kernel

/-- An entry of the ledger of unit 8. -/
def logged : LedgerEntry := { group := 0, step := 0, tile := 0, rule := 1, w := [], m := [], v := [], g := [] }

/-- Unit 8 in a state, with a ledger. -/
def unitIn (state : Nat) (l : List LedgerEntry) (s : State) : State := (s.setLedger 8 l).setFld (Reg.UNIT_STATUS 8) Fl.UNIT_STATUS_STATE state

theorem test_witness_UpdateUnitsDrainAndEnable :
    (∀ l ∈ [[], [logged]], let s := unitIn 0 l (groupIn 0 0 0 false)
      s.core.retiring = [] ∧ s.mayWrite .tambour (Reg.UNIT_CONTROL 8) = true ∧ s.unitState 8 = 0 ∧ s.unitGroups 8 = [0] ∧ s.phaseOf_ 0 ≠ 1
        ∧ s.ledger 8 = l)
    ∧ (let s := unitIn 0 [] (groupIn 1 1 0 true)
      s.unitState 8 = 0 ∧ s.unitGroups 8 = [0] ∧ s.phaseOf_ 0 = 1 ∧ (s.groupRun 0).next < s.tileCount 0
        ∧ s.fld (Reg.GROUP_WINDOW 0) Fl.GROUP_WINDOW_DONE_EN = 0 ∧ s.stateObject 0 = none)
    ∧ (let s := unitIn 2 [] (groupIn 0 0 0 false)
      s.unitState 8 = 2 ∧ s.updateUnitAbsent 8 = false ∧ s.ledger 8 = [] ∧ (∀ g ∈ s.unitGroups 8, s.phaseOf_ g ≠ 4) ∧ NoCommit s)
    ∧ (let s0 := unitIn 1 [logged] (groupIn 4 1 0 true)
      let s := { s0 with stitchClock := 2 ^ 16, core := { s0.core with drains := [⟨.updateUnit 8, 0, 0, false, none⟩] } }
      s.drainOf (.updateUnit 8) = some ⟨.updateUnit 8, 0, 0, false, none⟩ ∧ s.ledger 8 = [logged] ∧ 0 + min s.updateLimit s.updateLimit ≤ s.stitchClock)
    ∧ ∀ late < 2, let s0 := groupIn (2 + late * 32) 0 0 true
      let s := { s0.setGroupRun 0 { s0.groupRun 0 with holdSince := some 0 } with stitchClock := 2 ^ 32 };
      (s.groupRun 0).holdSince = some 0 ∧ s.phaseOf_ 0 = 2 ∧ s.groupUnit 0 = 8 ∧ groupStatus s 0 Fl.GROUP_STATUS_STATE_LATE = late
        ∧ 0 + max 1 (s.fld Reg.UPDATE_PROMOTE_LIMIT Fl.UPDATE_PROMOTE_LIMIT_STITCHES) ≤ s.stitchClock := by
  unfold NoCommit groupStatus; decide +kernel

theorem test_witness_UpdatesApplyProbeAndRetry :
    (let s := groupIn 4 1 0 true;
      s.mayWrite .tambour (Reg.SCHEDULE_PROBE 0) = true ∧ s.fld (Reg.SCHEDULE_CONFIG 0) Fl.SCHEDULE_CONFIG_KIND = 0
        ∧ s.fld (Reg.SCHEDULE_LENGTHS 0) Fl.SCHEDULE_LENGTHS_WARMUP = 0)
    ∧ (∀ p < 2, let s := (groupIn 4 1 0 true).setFld (Reg.GROUP_STATUS 0) Fl.GROUP_STATUS_POISONED p
      s.mayWrite .tambour (Reg.UNIT_RETRY 8) = true ∧ 0 ∈ s.validGroups ∧ s.groupUnit 0 = 8 ∧ groupStatus s 0 Fl.GROUP_STATUS_PHASE = 4
        ∧ groupStatus s 0 Fl.GROUP_STATUS_POISONED = p ∧ s.stateObject 0 = none)
    ∧ (let s := unitIn 0 [logged] (groupIn 1 1 0 true)
      s.clocked = true ∧ s.unitState 8 = 0 ∧ NoCommit s ∧ s.ledger 8 = [logged] ∧ s.tilesDone 0 + 1 < s.tileCount 0)
    ∧ (∀ next < 4, let s := unitIn 0 [] (groupIn 1 next 0 true)
      let a := s.accBase 0 + 4096 * next
      let m := s.masterBase 0 + 1024 * next
      s.nextGroup 8 = some 0 ∧ s.clearOnly 0 = false ∧ s.ruleOf 0 = 1 ∧ (s.groupRun 0).pending = false
        ∧ s.groupUse 0 0 Fl.GROUP_CONTROL_EMIT_BF16 = 0 ∧ s.groupUse 0 0 Fl.GROUP_CONTROL_EMIT_FP8 = 0 ∧ s.tileSize 0 next = 256
        ∧ CleanSpans s [(a, 16 * 256), (m, 4 * 256)] ∧ a + 4096 ≤ m ∧ a % 4096 = 0 ∧ m % 1024 = 0
        ∧ s.takesWrites a = true ∧ s.takesWrites m = true) := by
  unfold NoCommit groupStatus CleanSpans; decide +kernel

/-- The step machine of tenant 3 in a state. -/
def gateIn (state : Nat) (s : State) : State := s.setFld (Reg.GATE_STATE 3) Fl.GATE_STATE_STATE state

theorem test_witness_GateRequestsChangeState : ∀ st < 6, let s := gateIn st (groupIn 0 0 0 true)
    s.mayWrite (.function 0) (Reg.GATE_CONTROL 3) = true ∧ s.gateState 3 = st ∧ ∀ g ∈ s.gateMembers 3, (s.groupRun g).leaving = false := by
  decide +kernel

theorem test_witness_GateStepsDecide :
    (∀ st < 6, let s := regs [(knotStateReg 0, 1)] (gateIn st (groupIn 0 0 0 false))
      s.gateState 3 = st ∧ s.clocked = true ∧ s.gateTriggered 3 = true ∧ (s.gateRun 3).group = none ∧ s.gateMembers 3 = []
        ∧ s.fld (Reg.SCALE_ADDR 3) Fl.SCALE_ADDR_EN = 0 ∧ (s.gateRun 3).due = 0)
    ∧ (gateIn 1 (groupIn 0 0 0 false)).gateTriggered 3 = false
    ∧ (∀ unit ∈ [0, 2], let s := (unitIn unit [] (gateIn 2 (groupIn 0 0 0 true))).setFld (Reg.GROUP_STEP 0) Fl.GROUP_STEP_STEP 9
      s.gateMembers 3 = [0] ∧ s.unitState (s.groupUnit 0) = unit ∧ s.fld (Reg.GROUP_STEP 0) Fl.GROUP_STEP_STEP ≠ s.gateStep 3
        ∧ (s.groupRun 0).leaving = false)
    ∧ (let s := (gateIn 1 (groupIn 0 0 0 true)).setGateRun 3 { due := 2 };
      (s.gateRun 3).due ≠ 0 ∧ s.fld (Reg.GATE_CONTROL 3) Fl.GATE_CONTROL_STEP_KNOT = 0 ∧ QuietKnot s 0)
    ∧ (let s := { (gateIn 1 (groupIn 0 0 0 true)).setGateRun 3 { since := some 0 } with stitchClock := 2 ^ 32 };
      (s.gateRun 3).since = some 0 ∧ (s.gateRun 3).raised = false
        ∧ 0 + max 1 (s.fld (Reg.GATE_WAIT_LIMIT 3) Fl.GATE_WAIT_LIMIT_STITCHES) ≤ s.stitchClock) := by
  unfold QuietKnot SoundKnot; decide +kernel
/-! ### Bride links -/

/-- Port 3 in a unit state and a link state, with maps of lanes, eight good lanes, and the given state behind its registers. -/
def portIn (unit link map : Nat) (x : PortState) : State :=
  (regs ([(Reg.BRIDE_PORT_STATUS 3, unit + link * 4), (Reg.BRIDE_PORT_LANES 3, map + map * 2 ^ 8)]
    ++ (List.range 8).map (fun l => (Reg.BRIDE_PORT_LANE_STATUS 3 l, 1))) live).setPort 3 x

/-- A port at work. -/
def working : State := portIn 0 2 255 { goodLanes := 255, rxLanes := 255, peerRxLanes := 255, trained := true }

/-- A flit with its CRC. -/
def flitOf (kind seq : Nat) (b : FlitBody) : Flit :=
  let f : Flit := { kind := kind, seq := seq, body := b, crc := 0 }
  { f with crc := f.computeCrc }

/-- A body without replies that asks for lanes. -/
def bodyOf (lanes : Nat) : ControlBody :=
  { credits := [9, 9, 9, 9], frame := 5, rxLanes := lanes, txLanesNext := 255, switchFrame := 5, tick := {}, replies := [], replyCount := 0 }

/-- The transport bytes of a NEIGHBOUR. -/
def neighbourBytes : List Byte := [0, 0, 0, 0, 0x0D] ++ List.replicate 235 0

/-- Nine wrong symbols of one codeword, which no correction within eight reaches. -/
def nineErrors : List (Nat × Nat) := (List.range 9).map (fun i => (2 * i, 1))

theorem test_witness_FlitsAreTakenInOrder :
    (∀ f ∈ [flitOf 0 0 .idle, flitOf 1 0 (.data neighbourBytes), flitOf 1 0 (.data [0, 0, 0, 0, 0x0D, 0, 0, 0, 0, 0, 0, 0, 0, 1]),
        flitOf 1 7 (.data neighbourBytes), flitOf 2 0 (.control (bodyOf 255)), flitOf 2 0 (.control (bodyOf 0x3F)), flitOf 2 0 (.control (bodyOf 7))],
      Passes working 3 f ∧ { f with crc := f.crc ^^^ 1 }.fails false = true)
    ∧ (flitOf 1 0 (.data neighbourBytes)).seq % 4096 = (working.port 3).expected ∧ (flitOf 1 7 (.data neighbourBytes)).seq % 4096 ≠ (working.port 3).expected
    ∧ live.linkUp 3 = false
    ∧ (hasLane (working.rxMap 3) 0 ∧ pairDecode nineErrors = none ∧ beginsStripe (working.port 3).rxFlits (widthOf (working.rxMap 3)) = true
        ∧ flitLost (lanesOf (working.rxMap 3)) (working.port 3).rxFlits [0] (working.port 3).lostNow = true
        ∧ working.fld (Reg.BRIDE_PORT_LANE_STATUS 3 0) Fl.BRIDE_PORT_LANE_STATUS_WINDOW_UNCORRECTABLE + 1
          < max 1 (working.fld (Reg.BRIDE_PORT_SHED_LIMITS 3) Fl.BRIDE_PORT_SHED_LIMITS_UNCORRECTABLE))
    ∧ ((parseTxn 0 neighbourBytes).typ = 0x0D ∧ (32 + natLE ((neighbourBytes.drop 12).take 2) % 8192 + 239) / 240 * 240 ≤ 240)
    ∧ ((working.port 3).switchFrame = none ∧ 0x3F ≠ working.txMap 3 ∧ widthOf 0x3F = 6 ∧ widthOf 7 = 3 ∧ working.txMap 3 = 255) := by
  unfold Passes CalmLanes hasLane; decide +kernel

/-- A lane of a map of eight. -/
theorem hasLane_lt {map l : Nat} (h : map < 256) (hl : hasLane map l) : l < 8 := by
  by_contra hn
  have : 2 ^ 8 ≤ 2 ^ l := Nat.pow_le_pow_right (by decide) (by omega)
  have hz : map / 2 ^ l = 0 := Nat.div_eq_of_lt (by omega)
  simp [hasLane, hz] at hl

/-- WidestUse of maps of eight lanes, checked lane by lane. -/
theorem widestUse_of {good map : Nat} (hm : map < 256)
    (h : (∀ l < 8, map / 2 ^ l % 2 = 1 → good / 2 ^ l % 2 = 1) ∧ (widthOf good < 4 → map = 0)
      ∧ (4 ≤ widthOf good → widthOf map = if widthOf good = 5 then 4 else widthOf good)
      ∧ ∀ l < 8, map / 2 ^ l % 2 = 1 → ∀ m < l, good / 2 ^ m % 2 = 1 → map / 2 ^ m % 2 = 1) : WidestUse good map :=
  ⟨fun l hl => ⟨h.1 l (hasLane_lt hm hl) hl, hasLane_lt hm hl⟩, h.2.1, h.2.2.1,
    fun l m hl hml hg => h.2.2.2 l (hasLane_lt hm hl) hl m hml hg⟩

/-- All lanes but the last, and five lanes, of which four are used. -/
theorem test_witness_widest : WidestUse 0xFF 0xFF ∧ WidestUse 0x7F 0x7F ∧ WidestUse 0x1F 0x0F ∧ WidestUse 7 0 :=
  ⟨widestUse_of (by decide) (by decide), widestUse_of (by decide) (by decide), widestUse_of (by decide) (by decide),
    widestUse_of (by decide) (by decide)⟩

/-- RESTORE of lane 7, which fails again or not. -/
def restoring (failing : Nat) : State :=
  let s := portIn 0 2 0x7F { goodLanes := 0x7F, rxLanes := 0x7F, peerRxLanes := 0x7F, failing := failing }
  (s.setFld (Reg.BRIDE_PORT_LANES 3) Fl.BRIDE_PORT_LANES_RX_SHED 0x80).setFld (Reg.BRIDE_PORT_CONTROL 3) Fl.BRIDE_PORT_CONTROL_RESTORE 0x80

/-- A width change is due in each direction at frame 5. -/
def switching (frame flits : Nat) : State :=
  portIn 0 2 255 { frame := frame, switchFrame := some 5, txMapNext := 0x3F, rxSwitchFrame := some 5, rxSwitchMap := 0x3F, rxFlits := flits, goodLanes := 255 }

theorem test_witness_LanesAreShedAndRestored :
    (working.linkUp 3 = true ∧ hasLane (working.port 3).goodLanes 7 ∧ mapOf ((lanesOf (working.port 3).goodLanes).filter (fun m => m != 7)) = 0x7F
      ∧ working.mayWrite .tambour (Reg.BRIDE_PORT_CONTROL 3) = true ∧ working.linkState 3 = 2)
    ∧ (∀ k ∈ [0, 0x80], let s := restoring k
      s.linkUp 3 = true ∧ s.linkState 3 = 2 ∧ hasLane (s.fld (Reg.BRIDE_PORT_LANES 3) Fl.BRIDE_PORT_LANES_RX_SHED) 7
        ∧ hasLane (s.fld (Reg.BRIDE_PORT_CONTROL 3) Fl.BRIDE_PORT_CONTROL_RESTORE) 7 ∧ (s.port 3).failing = k)
    ∧ (∀ frame ∈ [4, 5], let s := switching frame (16 * frame)
      s.linkUp 3 = true ∧ (s.port 3).switchFrame = some 5 ∧ (s.port 3).rxSwitchFrame = some 5
        ∧ (5 + 65536 - ((s.port 3).rxBase + (s.port 3).rxFlits / 16) % 65536) % 65536 = 5 - frame
        ∧ widthOf ((s.port 3).txMapNext % 256) < widthOf (s.txMap 3)) := by unfold hasLane; decide +kernel

/-- A training that finds seven good lanes inward and five outward, and one that finds none. -/
def trainingOf (rx tx : Nat) : Training := { rxGood := BitVec.ofNat 8 rx, txGood := BitVec.ofNat 8 tx, roundTrip := 1001, turnaround := 200 }

/-- The good lanes of a training on a port without shed lanes. -/
theorem trained_lanes {m : Nat} (hm : m < 256) (h : live.fld (Reg.BRIDE_PORT_LANES 3) Fl.BRIDE_PORT_LANES_RX_SHED = 0) (l : Nat) :
    hasLane m l ↔ l < 8 ∧ hasLane m l ∧ ¬hasLane (live.fld (Reg.BRIDE_PORT_LANES 3) Fl.BRIDE_PORT_LANES_RX_SHED) l := by
  rw [h]; exact ⟨fun hl => ⟨hasLane_lt hm hl, hl, by simp [hasLane]⟩, fun hl => hl.2.1⟩

/-- What is unacknowledged on a port. -/
def unacked : List ReplayItem := [{ flit := flitOf 1 0 (.data neighbourBytes), txn := none }]

theorem test_witness_PortsTrainSendDrainAndEnable :
    live.fld (Reg.BRIDE_PORT_LANES 3) Fl.BRIDE_PORT_LANES_RX_SHED = 0
    ∧ (∀ st < 3, let s := portIn st 1 0 {}
      s.linkState 3 = 1 ∧ s.portAbsent 3 = false ∧ s.clocked = true ∧ s.net.routeHeld = [] ∧ s.net.heldReplies = [] ∧ s.portState 3 = st)
    ∧ (∀ link ∈ [0, 2], ∀ l ∈ [[], unacked], ∀ st < 3, let s := portIn st link 0 { replay := l }
      s.linkState 3 = link ∧ s.portState 3 = st ∧ s.portAbsent 3 = false ∧ s.mayWrite .tambour (Reg.BRIDE_PORT_CONTROL 3) = true
        ∧ (s.port 3).replay = l ∧ (s.port 3).txQueue = [] ∧ s.core.retiring = [])
    ∧ (let s := (portIn 0 0 0 {}).setFld (Reg.BRIDE_PORT_CONTROL 3) Fl.BRIDE_PORT_CONTROL_AUTO_RETRAIN 1
      s.linkState 3 = 0 ∧ s.fld (Reg.BRIDE_PORT_CONTROL 3) Fl.BRIDE_PORT_CONTROL_AUTO_RETRAIN = 1 ∧ s.portState 3 < 2 ∧ s.clocked = true
        ∧ 6 ≤ s.fld Reg.SECURITY_BOOT_STATUS Fl.SECURITY_BOOT_STATUS_STAGE)
    ∧ (∀ now ∈ [0, 2 ^ 16], let s0 := portIn 1 2 255 { replay := unacked }
      let s := { s0 with stitchClock := now, core := { s0.core with drains := [⟨.port 3, 0, 0, false, none⟩] } }
      let limit := max 1 (s.fld (Reg.BRIDE_PORT_DRAIN_LIMIT 3) Fl.BRIDE_PORT_DRAIN_LIMIT_STITCHES)
      s.drainOf (.port 3) = some ⟨.port 3, 0, 0, false, none⟩ ∧ (now = 0 → now < 0 + min limit limit) ∧ (now ≠ 0 → 0 + min limit limit ≤ now)
        ∧ ∀ i ∈ (s.port 3).replay, i.txn = none) := by decide +kernel
/-! ### Transactions -/

/-- Device 1, whose ROUTE entry to device 2 names port 3, which works; tenant 3 owns the first regions, knots and function 0. -/
def meshed : State :=
  { (regs [(Reg.BRIDE_ROUTE_CONTROL, 1 + 2 ^ 16), (Reg.ROUTE 2, 8), (Reg.BRIDE_PORT_STATUS 3, 8), (Reg.FUNCTION_MAILBOX_RING 0, 4 + 2 ^ 8),
      (Reg.ENDPOINT_STATUS 0, 2 * 2 ^ Fl.ENDPOINT_STATUS_LINK.lo)] (tiered [])).setPort
      3 { goodLanes := 255 } with dma := [] }

/-- A transaction of tenant 3 from device 2. -/
def txnOf (typ address arg : Nat) (payload : List Byte) : Txn :=
  Txn.sealed { dest := 1, src := 2, typ := typ, tenant := 3, tag := 9, address := address, arg := arg, payload := payload }

/-- It has arrived on port 3. -/
def arriving (t : Txn) (dup : Bool) (s : State) : State := { s with net := { s.net with arrived := [⟨some 3, t, dup⟩] } }

/-- Device 2 is reached by port 3 alone. -/
theorem test_witness_SoleWay : SoleWay meshed 2 3 := by unfold SoleWay; decide +kernel

theorem test_witness_TransactionsActAtDestination :
    (∀ a ∈ [0, nearBase], ∀ dup ∈ [true, false],
      NextArrival (arriving (txnOf 1 a 0 [1, 2]) dup meshed) (isType 1) ⟨some 3, txnOf 1 a 0 [1, 2], dup⟩ []
        ∧ meshed.extentOk 3 a 2 true = true ∧ inHost a = false)
    ∧ meshed.extentOk 3 (2 ^ 40) 2 true = false := by unfold NextArrival; decide +kernel

theorem test_witness_reads_and_sums :
    (∀ k ∈ [0, 1, 4096], NextArrival (arriving (txnOf 2 0 k []) false meshed) (isType 2) ⟨some 3, txnOf 2 0 k [], false⟩ []
      ∧ (linesOf 0 k).length ≤ 64 ∧ meshed.extentOk 3 0 k false = true)
    ∧ CleanSpans meshed [(0, 4096)]
    ∧ (let t := txnOf 4 nearBase (1 + 0xE * 16) [1, 0, 0, 0, 0, 0, 0, 0]
      ∀ dup ∈ [true, false], NextArrival (arriving t dup meshed) (isType 4) ⟨some 3, t, dup⟩ [])
    ∧ reduceFormatOk 1 0xE = true ∧ addendBytes 0xE = 8 ∧ CleanSpans meshed [(nearBase, 1 * cellBytes 1 0xE)]
    ∧ meshed.addTargetOk (some 3) 1 0xE nearBase (1 * cellBytes 1 0xE) = true ∧ meshed.cellsOk 1 (cellBytes 1 0xE) 1 nearBase = true
    ∧ meshed.addTargetOk (some 3) 1 0xE (2 ^ 40) 8 = false := by unfold NextArrival CleanSpans; decide +kernel

theorem test_witness_mailboxes :
    (∀ box ∈ [0, 1, 4, 32, 33], let t := txnOf 6 box 0 [1, 2]
      NextArrival (arriving t false meshed) (isType 6) ⟨some 3, t, false⟩ [] ∧ findRx t meshed.net.rxFlows = none)
    ∧ meshed.primaryFn 0 = none ∧ meshed.primaryFn 31 = none ∧ meshed.primaryFn 3 = some 0
    ∧ (let s := meshed.setCfg 0 { memSpace := true, busMaster := true, maxPayload := 512 }
      s.primaryFn 3 = some 0 ∧ s.canDma 0 = true ∧ s.fld (Reg.FUNCTION_MAILBOX_RING 0) Fl.FUNCTION_MAILBOX_RING_EN = 1 ∧ 64 + 2 ≤ (s.cfg 0).maxPayload
        ∧ (0 + 1) % 2 ^ s.fld (Reg.FUNCTION_MAILBOX_RING 0) Fl.FUNCTION_MAILBOX_RING_SIZE = 1)
    ∧ (∀ rp ∈ [1, 17], let s := regs [(Reg.FUNCTION_MAILBOX_READ 0, rp)] meshed
      (0 + 1) % 2 ^ s.fld (Reg.FUNCTION_MAILBOX_RING 0) Fl.FUNCTION_MAILBOX_RING_SIZE
        = s.fld (Reg.FUNCTION_MAILBOX_READ 0) Fl.FUNCTION_MAILBOX_READ_READ_PTR % 2 ^ s.fld (Reg.FUNCTION_MAILBOX_RING 0) Fl.FUNCTION_MAILBOX_RING_SIZE)
 := by unfold NextArrival; decide +kernel

theorem test_witness_contributions : ∀ owner ∈ [0, 0x103], let t := txnOf 7 0 1 [1, 2]
      let s := regs [(Reg.COLLECTIVE_OWNER 15, owner)] (arriving t false meshed)
      NextArrival s (fun t => t.typ == 7 && (!t.digest || s.digestCurrent (t.tenant % 32))) ⟨some 3, t, false⟩ [] ∧ s.collOf t = none
        ∧ (owner = 0 → ∀ e < 16, s.collectiveTenant e ≠ some 3) ∧ (owner ≠ 0 → s.collectiveTenant 15 = some 3)
        ∧ (1 % 65536 + 65536 - Sparse.get (fun _ => 0) s.coll.seqs 3) % 65536 < 32768 := by unfold NextArrival; decide +kernel

/-- A mover command whose write to device 2, with tag 9, is unanswered after n resends; t has arrived. -/
def awaiting (x : QEntry) (owner : TxnOwner) (n : Nat) (t : Txn) : State :=
  let f : TxFlow := { dest := 2, cls := 0, unacked := [⟨{ txnOf 1 0 0 [1, 2] with dest := 2, src := 1 }, owner, n, [], none, none⟩] }
  let s := queued 2 [x] meshed
  { s with net := { s.net with txFlows := [f], arrived := [⟨some 3, t, false⟩] } }

/-- The write's command, and its entry. -/
def writer : QEntry := { moveWork 1 true nearBase none with outstanding := 1, workDone := true }
def entryOut (owner : TxnOwner) (n : Nat) : TxEntry := ⟨{ txnOf 1 0 0 [1, 2] with dest := 2, src := 1 }, owner, n, [], none, none⟩
def flowOut (owner : TxnOwner) (n : Nat) : TxFlow := { dest := 2, cls := 0, unacked := [entryOut owner n] }

/-- The facts of Unanswered and Owns. -/
theorem test_witness_unanswered : ∀ t ∈ [txnOf 8 0 0 [], txnOf 9 0 1 [], txnOf 9 0 2 [], txnOf 9 0 3 [], txnOf 10 2 0 [], txnOf 3 0 0 [7]],
    ∀ n ∈ [0, 2, 3], let s := awaiting writer (.step 0 2 writer.uid 0) n t
    Unanswered s 9 (flowOut (.step 0 2 writer.uid 0) n) (entryOut (.step 0 2 writer.uid 0) n) ∧ NextArrival s (isType t.typ) ⟨some 3, t, false⟩ []
      ∧ t.tag = 9 ∧ t.seq = (entryOut (.step 0 2 writer.uid 0) n).txn.seq ∧ s.entryUid 0 2 writer.uid = some writer ∧ writer.failed = none ∧ writer.checks = []
      ∧ s.idValid = true ∧ (entryOut (.step 0 2 writer.uid 0) n).txn.hops = 0 ∧ numberedType (entryOut (.step 0 2 writer.uid 0) n).txn.typ = true := by
  unfold Unanswered NextArrival; decide +kernel

theorem test_witness_AnswersEndOrResendTransactions :
    Owns (awaiting writer (.step 0 2 writer.uid 0) 0 (txnOf 8 0 0 [])) 0 2 writer (entryOut (.step 0 2 writer.uid 0) 0)
    ∧ (∀ n ∈ [0, 2, 3], (n < meshed.fld Reg.BRIDE_ROUTE_TRANSPORT Fl.BRIDE_ROUTE_TRANSPORT_RETRY_LIMIT ↔ n < 3)
      ∧ ∀ why, (entryOut .nobody n).resent ≠ some (why, meshed.uptime)) := by
  refine ⟨⟨⟨0, rfl⟩, by decide +kernel⟩, ?_⟩
  have h : meshed.fld Reg.BRIDE_ROUTE_TRANSPORT Fl.BRIDE_ROUTE_TRANSPORT_RETRY_LIMIT = 3 := by decide +kernel
  intro n hn; exact ⟨by rw [h], fun why => by simp [entryOut]⟩

/-- A gather of 64 bytes of a MOVE_READ, and its command. -/
def gathering : Gather := { step := 4, mem := 0, dest := 0, need := 64, bytes := List.replicate 64 0 }
def reader : QEntry := { moveWork 2 true nearBase none with outstanding := 2, gathers := [gathering] }

theorem test_witness_read_response : let t := txnOf 3 0 0 [7]
    let s := awaiting reader (.read 0 2 reader.uid 4) 0 t
    NextArrival s (isType 3) ⟨some 3, t, false⟩ [] ∧ Unanswered s 9 (flowOut (.read 0 2 reader.uid 4) 0) (entryOut (.read 0 2 reader.uid 4) 0)
      ∧ s.entryUid 0 2 reader.uid = some reader ∧ reader.gathers = [gathering] ∧ t.payload.length < gathering.need ∧ reader.hostTail = none := by
  unfold Unanswered NextArrival; decide +kernel

/-- A BEACON with one entry for tenant 0, whose digest is current, with a digest byte. -/
def beaconArrived (digest : Byte) (check : Nat) : State :=
  let t := Txn.sealed { dest := 1, src := 2, typ := 0x0B, payload := List.replicate 137 digest |>.mapIdx fun i b => if i < 73 then 0 else b }
  regs [(Reg.DIGEST_STATUS 0, 1)] (arriving { t with check := t.check ^^^ check } false meshed)

/-- A NEIGHBOUR, and a DIRECTED transaction that has made h hops. -/
def neighbourTxn (check : Nat) : Txn :=
  let t := txnOf 0x0D 0 0 [2, 0, 0, 0, 5, 0, 0, 0]
  { t with check := t.check ^^^ check }
def directedTxn (h : Nat) (list : Byte) : Txn := Txn.sealed { txnOf 0x0C 0 0 (List.replicate 16 list ++ List.replicate 16 3) with hops := h }

theorem test_witness_RoutingTimersAndNeighbours :
    (let s := { meshed with net := { meshed.net with rxFlows := [⟨2, 1, 0, 0, [⟨some 3, txnOf 1 0 0 [], false⟩], [], 0⟩] } };
      ∃ g, s.net.rxFlows.find? (fun g => g.src == 2 && g.dest == 1 && g.cls == 0) = some g)
    ∧ findTx 2 0 (awaiting writer .nobody 0 (txnOf 8 0 0 [])).net.txFlows = some (flowOut .nobody 0)
    ∧ (∀ since ∈ [0, 2 ^ 32], let s := { meshed with
        stitchClock := 2 ^ 32, net := { meshed.net with routeHeld := [⟨{ txnOf 1 0 0 [] with dest := 7 }, some 3, since⟩] } }
      let limit := max 1 (s.fld Reg.BRIDE_ROUTE_TRANSPORT Fl.BRIDE_ROUTE_TRANSPORT_ROUTE_WAIT)
      (since = 0 → since + limit ≤ s.stitchClock) ∧ (since ≠ 0 → s.stitchClock < since + limit) ∧ s.net.answers = [] ∧ s.tick.hold = none)
    ∧ (∀ c ∈ [0, 1], let t := neighbourTxn c
      NextArrival (arriving t false meshed) (isType 0x0D) ⟨some 3, t, false⟩ [] ∧ t.malformed = false ∧ (c = 0 ↔ t.check = t.computeCheck))
    ∧ (∀ h ∈ [0, 1, 15, 16], ∀ l ∈ [0xFF, 3], let t := directedTxn h l
      NextArrival (arriving t false meshed) (isType 0x0C) ⟨some 3, t, false⟩ [] ∧ t.malformed = false ∧ t.check = t.computeCheck ∧ t.response = false
        ∧ t.payload.length = 32 ∧ (h < 16 → payloadByte t h = l.toNat) ∧ (0 < h → payloadByte t (15 + h) = 3) ∧ meshed.linkUp 3 = true)
    ∧ (∀ d ∈ [0, 1], ∀ c ∈ [0, 1], let s := beaconArrived d c
      ∃ a, s.net.arrived = [a] ∧ NextArrival s (fun (t : Txn) => t.typ == 0x0B && (s.beaconOurs t).all (fun e => s.digestCurrent e.1)) a []
        ∧ a.txn.malformed = false ∧ (c = 0 ↔ a.txn.check = a.txn.computeCheck)
        ∧ ∃ e, s.beaconOurs a.txn = [e] ∧ (s.digestMatches e.1 e.2.2 = true ↔ d = 0))
    ∧ (∀ n < 2, (regs [(Reg.BRIDE_ROUTE_BEACON, n)] meshed).fld Reg.BRIDE_ROUTE_BEACON Fl.BRIDE_ROUTE_BEACON_PERIOD = n)
    ∧ meshed.mayWrite .tambour Reg.BRIDE_ROUTE_CONTROL = true ∧ meshed.deviceId = 1 ∧ meshed.idValid = true ∧ meshed.net.txFlows = [] := by
  have hf : ∀ d ∈ [(0 : Byte), 1], ∀ c ∈ [0, 1], let s := beaconArrived d c
      let a := s.net.arrived.getD 0 ⟨none, txnOf 0 0 0 [], false⟩
      let e := (s.beaconOurs a.txn).getD 0 (0, 0, [])
      s.net.arrived = [a] ∧ NextArrival s (fun (t : Txn) => t.typ == 0x0B && (s.beaconOurs t).all (fun e => s.digestCurrent e.1)) a []
        ∧ a.txn.malformed = false ∧ (c = 0 ↔ a.txn.check = a.txn.computeCheck)
        ∧ s.beaconOurs a.txn = [e] ∧ (s.digestMatches e.1 e.2.2 = true ↔ d = 0) := by unfold NextArrival; decide +kernel
  refine ⟨⟨_, rfl⟩, by decide +kernel, by decide +kernel, ?_, ?_, ?_, by decide +kernel, by decide +kernel⟩
  · unfold NextArrival; decide +kernel
  · unfold NextArrival; decide +kernel
  · intro d hd c hc
    obtain ⟨h1, h2, h3, h4, h5, h6⟩ := hf d hd c hc
    exact ⟨_, h1, h2, h3, h4, _, h5, h6⟩
/-! ### Collectives, digests, power and temperature -/

/-- A collective descriptor over group 0 of two long cells from the first line of near memory to another; it may wait for knot 0 to reach 7. -/
def descriptor (op trigger : Nat) : TierEntry :=
  { index := 0, bytes := [BitVec.ofNat 8 op, BitVec.ofNat 8 trigger, 0, 0, 0, 0, 0, 0, 0, 0, 0, 0, 7, 0, 0, 0, 0, 0, 0, 0, 0, 4, 0, 0, 0, 1, 0, 0, 0, 4, 0, 0, 1]
      ++ List.replicate 31 0, since := some 0 }

/-- Tenant 3 owns engine 5 and group 0, whose one member is this device; its list lies in near memory. -/
def collecting (state : Nat) (x : CollEngine) (more : List (Nat × Nat)) : State :=
  let s := regs [(Reg.COLLECTIVE_OWNER 5, 0x103), (Reg.COLLECTIVE_LIST_BASE 5, nearBase + 0x1000), (Reg.MCAST 0, 2 ^ Fl.MCAST_MEMBER.lo),
    (Reg.DIGEST_STATUS 3, 1), (Reg.COLLECTIVE_STATUS 5, state), (Reg.COLLECTIVE_DOORBELL 5, x.fetch)] meshed
  (regs more s).setCollE 5 x

/-- A collective of four members at work, whose DEST is in host memory and whose contributions have not all come. -/
def collRun : CollRun :=
  { desc := (descriptor 3 0).bytes.set 29 0x08, index := 0, tenant := 3, seq := 0, group := 0, me := 0, members := 4, next := 1, ready := true,
    begun := true, due := 2 }

theorem test_witness_collectives_start :
    (∀ ptr < 2, let s := collecting 0 {} []
      s.core.retiring = [] ∧ s.mayRing .tambour (s.collectiveTenant 5) (Reg.COLLECTIVE_DOORBELL 5) = true ∧ s.collectiveAbsent 5 = false ∧ s.collUnit 5 = 0
        ∧ (s.collE 5).fetch = 0 ∧ ptr % s.collRing 5 = ptr ∧ CleanSpans s [(nearBase + 0x1000, 64)]
        ∧ s.tenantMay (s.collectiveTenant 5) (nearBase + 0x1000) 64 false = true
        ∧ s.fld (Reg.COLLECTIVE_LIST_BASE 5) Fl.COLLECTIVE_LIST_BASE_ADDR = nearBase + 0x1000)
    ∧ (collecting 0 {} [(Reg.DEVICE_RETIRE_QUEUES, 2 ^ 37)]).collectiveAbsent 5 = true
    ∧ (collecting 0 {} []).mayRing (.function 9) (some 3) (Reg.COLLECTIVE_DOORBELL 5) = false := by unfold CleanSpans; decide +kernel

theorem test_witness_descriptors :
    (∀ op ∈ [1, 2, 3], ∀ member < 2, let d := descriptor op 0
      let s := collecting 0 { staged := [d], fetch := 1 } [(Reg.MCAST 0, member * 2 ^ Fl.MCAST_MEMBER.lo)]
      CollStarts s 5 d ∧ d.op = op ∧ d.doneKnot = none ∧ d.algorithm = 0 ∧ d.trigger = 0 ∧ (s.descriptorInvalid 5 d = false ↔ member = 1)
        ∧ s.fld (Reg.MCAST 0) Fl.MCAST_MEMBERS = 0 ∧ s.fld (Reg.MCAST 0) Fl.MCAST_INDEX = 0)
    ∧ (let d := descriptor 1 2
      let s := collecting 0 { staged := [d], fetch := 1 } [(knotStateReg 0, (Fl.KNOT_STATE_FRAYED.write 0 1).toNat)]
      CollStarts s 5 d ∧ s.descriptorInvalid 5 d = false ∧ d.trigger = 2 ∧ s.knotFrayed d.knot = true)
    ∧ (let s := collecting 0 { staged := [descriptor 1 0], fetch := 1 } []
      let d := descriptor 1 0
      s.digestCurrent 3 = true ∧ d.source = nearBase ∧ d.dest = nearBase + 0x100 ∧ d.elements * elementSize d.element = 32
        ∧ s.tenantMay (some 3) nearBase 32 false = true ∧ s.tenantMay (some 3) (nearBase + 0x100) 32 true = true ∧ CleanSpans s [(nearBase, 32)]
        ∧ s.coll.stored = [] ∧ s.coll.refused = []) := by unfold CollStarts CollIdle CleanSpans; decide +kernel

theorem test_witness_collective_limits :
    (∀ now ∈ [0, 2 ^ 32], let d := descriptor 1 2
      let s := { collecting 0 { staged := [d], fetch := 1 } [] with stitchClock := now }
      s.collWaiting 5 = some d ∧ d.since = some 0 ∧ (now = 0 → now < 0 + s.collLimit 5) ∧ (now ≠ 0 → 0 + s.collLimit 5 ≤ now))
    ∧ (let s := { collecting 0 { fetch := 1, run := some collRun } [] with stitchClock := 2 ^ 32 }
      (s.collE 5).run = some collRun ∧ collRun.begun = true ∧ collRun.due ≠ 0 ∧ collRun.entry.doneKnot = none ∧ inHost collRun.entry.dest = true
        ∧ collRun.last + s.collLimit 5 ≤ s.stitchClock)
    ∧ (∀ st < 3, ∀ x ∈ [{}, { fetch := 1, run := some collRun }, { staged := [descriptor 1 2], fetch := 1 }], let s := collecting st x []
      s.collUnit 5 = st ∧ s.collE 5 = x ∧ x.fetch = s.collWp 5 ∧ s.mayWrite .tambour (Reg.COLLECTIVE_CONTROL 5) = true ∧ s.collectiveAbsent 5 = false)
    ∧ (descriptor 1 2).here = true
    ∧ (∀ now ∈ [0, 2 ^ 16], let s0 := collecting 1 { fetch := 1, run := some collRun } []
      let s := { s0 with stitchClock := now, core := { s0.core with drains := [⟨.collective 5, 0, 0, false, none⟩] } }
      let limit := max 1 (s.fld (Reg.COLLECTIVE_LIMITS 5) Fl.COLLECTIVE_LIMITS_DRAIN_LIMIT)
      s.drainOf (.collective 5) = some ⟨.collective 5, 0, 0, false, none⟩ ∧ (now = 0 → now < 0 + min limit limit) ∧ (now ≠ 0 → 0 + min limit limit ≤ now)
        ∧ s.collUnit 5 = 1) := by decide +kernel

/-- The digest of tenant 3's shared inputs in `live`, by its value. -/
def shared : List Byte := bytesBE 64
  0x6dfa771864232311f80627292b5796445b103c4660a5af2721bd1b029ea608fd09bcc860ebbfded2eef63cc0cc752d56de54bf34f27312472b110e4c0f51ba5c

/-- The reference of tenant 3 is that digest, or zeros; it is valid or not. -/
def referenced (valid : Nat) (right : Bool) : State :=
  regs ((Reg.DIGEST_STATUS 3, 2 * valid) :: if right then (List.range 8).map fun w =>
    (Reg.DIGEST_REF 3 w, natLE ((shared.drop (8 * w)).take 8)) else []) live

/-- A tenant that owns no segment of parameter groups has none in its shared inputs. -/
theorem no_groups {s : State} {t : Nat} (h : ∀ k < 64, (s.ownerOf (Reg.UPDATE_GROUP_OWNER k) == some t) = false) :
    (List.range 4096).filter (fun g => s.groupTenant g == some t && s.flag (Reg.GROUP_CONTROL g) Fl.GROUP_CONTROL_VALID) = [] := by
  rw [List.filter_eq_nil_iff]
  intro g hg
  have hk : g / 64 < 64 := by have := List.mem_range.mp hg; omega
  unfold State.groupTenant
  rw [h _ hk, Bool.false_and]
  exact Bool.false_ne_true

theorem test_witness_digests :
    (∀ v < 2, let s := referenced v false
      (∀ i < 16, (s.collE i).run = none) ∧ (s.gateRun 3).unsent = false ∧ s.fld (Reg.DIGEST_STATUS 3) Fl.DIGEST_STATUS_REF_VALID = v)
    ∧ live.fld Reg.DEVICE_DIGEST_STATUS Fl.DEVICE_DIGEST_STATUS_REF_VALID = 0 := by decide +kernel

theorem test_witness_digest_agrees :
    HoldsDigest (referenced 1 true) (Reg.DIGEST_REF 3) (sha512 ((referenced 1 true).sharedInputs 3)) := by
  unfold HoldsDigest State.sharedInputs
  rw [no_groups (by decide +kernel)]
  decide +kernel

theorem test_witness_digest_differs :
    ¬HoldsDigest (referenced 1 false) (Reg.DIGEST_REF 3) (sha512 ((referenced 1 false).sharedInputs 3)) := by
  unfold HoldsDigest State.sharedInputs
  rw [no_groups (by decide +kernel)]
  decide +kernel

/-- The cap at a duty, with a sum of samples. -/
def capped (on duty n sum : Nat) : State :=
  let s := (live.setFld Reg.THERMAL_CONTROL Fl.THERMAL_CONTROL_CAP_EN on).setFld Reg.THERMAL_STATUS Fl.THERMAL_STATUS_CAP_DUTY duty
  { s with therm := { s.therm with capCount := n, capSum := sum } }

theorem test_witness_power :
    (∀ on < 2, ∀ duty ∈ [2, 8], (capped on duty 0 0).boot.powered = true ∧ (capped on duty 0 0).capDuty = duty ∧ ((capped on duty 0 0).capEnabled = true ↔ on = 1))
    ∧ State.reset.boot.powered = false
    ∧ (min 3000 (live.fld Reg.THERMAL_POWER_LIMIT Fl.THERMAL_POWER_LIMIT_PEAK_W) * 10000 < 5000 * 65535)
    ∧ (let limit := fun (s : State) => min 2400 (s.fld Reg.THERMAL_POWER_LIMIT Fl.THERMAL_POWER_LIMIT_LIMIT_W) * 10000 * s.therm.capCount
      let margin := fun (s : State) => s.fld Reg.THERMAL_POWER_LIMIT Fl.THERMAL_POWER_LIMIT_MARGIN_W * 10000 * s.therm.capCount
      (∀ duty ∈ [2, 8], limit (capped 1 duty 3 (10 ^ 9)) < 10 ^ 9) ∧ (∀ duty ∈ [1, 7], 0 + margin (capped 1 duty 3 0) < limit (capped 1 duty 3 0))
        ∧ limit (capped 1 8 1 (limit (capped 1 8 1 0))) ≤ limit (capped 1 8 1 0) + margin (capped 1 8 1 0)) := by decide +kernel

/-- Sensor 5 is converting; it is suspect or not. -/
def sensing (suspect : Nat) : State :=
  let s := live.setFld (Reg.THERMAL_SENSOR 5) Fl.THERMAL_SENSOR_SUSPECT suspect
  { s with therm := { s.therm with converting := [5] } }

theorem test_witness_PowerAndTemperature :
    live.mayWrite .tambour Reg.THERMAL_DEMAND = true ∧ NatSet.has live.therm.converting 5 = false
    ∧ NatSet.has (sensing 0).therm.converting 5 = true ∧ (sensing 0).suspect 5 = false ∧ live.mayWrite .tambour (Reg.THERMAL_SENSOR 5) = true
    ∧ Fl.THERMAL_SENSOR_SUSPECT.read (BitVec.allOnes 64) = 1 ∧ Fl.THERMAL_SENSOR_SUSPECT.read 0 ≠ 1
    ∧ live.clocked = true ∧ live.boot.powered = true ∧ State.reset.boot.powered = false ∧ (tiered []).stackAbsent 0 = false := by decide +kernel
/-! ### The host -/

/-- Function 0 is bound to tenant 3 and nothing of the tenant is at work; a reset of it may be running. -/
def bound (r : List FlrState) (more : List (Nat × Nat)) : State :=
  { regs ([(Reg.FUNCTION_BINDING 0, 0x103), (Reg.CORE_OWNER 5, 0x103), (Reg.KNOT_OWNER 0 0, 0x103), (Reg.ENDPOINT_STATUS 0, 2)] ++ more) live with
    flrs := r }

/-- The reset of tenant 3 that function 0 started. -/
def flrRun (knots objects : Bool) : FlrState := ⟨3, [0], knots, objects⟩

/-- How far the last element of an array lies from its base. -/
def span (dims : List (Nat × Nat)) : Nat := (dims.map fun p => (p.1 - 1) * p.2).sum

theorem inDims_le : ∀ (dims : List (Nat × Nat)) (d : Nat), RegTable.inDims dims d = true → d ≤ span dims := by
  intro dims
  induction dims with
  | nil => intro d h; simp [RegTable.inDims, span] at h ⊢; omega
  | cons p rest ih =>
    intro d h
    obtain ⟨n, st⟩ := p
    simp only [RegTable.inDims] at h
    have hs : span ((n, st) :: rest) = (n - 1) * st + span rest := by simp [span]
    split at h
    · next hq =>
      have h1 := ih _ h
      have h2 : d / st * st ≤ (n - 1) * st := Nat.mul_le_mul_right _ (by omega)
      omega
    · have h1 := ih _ h; omega

/-- No register of an object resets to anything but 0. -/
theorem resetValue_object {off : Nat} (h1 : 0x2E00000 ≤ off) (h2 : off < 0x3000000) : resetValue off = 0 := by
  have hn : (RegTable.nonzeroA ++ RegTable.nonzeroB).find? (fun e => e.1 ≤ off && RegTable.inDims e.2.1 (off - e.1)) = none := by
    rw [List.find?_eq_none]
    intro e he hp
    have hd : ∀ e ∈ RegTable.nonzeroA ++ RegTable.nonzeroB, 0x3000000 ≤ e.1 ∨ e.1 + span e.2.1 < 0x2E00000 := by decide +kernel
    simp only [Bool.and_eq_true, decide_eq_true_eq] at hp
    have := inDims_le _ _ hp.2
    rcases hd e he with h | h <;> omega
  unfold resetValue RegTable.resetNat
  rw [hn]; rfl

/-- A register that a state does not list holds its reset value. -/
theorem get_unlisted (d : Nat → Word) : ∀ (m : Sparse Word) (k : Nat), (∀ e ∈ m, e.1 ≠ k) → Sparse.get d m k = d k := by
  intro m
  induction m with
  | nil => intro k _; rfl
  | cons p rest ih =>
    intro k h
    obtain ⟨a, v⟩ := p
    have ha : k ≠ a := fun he => h (a, v) (List.mem_cons_self) he.symm
    simp only [Sparse.get, ha, if_false]
    exact ih k fun e he => h e (List.mem_cons_of_mem _ he)

theorem test_witness_no_pins (o : Nat) (ho : o < 16384) : (bound [] []).pinned o 3 = false := by
  have hr : (bound [] []).rd (Reg.TIER_OBJECT_STATUS o) = 0 := by
    have hl : ∀ e ∈ (bound [] []).regs, e.1 < 0x2E00000 ∨ 0x3000000 ≤ e.1 := by decide +kernel
    have h1 : 0x2E00000 ≤ Reg.TIER_OBJECT_STATUS o := by unfold Reg.TIER_OBJECT_STATUS; omega
    have h2 : Reg.TIER_OBJECT_STATUS o < 0x3000000 := by unfold Reg.TIER_OBJECT_STATUS; omega
    unfold State.rd
    rw [get_unlisted _ _ _ fun e he => by rcases hl e he with h | h <;> omega]
    exact resetValue_object h1 h2
  unfold State.pinned State.pins State.objStatus State.fld
  rw [hr]; rfl

theorem test_witness_QuietTenant : QuietTenant (bound [] []) 3 := by
  refine ⟨?_, by decide +kernel, by decide +kernel, fun o ho => ?_, by decide +kernel, by decide +kernel, by decide +kernel, rfl, fun j hj => ?_⟩
  · unfold QuietCore; decide +kernel
  · exact test_witness_no_pins o ho
  · exact absurd hj (List.not_mem_nil)

theorem test_witness_HostResets :
    (NothingWaits (bound [] []) ∧ (bound [] []).fnBound 0 = some 3 ∧ (bound [] []).fnBound 1 = none ∧ (bound [] []).inReset 3 = false
      ∧ (bound [flrRun false false] []).inReset 3 = true)
    ∧ (∀ k ∈ [true, false], ∀ down ∈ [0, 2], let s := bound [flrRun k false] [(Reg.CORE_UNIT_STATUS 5, down)]
      s.flrOf 3 = some (flrRun k false) ∧ s.flrOf 4 = none ∧ (s.coresDown 3 = true ↔ down = 2) ∧ s.tierRuns = [] ∧ s.notifies = [])
    ∧ (∀ v < 2, let s := bound [flrRun false false] [(Reg.TIER_OBJECT_OWNER 0, 0x103), (Reg.TIER_OBJECT_CONTROL 0, v)]
      s.listedObjects.filter (fun o => s.objectTenant o == some 3 && s.objFld o Fl.TIER_OBJECT_CONTROL_VALID == 1) = (if v = 1 then [0] else [])
        ∧ s.residency 0 = 0 ∧ ∀ u < 32, s.pinned 0 u = false)
    ∧ (let s := { tiered (objectIn 0 0) with flrs := [flrRun false false] };
      ∃ p ∈ (s.setTierQ 0 { flight := [{ entry := bare, uid := 0, wait := .resident }] }).tierRuns, s.tierQueueTenant p.1 = some 3)
    ∧ (∀ powered ∈ [true, false], ∀ pins ∈ [[], [0]], ∀ link < 3,
      let s0 := regs [(Reg.FUNCTION_BINDING 0, 0), (Reg.ENDPOINT_STATUS 0, link)] live
      let s := { s0 with boot := { s0.boot with powered := powered, perstHigh := pins } };
      Unbound s 0 ∧ (NatSet.has s.boot.perstHigh 0 = true ↔ pins = [0]) ∧ s.endpointLink 0 = link ∧ s.clocked = true
        ∧ 2 ≤ s.fld Reg.SECURITY_BOOT_STATUS Fl.SECURITY_BOOT_STATUS_STAGE) := by
  unfold NothingWaits Unbound; decide +kernel

/-- Function 0 acts for tenant 3, whose BAR4 shows far memory from address 0; or it lacks memory space, its binding, or the region. -/
def aperture (space : Bool) (more : List (Nat × Nat)) : State := (tiered more).setCfg 0 { memSpace := space }

theorem test_witness_apertures :
    (let s := aperture true [];
      s.decodes 0 = true ∧ s.apertureTenant 0 = some 3 ∧ s.mayAccess 3 0 false = true ∧ s.mayAccess 3 0 true = true ∧ CleanSpans s [(0, 4096)]
        ∧ s.apertureAddress 0 0 = 0 ∧ (s.cfg 0).bar4Log = 36 ∧ s.mayAccess 3 (2 ^ 36 - 4096) false = false)
    ∧ (aperture false []).decodes 0 = false ∧ (aperture true [(Reg.FUNCTION_BINDING 0, 0)]).apertureTenant 0 = none
    ∧ (aperture true [(Reg.FUNCTION_BINDING 0, 0)]).decodes 0 = true := by unfold CleanSpans; decide +kernel

/-- A read of 8 bytes that function 0 has asked for with tag 5, for a mover command or for a firmware image. -/
def asked (owner : DmaOwner) : State :=
  let s := queued 2 [reader] (bound [] [])
  { s with dma := [{ owner := owner, tenant := 3, parts := [⟨0, 0, 0x1000, 5, 0, 8⟩], bytes := List.replicate 8 0 }] }

theorem test_witness_HostAccessesAndDma :
    (∀ o ∈ [DmaOwner.firmware, .moverRead 0 2 reader.uid 4], Requested (asked o) 0 5
        { owner := o, tenant := 3, parts := [⟨0, 0, 0x1000, 5, 0, 8⟩], bytes := List.replicate 8 0 } ⟨0, 0, 0x1000, 5, 0, 8⟩
      ∧ (∀ i ∈ (asked o).dma, i.queued = []) ∧ (asked o).entryUid 0 2 reader.uid = some reader ∧ reader.failed = none ∧ findPart 0 6 (asked o).dma = none)
    ∧ (let s := bound [] []
      s.mayWrite .tambour (Reg.FUNCTION_COMPLETION_READ 0) = true ∧ s.notifies = [] ∧ (s.cfg 0).pendingVectors = [] ∧ s.occs = [])
    ∧ (let i : Intr := { ring := ringReg 0, fn := 0, last := 0, held := true }
      let s0 := (aperture true [(ringReg 0, 7 * 2 ^ 16), (Reg.ENDPOINT_STATUS 0, 2)]).setCfg 0
        { memSpace := true, busMaster := true, msixEnable := true, unmasked := [7] }
      let s := { s0 with intrs := [i] }
      findIntr (ringReg 0) s.intrs = some i ∧ i.held = true ∧ i.last + s.fld (ringReg 0) ⟨48, 8⟩ * 1000 ≤ s.uptime ∧ (s.cfg i.fn).msixEnable = true
        ∧ (s.cfg i.fn).msixMaskAll = false ∧ NatSet.has (s.cfg i.fn).unmasked (s.fld (ringReg 0) ⟨16, 11⟩) = true ∧ s.canDma i.fn = true) := by
  unfold Requested; decide +kernel
/-! ### Start-up -/

/-- A public key of P-521 (seven times the base point). -/
def imageKey : List Byte := bytesBE 133
  0x040056d5d1d99d5b7f6346eeb65fda0b073a0c5f22e0e8f5483228f018d2c2f7114c5d8c308d0abfc698d8c9a6df30dce3bbc46f953f50fdc2619a01cead882816ecd4003d2d1b7d9baaa2a110d1d8317a39d68478b5c582d02824f0dd71dbd98a26cbde556bd0f293cdec9e2b9523a34591ce1a5f9e76712a5ddefc7b5c6b8bc90525251b

/-- Its signature over the measurement of `image`, computed outside Lean. -/
def imageSignature : List Byte := bytesBE 132
  0x008a75841259fdedff546f1a39573b4315cfed5dc7ed7c17849543ef2c54f2991652f3dbc5332663da1bd19b1aebe3191085015c024fa4c9a902ecc0e02dda0cdb9a011255a04c6029bf41ed17ed832521c22ac9270122a49d219bf8942adbef7f3619786c7260f05d558aaaec187c8be79579e88320c8d1d5d323665199337d1bca0b12

/-- An image of one byte for both grades: version 5, build 0x1234. -/
def image : List Byte :=
  magic ++ [1, 0, 0, 0, 5, 0, 0, 0, 1, 0, 0, 0, 3, 0, 0, 0, 0x34, 0x12, 0, 0, 0, 0, 0, 0] ++ List.replicate 8 0 ++ imageKey ++ List.replicate 83 0
    ++ imageSignature ++ List.replicate 124 0 ++ [0x2A]

/-- The machine at a stage of start-up, powered, with the boot ROM running. -/
def booting (stage : Nat) (flash : List Byte) : State :=
  { regs [(Reg.SECURITY_BOOT_STATUS, stage * 2 ^ Fl.SECURITY_BOOT_STATUS_STAGE.lo)] State.reset with
    boot := { powered := true }, fw := { flash := flash } }

/-- The bytes of firmware staging that hold an image. -/
def stagingOf (bytes : List Byte) : Sparse Byte := (bytes.zipIdx.filter (fun p => p.1 != 0)).map fun p => (p.2, p.1)

/-- The same, while the boot ROM waits for an image from the host; the staging holds bytes. -/
def feeding (bytes : List Byte) : State :=
  let s := ((booting 4 []).setFld Reg.SECURITY_BOOT_STATUS Fl.SECURITY_BOOT_STATUS_HOST_FEED_WAIT 1).setCfg 0 { memSpace := true }
  { s with fw := { s.fw with staging := stagingOf bytes } }

theorem test_witness_signature : p521Verifies imageKey (measurementOf image) imageSignature = true := by decide +kernel

/-- A part whose fused hash is that of `imageKey` accepts the image. -/
theorem image_accepted {s : State} {n : Nat} (h : Config.keyHash = sha512 imageKey) (hg : headerValid image s.is7160 n = true)
    (hm : s.fld Reg.SECURITY_FIRMWARE Fl.SECURITY_FIRMWARE_MIN_SVN ≤ 5) : s.checkImage image n = 0 := by
  have hk : (image.drop 40).take 133 = imageKey := by decide +kernel
  have hs : (image.drop 256).take 132 = imageSignature := by decide +kernel
  have hv : headerField image 12 4 = 5 := by decide +kernel
  unfold State.checkImage
  rw [hk, hs, hv, if_neg (by simp [hg]), if_neg (by simp [h]), if_neg (by omega), if_neg (by simp [test_witness_signature])]

theorem test_witness_flash_image (h : Config.keyHash = sha512 imageKey) :
    (booting 4 image).flashImage = image ∧ (booting 4 image).checkFlash true = 0 := by
  have hf : (booting 4 image).flashImage = image := by decide +kernel
  refine ⟨hf, ?_⟩
  unfold State.checkFlash
  rw [hf]
  exact image_accepted (s := booting 4 image) (n := 16777216) h (by decide +kernel) (by decide +kernel)

theorem staged_image {s : State} (h : s.fw.staging = stagingOf image) : s.stagedImage 513 = image := by
  have hs : mapRange (fun i => Sparse.get emptyByte (stagingOf image) i) 1 513 0 = image := by decide +kernel
  unfold State.stagedImage
  rw [h, hs]

theorem test_witness_fed_image (h : Config.keyHash = sha512 imageKey) :
    Fl.SECURITY_FEED_CONTROL_LENGTH.read (513 * 2 ^ 32) = 513 ∧ (feeding image).stagedImage (min 513 16777216) = image
    ∧ (feeding image).checkImage image image.length = 0 :=
  ⟨by decide, staged_image rfl, image_accepted (s := feeding image) (n := image.length) h (by decide +kernel) (by decide +kernel)⟩

theorem test_witness_StartUpStages :
    State.reset.boot.powered = false
    ∧ (∀ st < 8, (booting st []).boot.powered = true ∧ (booting st []).stage = st ∧ (booting st []).flag Reg.INTEGRITY_SELFTEST Fl.INTEGRITY_SELFTEST_DONE = false
      ∧ (booting st []).flag Reg.INTEGRITY_SELFTEST Fl.INTEGRITY_SELFTEST_FATAL = false)
    ∧ ({ live with bond := { live.bond with fuseMap := [(7, 0x7f7f7f01)] } }.bond.fuseMap = [(7, 0x7f7f7f01)])
    ∧ checkerRetires (.panel 3) = false
    ∧ ((booting 4 []).fw.tambour = .rom ∧ (booting 4 []).feedWaits = false ∧ headerValid (booting 4 []).flashImage (booting 4 []).is7160 16777216 = false)
    ∧ ((feeding []).feedWaits = true ∧ (feeding []).mayWrite (.function 0) Reg.SECURITY_FEED_CONTROL = true
        ∧ (feeding []).mayWrite (.function 1) Reg.SECURITY_FEED_CONTROL = false
      ∧ (feeding []).checkImage ((feeding []).stagedImage (min 1 16777216)) 1 ≠ 0 ∧ (feeding []).mem.upsets = [])
    ∧ (booting 5 []).fw.repairLog = [] ∧ (booting 6 []).boot.firstTry = [] ∧ { (booting 6 []).boot with firstTry := [3] }.firstTry ≠ [] := by
  decide +kernel
/-! ### Management, firmware update and debug -/

/-- Function f's request stands in its mailbox and Tambour has not answered it. -/
def requesting (f : Nat) (code n : Nat) (args : List Byte) (s : State) : State :=
  let bytes := bytesLE 2 code ++ bytesLE 2 n ++ [0, 0, 0, 0] ++ args
  regs ((Reg.MGMT_STATUS f, 1) :: (List.range ((bytes.length + 7) / 8)).map fun w => (Reg.MGMT_REQUEST f w, natLE ((bytes.drop (8 * w)).take 8))) s

/-- Each request of privileged functions: made by function 0, made by function 1, and made too short or not at all. -/
theorem test_witness_requests :
    (∀ x ∈ [(0x0001, 24), (0x0003, 4), (0x0100, 12), (0x0101, 0), (0x0102, 8), (0x0103, 0), (0x0110, 0), (0x0111, 140), (0x0112, 0)],
      Orders (requesting 0 x.1 x.2 [] live) 0 x.1 x.2 ∧ Requests (requesting 1 x.1 x.2 [] live) 1 x.1 ∧ live.fnPrivileged 1 = false
        ∧ Requests (requesting 0 x.1 0 [] live) 0 x.1 ∧ (requesting 0 x.1 0 [] live).mgmtField 0 2 2 = 0)
    ∧ (Requests (requesting 0 4 0 [] live) 0 4 ∧ mgmtDefined 4 = false ∧ mgmtDefined 3 = true) := by unfold Orders Requests; decide +kernel

/-- A WRITE or READ of a register: offset, mask and value. -/
def accessing (code off mask v : Nat) : State := requesting 0 code (if code = 1 then 24 else 8) (bytesLE 8 off ++ bytesLE 8 mask ++ bytesLE 8 v) live

theorem test_witness_register_requests :
    (∀ off ∈ [Reg.TIER_REGION_FAR 0, 4, Reg.FUNCTION_BINDING 1], let s := accessing 1 off 0x103 0x103
      Orders s 0 1 24 ∧ s.mgmtField 0 8 8 = off ∧ (offsetOk off = false ↔ off = 4))
    ∧ (regionOf (Reg.TIER_REGION_FAR 0) = .tierRegion ∧ (RegTable.find (Reg.TIER_REGION_FAR 0)).isSome = true)
    ∧ (let s := regs [(Reg.FUNCTION_BINDING 2, 0x103)] (accessing 1 (Reg.FUNCTION_BINDING 1) (2 ^ 64 - 1) 0x103)
      s.bindConflict 1 (s.maskedValue (s.mgmtField 0 8 8) (BitVec.ofNat 64 (s.mgmtField 0 16 8)) (BitVec.ofNat 64 (s.mgmtField 0 24 8))) = true)
    ∧ (∀ off ∈ [4, Reg.DEVICE_IDENTITY], let s := accessing 2 off 0 0
      Requests s 0 2 ∧ 8 ≤ s.mgmtField 0 2 2 ∧ s.mgmtField 0 8 8 = off ∧ (offsetOk off = true ↔ off = 0) ∧ s.arrayErrors off = [] ∧ s.mayMgmtRead 0 off = true)
    ∧ (let s := requesting 1 2 8 (bytesLE 8 Reg.SECURITY_DEBUG) (regs [(Reg.FUNCTION_BINDING 1, 0x103)] live)
      Requests s 1 2 ∧ 8 ≤ s.mgmtField 1 2 2 ∧ s.mayMgmtRead 1 (s.mgmtField 1 8 8) = false) := by unfold Orders Requests; decide +kernel

/-- A RETIRE of a unit in a state. -/
def retireOf (kind index sub : Nat) (s : State) : State := requesting 0 3 4 [BitVec.ofNat 8 kind, BitVec.ofNat 8 index, BitVec.ofNat 8 (index / 256), BitVec.ofNat 8 sub] s

theorem test_witness_retirements :
    (let s := retireOf 4 8 0 (unitIn 0 [logged] (groupIn 0 0 0 false));
      Orders s 0 3 4 ∧ retireTarget (s.mgmtField 0 8 1) (s.mgmtField 0 9 2) (s.mgmtField 0 11 1) = some (.updateUnit 8) ∧ s.retireRefused (.updateUnit 8) = true)
    ∧ (∀ st ∈ [0, 2, 3], let s := retireOf 1 5 6 (regs [(Reg.CORE_UNIT_STATUS 5, st), (Reg.DEVICE_RETIRE_CORES 0, if st = 3 then 32 else 0)] live)
      Orders s 0 3 4 ∧ retireTarget (s.mgmtField 0 8 1) (s.mgmtField 0 9 2) (s.mgmtField 0 11 1) = some (.core 5) ∧ s.retireRefused (.core 5) = false
        ∧ s.unitStateOf (.core 5) = st)
    ∧ (∀ k ∈ [(0, 0), (6, 7), (6, 8), (9, 0)], let s := retireOf k.1 k.2 0 live
      Orders s 0 3 4 ∧ retireTarget (s.mgmtField 0 8 1) (s.mgmtField 0 9 2) (s.mgmtField 0 11 1) = none ∧ s.fw.east = false
        ∧ s.mgmtField 0 8 1 = k.1 ∧ s.mgmtField 0 9 2 = k.2) := by unfold Orders Requests; decide +kernel

/-- The update is in a state; the image or nothing is staged; the flash holds it or nothing. -/
def updatingIn (state : Nat) (staged : List Byte) (s : State) : State :=
  let s1 := (s.setFld Reg.SECURITY_UPDATE_STATUS Fl.SECURITY_UPDATE_STATUS_STATE state).setCfg 0 { memSpace := true, busMaster := true }
  { s1 with fw := { s1.fw with staging := stagingOf staged, stagedLen := staged.length, flash := staged } }

theorem test_witness_fetches :
    (∀ st < 6, ∀ len ∈ [513, 16777216, 16777217], let s := requesting 0 0x0100 12 (bytesLE 8 0x1000 ++ bytesLE 4 len) (updatingIn st [] (regs [(Reg.ENDPOINT_STATUS 0, 2)] live))
      Orders s 0 0x0100 12 ∧ s.updateState = st ∧ s.mgmtField 0 16 4 = len ∧ s.canDma 0 = true ∧ s.dma = [])
    ∧ (requesting 0 0x0100 12 [] (updatingIn 0 [] live)).canDma 0 = false := by unfold Orders Requests; decide +kernel

theorem test_witness_staged_image (h : Config.keyHash = sha512 imageKey) : let s := updatingIn 1 image live
    s.updateState = 1 ∧ s.transferred = true ∧ s.fw.fetchFailed = false ∧ s.checkImage (s.stagedImage s.fw.stagedLen) (s.stagedImage s.fw.stagedLen).length = 0 := by
  intro s
  have hi : s.stagedImage s.fw.stagedLen = image := by
    rw [show s.fw.stagedLen = 513 by decide +kernel]; exact staged_image rfl
  refine ⟨by decide +kernel, by decide +kernel, by decide +kernel, ?_⟩
  rw [hi]
  exact image_accepted (s := s) (n := image.length) h (by decide +kernel) (by decide +kernel)

theorem test_witness_updates :
    (let s := updatingIn 1 [1] live;
      s.updateState = 1 ∧ s.transferred = true ∧ s.checkImage (s.stagedImage s.fw.stagedLen) (s.stagedImage s.fw.stagedLen).length ≠ 0 ∧ s.mem.upsets = [])
    ∧ (∀ st < 6, (updatingIn st [1] live).updateState = st
      ∧ ∀ c ∈ [(0x0101, 0), (0x0102, 8), (0x0103, 0)], Orders (requesting 0 c.1 c.2 [] (updatingIn st [1] live)) 0 c.1 c.2)
    ∧ (let s := { updatingIn 3 [1] live with fw := { (updatingIn 3 [1] live).fw with retries := 3 } }
      s.updateState = 3 ∧ s.fw.retries = 3)
    ∧ bootField live Fl.SECURITY_BOOT_STATUS_HOST_FED = 0 ∧ bootField (live.setFld Reg.SECURITY_BOOT_STATUS Fl.SECURITY_BOOT_STATUS_HOST_FED 1)
      Fl.SECURITY_BOOT_STATUS_HOST_FED = 1 := by unfold Orders Requests; decide +kernel

/-- Tambour is about to start, from the flash or from the copy of the running image. -/
def restarting (fromCopy : Bool) (flash running : List Byte) : State :=
  { live with fw := { live.fw with tambour := .starting, fromCopy := fromCopy, flash := flash, running := running } }

/-- The registers of the measurement hold that of the image. -/
def measured (s : State) : State :=
  regs ((List.range 8).map fun w => (Reg.SECURITY_MEASUREMENT w, natLE (((measurementOf image).drop (8 * w)).take 8))) s

theorem test_witness_starts :
    (restarting false [] []).fw.tambour = .starting ∧ (restarting false [] []).checkFlash true ≠ 0
    ∧ (restarting true [] []).fw.fromCopy = true ∧ (restarting true [] []).checkImage [] 0 ≠ 0
    ∧ measurementOf (measured (restarting true image [])).flashImage = (measured (restarting true image [])).measurement := by decide +kernel

theorem test_witness_good_starts (h : Config.keyHash = sha512 imageKey) :
    (restarting false image []).checkFlash true = 0 ∧ (restarting true [] image).checkImage image image.length = 0
    ∧ (measured (restarting true image [])).checkFlash true = 0 := by
  have h1 : (restarting false image []).flashImage = image := by decide +kernel
  have h2 : (measured (restarting true image [])).flashImage = image := by decide +kernel
  unfold State.checkFlash
  rw [h1, h2]
  exact ⟨image_accepted (s := restarting false image []) (n := 16777216) h (by decide +kernel) (by decide +kernel),
    image_accepted (s := restarting true [] image) (n := image.length) h (by decide +kernel) (by decide +kernel),
    image_accepted (s := measured (restarting true image [])) (n := 16777216) h (by decide +kernel) (by decide +kernel)⟩

/-- A nonce of zeros is outstanding; a signature over it, the serial number 0 and scope 5, computed outside Lean. -/
def nonced : State := { live with fw := { live.fw with nonce := some (List.replicate 64 0, 60) } }
def scopeSignature : List Byte := bytesBE 132
  0x008a75841259fdedff546f1a39573b4315cfed5dc7ed7c17849543ef2c54f2991652f3dbc5332663da1bd19b1aebe3191085015c024fa4c9a902ecc0e02dda0cdb9a016f6bd8256b29e2c0993ae460cdea81f39ae424d1c2af584193295c71819a71b54425eec78c1ba9a5001fca1316a66263b20f91952f49676da3b41d5197347c8316

theorem regs_fw (l : List (Nat × Nat)) (s : State) : (regs l s).fw = s.fw := by
  unfold regs
  induction l generalizing s with
  | nil => rfl
  | cons p l ih => rw [List.foldl_cons, ih]; rfl

theorem test_witness_scope (h : Config.debugKey = imageKey) :
    let s := requesting 0 0x0111 140 (bytesLE 8 5 ++ scopeSignature) nonced
    Orders s 0 0x0111 140 ∧ s.opensScope (s.mgmtField 0 8 8) (((s.mgmtRequest 0).drop 16).take 132) = true := by
  intro s
  refine ⟨by unfold Orders Requests; decide +kernel, ?_⟩
  have hv : p521Verifies imageKey (sha512 (List.replicate 64 0 ++ bytesLE 8 (s.rd Reg.DEVICE_SERIAL).toNat ++ bytesLE 8 (s.mgmtField 0 8 8)))
      (((s.mgmtRequest 0).drop 16).take 132) = true := by decide +kernel
  have hn : s.fw.nonce = some (List.replicate 64 0, 60) := by rw [show s.fw = nonced.fw from regs_fw _ _]; unfold nonced; rfl
  have hs : s.mgmtField 0 8 8 < 8 := by decide +kernel
  clear_value s
  unfold State.opensScope
  rw [hn]
  dsimp only
  rw [h, hv, decide_eq_true hs, Bool.and_self]

theorem test_witness_debug :
    (∀ l < 2, let s := requesting 0 0x0110 0 [] (live.setFld Reg.SECURITY_DEBUG Fl.SECURITY_DEBUG_LOCKED_OUT l)
      Orders s 0 0x0110 0 ∧ debugField s Fl.SECURITY_DEBUG_LOCKED_OUT = l)
    ∧ (let s := requesting 0 0x0111 140 (bytesLE 8 8 ++ scopeSignature) nonced;
      Orders s 0 0x0111 140 ∧ 8 ≤ s.mgmtField 0 8 8)
    ∧ Orders (requesting 0 0x0112 0 [] live) 0 0x0112 0 ∧ live.fw.nonce = none ∧ nonced.uptime < 60 ∧ 60 ≤ (regs [(Reg.SECURITY_UPTIME_NS, 60)] nonced).uptime
    ∧ (∀ w ∈ [0, 1], let s := { live with fw := { live.fw with windowEnd := some w } };
      s.fw.windowEnd = some w ∧ (s.stitch < w ↔ w = 1)) := by unfold Orders Requests; decide +kernel

/-! ### The sideband -/

/-- A machine whose binding 0 has its link, with the sideband of f. -/
def sided (f : SideState → SideState) : State :=
  let s := regs [(Reg.ENDPOINT_STATUS 0, 2)] live
  { s with side := f s.side }

/-- The firmware side of a state. -/
def withFw (f : FwState → FwState) (s : State) : State := { s with fw := f s.fw }

theorem test_witness_bindings :
    Serves (sided id) 0 ∧ Serves live 2 ∧ live.bindingUp 0 = false
    ∧ (let s := withFw (fun w => { w with tambour := .starting }) (sided id); s.bindingUp 0 = true ∧ s.tambourServes = false) := by
  unfold Serves; decide +kernel

/-- The negotiation of each step, before and at it; a certificate chain of four bytes. -/
theorem test_witness_spdm :
    (∀ k < 4, let s := withFw (fun w => { w with certs := [1, 2, 3, 4] }) (sided fun x => { x with spdm := [k, 0, 0] })
      Serves s 0 ∧ s.spdmAt 0 = k ∧ (2 : BitVec 16).toNat < s.fw.certs.length ∧ s.fw.certs.length ≤ (4 : BitVec 16).toNat) := by
  unfold Serves; decide +kernel

/-- A binding's update has come to step k for an image of n bytes, the first m of them staged; UPDATE_STATUS stands in a state. -/
def updatingOver (state k n m : Nat) : State :=
  withFw (fun w => { w with stagedLen := m }) ((sided fun x => { x with update := some (0, k), size := n }).setFld Reg.SECURITY_UPDATE_STATUS
    Fl.SECURITY_UPDATE_STATUS_STATE state)

theorem test_witness_pldm :
    (∀ st < 6, Serves (updatingOver st 0 0 0) 0 ∧ (updatingOver st 0 0 0).updateState = st)
    ∧ (∀ k < 5, let s := updatingOver 1 k 10 4
      Serves s 0 ∧ s.updateAt 0 = k ∧ min 4096 (s.side.size - s.fw.stagedLen) = 6 ∧ (∀ e ∈ s.mem.upsets, e.1 < stagedBase))
    ∧ (let s := updatingOver 1 3 5000 4; min 4096 (s.side.size - s.fw.stagedLen) = 4096 ∧ s.fw.stagedLen + 4096 ≠ s.side.size)
    ∧ 0 < (16777216 : W32).toNat ∧ (16777216 : W32).toNat ≤ 16777216 ∧ ¬(16777217 : W32).toNat ≤ 16777216 := by
  unfold Serves; decide +kernel

/-- Records stand in the CRITICAL and FAULT ribbons as the mask tells, and Tambour's read position is before them; the event receiver is set. -/
def recorded (critical fault : Nat) : State :=
  regs [(Reg.RIBBON_POINTERS 0, critical), (Reg.RIBBON_POINTERS 1, fault)] (sided fun x => { x with receiver := some (0, 9) })

theorem test_witness_platform_events :
    (∀ x ∈ [(0, 0), (0, 1), (1, 0), (1, 1)], let s := recorded x.1 x.2
      Serves s 0 ∧ s.recordReady 0 = (x.1 == 1) ∧ s.recordReady 1 = (x.2 == 1) ∧ s.side.receiver = some ((0 : Fin 3).val, 9))
    ∧ live.side.receiver = none
    ∧ (let s := withFw (fun w => { w with halted := true }) (recorded 1 0); ¬Serves s 0 ∧ s.side.receiver = some ((0 : Fin 3).val, 9)) := by
  unfold Serves; decide +kernel

theorem test_witness_i3c :
    (live.boot.powered = true ∧ 2 ≤ live.stage ∧ live.side.i3c = none ∧ (BitVec.ofNat 7 (0x60 + live.boot.strap)).toNat = 0x60 + live.boot.strap)
    ∧ (sided fun x => { x with i3c := some 9 }).side.i3c = some (9 : BitVec 7).toNat
    ∧ (∀ a < 2, (live.setFld Reg.EVENT_ALERT Fl.EVENT_ALERT_ASSERTED a).fld Reg.EVENT_ALERT Fl.EVENT_ALERT_ASSERTED = a)
    ∧ State.reset.boot.powered = false := by decide +kernel

/-! ### Register access and the event path -/

/-- Function 0 is bound to tenant 3 with its memory space open; a scope of the debug port is open. -/
def accessed (scope : Nat) (more : List (Nat × Nat)) : State :=
  (regs ([(Reg.FUNCTION_BINDING 0, 0x103), (Reg.CORE_OWNER 0, 0x103), (Reg.SECURITY_DEBUG, scope)] ++ more) live).setCfg 0 { memSpace := true }

/-- The region register of the first far region: RW fields in both halves. -/
def regionReg : Nat := Reg.TIER_REGION_FAR 0

theorem test_witness_plain_register : ∃ c, PlainReg regionReg c := by
  obtain ⟨c, hc⟩ := Option.isSome_iff_exists.mp (show (RegTable.find regionReg).isSome = true by decide +kernel)
  refine ⟨c, by decide +kernel, by decide +kernel, ?_, hc⟩
  rw [show regionOf regionReg = .tierRegion by decide +kernel]
  trivial

theorem test_witness_requesters :
    (accessed 0 []).reaches (.function 0) = true ∧ (accessed 0 []).reaches (.function 2) = false ∧ (accessed 0 []).reaches .debugPort = false
    ∧ (accessed 2 []).reaches .debugPort = true ∧ regionReg % 8 = 0 ∧ regionReg < bar2 ∧ (regionReg + 1) % 8 ≠ 0
    ∧ (accessed 0 []).mayWriteReg (.function 0) regionReg = false ∧ (accessed 0 []).mayWriteReg .tambour regionReg = true
    ∧ ((accessed 0 []).setFld Reg.SECURITY_BOOT_STATUS Fl.SECURITY_BOOT_STATUS_READY 0).tooEarly (.function 0) regionReg = true
    ∧ (accessed 0 []).tooEarly (.function 0) regionReg = false := by decide +kernel

theorem test_witness_halves :
    (accessed 0 []).latched .tambour regionReg = none ∧ highWritable regionReg = true ∧ highWritable (Reg.KNOT_WAIT_LIMIT 0) = false
    ∧ ({ accessed 0 [] with writeLatch := [(32, regionReg, 7)] } : State).latched .tambour regionReg = some 7
    ∧ requesterNum (.function 1) ≠ requesterNum .tambour := by decide +kernel

theorem test_witness_launch_words :
    (bar2 + 4096 * 127 + 8 * 127 < 2 ^ 27) ∧ (accessed 0 []).mayDoorbell (.function 0) ((accessed 0 []).coreTenant 0) = true
    ∧ (accessed 0 []).mayDoorbell (.function 0) ((accessed 0 []).coreTenant 127) = false := by decide +kernel

/-- The scopes of the debug port: none, the port, Tambour; and its read latch. -/
theorem test_witness_debug_port :
    (∀ k ∈ [0, 2, 4], (accessed k []).boot.powered = true ∧ (accessed k []).bit Reg.SECURITY_DEBUG 1 = (k == 2)
      ∧ (accessed k []).bit Reg.SECURITY_DEBUG 2 = (k == 4))
    ∧ (accessed 2 []).arrayErrors regionReg = [] ∧ (accessed 2 []).mayRead .debugPort regionReg = true ∧ (accessed 2 []).readLatch = []
    ∧ ({ accessed 2 [] with readLatch := [(33, regionReg, 5)] } : State).readLatch = [(33, regionReg, 5)]
    ∧ (accessed 2 []).mayWriteReg .debugPort regionReg = false ∧ (accessed 2 []).mayWriteReg .debugPort (Reg.TELLTALE_CONTROL 0) = true := by
  decide +kernel

/-- The flood of a ribbon. -/
def flooded (rb : Nat) (write : Nat) : State :=
  { accessed 0 [(Reg.RIBBON_POINTERS rb, write)] with floods := [⟨rb, some 4095, false, 3, 0⟩] }

theorem test_witness_acknowledgements :
    (∀ w ∈ [0, 4096], (accessed 0 [(Reg.RIBBON_POINTERS 1, w)]).occs = [] ∧ findFlood 1 (accessed 0 [(Reg.RIBBON_POINTERS 1, w)]).floods = none
      ∧ (accessed 0 [(Reg.RIBBON_POINTERS 1, w)]).fld (Reg.RIBBON_POINTERS 1) Fl.RIBBON_POINTERS_WRITE_PTR = w
      ∧ (accessed 0 [(Reg.RIBBON_POINTERS 1, w)]).fld (Reg.RIBBON_POINTERS 1) Fl.RIBBON_POINTERS_ACK_PTR = 0)
    ∧ (∀ rb < 4, (flooded rb 4096).occs = [] ∧ findFlood rb (flooded rb 4096).floods = some ⟨rb, some 4095, false, 3, 0⟩
      ∧ (flooded rb 4096).mayWrite .tambour (Reg.RIBBON_POINTERS rb) = true
      ∧ (∀ ack ∈ [66, 82], (4096 + 65536 - ack) % 65536 = if ack = 66 then 4030 else 4014)
      ∧ (flooded rb 4096).fld (Reg.RIBBON_POINTERS rb) Fl.RIBBON_POINTERS_WRITE_PTR = 4096) := by decide +kernel

theorem test_witness_sticky_bits :
    (∀ x < 34, (accessed 0 []).mayWrite .tambour (stickyReg x) = true) ∧ (accessed 0 []).mayWrite (.function 0) (stickyReg 0) = false
    ∧ (∀ a < 2, let s := (accessed 0 []).setFld Reg.EVENT_ALERT Fl.EVENT_ALERT_ASSERTED a; s.fld Reg.EVENT_ALERT Fl.EVENT_ALERT_ASSERTED = a)
    ∧ (accessed 0 []).occs = [] := by decide +kernel

/-- A fold entry that has folded n records since time 0. -/
def folded (n : Nat) (uptime : Nat) : State :=
  { accessed 0 [(Reg.SECURITY_UPTIME_NS, uptime)] with
    folds := [⟨1, 5, 9, none, n, ⟨5, 1, true, false, false, none, 9, 10, n, 3⟩, 0⟩] }

theorem test_witness_fold_windows :
    (∀ n < 2, ∀ e ∈ (folded n (10 ^ 9)).folds, e.opened + (folded n (10 ^ 9)).fld Reg.EVENT_CONTROL Fl.EVENT_CONTROL_COALESCE_WINDOW_US * 1000 ≤ (folded n (10 ^ 9)).uptime
      ∧ e.count = n ∧ e.latest.ribbon = 1 ∧ e.latest.tenant = none ∧ findFlood e.latest.ribbon (folded n (10 ^ 9)).floods = none
      ∧ (folded n (10 ^ 9)).unacked e.latest.ribbon < 4094)
    ∧ (folded 1 (10 ^ 9)).folds.length = 1
    ∧ (∀ e ∈ (folded 1 0).folds, ¬ e.opened + (folded 1 0).fld Reg.EVENT_CONTROL Fl.EVENT_CONTROL_COALESCE_WINDOW_US * 1000 ≤ (folded 1 0).uptime) := by
  decide +kernel

/-! ### The machine -/

theorem test_witness_steps :
    State.reset.pending = [] ∧ State.reset.dueMessage = none
    ∧ (live.setFld Reg.THERMAL_TRIP Fl.THERMAL_TRIP_LATCHED 1).clocked = false
    ∧ live.pending = [] ∧ live.dueMessage = none ∧ live.clocked = true ∧ live.tick.hold = none ∧ live.tick.due = none
    ∧ ({ live with side := { live.side with held := [.getVersion 2] } } : State).dueMessage = some (.getVersion 2) := by decide +kernel

/-- An idle step from reset. -/
theorem test_reset_idles : (match step State.reset with | .next t => t.uptime == 0 | _ => false) = true := by decide +kernel

/-- A command at the front of the queue of the machine right after reset: power comes good. -/
theorem test_first_command : (match step { State.reset with pending := [.powerGood] } with
    | .next t => t.boot.powered && t.pending.isEmpty | _ => false) = true := by decide +kernel

end Sys2Proof.Tests
end

section
/-! SUPPORT. What a write does to a field by its access code (R19), and what the start of a command leaves unchanged. -/

namespace Sys2Proof.Machine

/-! ### A write by the access codes (R19) -/

/-- The bits of a field that are written as 1 are cleared in it. -/
theorem Fld.read_and_not (f : Fld) (v w : Word) (h : f.lo + f.width ≤ 64) :
    f.read (w &&& ~~~(v &&& f.mask)) = f.read w &&& (2 ^ f.width - 1 - f.read v) := by
  apply Nat.eq_of_testBit_eq
  intro i
  rw [Nat.testBit_and, Nat.sub_sub, Nat.add_comm 1, Nat.testBit_two_pow_sub_succ (Fld.read_lt f v)]
  simp only [Fld.testBit_read, BitVec.getLsbD_and, BitVec.getLsbD_not, Fld.getLsbD_mask]
  by_cases c : i < f.width
  · simp [c, show f.lo + i < 64 by omega]
  · simp [c]

/-- The bits of a field that are written as 1 are set in it. -/
theorem Fld.read_or (f : Fld) (v w : Word) (h : f.lo + f.width ≤ 64) :
    f.read (w ||| (v &&& f.mask)) = f.read w ||| f.read v := by
  apply Nat.eq_of_testBit_eq
  intro i
  simp only [Nat.testBit_or, Fld.testBit_read, BitVec.getLsbD_or, BitVec.getLsbD_and, Fld.getLsbD_mask]
  by_cases c : i < f.width
  · simp [c, show f.lo + i < 64 by omega]
  · simp [c]

/-- The bits of a word outside a field are outside its mask. -/
theorem Fld.getLsbD_mask_outside (f : Fld) {i : Nat} (h : i < f.lo ∨ f.lo + f.width ≤ i) : f.mask.getLsbD i = false := by
  rw [Fld.getLsbD_mask]
  simp only [Bool.and_eq_false_iff, decide_eq_false_iff_not]
  omega

/-- A write of a field leaves the bits outside it. -/
theorem Fld.getLsbD_write_outside (f : Fld) (w : Word) (v : Nat) {i : Nat} (h : i < f.lo ∨ f.lo + f.width ≤ i) :
    (f.write w v).getLsbD i = w.getLsbD i := by
  rw [Fld.getLsbD_write, if_neg (by omega)]

section
variable (f : FieldSpec) (v w : Word)

theorem FieldSpec.put_rw (h : f.access = .rw) : f.put v w = f.fld.write w (f.fld.read v) := by simp only [FieldSpec.put, h]

theorem FieldSpec.put_ro (h : f.access = .ro) : f.put v w = w := by simp only [FieldSpec.put, h]

theorem FieldSpec.put_wo (h : f.access = .wo) : f.put v w = w := by simp only [FieldSpec.put, h]

theorem FieldSpec.put_sat (h : f.access = .sat) : f.put v w = if f.fld.read v = 0 then f.fld.write w 0 else w := by
  simp only [FieldSpec.put, h]

theorem FieldSpec.put_w1c (h : f.access = .w1c) : f.put v w = w &&& ~~~(v &&& f.fld.mask) := by simp only [FieldSpec.put, h]

theorem FieldSpec.put_w1s (h : f.access = .w1s) : f.put v w = w ||| (v &&& f.fld.mask) := by simp only [FieldSpec.put, h]

theorem FieldSpec.read_put_rw (hf : f.lo + f.width ≤ 64) (h : f.access = .rw) : f.fld.read (f.put v w) = f.fld.read v := by
  rw [f.put_rw v w h, Fld.read_write _ _ _ hf, Nat.mod_eq_of_lt (Fld.read_lt _ _)]

theorem FieldSpec.read_put_sat (hf : f.lo + f.width ≤ 64) (h : f.access = .sat) :
    f.fld.read (f.put v w) = if f.fld.read v = 0 then 0 else f.fld.read w := by
  rw [f.put_sat v w h]
  split
  · rw [Fld.read_write _ _ _ hf, Nat.zero_mod]
  · rfl

/-- A field's write leaves the other bits of its register, whatever its access code. -/
theorem FieldSpec.getLsbD_put_outside {i : Nat} (h : i < f.lo ∨ f.lo + f.width ≤ i) :
    (f.put v w).getLsbD i = w.getLsbD i := by
  have hmask : f.fld.mask.getLsbD i = false := f.fld.getLsbD_mask_outside h
  have hwrite : ∀ x, (f.fld.write w x).getLsbD i = w.getLsbD i := fun x => f.fld.getLsbD_write_outside w x h
  cases ha : f.access with
  | rw => rw [f.put_rw v w ha, hwrite]
  | ro => rw [f.put_ro v w ha]
  | wo => rw [f.put_wo v w ha]
  | sat =>
    rw [f.put_sat v w ha]
    split
    · exact hwrite 0
    · rfl
  | w1c =>
    rw [f.put_w1c v w ha, BitVec.getLsbD_and, BitVec.getLsbD_not, BitVec.getLsbD_and, hmask]
    by_cases hi : i < 64
    · simp [hi]
    · simp [BitVec.getLsbD_of_ge w i (not_lt.1 hi)]
  | w1s => rw [f.put_w1s v w ha, BitVec.getLsbD_or, BitVec.getLsbD_and, hmask, Bool.and_false, Bool.or_false]

/-- What a write does to a field, by its access code, and to the bits outside it (R19). -/
theorem FieldSpec.put_spec (hf : f.lo + f.width ≤ 64) :
    let after := f.fld.read (f.put v w)
    (f.access = .rw → after = f.fld.read v) ∧ (f.access = .ro → f.put v w = w) ∧ (f.access = .wo → f.put v w = w)
      ∧ (f.access = .sat → after = if f.fld.read v = 0 then 0 else f.fld.read w)
      ∧ (f.access = .w1c → after = f.fld.read w &&& (2 ^ f.width - 1 - f.fld.read v))
      ∧ (f.access = .w1s → after = f.fld.read w ||| f.fld.read v)
      ∧ ∀ i, (i < f.lo ∨ f.lo + f.width ≤ i) → (f.put v w).getLsbD i = w.getLsbD i := by
  refine ⟨f.read_put_rw v w hf, f.put_ro v w, f.put_wo v w, f.read_put_sat v w hf, fun h => ?_, fun h => ?_,
    fun i => f.getLsbD_put_outside v w⟩
  · rw [f.put_w1c v w h]
    exact f.fld.read_and_not v w hf
  · rw [f.put_w1s v w h]
    exact f.fld.read_or v w hf
end

/-! ### What the start of a command leaves of an access's conditions -/

section
variable (s : State) (who : Requester) (off : Nat)

@[simp] theorem State.begin_reaches : s.begin.reaches who = s.reaches who := by cases who <;> rfl
@[simp] theorem State.begin_tooEarly : s.begin.tooEarly who off = s.tooEarly who off := by cases who <;> rfl
@[simp] theorem State.begin_mayDoorbell (t : Option Nat) : s.begin.mayDoorbell who t = s.mayDoorbell who t := by
  cases who <;> rfl
@[simp] theorem State.begin_coreTenant (n : Nat) : s.begin.coreTenant n = s.coreTenant n := rfl
@[simp] theorem State.begin_latched : s.begin.latched who off = s.latched who off := rfl
@[simp] theorem State.begin_launch (n : Nat) : s.begin.launch n = s.launch n := rfl
end
end Sys2Proof.Machine
end

section
/-! SUPPORT. How a statement about a command follows from the state in which its meaning ends: frames of single parts. -/

namespace Sys2Proof.Machine

open Claims

/-- A command that ends in r does what the frame of r and the state after r's records say. -/
theorem does_of_finish {s r : State} {c : Instr} {parts : List Part} {offs : Nat → Prop} {post : State → Prop}
    (hc : exec c s = finish r) (hframe : Changes parts offs s r) (hpost : ∀ t, EventsOnly r t → post t) :
    Does s c parts offs post := by
  obtain ⟨t, ht, he, hch⟩ := hframe.finish
  exact ⟨t, hc.trans ht, hpost t he, hch⟩

theorem doesNothing_of_finish {s : State} {c : Instr} (hc : exec c s = finish s.begin) : DoesNothing s c :=
  does_of_finish hc (Changes.begin s) fun _ _ => trivial

/-- An output of the state in which a command's meaning ends is still there after the command's records. -/
theorem EventsOnly.mem_out {r t : State} (h : EventsOnly r t) {x : Out} (hx : x ∈ r.out) : x ∈ t.out := by
  obtain ⟨l, hl⟩ := h.out
  rw [hl]
  exact List.mem_append_left _ hx

theorem State.mem_emit_out (s : State) (x : Out) : x ∈ (s.emit x).out := List.mem_append_right _ (List.mem_singleton_self x)

end Sys2Proof.Machine

namespace Sys2Proof

open Machine Claims

/-! ### Frames of one part -/

section
variable (s : State)

/-- A frame of one part: every other part, the registers and the latent errors are the same. -/
theorem Changes.of_part {q : Part} {t : State} (hregs : t.regs = s.regs) (hmem : t.mem = s.mem)
    (hsame : ∀ p, p ≠ q → p.Same s t) : Changes [q] noReg s t :=
  ⟨fun p hp => hsame p (by simpa using hp), fun off _ _ => by unfold State.rd; rw [hregs], fun _ _ _ => by rw [hmem]⟩

theorem Changes.emit (x : Out) (parts : List Part) : Changes parts noReg s (s.emit x) :=
  (Changes.refl parts noReg s).events (EventsOnly.emit x)

theorem Changes.setWriteLatch (l : List (Nat × Nat × W32)) : Changes [.writeLatch] noReg s { s with writeLatch := l } :=
  Changes.of_part s rfl rfl fun p hp => by
    cases p with
    | writeLatch => exact absurd rfl hp
    | config => exact fun _ => rfl
    | _ => rfl

theorem Changes.setReadLatch (l : List (Nat × Nat × Word)) : Changes [.readLatch] noReg s { s with readLatch := l } :=
  Changes.of_part s rfl rfl fun p hp => by
    cases p with
    | readLatch => exact absurd rfl hp
    | config => exact fun _ => rfl
    | _ => rfl

theorem Changes.setFw (x : FwState) : Changes [.fw] noReg s { s with fw := x } :=
  Changes.of_part s rfl rfl fun p hp => by
    cases p with
    | fw => exact absurd rfl hp
    | config => exact fun _ => rfl
    | _ => rfl

theorem Changes.setFree (n : Nat) : Changes [.free] noReg s { s with free := n } :=
  Changes.of_part s rfl rfl fun p hp => by
    cases p with
    | free => exact absurd rfl hp
    | config => exact fun _ => rfl
    | _ => rfl

theorem Changes.setLaunch (n : Nat) (l : Launch) : Changes [.core] noReg s (s.setLaunch n l) :=
  Changes.of_part s rfl rfl fun p hp => by
    cases p with
    | core => exact absurd rfl hp
    | config => exact fun _ => rfl
    | _ => rfl

/-- One more count of a SAT counter. -/
theorem Changes.count (off : Nat) : Changes [] (· = off) s (s.count off) := by
  unfold State.count
  simp only
  split_ifs
  · exact Changes.refl _ _ s
  · exact Changes.setFld s off _ _

/-- What a command changes from its start on, it changes. -/
theorem Changes.of_begin {s r : State} {parts : List Part} {offs : Nat → Prop} (h : Changes parts offs s.begin r) :
    Changes parts offs s r :=
  ((Changes.begin s).mono (by simp) (fun _ => False.elim)).trans h

end

end Sys2Proof

namespace Sys2Proof.Machine

/-! ### Launch queues -/

@[simp] theorem State.launch_setLaunch_same (s : State) (n : Nat) (l : Launch) : (s.setLaunch n l).launch n = l :=
  Sparse.get_set_same _ _ _ _

theorem State.launch_setLaunch_ne (s : State) {n m : Nat} (l : Launch) (h : m ≠ n) : (s.setLaunch n l).launch m = s.launch m :=
  Sparse.get_set_ne _ _ _ _ h

end Sys2Proof.Machine
end

section
/-! SUPPORT. Writes of registers: plain registers, the write latch, the launch pages of BAR2, and what each access command ends
in (R94, R466 to R469). -/

namespace Sys2Proof.Machine

open Claims

/-! ### Plain registers -/

/-- The registers of record writing lie in the EVENT block (R463). -/
theorem regionOf_recordBlock {off : Nat} (h : RecordBlock off) :
    regionOf off = .event ∨ ∃ t, regionOf off = .eventTenant t := by
  have hblock : 0x400000 ≤ off ∧ off < 0x490000 := by unfold RecordBlock at h; omega
  unfold regionOf
  rw [if_neg (by omega), if_neg (by omega), if_neg (by omega), if_pos hblock]
  split
  · exact .inr ⟨_, rfl⟩
  · exact .inl rfl

theorem not_recordBlock_of_plainRegion {off : Nat} (h : PlainRegion (regionOf off)) : ¬RecordBlock off := by
  intro hrec
  obtain hr | ⟨t, hr⟩ := regionOf_recordBlock hrec <;> rw [hr] at h <;> exact h

section
variable (s : State) (who : Requester)

/-- A whole write in a block without rules of its own writes the fields by their access codes alone. -/
theorem State.writeRegister_of_plainRegion {off : Nat} (v : Word) (h : PlainRegion (regionOf off)) :
    s.writeRegister who off v = s.writePlain off v := by
  unfold State.writeRegister
  generalize regionOf off = r at h ⊢
  cases r with
  | device | bank | near | telltale | tierTenant | tierRegion | tier | endpoint | coreOwner | host | integrity => rfl
  | _ => exact h.elim

/-- The rule of R469 for a register of a plain block. -/
theorem State.writeWhole_plain {off : Nat} {c : RegClass} (v : Word) (h : PlainReg off c) (hw : s.mayWriteReg who off = true) :
    s.writeWhole who off v = s.wr off (putFields v c.fields (s.rd off)) := by
  obtain ⟨-, hlt, hplain, hfind⟩ := h
  rw [State.writeWhole, if_pos hlt, if_pos hw, State.writeRegister_of_plainRegion s who v hplain, State.writePlain, hfind]

/-- A write that its requester may not make changes nothing (R469). -/
theorem State.writeWhole_forbidden {off : Nat} (v : Word) (hlt : off < bar2) (hw : s.mayWriteReg who off = false) :
    s.writeWhole who off v = s := by
  rw [State.writeWhole, if_pos hlt, hw, if_neg Bool.false_ne_true]

/-- A command that ends in the plain write of a register writes its fields, and nothing else of the registers. -/
theorem writesPlain_of_finish {s r : State} {c : Instr} {parts : List Part} {off : Nat} {sp : RegClass} {v : Word}
    {post : State → Prop} (hp : PlainReg off sp) (hc : exec c s = finish (r.wr off (putFields v sp.fields (s.rd off))))
    (hr : Changes parts noReg s r) (hpost : ∀ t, EventsOnly (r.wr off (putFields v sp.fields (s.rd off))) t → post t) :
    WritesPlain s c parts off sp.fields v post := by
  have hframe : Changes parts (· = off) s (r.wr off (putFields v sp.fields (s.rd off))) :=
    (hr.mono (fun _ => id) fun _ => False.elim).trans ((Changes.wr r off _).mono (by simp) fun _ => id)
  refine does_of_finish hc hframe fun t ht => ⟨?_, hpost t ht⟩
  rw [ht.rd off (not_recordBlock_of_plainRegion hp.2.2.1), State.rd_wr_same]

/-! ### The write latch (R467) -/

/-- The latch reads from the list of latched halves alone. -/
theorem State.latched_congr {s t : State} (h : t.writeLatch = s.writeLatch) (who : Requester) (off : Nat) :
    t.latched who off = s.latched who off := by
  unfold State.latched
  rw [h]

theorem State.noLatch_clearLatch : NoLatch (s.clearLatch who) who := by
  intro off
  have hfind : (s.clearLatch who).writeLatch.find? (fun e => e.1 == requesterNum who) = none := by
    simp [State.clearLatch, List.find?_eq_none]
  unfold State.latched
  rw [hfind]

/-- The requester's latch stays empty through a command's writes of registers and its records. -/
theorem noLatch_of_writeLatch_eq {s t : State} {who : Requester} (h : t.writeLatch = (s.clearLatch who).writeLatch) :
    NoLatch t who := fun off => (State.latched_congr h who off).trans (s.noLatch_clearLatch who off)

theorem State.latched_writeLow_same (off : Nat) (v : W32) : (s.writeLow who off v).latched who off = some v := by
  have hfind : (s.writeLow who off v).writeLatch.find? (fun e => e.1 == requesterNum who) = some (requesterNum who, off, v) := by
    simp [State.writeLow, State.clearLatch, List.find?_append, List.find?_eq_none.2]
  unfold State.latched
  rw [hfind]
  exact if_pos rfl

theorem State.latched_writeLow_other {other : Requester} (off : Nat) (v : W32) (x : Nat)
    (h : requesterNum other ≠ requesterNum who) : (s.writeLow who off v).latched other x = s.latched other x := by
  have hfind : (s.writeLow who off v).writeLatch.find? (fun e => e.1 == requesterNum other)
      = s.writeLatch.find? (fun e => e.1 == requesterNum other) := by
    have hkeep : (fun e : Nat × Nat × W32 => decide ((e.1 != requesterNum who) = true ∧ (e.1 == requesterNum other) = true))
        = fun e => e.1 == requesterNum other := by
      funext e
      by_cases he : e.1 = requesterNum other
      · simp [he, h]
      · simp [he]
    have hnew : [(requesterNum who, off, v)].find? (fun e => e.1 == requesterNum other) = none := by simp [h.symm]
    rw [State.writeLow, List.find?_append, hnew, Option.or_none, State.clearLatch, List.find?_filter, hkeep]
  unfold State.latched
  rw [hfind]

/-! ### The write of a high half (R467) -/

/-- Latent errors that stand as they stood are not touched. -/
theorem State.keepErrors_same (lo n : Nat) : s.keepErrors lo n (s.errorsIn lo n) = s := if_pos rfl

section
variable {off : Nat} (v : W32)

theorem State.writeHigh_latched {c : RegClass} {low : W32} (h : PlainReg off c) (hl : s.latched who off = some low)
    (hw : s.mayWriteReg who off = true) :
    s.writeHigh who off v = (s.clearLatch who).wr off (putFields (v ++ low) c.fields (s.rd off)) := by
  unfold State.writeHigh
  rw [hl]
  exact State.writeWhole_plain (s.clearLatch who) who (v ++ low) h hw

/-- The fields of a register of BAR0 are those of its row. -/
theorem fieldsAt_of_find {off : Nat} {c : RegClass} (hlt : off < bar2) (h : RegTable.find off = some c) :
    fieldsAt off = c.fields := by
  rw [fieldsAt, if_pos hlt, h]

/-- With an empty latch the low half's RW fields and counters keep their values. -/
theorem State.writeHigh_kept {c : RegClass} (h : PlainReg off c) (hl : s.latched who off = none)
    (hh : highWritable off = true) (hw : s.mayWriteReg who off = true) :
    s.writeHigh who off v = (s.clearLatch who).wr off
      (putFields (v ++ (s.rd off &&& maskOf FieldSpec.keepMask c.fields).setWidth 32) c.fields (s.rd off)) := by
  have hheld : s.heldAt off = s.rd off := if_pos h.2.1
  unfold State.writeHigh
  rw [hl]
  simp only [if_pos hh, fieldsAt_of_find h.2.1 h.2.2.2, hheld]
  rw [State.writeWhole_plain (s.clearLatch who) who _ h hw]
  exact State.keepErrors_same _ off 4

/-- With an empty latch a high half that no write acts on is dropped. -/
theorem State.writeHigh_unwritable (hl : s.latched who off = none) (hh : highWritable off = false) :
    s.writeHigh who off v = s.clearLatch who := by
  unfold State.writeHigh
  rw [hl]
  simp only [hh, Bool.false_eq_true, if_false]

theorem State.writeHigh_forbidden (hlt : off < bar2) (hw : s.mayWriteReg who off = false) :
    s.writeHigh who off v = s.clearLatch who := by
  have hwhole : ∀ x, (s.clearLatch who).writeWhole who off x = s.clearLatch who := fun x =>
    State.writeWhole_forbidden (s.clearLatch who) who x hlt hw
  unfold State.writeHigh
  cases s.latched who off with
  | some low => exact hwhole _
  | none =>
    simp only [hwhole]
    split
    · exact State.keepErrors_same (s.clearLatch who) off 4
    · rfl
end

/-! ### The launch pages of BAR2 (R94) -/

theorem State.writeWhole_launchPage (n k : Fin 128) (v : Word) :
    s.writeWhole who (bar2 + 4096 * n.val + 8 * k.val) v = s.writeLaunchPage who n.val (8 * k.val) v := by
  have hpage : (bar2 + 4096 * n.val + 8 * k.val - bar2) / 4096 = n.val := by omega
  have hoff : (bar2 + 4096 * n.val + 8 * k.val) % 4096 = 8 * k.val := by unfold bar2; omega
  rw [State.writeWhole, if_neg (by omega), hpage, hoff, State.writePage, if_pos n.isLt]

theorem State.writeLaunchPage_forbidden {n : Nat} (r : Nat) (v : Word) (h : s.mayDoorbell who (s.coreTenant n) = false) :
    s.writeLaunchPage who n r v = s := if_pos h

/-- The descriptor words of a launch page are its first 128. -/
theorem State.writeLaunchPage_word {n : Nat} (k : Fin 128) (v : Word) (h : s.mayDoorbell who (s.coreTenant n) = true) :
    s.writeLaunchPage who n (8 * k.val) v
      = s.setLaunch n { s.launch n with words := (s.launch n).words.set k.val v } := by
  rw [State.writeLaunchPage, if_neg (by simp [h]), if_pos (by omega), Nat.mul_div_cancel_left _ (by decide)]
end

/-! ### What the access commands end in (R466) -/

section
variable {s : State} {who : Requester} {o : BitVec 27}

theorem exec_registerWrite_unreached (high : Bool) (v : Word) (h : s.reaches who = false) :
    exec (.registerWrite who o high v) s = finish s.begin :=
  congrArg finish (if_pos (s.begin_reaches who ▸ h))

theorem exec_registerWrite_misaligned (high : Bool) (v : Word) (h : s.reaches who = true) (ho : o.toNat % 8 ≠ 0) :
    exec (.registerWrite who o high v) s = finish s.begin.accessError :=
  congrArg finish (by rw [State.begin_reaches, if_neg (by simp [h]), if_pos ho])

theorem exec_registerWrite_whole (v : Word) (h : s.reaches who = true) (ho : o.toNat % 8 = 0) :
    exec (.registerWrite who o false v) s = finish (s.begin.writeWhole who o.toNat v) :=
  congrArg finish (by rw [State.begin_reaches, if_neg (by simp [h]), if_neg (not_not.2 ho), if_neg Bool.false_ne_true])

theorem exec_registerWrite_high (v : Word) (h : s.reaches who = true) (ho : o.toNat % 8 = 0) :
    exec (.registerWrite who o true v) s = finish (s.begin.writeHigh who o.toNat (v.setWidth 32)) :=
  congrArg finish (by rw [State.begin_reaches, if_neg (by simp [h]), if_neg (not_not.2 ho), if_pos rfl])

theorem exec_lowHalfWrite_dropped (v : W32) (h : s.reaches who = false ∨ s.tooEarly who o.toNat = true) :
    exec (.lowHalfWrite who o v) s = finish s.begin :=
  congrArg finish (by rw [State.begin_reaches, State.begin_tooEarly, if_pos h])

theorem exec_lowHalfWrite_misaligned (v : W32) (h : s.reaches who = true) (he : s.tooEarly who o.toNat = false)
    (ho : o.toNat % 8 ≠ 0) : exec (.lowHalfWrite who o v) s = finish s.begin.accessError :=
  congrArg finish (by rw [State.begin_reaches, State.begin_tooEarly, if_neg (by simp [h, he]), if_pos ho])

theorem exec_lowHalfWrite_aligned (v : W32) (h : s.reaches who = true) (he : s.tooEarly who o.toNat = false)
    (ho : o.toNat % 8 = 0) : exec (.lowHalfWrite who o v) s = finish (s.begin.writeLow who o.toNat v) :=
  congrArg finish (by rw [State.begin_reaches, State.begin_tooEarly, if_neg (by simp [h, he]), if_neg (not_not.2 ho)])

theorem exec_accessError_unreached (r : Option (Fin 4097)) (h : s.reaches who = false) :
    exec (.accessError who r) s = finish s.begin :=
  congrArg finish (if_pos (s.begin_reaches who ▸ h))

/-- A read of a function is answered with zeros besides being counted (R466). -/
theorem exec_accessError_read (f : Fin 32) (n : Fin 4097) (h : s.reaches (.function f) = true) :
    exec (.accessError (.function f) (some n)) s
      = finish (s.begin.accessError.emit (.completion f (List.replicate n.val 0) false)) :=
  congrArg finish (by rw [State.begin_reaches, if_neg (by simp [h])])

/-- An access error is counted, whoever makes it. -/
theorem exec_accessError_reached (r : Option (Fin 4097)) (h : s.reaches who = true) :
    ∃ t, exec (.accessError who r) s = finish t ∧ EventsOnly s.begin.accessError t := by
  have hreach : ¬s.begin.reaches who = false := by rw [State.begin_reaches, h]; decide
  have hcounts : ∀ c : Instr, exec c s = finish s.begin.accessError →
      ∃ t, exec c s = finish t ∧ EventsOnly s.begin.accessError t := fun _ hc => ⟨_, hc, EventsOnly.refl _⟩
  cases who with
  | function f =>
    cases r with
    | some n => exact ⟨_, exec_accessError_read f n h, EventsOnly.emit _⟩
    | none => exact hcounts _ (congrArg finish (if_neg hreach))
  | tambour => exact hcounts _ (congrArg finish (if_neg hreach))
  | debugPort => exact hcounts _ (congrArg finish (if_neg hreach))
end

end Sys2Proof.Machine
end

section
/-! SUPPORT. The debug port (R444, R484): what its requests end in, with and without its scopes. -/

namespace Sys2Proof

/-- The register that a request on the debug port accesses; none for a request to Tambour. -/
def DebugRequest.register : DebugRequest → Option Nat
  | .read off | .readLow off | .readHigh off | .write off _ | .writeLow off _ | .writeHigh off _ => some off
  | .halt | .resume | .step | .inspect => none

theorem DebugRequest.register_eq_none (r : DebugRequest) :
    r.register = none ↔ r = .halt ∨ r = .resume ∨ r = .step ∨ r = .inspect := by
  cases r <;> simp [DebugRequest.register]

end Sys2Proof

namespace Sys2Proof.Machine

open Claims

/-- The debug port serves a scope: the module has power and the scope's bit of SECURITY.DEBUG is set (R444). -/
def State.scopeOpen (s : State) (scope : Nat) : Prop := s.boot.powered = true ∧ s.bit Reg.SECURITY_DEBUG scope = true

/-! ### Requests -/

section
variable {s : State} {r : DebugRequest}

theorem exec_debugPort_unpowered (r : DebugRequest) (h : s.boot.powered = false) :
    exec (.debugPortAccess r) s = finish s.begin := congrArg finish (if_pos h)

/-- With the scope PORT a request for a register accesses the register space. -/
theorem exec_debugPort_register {x : Nat} (hr : r.register = some x) (h : s.scopeOpen 1) :
    exec (.debugPortAccess r) s = finish (s.begin.debugAccess x r) := by
  obtain ⟨hpow, hbit⟩ := h
  refine congrArg finish ((if_neg (by simp [hpow])).trans ?_)
  cases r with
  | halt | resume | step | inspect => cases hr
  | _ => cases hr; exact if_pos hbit

theorem exec_debugPort_register_closed (hr : r.register ≠ none) (h : ¬s.scopeOpen 1) :
    exec (.debugPortAccess r) s = finish s.begin := by
  by_cases hpow : s.boot.powered = true
  · have hbit : ¬s.bit Reg.SECURITY_DEBUG 1 = true := fun hb => h ⟨hpow, hb⟩
    refine congrArg finish ((if_neg (by simp [hpow])).trans ?_)
    cases r with
    | halt | resume | step | inspect => exact absurd rfl hr
    | _ => exact if_neg hbit
  · exact exec_debugPort_unpowered r (Bool.not_eq_true _ ▸ hpow)

/-- With the scope TAMBOUR a request to Tambour reaches it. -/
theorem exec_debugPort_tambour (hr : r.register = none) (h : s.scopeOpen 2) :
    exec (.debugPortAccess r) s = finish (s.begin.debugTambour r) := by
  obtain ⟨hpow, hbit⟩ := h
  refine congrArg finish ((if_neg (by simp [hpow])).trans ?_)
  cases r with
  | halt | resume | step | inspect => exact if_pos hbit
  | _ => cases hr

theorem exec_debugPort_tambour_closed (hr : r.register = none) (h : ¬s.scopeOpen 2) :
    exec (.debugPortAccess r) s = finish s.begin := by
  by_cases hpow : s.boot.powered = true
  · have hbit : ¬s.bit Reg.SECURITY_DEBUG 2 = true := fun hb => h ⟨hpow, hb⟩
    refine congrArg finish ((if_neg (by simp [hpow])).trans ?_)
    cases r with
    | halt | resume | step | inspect => exact if_neg hbit
    | _ => cases hr
  · exact exec_debugPort_unpowered r (Bool.not_eq_true _ ▸ hpow)
end

/-! ### Reads of registers without latent errors -/

section
variable (s : State) (x : Nat)

/-- What the debug port reads of a register: zero where it may not read it. -/
def State.portValue (s : State) (x : Nat) : Word := if s.mayRead .debugPort x then s.readValue x else 0

theorem State.toNat_portValue :
    (s.portValue x).toNat = if s.mayRead .debugPort x then (s.readValue x).toNat else 0 := by
  unfold State.portValue
  split <;> rfl

/-- What a register reads as follows from the register file. -/
theorem State.readValue_congr {s t : State} (h : ∀ off, t.rd off = s.rd off) (x : Nat) : t.readValue x = s.readValue x := by
  have hrd : t.rd = s.rd := funext h
  have hab : t.regionAbsent = s.regionAbsent := by
    funext r
    cases r <;> simp only [State.regionAbsent, State.coreAbsent, State.clusterAbsent, State.portAbsent, State.updateUnitAbsent,
      State.tierQueueAbsent, State.collectiveAbsent, State.bit, State.fld, hrd]
  have hgroup : t.groupTenant = s.groupTenant := by
    funext g
    unfold State.groupTenant State.ownerOf State.bit State.fld
    rw [hrd]
  unfold State.readValue
  rw [hrd, hab, hgroup]

theorem State.portValue_congr {s t : State} (h : ∀ off, t.rd off = s.rd off) (x : Nat) : t.portValue x = s.portValue x := by
  have hmay : t.mayRead .debugPort x = s.mayRead .debugPort x := by simp only [State.mayRead, State.bit, h]
  unfold State.portValue
  rw [hmay, State.readValue_congr h]

theorem State.debugRead_sound (h : s.arrayErrors x = []) : s.debugRead x = (s, s.portValue x) := by
  have hread : s.readArrays none [x] = (s, false) := s.readArrays_sound fun off ho => by rw [List.mem_singleton.1 ho, h]
  unfold State.debugRead State.readRegister State.portValue
  rw [hread]
  split <;> rfl

/-- The start of a command and the read latch leave what the port reads. -/
theorem State.debugRead_latchRead_begin (l : Option (Nat × Word)) (h : s.arrayErrors x = []) :
    (s.begin.latchRead l).debugRead x = (s.begin.latchRead l, s.portValue x) := by
  rw [State.debugRead_sound (s.begin.latchRead l) x h, State.portValue_congr (s := s) (t := s.begin.latchRead l) fun _ => rfl]

theorem State.debugRead_begin (h : s.arrayErrors x = []) : s.begin.debugRead x = (s.begin, s.portValue x) := by
  rw [State.debugRead_sound s.begin x h, State.portValue_congr (s := s) (t := s.begin) fun _ => rfl]

section
variable {s x} (hx : x % 8 = 0)
include hx

theorem State.debugAccess_read (h : s.arrayErrors x = []) :
    s.begin.debugAccess x (.read x) = (s.begin.latchRead none).emit (.debugPort (s.portValue x).toNat) := by
  rw [State.debugAccess, if_neg (not_not.2 hx)]
  simp only [s.debugRead_latchRead_begin x none h]

theorem State.debugAccess_readLow (h : s.arrayErrors x = []) :
    s.begin.debugAccess x (.readLow x)
      = (s.begin.latchRead (some (x, s.portValue x))).emit (.debugPort ((s.portValue x).toNat % 2 ^ 32)) := by
  rw [State.debugAccess, if_neg (not_not.2 hx)]
  simp only [s.debugRead_begin x h]

/-- The high half of the register that the port's latch holds comes from the latch (R467). -/
theorem State.debugAccess_readHigh_latched {w : Word} (hl : s.readLatch = [(33, x, w)]) :
    s.begin.debugAccess x (.readHigh x) = (s.begin.latchRead none).emit (.debugPort (w.toNat / 2 ^ 32)) := by
  rw [State.debugAccess, if_neg (not_not.2 hx)]
  simp [hl]

theorem State.debugAccess_readHigh_fresh (hl : ∀ e ∈ s.readLatch, e.2.1 ≠ x) (h : s.arrayErrors x = []) :
    s.begin.debugAccess x (.readHigh x)
      = (s.begin.latchRead none).emit (.debugPort ((s.portValue x).toNat / 2 ^ 32)) := by
  have hany : s.begin.readLatch.any (fun e => e.2.1 == x) = false := by simpa using hl
  rw [State.debugAccess, if_neg (not_not.2 hx)]
  simp only [hany, s.debugRead_latchRead_begin x none h, Bool.false_eq_true, if_false]

theorem State.debugAccess_write (v : Word) : s.debugAccess x (.write x v) = s.writeWhole .debugPort x v := if_neg (not_not.2 hx)
end
end

theorem State.debugAccess_misaligned (s : State) {x : Nat} (r : DebugRequest) (hx : x % 8 ≠ 0) :
    s.debugAccess x r = s.accessError := if_pos hx

/-- A read by the port shifts out a value and leaves its read latch as it says. -/
theorem does_debugPort_read {s : State} {r : DebugRequest} {x value : Nat} {l : Option (Nat × Word)} (hr : r.register = some x)
    (h : s.scopeOpen 1) (ha : s.begin.debugAccess x r = (s.begin.latchRead l).emit (.debugPort value)) :
    Does s (.debugPortAccess r) [.readLatch] noReg fun t =>
      Out.debugPort value ∈ t.out ∧ t.readLatch = (s.latchRead l).readLatch := by
  have hc := exec_debugPort_register hr h
  rw [ha] at hc
  refine does_of_finish hc ?_ fun t ht => ⟨ht.mem_out (State.mem_emit_out _ _), ht.readLatch⟩
  exact ((Changes.setReadLatch s.begin _).of_begin).trans (Changes.emit _ _ _)

end Sys2Proof.Machine
end

section
/-! Register access (R19, R20, R94, R413, R444, R466 to R469): the parts of the statement, and the statement. -/

namespace Sys2Proof.Machine

open Claims

/-- An access of a wrong width or alignment is counted in ACCESS_ERROR, and nothing else of the registers changes (R466). -/
theorem does_accessError {s r : State} {c : Instr} (hc : exec c s = finish r) (hr : EventsOnly s.begin.accessError r) :
    Does s c [] (fun x => x = Reg.DEVICE_ACCESS_ERROR) fun t =>
      t.fld Reg.DEVICE_ACCESS_ERROR Fl.DEVICE_ACCESS_ERROR_COUNT
        = satNext (s.fld Reg.DEVICE_ACCESS_ERROR Fl.DEVICE_ACCESS_ERROR_COUNT) := by
  have hout : ¬RecordBlock Reg.DEVICE_ACCESS_ERROR := by unfold RecordBlock Reg.DEVICE_ACCESS_ERROR; omega
  refine does_of_finish hc ((Changes.count s.begin _).of_begin.events hr) fun t ht => ?_
  exact ((hr.trans ht).fld hout _).trans (State.fld_count_same s.begin _)

section
variable {s : State} {who : Requester} {o : BitVec 27}

/-- A low half is latched for its requester, and no other requester's latch differs (R467). -/
theorem does_lowHalfWrite (v : W32) (h : s.reaches who = true) (he : s.tooEarly who o.toNat = false) (ho : o.toNat % 8 = 0) :
    Does s (.lowHalfWrite who o v) [.writeLatch] noReg fun t =>
      t.latched who o.toNat = some v
        ∧ ∀ other, requesterNum other ≠ requesterNum who → ∀ x, t.latched other x = s.latched other x := by
  have hframe : Changes [.writeLatch] noReg s (s.begin.writeLow who o.toNat v) := (Changes.setWriteLatch s.begin _).of_begin
  refine does_of_finish (exec_lowHalfWrite_aligned v h he ho) hframe fun t ht => ⟨?_, fun other hother x => ?_⟩
  · rw [State.latched_congr ht.writeLatch, State.latched_writeLow_same]
  · rw [State.latched_congr ht.writeLatch, State.latched_writeLow_other _ _ _ _ _ hother, State.begin_latched]

/-- The frame of a command that empties the requester's latch. -/
theorem changes_begin_clearLatch (s : State) (who : Requester) : Changes [.writeLatch] noReg s (s.begin.clearLatch who) :=
  (Changes.setWriteLatch s.begin _).of_begin

/-- A high half that is dropped empties the requester's latch and changes nothing else. -/
theorem does_highHalf_dropped {v : Word} (hc : exec (.registerWrite who o true v) s = finish (s.begin.clearLatch who)) :
    Does s (.registerWrite who o true v) [.writeLatch] noReg fun t => NoLatch t who :=
  does_of_finish hc (changes_begin_clearLatch s who) fun _ ht => noLatch_of_writeLatch_eq ht.writeLatch

/-- A high half completes the write of a plain register with the low half low, and empties the requester's latch. -/
theorem writesPlain_highHalf {v x : Word} {c : RegClass} (hp : PlainReg o.toNat c)
    (hc : exec (.registerWrite who o true v) s
      = finish ((s.begin.clearLatch who).wr o.toNat (putFields x c.fields (s.rd o.toNat)))) :
    WritesPlain s (.registerWrite who o true v) [.writeLatch] o.toNat c.fields x fun t => NoLatch t who :=
  writesPlain_of_finish hp hc (changes_begin_clearLatch s who) fun _ ht => noLatch_of_writeLatch_eq ht.writeLatch

/-- The launch queues read from the cores' state alone. -/
theorem State.launch_congr {t : State} (h : t.core = s.core) (n : Nat) : t.launch n = s.launch n := by
  unfold State.launch
  rw [h]

/-- A command that writes one launch queue leaves the others. -/
theorem does_setLaunch {c : Instr} {n : Nat} {l : Launch} (hc : exec c s = finish (s.begin.setLaunch n l)) :
    Does s c [.core] noReg fun t =>
      t.launch n = l ∧ t.core = { s.core with launches := t.core.launches } ∧ ∀ m : Nat, m ≠ n → t.launch m = s.launch m := by
  refine does_of_finish hc (Changes.setLaunch s.begin _ _).of_begin fun t ht => ⟨?_, ?_, fun m hm => ?_⟩
  · rw [State.launch_congr ht.core, State.launch_setLaunch_same]
  · rw [ht.core]; rfl
  · rw [State.launch_congr ht.core, State.launch_setLaunch_ne _ _ hm, State.begin_launch]

/-- The write of a descriptor word into a launch page changes that word alone (R94). -/
theorem does_launchWord {n k : Fin 128} {v : Word} (hoff : o.toNat = bar2 + 4096 * n.val + 8 * k.val)
    (h : s.reaches who = true) (hmay : s.mayDoorbell who (s.coreTenant n) = true) :
    Does s (.registerWrite who o false v) [.core] noReg fun t =>
      t.launch n = { s.launch n with words := (s.launch n).words.set k v }
        ∧ t.core = { s.core with launches := t.core.launches } ∧ ∀ m : Nat, m ≠ n.val → t.launch m = s.launch m := by
  have ho : o.toNat % 8 = 0 := by unfold bar2 at hoff; omega
  have hc := exec_registerWrite_whole v h ho
  rw [hoff, State.writeWhole_launchPage, State.writeLaunchPage_word s.begin who k v (by simpa using hmay)] at hc
  exact does_setLaunch hc

theorem does_launchWord_forbidden {n k : Fin 128} {v : Word} (hoff : o.toNat = bar2 + 4096 * n.val + 8 * k.val)
    (h : s.reaches who = true) (hmay : s.mayDoorbell who (s.coreTenant n) = false) :
    DoesNothing s (.registerWrite who o false v) := by
  have ho : o.toNat % 8 = 0 := by unfold bar2 at hoff; omega
  have hc := exec_registerWrite_whole v h ho
  rw [hoff, State.writeWhole_launchPage, State.writeLaunchPage_forbidden s.begin who _ v (by simpa using hmay)] at hc
  exact doesNothing_of_finish hc
end


/-! ### The statement -/

section
variable {s : State} {who : Requester} {o : BitVec 27}

/-- The write of a high half into a plain register (R467): with the latched low half, with the low half's kept fields, or with
no effect but the emptied latch. -/
theorem registerWrite_highHalf (v : Word) {c : RegClass} (h : s.reaches who = true) (hp : PlainReg o.toNat c) :
    let w := Instr.registerWrite who o true v
    let kept := (s.rd o.toNat &&& maskOf FieldSpec.keepMask c.fields).setWidth 32
    (∀ low, s.latched who o.toNat = some low → s.mayWriteReg who o.toNat = true →
      WritesPlain s w [.writeLatch] o.toNat c.fields ((v.setWidth 32 : W32) ++ low) fun t => NoLatch t who)
    ∧ (s.latched who o.toNat = none → highWritable o.toNat = true → s.mayWriteReg who o.toNat = true →
      WritesPlain s w [.writeLatch] o.toNat c.fields ((v.setWidth 32 : W32) ++ kept) fun t => NoLatch t who)
    ∧ (s.latched who o.toNat = none → highWritable o.toNat = false → Does s w [.writeLatch] noReg fun t => NoLatch t who)
    ∧ (s.mayWriteReg who o.toNat = false → Does s w [.writeLatch] noReg fun t => NoLatch t who) := by
  have hc := exec_registerWrite_high v h hp.1
  refine ⟨fun low hl hw => ?_, fun hl hh hw => ?_, fun hl hh => ?_, fun hw => ?_⟩
  · rw [s.begin.writeHigh_latched who _ hp hl hw] at hc
    exact writesPlain_highHalf hp hc
  · rw [s.begin.writeHigh_kept who _ hp hl hh hw] at hc
    exact writesPlain_highHalf hp hc
  · rw [s.begin.writeHigh_unwritable who _ hl hh] at hc
    exact does_highHalf_dropped hc
  · rw [s.begin.writeHigh_forbidden who _ hp.2.1 hw] at hc
    exact does_highHalf_dropped hc

/-- The write of a whole register of BAR0 (R466, R469). -/
theorem registerWrite_whole (v : Word) (h : s.reaches who = true) (ho : o.toNat % 8 = 0) (hlt : o.toNat < bar2) :
    (s.mayWriteReg who o.toNat = false → DoesNothing s (.registerWrite who o false v))
    ∧ (∀ c, PlainReg o.toNat c → s.mayWriteReg who o.toNat = true →
      WritesPlain s (.registerWrite who o false v) [] o.toNat c.fields v fun _ => True) := by
  have hc := exec_registerWrite_whole v h ho
  refine ⟨fun hw => ?_, fun c hp hw => ?_⟩
  · rw [s.begin.writeWhole_forbidden who v hlt hw] at hc
    exact doesNothing_of_finish hc
  · rw [s.begin.writeWhole_plain who v hp hw] at hc
    exact writesPlain_of_finish hp hc (Changes.begin s) fun _ _ => trivial
end

section
variable {s : State} {r : DebugRequest}

/-- Requests of the debug port to Tambour (R444). -/
theorem debugPort_tambour (h : s.scopeOpen 2) :
    (r = .halt → Does s (.debugPortAccess r) [.fw] noReg fun t => t.fw = { s.fw with halted := true })
    ∧ (r = .resume → Does s (.debugPortAccess r) [.fw] noReg fun t => t.fw = { s.fw with halted := false })
    ∧ (r = .step → DoesNothing s (.debugPortAccess r))
    ∧ (r = .inspect → Does s (.debugPortAccess r) [.free] noReg fun t => ∃ x, Out.debugPort x ∈ t.out) := by
  refine ⟨?_, ?_, ?_, ?_⟩ <;> rintro rfl
  · exact does_of_finish (exec_debugPort_tambour rfl h) (Changes.setFw s.begin _).of_begin fun t ht => ht.fw
  · exact does_of_finish (exec_debugPort_tambour rfl h) (Changes.setFw s.begin _).of_begin fun t ht => ht.fw
  · exact doesNothing_of_finish (exec_debugPort_tambour rfl h)
  · refine does_of_finish (exec_debugPort_tambour rfl h) ?_ fun t ht => ⟨_, ht.mem_out (State.mem_emit_out _ _)⟩
    exact (Changes.setFree s.begin _).of_begin.trans (Changes.emit _ _ _)

/-- A misaligned access through the debug port is counted (R466). -/
theorem debugPort_misaligned {x : Nat} (h : s.scopeOpen 1) (hx : x % 8 ≠ 0) (hr : r.register = some x) :
    Does s (.debugPortAccess r) [] (fun x => x = Reg.DEVICE_ACCESS_ERROR) fun t =>
      t.fld Reg.DEVICE_ACCESS_ERROR Fl.DEVICE_ACCESS_ERROR_COUNT
        = satNext (s.fld Reg.DEVICE_ACCESS_ERROR Fl.DEVICE_ACCESS_ERROR_COUNT) := by
  have hc := exec_debugPort_register hr h
  rw [State.debugAccess_misaligned _ r hx] at hc
  exact does_accessError hc (EventsOnly.refl _)

/-- The reads of a register without latent errors through the debug port, and its read latch (R467). -/
theorem debugPort_reads {x : Nat} (h : s.scopeOpen 1) (hx : x % 8 = 0) (hs : s.arrayErrors x = []) :
    let c := Instr.debugPortAccess r
    let value := if s.mayRead .debugPort x then (s.readValue x).toNat else 0
    (r = .read x → Does s c [.readLatch] noReg fun t => Out.debugPort value ∈ t.out ∧ t.readLatch = [])
    ∧ (r = .readLow x → Does s c [.readLatch] noReg fun t => Out.debugPort (value % 2 ^ 32) ∈ t.out
        ∧ t.readLatch = [(33, x, BitVec.ofNat 64 value)])
    ∧ (∀ w, r = .readHigh x → s.readLatch = [(33, x, w)] → Does s c [.readLatch] noReg fun t =>
        Out.debugPort (w.toNat / 2 ^ 32) ∈ t.out ∧ t.readLatch = [])
    ∧ (r = .readHigh x → (∀ e ∈ s.readLatch, e.2.1 ≠ x) → Does s c [.readLatch] noReg fun t =>
        Out.debugPort (value / 2 ^ 32) ∈ t.out ∧ t.readLatch = []) := by
  simp only [← State.toNat_portValue, BitVec.ofNat_toNat, BitVec.setWidth_eq]
  refine ⟨?_, ?_, fun w => ?_, ?_⟩ <;> rintro rfl
  · exact does_debugPort_read rfl h (State.debugAccess_read hx hs)
  · exact does_debugPort_read rfl h (State.debugAccess_readLow hx hs)
  · exact fun hl => does_debugPort_read rfl h (State.debugAccess_readHigh_latched hx hl)
  · exact fun hl => does_debugPort_read rfl h (State.debugAccess_readHigh_fresh hx hl hs)

/-- The write of a plain register through the debug port (R444, R469). -/
theorem debugPort_write {x : Nat} {v : Word} {sp : RegClass} (h : s.scopeOpen 1) (hp : PlainReg x sp) (hr : r = .write x v) :
    (s.mayWriteReg .debugPort x = true → WritesPlain s (.debugPortAccess r) [] x sp.fields v fun _ => True)
    ∧ (s.mayWriteReg .debugPort x = false → DoesNothing s (.debugPortAccess r)) := by
  subst hr
  have hc := exec_debugPort_register (r := .write x v) rfl h
  rw [State.debugAccess_write hp.1] at hc
  refine ⟨fun hw => ?_, fun hw => ?_⟩
  · rw [s.begin.writeWhole_plain .debugPort v hp hw] at hc
    exact writesPlain_of_finish hp hc (Changes.begin s) fun _ _ => trivial
  · rw [s.begin.writeWhole_forbidden .debugPort v hp.2.1 hw] at hc
    exact doesNothing_of_finish hc
end

end Sys2Proof.Machine

namespace Sys2Proof.Proofs

open Machine Claims

/-- Settles O56: each access command ends in a named state, whose frame and contents the lemmas above give. -/
theorem registerAccess : Obligations.RegisterAccess := by
  refine ⟨fun f v w hf => ?codes, fun s who o => ⟨fun high v h r => ?errors, fun v => registerWrite_whole v,
    fun v => does_lowHalfWrite v, fun v c => registerWrite_highHalf v,
    fun n k v hoff hre => ⟨does_launchWord_forbidden hoff hre, does_launchWord hoff hre⟩, fun r => ?port⟩⟩
  case codes => exact f.put_spec v w hf
  case errors =>
    refine ⟨fun hn => ⟨?_, ?_, ?_⟩, fun hre ho => ?_, fun _ he => ?_, fun hre he ho => ?_, fun hre => ?_, ?_⟩
    · exact doesNothing_of_finish (exec_registerWrite_unreached high v hn)
    · exact doesNothing_of_finish (exec_lowHalfWrite_dropped h (.inl hn))
    · exact doesNothing_of_finish (exec_accessError_unreached r hn)
    · exact does_accessError (exec_registerWrite_misaligned high v hre ho) (EventsOnly.refl _)
    · exact doesNothing_of_finish (exec_lowHalfWrite_dropped h (.inr he))
    · exact does_accessError (exec_lowHalfWrite_misaligned h hre he ho) (EventsOnly.refl _)
    · obtain ⟨t, hc, ht⟩ := exec_accessError_reached r hre
      exact does_accessError hc ht
    · rintro f n rfl rfl hre
      obtain ⟨t, ht, he⟩ := finish_spec (s.begin.accessError.emit (.completion f (List.replicate n.val 0) false))
      exact ⟨t, (exec_accessError_read f n hre).trans ht, he.mem_out (State.mem_emit_out _ _)⟩
  case port =>
    refine ⟨fun hr hn => ?_, fun hr hn => ?_, debugPort_tambour, fun hp x hx hr => ?_, fun hp x => debugPort_reads hp,
      fun hp x v sp => debugPort_write hp⟩
    · exact doesNothing_of_finish (exec_debugPort_register_closed (fun h => hr (r.register_eq_none.1 h)) hn)
    · exact doesNothing_of_finish (exec_debugPort_tambour_closed (r.register_eq_none.2 hr) hn)
    · refine debugPort_misaligned hp hx ?_
      obtain rfl | rfl | rfl | ⟨v, rfl⟩ | ⟨v, rfl⟩ | ⟨v, rfl⟩ := hr <;> rfl

end Sys2Proof.Proofs
end

section
/-! Function-level resets (R425): a record that waited before the reset of an unbound function is written at the command's end, and
its masked interrupt pends in the configuration of another function (R423), where the statement asks for no change. -/

namespace Sys2Proof.Machine

open Claims

/-- A function-level reset of a function without a tenant resets its configuration and ends (R425, R426). -/
theorem exec_functionLevelReset_unbound {s : State} {f : Fin 32} (lost : List Nat) (h : s.fnBound f = none) :
    exec (.functionLevelReset f lost) s = finish (s.begin.resetCfg f) := by
  have hbegin : s.begin.fnBound f = none := h
  exact congrArg finish (by rw [State.resetFunction, hbegin])

/-- A machine whose CRITICAL ribbon is mirrored to function 0, whose endpoint has its link, and in which one record waits to be
written; function 0 may issue requests and has its MSI-X messages masked. -/
def State.recordWaits : State :=
  let delivers := State.reset.setFld Reg.EVENT_CONTROL Fl.EVENT_CONTROL_DELIVER_EN 1
  let mirrored := (delivers.setFld (Reg.RIBBON_CONTROL 0) Fl.RIBBON_CONTROL_EN 1).setFld (Reg.RIBBON_CONTROL 0) Fl.RIBBON_CONTROL_INT_EN 1
  let linked := mirrored.setFld (Reg.ENDPOINT_STATUS 0) Fl.ENDPOINT_STATUS_LINK 2
  { linked.setCfg 0 { busMaster := true, msixEnable := true, msixMaskAll := true } with
    occs := [linked.recordOf { cond := .debugScope, ribbon := .critical, source := 0 } Ribbon.critical.num] }

theorem State.recordWaits_nothingWaits : NothingWaits State.recordWaits := ⟨rfl, rfl⟩

theorem State.recordWaits_fnBound_one : State.recordWaits.fnBound (1 : Fin 32) = none := by decide +kernel

theorem State.recordWaits_pendingVectors : (State.recordWaits.cfg 0).pendingVectors = [] := by decide +kernel

/-- The end of the reset of function 1 writes the record, whose interrupt pends in function 0. -/
theorem State.recordWaits_reset_pendingVectors :
    ((State.recordWaits.begin.resetCfg (1 : Fin 32)).flushRecords.driveAlert.cfg 0).pendingVectors = [0] := by decide +kernel

end Sys2Proof.Machine

namespace Sys2Proof.Proofs

open Machine Claims

/-- Refutes O50: the reset of an unbound function is to leave the whole configuration of every other function, pending MSI-X
vectors included, in every state without a hold and a retirement. In `State.recordWaits` the reset of function 1 ends with
the record that waited, whose masked interrupt sets vector 0 of function 0 pending (R423). The statement lacks the premise
`s.occs = []`, which every command restores. -/
theorem not_hostResets : ¬ Obligations.HostResets := by
  unfold Obligations.HostResets
  intro h
  obtain ⟨hresets, -, -⟩ := h State.recordWaits []
  obtain ⟨hunbound, -, -⟩ := hresets 1 State.recordWaits_nothingWaits
  obtain ⟨t, ht, ⟨-, -, hothers⟩, -⟩ := hunbound State.recordWaits_fnBound_one
  have hkept : t.cfg 0 = State.recordWaits.cfg 0 := hothers 0 (by decide) fun hpf => absurd hpf (by decide)
  have hend : (State.recordWaits.begin.resetCfg (1 : Fin 32)).flushRecords.driveAlert = t := by
    rw [exec_functionLevelReset_unbound [] State.recordWaits_fnBound_one] at ht
    exact Host.Outcome.next.inj ht
  have hpends := State.recordWaits_reset_pendingVectors
  rw [hend, hkept, State.recordWaits_pendingVectors] at hpends
  exact List.cons_ne_nil _ _ hpends.symm

end Sys2Proof.Proofs
end

section
/-! SUPPORT. The reset values of the register table: which of its entries concern a span of offsets, and the blocks of an array,
which reset alike. -/

namespace Sys2Proof.Machine.RegTable

/-- An entry of the table of reset values: first offset, dimensions, value. -/
abbrev ResetEntry := Nat × List (Nat × Nat) × Nat

/-- The offset is a register of the entry. -/
def hits (off : Nat) (e : ResetEntry) : Bool := decide (e.1 ≤ off) && inDims e.2.1 (off - e.1)

/-- The value of the first entry of a list that has a register at an offset, and 0 where none has. -/
def lookup (l : List ResetEntry) (off : Nat) : Nat :=
  match l.find? (hits off) with
  | some e => e.2.2
  | none => 0

theorem resetNat_eq_lookup (off : Nat) : resetNat off = lookup (nonzeroA ++ nonzeroB) off := by
  simp only [resetNat, lookup]
  rfl

/-! ### Spans -/

/-- The distance from the first register of an array to its last. -/
def extent : List (Nat × Nat) → Nat
  | [] => 0
  | (n, st) :: rest => (n - 1) * st + extent rest

theorem le_extent_of_inDims {dims : List (Nat × Nat)} {d : Nat} (h : inDims dims d = true) : d ≤ extent dims := by
  induction dims generalizing d with
  | nil => simpa [inDims, extent] using h
  | cons x rest ih =>
    obtain ⟨n, st⟩ := x
    simp only [inDims] at h
    simp only [extent]
    split at h
    next hq =>
      have hle := ih h
      have hmul : d / st * st ≤ (n - 1) * st := Nat.mul_le_mul_right _ (by omega)
      omega
    next =>
      have hle := ih h
      omega

/-- Some register of the entry may lie in the span from lo up to hi. -/
def meets (lo hi : Nat) (e : ResetEntry) : Bool := decide (e.1 < hi) && decide (lo ≤ e.1 + extent e.2.1)

theorem meets_of_hits {lo hi off : Nat} {e : ResetEntry} (hlo : lo ≤ off) (hhi : off < hi) (h : hits off e = true) :
    meets lo hi e = true := by
  simp only [hits, meets, Bool.and_eq_true, decide_eq_true_eq] at h ⊢
  have hle := le_extent_of_inDims h.2
  omega

/-- An offset in a span is looked up among the entries that meet the span. -/
theorem lookup_eq_of_span (l : List ResetEntry) {lo hi off : Nat} (hlo : lo ≤ off) (hhi : off < hi) :
    lookup l off = lookup (l.filter (meets lo hi)) off := by
  have hfind : (l.filter (meets lo hi)).find? (hits off) = l.find? (hits off) := by
    rw [List.find?_filter]
    congr 1
    funext e
    rw [Bool.eq_iff_iff, decide_eq_true_eq]
    exact ⟨And.right, fun h => ⟨meets_of_hits hlo hhi h, h⟩⟩
  rw [lookup, lookup, hfind]

/-! ### Blocks of an array -/

/-- The entry is an array over blocks of st bytes from B on, and lies in the same place of each. -/
def blockwise (B n st : Nat) (e : ResetEntry) : Bool :=
  match e.2.1 with
  | [] => false
  | x :: rest => decide (x = (n, st)) && decide (B ≤ e.1) && decide (e.1 + extent rest < B + st)

/-- The entry without its widest dimension. -/
def firstBlock (e : ResetEntry) : ResetEntry := (e.1, e.2.1.tail, e.2.2)

/-- One step of the distance of an element in block i of an array. -/
theorem inDims_block {n st i x : Nat} (rest : List (Nat × Nat)) (hi : i < n) (hx : x < st) :
    inDims ((n, st) :: rest) (i * st + x) = inDims rest x := by
  have hq : (i * st + x) / st = i := by
    rw [Nat.mul_comm, Nat.mul_add_div (by omega), Nat.div_eq_of_lt hx, Nat.add_zero]
  simp only [inDims, hq, if_pos hi, Nat.add_sub_cancel_left]

theorem hits_firstBlock {B n st i r : Nat} {e : ResetEntry} (h : blockwise B n st e = true) (hi : i < n) (hr : r < st) :
    hits (B + r) (firstBlock e) = hits (B + i * st + r) e := by
  obtain ⟨b, dims, v⟩ := e
  cases dims with
  | nil => exact absurd h Bool.false_ne_true
  | cons x rest =>
    simp only [blockwise, Bool.and_eq_true, decide_eq_true_eq] at h
    obtain ⟨⟨rfl, hB⟩, hext⟩ := h
    change (decide (b ≤ B + r) && inDims rest (B + r - b)) = (decide (b ≤ B + i * st + r) && inDims ((n, st) :: rest) _)
    rw [Bool.eq_iff_iff]
    simp only [Bool.and_eq_true, decide_eq_true_eq]
    by_cases hb : b ≤ B + r
    · rw [show B + i * st + r - b = i * st + (B + r - b) by omega, inDims_block rest hi (by omega)]
      exact and_congr_left fun _ => ⟨fun _ => by omega, fun _ => hb⟩
    · -- the distance counts from the block before, and goes past the element's extent in it
      refine iff_of_false (fun h => hb h.1) fun ⟨hle, hin⟩ => ?_
      cases i with
      | zero => omega
      | succ i =>
        rw [show B + (i + 1) * st + r - b = i * st + (st + B + r - b) by rw [Nat.succ_mul]; omega,
          inDims_block rest (by omega) (by omega)] at hin
        have hle := le_extent_of_inDims hin
        omega

/-- Every block of an array of blocks resets as the first one. -/
theorem lookup_block {l : List ResetEntry} {B n st i r : Nat} (hl : ∀ e ∈ l, blockwise B n st e = true) (hi : i < n)
    (hr : r < st) : lookup l (B + i * st + r) = lookup (l.map firstBlock) (B + r) := by
  have hfind : (l.map firstBlock).find? (hits (B + r)) = (l.find? (hits (B + i * st + r))).map firstBlock := by
    rw [List.find?_map]
    congr 1
    exact List.find?_congr fun e he => hits_firstBlock (hl e he) hi hr
  rw [lookup, lookup, hfind]
  cases l.find? (hits (B + i * st + r)) <;> rfl

/-! ### Clusters, cores and bundles -/

/-- The entries of the cluster blocks. -/
def clusterEntries : List ResetEntry := ((nonzeroA ++ nonzeroB).filter (meets 0x1000000 0x2000000)).map firstBlock

/-- The entries of the core blocks. -/
def coreEntries : List ResetEntry := (clusterEntries.filter (meets 0x1000000 0x1100000)).map firstBlock

/-- Every cluster block resets as that of cluster 0. -/
theorem resetNat_cluster {c r : Nat} (hc : c < 8) (hr : r < 0x200000) :
    resetNat (Reg.clusterBase c + r) = lookup clusterEntries (0x1000000 + r) := by
  rw [resetNat_eq_lookup, Reg.clusterBase, lookup_eq_of_span _ (lo := 0x1000000) (hi := 0x2000000) (by omega) (by omega)]
  exact lookup_block (n := 8) (by decide) hc hr

/-- Every core block resets as that of core 0. -/
theorem resetNat_core {n r : Nat} (hn : n < 128) (hr : r < 0x10000) :
    resetNat (Reg.coreBase n + r) = lookup coreEntries (0x1000000 + r) := by
  have hbase : Reg.coreBase n + r = Reg.clusterBase (n / 16) + (n % 16 * 0x10000 + r) := by
    unfold Reg.coreBase Reg.clusterBase
    omega
  rw [hbase, resetNat_cluster (by omega) (by omega), lookup_eq_of_span _ (lo := 0x1000000) (hi := 0x1100000) (by omega) (by omega),
    ← Nat.add_assoc]
  exact lookup_block (n := 16) (by decide) (by omega) hr

/-- Every knot's registers reset to 0. -/
theorem resetNat_knots {c r : Nat} (hc : c < 8) (hlo : 0x100000 ≤ r) (hhi : r < 0x140000) :
    resetNat (Reg.clusterBase c + r) = 0 := by
  rw [resetNat_cluster hc (by omega), lookup_eq_of_span _ (lo := 0x1100000) (hi := 0x1140000) (by omega) (by omega)]
  rfl

/-- The registers of the bonds reset alike. -/
theorem resetNat_bundle {b : Nat} (hb : b < 5120) : resetNat (Reg.INTEGRITY_BUNDLE b) = 0x7f7f7f00 := by
  rw [resetNat_eq_lookup, Reg.INTEGRITY_BUNDLE, lookup_eq_of_span _ (lo := 0x3e10000) (hi := 0x3e1a000) (by omega) (by omega)]
  exact lookup_block (n := 5120) (r := 0) (by decide) hb (by decide)

end Sys2Proof.Machine.RegTable
end

section
/-! The reset values of the blocks (R71, R105, R155, R179, R205, R232, R261, R286, R309, R336, R368, R394, R409, R430, R447, R464,
R472): the blocks that stand many times over are read off their first copy. -/

namespace Sys2Proof.Machine

open RegTable

theorem State.fld_reset (off : Nat) (f : Fld) : State.reset.fld off f = f.read (BitVec.ofNat 64 (resetNat off)) := rfl

/-- A field of a core's registers reads at reset as that of core 0. -/
theorem State.fld_reset_core {n r : Nat} (f : Fld) (hn : n < 128) (hr : r < 0x10000) :
    State.reset.fld (Reg.coreBase n + r) f = f.read (BitVec.ofNat 64 (lookup coreEntries (0x1000000 + r))) := by
  rw [State.fld_reset, resetNat_core hn hr]

/-- A field of a knot's registers reads 0 at reset. -/
theorem State.fld_reset_knots {c r : Nat} (f : Fld) (hc : c < 8) (hlo : 0x100000 ≤ r) (hhi : r < 0x140000) :
    State.reset.fld (Reg.clusterBase c + r) f = 0 := by
  rw [State.fld_reset, resetNat_knots hc hlo hhi]
  simp [Fld.read]

end Sys2Proof.Machine
namespace Sys2Proof.Proofs
open Machine Claims RegTable

theorem tick_reset :
    State.reset.fld Reg.TICK_STITCH_LEN Fl.TICK_STITCH_LEN_LEN = 1024
      ∧ State.reset.fld Reg.TICK_SLIP_LIMIT Fl.TICK_SLIP_LIMIT_STITCHES = 64 ∧ State.reset.stitch = 0 := by
  decide

/-- The shuttle, the generators, the units and the queues of every core at reset. -/
theorem core_reset {n : Nat} (hn : n < 128) :
    let s := State.reset
    s.shuttleState n = 0 ∧ s.pc n = 0 ∧ (∀ g < 8, s.fld (Reg.GEN_CONFIG n g) Fl.GEN_CONFIG_DIMS = 1)
      ∧ s.fld (Reg.CORE_DRAIN_LIMIT n) Fl.CORE_DRAIN_LIMIT_STITCHES = 16 ∧ s.fld (Reg.MX_PROMOTE n) Fl.MX_PROMOTE_MXFP4 = 27
      ∧ s.fld (Reg.MX_DRAIN_SCALE n) Fl.MX_DRAIN_SCALE_SCALE = 0x3F800000
      ∧ s.fld (Reg.VX_VLEN n) Fl.VX_VLEN_ROWS = 15 ∧ (∀ m < 2, s.fld (Reg.MV_CHECK_RUNNING n m) Fl.MV_CHECK_RUNNING_CRC = 0xFFFFFFFF)
      ∧ ∀ e < 4, s.queue n e = [] ∧ s.queueState n e = 0 := by
  have reads : ∀ {r : Nat} (f : Fld) {v : Nat}, r < 0x10000 →
      f.read (BitVec.ofNat 64 (lookup coreEntries (0x1000000 + r))) = v → State.reset.fld (Reg.coreBase n + r) f = v :=
    fun f _ hr h => (State.fld_reset_core f hn hr).trans h
  have hgens : ∀ g < 8, Fl.GEN_CONFIG_DIMS.read (BitVec.ofNat 64 (lookup coreEntries (0x1000000 + (0x208 + g * 0x80)))) = 1 := by
    decide
  have hchecks : ∀ m < 2, Fl.MV_CHECK_RUNNING_CRC.read (BitVec.ofNat 64 (lookup coreEntries (0x1000000 + (0xb08 + m * 0x40))))
      = 0xFFFFFFFF := by decide
  have hqueues : ∀ e < 4, Fl.QUEUE_STATUS_STATE.read (BitVec.ofNat 64 (lookup coreEntries (0x1000000 + (0x608 + e * 0x20)))) = 0 := by
    decide
  refine ⟨reads Fl.SHUTTLE_STATUS_STATE (by decide) (by decide), reads Fl.SHUTTLE_STATUS_PC (by decide) (by decide), fun g hg => ?_,
    reads _ (by decide) (by decide), reads _ (by decide) (by decide), reads _ (by decide) (by decide), reads _ (by decide) (by decide),
    fun m hm => ?_, fun e he => ⟨rfl, ?_⟩⟩
  · rw [Reg.GEN_CONFIG, Nat.add_assoc]; exact reads _ (by omega) (hgens g hg)
  · rw [Reg.MV_CHECK_RUNNING, Nat.add_assoc]; exact reads _ (by omega) (hchecks m hm)
  · rw [State.queueState, Reg.QUEUE_STATUS, Nat.add_assoc]; exact reads _ (by omega) (hqueues e he)

theorem knot_reset {k : Nat} (hk : k < 131072) :
    State.reset.knotCount k = 0 ∧ State.reset.knotFrayed k = false ∧ State.reset.knotArmed k = false := by
  have reads : ∀ f, State.reset.fld (knotStateReg k) f = 0 := fun f => by
    rw [knotStateReg, Reg.KNOT_STATE, Nat.add_assoc]
    exact State.fld_reset_knots f (by omega) (by omega) (by omega)
  simp only [State.knotCount, State.knotFrayed, State.knotArmed, State.flag, reads]
  decide

theorem tenants_reset {q : Nat} (hq : q < 32) :
    State.reset.tierState q = 2 ∧ State.reset.fld (Reg.LOSS_SCALE q) Fl.LOSS_SCALE_GROWTH_STEPS = 2000
      ∧ State.reset.fld (Reg.GATE_LIMITS q) Fl.GATE_LIMITS_NORM_LIMIT = 0x7F800000 ∧ State.reset.gateState q = 0
      ∧ State.reset.fld (Reg.FUNCTION_COMPLETION_RING q) Fl.FUNCTION_COMPLETION_RING_SIZE = 4
      ∧ State.reset.fld (Reg.EVTENANT_RING_CONTROL q) Fl.EVTENANT_RING_CONTROL_SIZE = 4 := by
  revert q
  decide

theorem bundle_reset {b : Nat} (hb : b < 5120) : State.reset.fld (Reg.INTEGRITY_BUNDLE b) Fl.INTEGRITY_BUNDLE_SPARE0 = 127 := by
  rw [State.fld_reset, resetNat_bundle hb]
  decide

theorem reset_settled : Settled State.reset := by
  refine ⟨rfl, ?_, by decide⟩
  unfold AlertCause
  decide

/-- Settles O58: single registers by evaluation, the copies of a block by the first one. -/
theorem resetValuesOfTheBlocks : Obligations.ResetValuesOfTheBlocks :=
  ⟨tick_reset, fun _ hn => core_reset hn, by decide, fun _ hk => knot_reset hk, fun _ hq => tenants_reset hq, by decide, by decide,
    by decide, by decide, by decide, fun _ hb => bundle_reset hb, by decide, by decide, by decide, rfl, fun _ => rfl, reset_settled⟩

end Sys2Proof.Proofs
end

section
/-! Late slots are judged after the edge of TICK_IN has been seen (R65), and a slot numbered past the last core counts as absent by a
bit of another register. -/

namespace Sys2Proof.Machine

open Claims

/-- STITCH_COUNT after a command. -/
def stitchAfter : Result → Option Nat
  | .next t => some t.stitch
  | _ => none

/-- A core number past the last whose word of RETIRE_CORES would lie at TICK.STATUS, its bit at HOLDING. -/
def coreAtTickStatus : Nat := 8388160

/-- An EXTERNAL device that holds nothing and whose HOLDING bit is set all the same; its one slot, of `coreAtTickStatus`, has an
activation that ends at boundary 1 and is not finished. -/
def State.holdingUnheld : State :=
  let external := (State.reset.setFld Reg.TICK_CONTROL Fl.TICK_CONTROL_ROLE 3).setFld Reg.TICK_STATUS Fl.TICK_STATUS_HOLDING 1
  { external with tick := { role := 3 } }.setStation coreAtTickStatus 0 { active := [(0, 1)] }

theorem State.holdingUnheld_steadyTick : SteadyTick State.holdingUnheld := by
  have hwaits : NoNewWaits State.holdingUnheld := ⟨fun _ hq => absurd hq List.not_mem_nil, fun _ hq => absurd hq List.not_mem_nil⟩
  refine ⟨?_, rfl, ?_, rfl, rfl, ?_, ?_, rfl, rfl, hwaits, ?_⟩ <;> decide +kernel

/-- By HOLDING the slot's core counts as absent. -/
theorem State.holdingUnheld_lateSlots : State.holdingUnheld.lateSlots 1 = [] := by decide +kernel

/-- The edge clears HOLDING, and the slot, now late, holds the boundary. -/
theorem State.holdingUnheld_stitchAfter : stitchAfter (exec (.tickInEdge false) State.holdingUnheld) = some 0 := by decide +kernel

end Sys2Proof.Machine

namespace Sys2Proof.Proofs

open Machine Claims

/-- Refutes O24: an EXTERNAL device without a late slot is to fire its next boundary at a TICK_IN edge, in every steady state. In
`State.holdingUnheld` HOLDING is set while nothing is held, and the one slot belongs to a core number past the last, whose bit of
RETIRE_CORES is read at HOLDING: the edge clears the bit, the slot's core is no longer absent, and the boundary is held. The statement
lacks the premise that the slots belong to cores 0 to 127. -/
theorem not_boundariesFireOrHold : ¬ Obligations.BoundariesFireOrHold := by
  unfold Obligations.BoundariesFireOrHold
  intro h
  obtain ⟨-, -, hedge, -⟩ := h State.holdingUnheld State.holdingUnheld_steadyTick
  obtain ⟨⟨t, ht, ⟨hcount, -⟩, -⟩, -⟩ := hedge rfl State.holdingUnheld_lateSlots rfl
  have hfired : t.stitch = 1 := hcount
  have hheld := State.holdingUnheld_stitchAfter
  rw [ht, stitchAfter, hfired] at hheld
  exact absurd hheld (by decide)

end Sys2Proof.Proofs
end

section
/-! SUPPORT. The tick's shared operations, said once: its state and status (R71), and the marks of waits at the end of a stitch
(R60, R189, R219). -/

namespace Sys2Proof

open Machine Claims

/-! ### Frames of the tick's parts -/

section
variable (s : State)

theorem Changes.setTickState (x : TickState) : Changes [.tick] noReg s { s with tick := x } :=
  Changes.of_part s rfl rfl fun p hp => by
    cases p with
    | tick => exact absurd rfl hp
    | config => exact fun _ => rfl
    | _ => rfl

theorem Changes.setCore (x : CoreState) : Changes [.core] noReg s { s with core := x } :=
  Changes.of_part s rfl rfl fun p hp => by
    cases p with
    | core => exact absurd rfl hp
    | config => exact fun _ => rfl
    | _ => rfl

theorem Changes.setNet (x : NetState) : Changes [.net] noReg s { s with net := x } :=
  Changes.of_part s rfl rfl fun p hp => by
    cases p with
    | net => exact absurd rfl hp
    | config => exact fun _ => rfl
    | _ => rfl

/-- The step machines' and collective engines' state and the stitch clock. -/
theorem Changes.setClock (u : UpdState) (c : CollState) (k : Nat) :
    Changes [.upd, .coll, .stitchClock] noReg s { s with upd := u, coll := c, stitchClock := k } :=
  ⟨fun p hp => by
    cases p with
    | upd | coll | stitchClock => exact absurd (by simp) hp
    | config => exact fun _ => rfl
    | _ => rfl, fun _ _ _ => rfl, fun _ _ _ => Iff.rfl⟩

theorem Changes.setTick (x : TickState) : Changes [.tick] (· = Reg.TICK_STATUS) s (s.setTick x) :=
  (((Changes.setTickState s x).mono (fun _ => id) fun _ => False.elim).trans
    ((Changes.setFld _ _ _ _).mono (by simp) fun _ => id)).trans ((Changes.setFld _ _ _ _).mono (by simp) fun _ => id)

end

end Sys2Proof

namespace Sys2Proof.Machine

open Claims

/-! ### The tick's state and its status -/

section
variable (s : State) (x : TickState)

@[simp] theorem State.setTick_tick : (s.setTick x).tick = x := rfl
@[simp] theorem State.setTick_core : (s.setTick x).core = s.core := rfl

theorem State.rd_setTick {off : Nat} (h : off ≠ Reg.TICK_STATUS) : (s.setTick x).rd off = s.rd off := by
  unfold State.setTick
  rw [State.rd_setFld_ne _ _ _ h, State.rd_setFld_ne _ _ _ h]
  rfl

theorem State.fld_setTick {off : Nat} (f : Fld) (h : off ≠ Reg.TICK_STATUS) : (s.setTick x).fld off f = s.fld off f := by
  simp only [State.fld, State.rd_setTick s x h]

@[simp] theorem State.stitch_setTick : (s.setTick x).stitch = s.stitch := by
  simp only [State.stitch, State.rd_setTick s x (by decide : Reg.TICK_STITCH_COUNT ≠ Reg.TICK_STATUS)]

/-- A status field above HOLDING and DOMAIN_HOLD does not follow the tick's state. -/
theorem State.fld_status_setTick (f : Fld) (h : 2 ≤ f.lo) : (s.setTick x).fld Reg.TICK_STATUS f = s.fld Reg.TICK_STATUS f := by
  unfold State.setTick
  have hlo : Fl.TICK_STATUS_HOLDING.lo + Fl.TICK_STATUS_HOLDING.width ≤ f.lo := le_trans (by decide) h
  rw [State.fld_setFld_disjoint _ _ Fl.TICK_STATUS_DOMAIN_HOLD _ _ (.inr h), State.fld_setFld_disjoint _ _ _ _ _ (.inr hlo)]
  rfl

@[simp] theorem State.follows_setTick : (s.setTick x).follows
    = (x.role == 2 && !s.flag Reg.TICK_STATUS Fl.TICK_STATUS_HOLDOVER) := by
  simp only [State.follows, State.setTick_tick, State.flag,
    State.fld_status_setTick s x Fl.TICK_STATUS_HOLDOVER (by decide)]

end

/-! ### Waits that begin in a stitch (R60, R189, R219) -/

section
variable {s : State}

theorem State.markWaitList_eq {l : List Nat}
    (h : ∀ q ∈ l, ∀ x, s.waitingFront (q / 4) (q % 4) = some x → x.waitSince.isSome = true) : s.markWaitList l = s := by
  induction l with
  | nil => rfl
  | cons q rest ih =>
    have hq : s.markWait (q / 4) (q % 4) = s := by
      unfold State.markWait
      split
      next x hx => exact if_neg (by simp [Option.isSome_iff_ne_none.1 (h q (List.mem_cons_self ..) x hx)])
      next => rfl
    rw [State.markWaitList, hq]
    exact ih fun p hp => h p (List.mem_cons_of_mem _ hp)

theorem State.markTierList_eq {l : List Nat}
    (h : ∀ q ∈ l, ∀ x, s.tierWaiting q = some x → x.since.isSome = true) : s.markTierList l = s := by
  induction l with
  | nil => rfl
  | cons q rest ih =>
    rw [State.markTierList]
    split
    next x hx =>
      rw [if_neg (by simp [Option.isSome_iff_ne_none.1 (h q (List.mem_cons_self ..) x hx)])]
      exact ih fun p hp => h p (List.mem_cons_of_mem _ hp)
    next => exact ih fun p hp => h p (List.mem_cons_of_mem _ hp)

/-- The marks of the step machines' waits stay in the update units' state. -/
theorem State.markGate_eq (s : State) (t : Nat) : ∃ u, s.markGate t = { s with upd := u } := by
  unfold State.markGate
  simp only
  split_ifs
  · exact ⟨s.upd, rfl⟩
  · exact ⟨_, rfl⟩
  · exact ⟨_, rfl⟩
  · exact ⟨s.upd, rfl⟩

theorem State.markGates_eq (s : State) : ∃ u, s.markGates = { s with upd := u } := by
  suffices h : ∀ n base (s : State), ∃ u, iterate (fun t s => s.markGate t) n base s = { s with upd := u } from h 32 0 s
  intro n
  induction n with
  | zero => exact fun _ s => ⟨s.upd, rfl⟩
  | succ n ih =>
    intro base s
    obtain ⟨u, hu⟩ := s.markGate_eq base
    obtain ⟨u', hu'⟩ := ih (base + 1) (s.markGate base)
    exact ⟨u', by rw [iterate, hu', hu]⟩

/-- The marks of the collective engines' waits stay in their state. -/
theorem State.markColls_eq (s : State) (l : List Nat) : ∃ c, s.markColls l = { s with coll := c } := by
  induction l generalizing s with
  | nil => exact ⟨s.coll, rfl⟩
  | cons e rest ih =>
    rw [State.markColls]
    split
    next d _ =>
      split_ifs
      · obtain ⟨c, hc⟩ := ih (s.setCollFront e { d with since := some s.stitchClock })
        exact ⟨c, hc⟩
      · exact ih s
    next => exact ih s

/-- The end of a stitch in which no wait begins advances the stitch clock and marks the waits of step machines and collective
engines. -/
theorem State.advanceClock_eq (h : NoNewWaits s) :
    ∃ u c, s.advanceClock = { s with upd := u, coll := c, stitchClock := s.stitchClock + 1 } := by
  obtain ⟨hcores, htiers⟩ := h
  have hwaits : s.markWaits = s := State.markWaitList_eq fun q hq x hx => by
    obtain ⟨y, hy, rfl⟩ := List.mem_map.1 hq
    exact hcores y hy x hx
  have htier : s.markTiers = s := State.markTierList_eq fun q hq x hx => by
    obtain ⟨y, hy, rfl⟩ := List.mem_map.1 hq
    exact htiers y hy x hx
  obtain ⟨u, hu⟩ := s.markGates_eq
  obtain ⟨c, hc⟩ := s.markGates.markColls_eq (s.markGates.coll.engines.map (·.1))
  refine ⟨u, c, ?_⟩
  unfold State.advanceClock State.markOthers
  simp only [hwaits, htier, hc]
  rw [hu]

end

end Sys2Proof.Machine
end

section
/-! SUPPORT. Which state the waits of commands and of tier entries read (R188, R189, R219). -/

namespace Sys2Proof.Machine

open Claims

/-- The registers that tell whether a command or a tier entry waits: the clocks, the status of each queue that holds a command, the
knots and their owners, the tier queues. -/
def WaitReg (s : State) (off : Nat) : Prop :=
  off = Reg.TICK_STITCH_COUNT ∨ off = Reg.THERMAL_TRIP ∨ off = Reg.SECURITY_BOOT_STATUS
    ∨ (∃ n e, e < 4 ∧ s.queue n e ≠ [] ∧ off = Reg.QUEUE_STATUS n e)
    ∨ (∃ k < 131072, off = knotStateReg k ∨ off = Reg.KNOT_OWNER (k / 16384) (k % 16384 / 256))
    ∨ ∃ q, off = Reg.TIER_QUEUE_STATUS q ∨ off = Reg.TIER_QUEUE_OWNER q

/-- Of the registers of the tick only STITCH_COUNT is among them. -/
theorem WaitReg.not_tick {s : State} {off : Nat} (h : WaitReg s off) :
    off ≠ Reg.TICK_STATUS ∧ off ≠ Reg.TICK_IN_SKIPPED := by
  unfold WaitReg knotStateReg at h
  simp only [Reg.TICK_STITCH_COUNT, Reg.THERMAL_TRIP, Reg.SECURITY_BOOT_STATUS, Reg.QUEUE_STATUS, Reg.coreBase, Reg.KNOT_STATE,
    Reg.clusterBase, Reg.KNOT_OWNER, Reg.TIER_QUEUE_STATUS, Reg.TIER_QUEUE_OWNER, Reg.TICK_STATUS, Reg.TICK_IN_SKIPPED] at h ⊢
  obtain h | h | h | ⟨n, e, -, -, h⟩ | ⟨k, -, h | h⟩ | ⟨q, h | h⟩ := h <;> omega

/-- None of them is a register of the event path's records. -/
theorem WaitReg.not_record {s : State} {off : Nat} (h : WaitReg s off) : ¬RecordBlock off := by
  unfold RecordBlock
  obtain h | h | h | ⟨n, e, -, -, h⟩ | ⟨k, -, h | h⟩ | ⟨q, h | h⟩ := h <;>
    simp only [Reg.TICK_STITCH_COUNT, Reg.THERMAL_TRIP, Reg.SECURITY_BOOT_STATUS, Reg.QUEUE_STATUS, knotStateReg, Reg.coreBase,
      Reg.KNOT_STATE, Reg.clusterBase, Reg.KNOT_OWNER, Reg.TIER_QUEUE_STATUS, Reg.TIER_QUEUE_OWNER] at h <;> omega

/-- The registers of core n's block are not, where its queues are empty. -/
theorem WaitReg.not_core {s : State} {n off : Nat} (h : WaitReg s off) (hn : n < 128) (hquiet : ∀ e < 4, s.queue n e = []) :
    ¬(Reg.coreBase n ≤ off ∧ off < Reg.coreBase n + 0x10000) := by
  obtain h | h | h | ⟨m, e, he, hne, h⟩ | ⟨k, hk, h | h⟩ | ⟨q, h | h⟩ := h
  case inr.inr.inr.inl =>
    have hm : m ≠ n := fun hm => hne (hm ▸ hquiet e he)
    simp only [Reg.QUEUE_STATUS, Reg.coreBase] at h ⊢
    omega
  all_goals
    simp only [Reg.TICK_STITCH_COUNT, Reg.THERMAL_TRIP, Reg.SECURITY_BOOT_STATUS, knotStateReg, Reg.coreBase, Reg.KNOT_STATE,
      Reg.clusterBase, Reg.KNOT_OWNER, Reg.TIER_QUEUE_STATUS, Reg.TIER_QUEUE_OWNER] at h ⊢
    omega

section
variable {s t : State}

theorem State.fld_congr {off : Nat} (h : t.rd off = s.rd off) (f : Fld) : t.fld off f = s.fld off f := by
  simp only [State.fld, h]

theorem State.bit_congr {off : Nat} (h : t.rd off = s.rd off) (i : Nat) : t.bit off i = s.bit off i := by
  simp only [State.bit, h]

theorem State.ownerOf_congr {off : Nat} (h : t.rd off = s.rd off) : t.ownerOf off = s.ownerOf off := by
  unfold State.ownerOf State.bit State.fld
  rw [h]

variable (hmem : t.mem = s.mem) (hrd : ∀ off, WaitReg s off → t.rd off = s.rd off)

include hrd

theorem State.clocked_congr : t.clocked = s.clocked := by
  simp only [State.clocked, State.flag, State.fld_congr (hrd Reg.THERMAL_TRIP (.inr (.inl rfl)))]

theorem State.stitch_congr : t.stitch = s.stitch := by
  simp only [State.stitch, hrd _ (.inl rfl)]

theorem State.knotCount_congr {k : Nat} (hk : k < 131072) : t.knotCount k = s.knotCount k :=
  State.fld_congr (hrd _ (.inr (.inr (.inr (.inr (.inl ⟨k, hk, .inl rfl⟩)))))) _

include hmem

theorem State.knotError_congr {k : Nat} (hk : k < 131072) : t.knotError k = s.knotError k := by
  have hfrayed : t.knotFrayed k = s.knotFrayed k := by
    simp only [State.knotFrayed, State.flag,
      State.fld_congr (hrd _ (.inr (.inr (.inr (.inr (.inl ⟨k, hk, .inl rfl⟩))))))]
  simp only [State.knotError, hfrayed, State.arrayErrors, State.errorsIn, hmem]

theorem State.waitingFront_congr (hqueues : t.core.queues = s.core.queues) {n e : Nat} (he : e < 4) :
    t.waitingFront n e = s.waitingFront n e := by
  have hqueue : t.queue n e = s.queue n e := by simp only [State.queue, hqueues]
  by_cases hempty : s.queue n e = []
  · simp only [State.waitingFront, State.frontWaiting, hqueue, hempty, List.find?_nil]
  · have hcores : t.coresRun = s.coresRun := by
      simp only [State.coresRun, State.clocked_congr hrd, State.ready, State.flag,
        State.fld_congr (hrd Reg.SECURITY_BOOT_STATUS (.inr (.inr (.inl rfl))))]
    have hstate : t.queueState n e = s.queueState n e :=
      State.fld_congr (hrd _ (.inr (.inr (.inr (.inl ⟨n, e, he, hempty, rfl⟩))))) _
    have hknot : ∀ x : QEntry, cmdWaitKnot x.cmd < 131072 := fun x => Nat.mod_lt _ (by decide)
    have heligible : t.eligible n e = s.eligible n e := by
      funext x
      simp only [State.eligible, State.inFlight, hcores, hstate, hqueue, State.stitch_congr hrd]
      rfl
    have hholds : t.waitHolds = s.waitHolds := by
      funext x
      simp only [State.waitHolds, State.knotError_congr hmem hrd (hknot x), State.knotCount_congr hrd (hknot x)]
    have hfrayed : t.waitFrayed = s.waitFrayed := by
      funext x
      simp only [State.waitFrayed, State.knotError_congr hmem hrd (hknot x)]
    simp only [State.waitingFront, State.frontWaiting, hqueue, heligible, hholds, hfrayed]

theorem State.tierWaiting_congr (htier : t.tier = s.tier) (q : Nat) : t.tierWaiting q = s.tierWaiting q := by
  have hqueueReg : ∀ off, off = Reg.TIER_QUEUE_STATUS q ∨ off = Reg.TIER_QUEUE_OWNER q → t.rd off = s.rd off :=
    fun off h => hrd off (.inr (.inr (.inr (.inr (.inr ⟨q, h⟩)))))
  have hfront : t.tierFront q = s.tierFront q := by
    simp only [State.tierFront, State.tierQ, State.tierState, htier, State.clocked_congr hrd,
      State.fld_congr (hqueueReg _ (.inl rfl))]
    rfl
  have howner : t.tierQueueTenant q = s.tierQueueTenant q := State.ownerOf_congr (hqueueReg _ (.inr rfl))
  have hknot : ∀ x : TierEntry, x.knot < 131072 := fun x => Nat.mod_lt _ (by decide)
  have htrigger : ∀ u, t.triggerHolds u = s.triggerHolds u := by
    intro u
    funext x
    have hknotOwner : t.knotTenant x.knot = s.knotTenant x.knot :=
      State.ownerOf_congr (hrd _ (.inr (.inr (.inr (.inr (.inl ⟨x.knot, hknot x, .inr rfl⟩))))))
    have hbad : t.badTrigger u x = s.badTrigger u x := by simp only [State.badTrigger, State.knotOwned, hknotOwner]
    simp only [State.triggerHolds, hbad, State.stitch_congr hrd, State.knotError_congr hmem hrd (hknot x),
      State.knotCount_congr hrd (hknot x)]
  simp only [State.tierWaiting, hfront, howner, htrigger]

/-- No wait begins where neither the queues nor what their waits read has changed. -/
theorem NoNewWaits.congr (h : NoNewWaits s) (hqueues : t.core.queues = s.core.queues) (htier : t.tier = s.tier) :
    NoNewWaits t := by
  obtain ⟨hcores, htiers⟩ := h
  refine ⟨fun q hq x hx => ?_, fun q hq x hx => ?_⟩
  · rw [State.waitingFront_congr hmem hrd hqueues (Nat.mod_lt _ (by decide))] at hx
    exact hcores q (hqueues ▸ hq) x hx
  · rw [State.tierWaiting_congr hmem hrd htier] at hx
    exact htiers q (htier ▸ hq) x hx

end

/-- A change of the tick's registers but STITCH_COUNT, and of no queue, begins no wait. -/
theorem NoNewWaits.of_tick {s t : State} (h : NoNewWaits s) (hcore : t.core = s.core) (htier : t.tier = s.tier) (hmem : t.mem = s.mem)
    (hrd : ∀ off, off ≠ Reg.TICK_STATUS → off ≠ Reg.TICK_IN_SKIPPED → t.rd off = s.rd off) : NoNewWaits t :=
  NoNewWaits.congr hmem (fun off ho => hrd off ho.not_tick.1 ho.not_tick.2) h (by rw [hcore]) htier

end Sys2Proof.Machine
end

section
/-! SUPPORT. A boundary that fires while no change of length, role, slots or firmware is pending (R46, R48, R64). -/

namespace Sys2Proof.Machine

open Claims

/-! ### Station slots -/

/-- A sparse table reads as an entry of it or as an unlisted key. -/
theorem Sparse.get_mem {α : Type} (d : Nat → α) (m : Sparse α) (k : Nat) :
    Sparse.get d m k = d k ∨ ∃ x ∈ m, Sparse.get d m k = x.2 := by
  induction m with
  | nil => exact .inl rfl
  | cons y rest ih =>
    obtain ⟨a, v⟩ := y
    simp only [Sparse.get]
    split
    · exact .inr ⟨(a, v), List.mem_cons_self .., rfl⟩
    · exact ih.imp id fun ⟨x, hx, h⟩ => ⟨x, List.mem_cons_of_mem _ hx, h⟩

section
variable (s : State)

@[simp] theorem State.station_setStation_same (n j : Nat) (x : Station) : (s.setStation n j x).station n j = x :=
  Sparse.get_set_same _ _ _ _

theorem State.station_setStation_ne {n j m i : Nat} (x : Station) (h : 4 * m + i ≠ 4 * n + j) :
    (s.setStation n j x).station m i = s.station m i := Sparse.get_set_ne _ _ _ _ h

/-- No change of a slot's configuration waits for its deadline, and no replaced one still places activations (R71). -/
def State.SlotsSteady : Prop := ∀ n j, (s.station n j).change = none ∧ (s.station n j).old = []

theorem State.slotsSteady_of_stations (h : ∀ x ∈ s.core.stations, x.2.change = none ∧ x.2.old = []) : s.SlotsSteady := by
  intro n j
  obtain hd | ⟨x, hx, he⟩ := Sparse.get_mem (fun _ => ({} : Station)) s.core.stations (4 * n + j)
  · rw [State.station, hd]
    exact ⟨rfl, rfl⟩
  · rw [State.station, he]
    exact h x hx
end

/-- t differs from s in the slots alone. -/
def OnlySlots (s t : State) : Prop := t = { s with core := { s.core with stations := t.core.stations } }

theorem OnlySlots.refl (s : State) : OnlySlots s s := rfl

theorem OnlySlots.trans {s t u : State} (h : OnlySlots s t) (g : OnlySlots t u) : OnlySlots s u := by
  unfold OnlySlots at h g ⊢
  rw [g, h]

theorem OnlySlots.setStation (s : State) (n j : Nat) (x : Station) : OnlySlots s (s.setStation n j x) := rfl

theorem OnlySlots.rd {s t : State} (h : OnlySlots s t) (off : Nat) : t.rd off = s.rd off := by rw [h]; rfl

theorem OnlySlots.tick {s t : State} (h : OnlySlots s t) : t.tick = s.tick := by rw [h]

theorem OnlySlots.changes {s t : State} (h : OnlySlots s t) : Changes [.core] noReg s t := by
  rw [h]
  exact Changes.setCore s _

theorem State.SlotsSteady.setStation {s : State} (h : s.SlotsSteady) (n j : Nat) {x : Station} (hchange : x.change = none)
    (hold : x.old = []) : (s.setStation n j x).SlotsSteady := fun m i => by
  by_cases hm : 4 * m + i = 4 * n + j
  · rw [show (s.setStation n j x).station m i = (s.setStation n j x).station n j by unfold State.station; rw [hm],
      State.station_setStation_same]
    exact ⟨hchange, hold⟩
  · rw [State.station_setStation_ne _ _ hm]
    exact h m i

/-- One slot at a boundary (R48). -/
theorem State.slotBoundary_steady {s : State} (h : s.SlotsSteady) (b : Nat) (x : Nat × Nat) :
    OnlySlots s (s.slotBoundary b x) ∧ (s.slotBoundary b x).SlotsSteady := by
  obtain ⟨hchange, hold⟩ := h x.1 x.2
  -- the slot without the activations that end at b
  let s1 := s.setStation x.1 x.2 { s.station x.1 x.2 with active := (s.station x.1 x.2).active.filter (fun a => b < a.2) }
  have hsteady : s1.SlotsSteady := h.setStation x.1 x.2 hchange hold
  have honly : OnlySlots s s1 := OnlySlots.setStation ..
  obtain ⟨hchange1, hold1⟩ := hsteady x.1 x.2
  have happly : s1.applyChange x.1 x.2 b = s1 := by
    unfold State.applyChange
    simp only [hchange1]
  have hstep : s.slotBoundary b x = s1.activate x.1 x.2 b := by
    unfold State.slotBoundary
    change State.activate (if _ then s1.applyChange x.1 x.2 b else s1) x.1 x.2 b = _
    rw [happly, ite_self]
  rw [hstep]
  unfold State.activate
  simp only [hold1, List.find?_nil, List.filter_nil]
  split
  · exact ⟨honly.trans (OnlySlots.setStation ..), hsteady.setStation _ _ hchange1 rfl⟩
  · exact ⟨honly, hsteady⟩

theorem State.slotsBoundary_steady {s : State} (h : s.SlotsSteady) (b : Nat) (l : List (Nat × Nat)) :
    OnlySlots s (s.slotsBoundary b l) := by
  induction l generalizing s with
  | nil => exact OnlySlots.refl s
  | cons x rest ih =>
    obtain ⟨honly, hsteady⟩ := State.slotBoundary_steady h b x
    exact honly.trans (ih hsteady)

/-! ### A boundary that fires -/

/-- No wait begins in the stitch that ends, and no length, role, slot configuration or firmware change is pending. -/
structure FireReady (s : State) : Prop where
  noWaits : NoNewWaits s
  noChange : s.tick.change = none
  noLength : s.tick.upLen = none
  role : s.fld Reg.TICK_CONTROL Fl.TICK_CONTROL_ROLE = s.tick.role
  noRetire : s.fw.retirePending = false
  noActivation : s.fw.activateAt = none
  slots : s.SlotsSteady

theorem State.takeLength_eq {s : State} (b : Nat) (hlen : s.tick.upLen = none) (hchange : s.tick.change = none) :
    s.takeLength b = s := by
  unfold State.takeLength
  simp only [hlen, hchange]

theorem State.takeRole_eq {s : State} (h : s.fld Reg.TICK_CONTROL Fl.TICK_CONTROL_ROLE = s.tick.role) : s.takeRole = s :=
  if_pos h

theorem State.firmwareBoundary_eq {s : State} (b : Nat) (hretire : s.fw.retirePending = false) (hat : s.fw.activateAt = none) :
    s.firmwareBoundary b = s := by
  unfold State.firmwareBoundary
  rw [if_neg (by simp [hretire]), if_neg (by simp [hat])]

theorem State.deferActivation_eq {s : State} (b : Nat) (hat : s.fw.activateAt = none) : s.deferActivation b = s := by
  unfold State.deferActivation
  rw [hat]

/-- The alignment of the counts changes the tick's skew and status alone (R56). -/
theorem State.alignCount_spec (s : State) (b : Nat) :
    Changes [.tick] (· = Reg.TICK_STATUS) s (s.alignCount b)
      ∧ ∃ k r, (s.alignCount b).tick = { s.tick with skew := k, returned := r } := by
  unfold State.alignCount
  split
  · simp only
    split_ifs
    · exact ⟨(Changes.setTick s _).trans ((Changes.setFld _ _ _ _).mono (by simp) fun _ => id), _, _, rfl⟩
    · exact ⟨Changes.setTick s _, _, _, rfl⟩
  · exact ⟨Changes.refl _ _ s, s.tick.skew, s.tick.returned, rfl⟩

/-- The frame of a boundary. -/
abbrev BoundaryFrame (s t : State) : Prop := Changes boundaryParts BoundaryRegs s t

theorem boundaryFrame_of_tick {s t : State} (h : Changes [.tick] (· = Reg.TICK_STATUS) s t) : BoundaryFrame s t :=
  h.mono (by simp [boundaryParts]) fun _ => .inr

theorem not_recordBlock_of_lt {off : Nat} (h : off < 0x400000) : ¬RecordBlock off := by
  unfold RecordBlock
  omega

theorem not_recordBlock_of_ge {off : Nat} (h : 0x490000 ≤ off) : ¬RecordBlock off := by
  unfold RecordBlock
  omega

theorem BoundaryFrame.rd {s t : State} (h : BoundaryFrame s t) {off : Nat} (hr : ¬RecordBlock off)
    (hcount : off ≠ Reg.TICK_STITCH_COUNT) (hstatus : off ≠ Reg.TICK_STATUS) : t.rd off = s.rd off :=
  h.2.1 off hr fun ho => ho.elim hcount hstatus

/-- The beginning of a boundary: the stitch that ends is counted, STITCH_COUNT becomes b, and nothing is due any more. -/
def State.beginBoundary (s : State) (b : Nat) : State :=
  let s2 := s.advanceClock.wr Reg.TICK_STITCH_COUNT (BitVec.ofNat 64 b)
  s2.setTick { s2.tick with due := none, waited := 0, firedAt := s2.uptime }

theorem State.beginBoundary_spec {s : State} (h : NoNewWaits s) (b : Nat) :
    let t := s.beginBoundary b
    BoundaryFrame s t ∧ t.core = s.core ∧ t.rd Reg.TICK_STITCH_COUNT = BitVec.ofNat 64 b
      ∧ t.tick = { s.tick with due := none, waited := 0, firedAt := s.uptime } := by
  obtain ⟨u, c, hclock⟩ := State.advanceClock_eq h
  unfold State.beginBoundary
  rw [hclock]
  refine ⟨?_, rfl, ?_, ?_⟩
  · exact (((Changes.setClock s u c _).mono (by simp [boundaryParts]) fun _ => False.elim).trans
      ((Changes.wr _ _ _).mono (by simp) fun _ => .inl)).trans (boundaryFrame_of_tick (Changes.setTick _ _))
  · rw [State.rd_setTick _ _ (by decide), State.rd_wr_same]
  · have hup : ∀ (r : State) v, (r.wr Reg.TICK_STITCH_COUNT v).uptime = r.uptime := fun r v => by
      simp only [State.uptime, State.rd_wr_ne r v (by decide : Reg.SECURITY_UPTIME_NS ≠ Reg.TICK_STITCH_COUNT)]
    simp only [State.setTick_tick, State.wr_tick, hup]
    rfl

/-- A boundary beside what is pending at it and its pulse: the slots pass it, and the counts are aligned. -/
def State.passBoundary (s : State) (b : Nat) : State :=
  let s3 := s.beginBoundary b
  (s3.slotsBoundary b s3.slots).alignCount b

/-- The pulse on TICK_OUT (R64). -/
def State.pulse (s : State) (b : Nat) : State :=
  if s.flag Reg.TICK_CONTROL Fl.TICK_CONTROL_TICK_OUT_EN then s.emit (.tickOut (b % 65536 == 0)) else s

theorem State.passBoundary_spec {s : State} (h : FireReady s) (b : Nat) :
    let t := s.passBoundary b
    BoundaryFrame s t ∧ t.rd Reg.TICK_STITCH_COUNT = BitVec.ofNat 64 b
      ∧ ∃ k r, t.tick = { s.tick with due := none, waited := 0, firedAt := s.uptime, skew := k, returned := r } := by
  obtain ⟨hframe, hcore, hcount, htick⟩ := State.beginBoundary_spec h.noWaits b
  unfold State.passBoundary
  generalize s.beginBoundary b = s3 at *
  have hsteady : s3.SlotsSteady := fun n j => by
    unfold State.station
    rw [hcore]
    exact h.slots n j
  have honly := State.slotsBoundary_steady hsteady b s3.slots
  obtain ⟨halign, k, r, hskew⟩ := (s3.slotsBoundary b s3.slots).alignCount_spec b
  refine ⟨?_, ?_, k, r, ?_⟩
  · exact (hframe.trans (honly.changes.mono (by simp [boundaryParts]) fun _ => False.elim)).trans (boundaryFrame_of_tick halign)
  · rw [halign.2.1 _ (not_recordBlock_of_lt (by decide)) (by decide), honly.rd, hcount]
  · rw [hskew, honly.tick, htick]

theorem State.fire_eq {s : State} (h : FireReady s) (b : Nat) : s.fire b = (s.passBoundary b).pulse b := by
  obtain ⟨-, -, -, hbegun⟩ := State.beginBoundary_spec h.noWaits b
  obtain ⟨hframe, -, k, r, htick⟩ := State.passBoundary_spec h b
  have hlength : (s.beginBoundary b).takeLength b = s.beginBoundary b :=
    State.takeLength_eq b (by rw [hbegun]; exact h.noLength) (by rw [hbegun]; exact h.noChange)
  have hfw : (s.passBoundary b).fw = s.fw := hframe.1 .fw (by decide)
  have hrole : (s.passBoundary b).takeRole = s.passBoundary b := State.takeRole_eq (by
    rw [htick, State.fld_congr (BoundaryFrame.rd hframe (not_recordBlock_of_lt (by decide)) (by decide) (by decide))]
    exact h.role)
  have hlast : ((s.passBoundary b).takeRole.firmwareBoundary b).deferActivation b = s.passBoundary b := by
    rw [hrole, State.firmwareBoundary_eq b (hfw ▸ h.noRetire) (hfw ▸ h.noActivation),
      State.deferActivation_eq b (hfw ▸ h.noActivation)]
  have hfire : s.fire b = State.pulse (let s3 := (s.beginBoundary b).takeLength b
      (((s3.slotsBoundary b s3.slots).alignCount b).takeRole.firmwareBoundary b).deferActivation b) b := rfl
  rw [hfire, hlength]
  exact congrArg (State.pulse · b) hlast

/-- A boundary that fires in a steady device. -/
theorem State.fire_spec {s : State} (h : FireReady s) (b : Nat) :
    BoundaryFrame s (s.fire b) ∧ (s.fire b).rd Reg.TICK_STITCH_COUNT = BitVec.ofNat 64 b
      ∧ ∃ k r, (s.fire b).tick = { s.tick with due := none, waited := 0, firedAt := s.uptime, skew := k, returned := r } := by
  obtain ⟨hframe, hcount, htick⟩ := State.passBoundary_spec h b
  rw [State.fire_eq h]
  have hout : EventsOnly (s.passBoundary b) ((s.passBoundary b).pulse b) := by
    unfold State.pulse
    exact EventsOnly.ite (EventsOnly.emit _) (EventsOnly.refl _)
  exact ⟨hframe.events hout, by rw [hout.rd _ (not_recordBlock_of_lt (by decide)), hcount], hout.tick ▸ htick⟩

end Sys2Proof.Machine
end

section
/-! SUPPORT. Edges in the tick tree (R59, R327): what a list of edges leaves in the ports, and what a hold that is passed on changes. -/

namespace Sys2Proof.Machine

open Claims

section
variable (s : State) (kind slip b : Nat)

theorem State.port_setPort (p : Nat) (x : PortState) (q : Nat) : (s.setPort p x).port q = if q = p then x else s.port q :=
  Sparse.get_set _ _ _ _ _

/-- Edges on a list of different ports change the ports' edge lists alone. -/
theorem State.edges_spec {ports : List Nat} (h : ports.Nodup) :
    let t := s.edges kind slip b ports
    t = { s with net := t.net } ∧ EdgesSent s t ports kind slip b := by
  induction ports generalizing s with
  | nil => exact ⟨rfl, fun q => by simp [State.edges], rfl⟩
  | cons p rest ih =>
    obtain ⟨hp, hrest⟩ := List.nodup_cons.1 h
    obtain ⟨hnet, hports, hothers⟩ := ih (s.edge kind slip b p) hrest
    refine ⟨?_, fun q => ?_, ?_⟩
    · rw [State.edges, hnet]; rfl
    · rw [State.edges, hports q, State.edge, State.port_setPort]
      by_cases hq : q = p
      · subst hq
        simp [hp]
      · simp [hq]
    · rw [State.edges, hothers]; rfl

/-- The state after edges on a list of different ports, for frames and reads. -/
theorem State.changes_edges {ports : List Nat} (h : ports.Nodup) : Changes [.net] noReg s (s.edges kind slip b ports) := by
  rw [(s.edges_spec kind slip b h).1]
  exact Changes.setNet s _

theorem State.portsBelow_nodup : s.portsBelow.Nodup := List.nodup_range.filter _

end

/-- The ports below read from the tick's role, from CONTROL and from the registers of the ports. -/
theorem State.portsBelow_congr {s t : State} (hrole : t.tick.role = s.tick.role)
    (hrd : ∀ off, off ≠ Reg.TICK_STATUS → off ≠ Reg.TICK_SLIP_CYCLES → t.rd off = s.rd off) : t.portsBelow = s.portsBelow := by
  have hlinked : ∀ p, t.portLinked p = s.portLinked p := fun p => by
    have hstatus := hrd (Reg.BRIDE_PORT_STATUS p) (by unfold Reg.BRIDE_PORT_STATUS Reg.TICK_STATUS; omega)
      (by unfold Reg.BRIDE_PORT_STATUS Reg.TICK_SLIP_CYCLES; omega)
    unfold State.portLinked State.portAbsent
    rw [State.fld_congr hstatus, State.fld_congr hstatus, State.bit_congr (hrd Reg.DEVICE_FUSE_MAP (by decide) (by decide)),
      State.bit_congr (hrd Reg.DEVICE_RETIRE_UNITS (by decide) (by decide))]
  unfold State.portsBelow
  simp only [hlinked, hrole, State.fld_congr (hrd Reg.TICK_CONTROL (by decide) (by decide))]

end Sys2Proof.Machine
end

section
/-! SUPPORT. The writes that schedule a length, a start and a slot (R43, R45, R47, R71). -/

namespace Sys2Proof.Machine

open Claims

/-- A guarded write with the right to it ends as its write. -/
theorem State.guarded_begin {s : State} {who : Requester} {off : Nat} (h : s.mayWrite who off = true) (f : State → State) :
    s.begin.guarded who off f = f s.begin := if_pos h

/-! ### Lengths (R47) -/

theorem State.lenChangeOk_iff (s : State) (a : Nat) :
    let l := s.fld Reg.TICK_LEN_NEXT Fl.TICK_LEN_NEXT_LEN
    s.lenChangeOk a = true ↔ s.tick.role ≠ 2 ∧ s.fld Reg.TICK_STATUS Fl.TICK_STATUS_LEN_PENDING ≠ 1 ∧ 256 ≤ l ∧ l ≤ 65536
      ∧ 2 * s.fld Reg.TICK_DOMAIN_REACH Fl.TICK_DOMAIN_REACH_CYCLES ≤ l ∧ s.stitch + 3 ≤ a := by
  simp only [State.lenChangeOk, State.lenOpen, State.flag, Bool.and_eq_true, decide_eq_true_eq, bne_iff_ne, Bool.not_eq_true',
    beq_eq_false_iff_ne, and_assoc, ne_eq]

/-! ### Starts (R45) -/

/-- `firstMatch` is the first stitch of phase φ from its start on (R45). -/
theorem firstMatch_spec {k phase : Nat} (start : Nat) (h : phase < k) :
    start ≤ firstMatch k phase start ∧ firstMatch k phase start < start + k ∧ firstMatch k phase start % k = phase := by
  have hk : 0 < k := by omega
  have hrest : start % k < k := Nat.mod_lt _ hk
  have hstart := Nat.div_add_mod start k
  unfold firstMatch
  refine ⟨Nat.le_add_right _ _, Nat.add_lt_add_left (Nat.mod_lt _ hk) _, ?_⟩
  calc (start + (phase + k - start % k) % k) % k
      = (k * (start / k) + start % k + (phase + k - start % k)) % k := by rw [Nat.add_mod_mod, hstart]
    _ = (phase + k * (start / k + 1)) % k := by congr 1; rw [Nat.mul_add]; omega
    _ = phase := by rw [Nat.add_mul_mod_self_left, Nat.mod_eq_of_lt h]

/-- A slot after START_STITCH of tenant u has become e. -/
def State.movedSlot (s : State) (u e n j : Nat) : Station :=
  if s.coreTenant n = some u ∧ s.slotOn n j = true ∧ (s.station n j).activated = false ∧ (s.station n j).opened = none then
    let start := max e (s.station n j).enabledAt
    { s.station n j with start := start, next := firstMatch (s.cadence n j) (s.phaseOf n j) start }
  else s.station n j

section
variable {s t : State} {u e n j : Nat}

theorem State.movedSlot_congr (hstation : t.station n j = s.station n j)
    (howner : t.rd (Reg.CORE_OWNER n) = s.rd (Reg.CORE_OWNER n))
    (hconfig : t.rd (Reg.STATION_CONFIG n j) = s.rd (Reg.STATION_CONFIG n j)) : t.movedSlot u e n j = s.movedSlot u e n j := by
  unfold State.movedSlot State.coreTenant State.slotOn State.flag State.cadence State.phaseOf
  rw [hstation, State.ownerOf_congr howner, State.fld_congr hconfig, State.fld_congr hconfig, State.fld_congr hconfig]

theorem State.movedSlot_setStation_moved :
    (s.setStation n j (s.movedSlot u e n j)).movedSlot u e n j = s.movedSlot u e n j := by
  have hsame := s.station_setStation_same n j (s.movedSlot u e n j)
  rw [State.movedSlot, hsame]
  by_cases h : s.coreTenant n = some u ∧ s.slotOn n j = true ∧ (s.station n j).activated = false ∧ (s.station n j).opened = none
  · have hmoved : s.movedSlot u e n j = { s.station n j with
        start := max e (s.station n j).enabledAt
        next := firstMatch (s.cadence n j) (s.phaseOf n j) (max e (s.station n j).enabledAt) } := if_pos h
    rw [hmoved]
    exact if_pos h
  · rw [show s.movedSlot u e n j = s.station n j from if_neg h]
    exact if_neg h

theorem State.station_moveStart (x : Nat × Nat) (hx : x.2 < 4) (hj : j < 4) :
    (s.moveStart u e x).station n j = if (n, j) = x then s.movedSlot u e n j else s.station n j := by
  obtain ⟨m, i⟩ := x
  unfold State.moveStart
  by_cases hkey : (n, j) = (m, i)
  · obtain ⟨rfl, rfl⟩ := Prod.mk.inj hkey
    rw [if_pos rfl]
    simp only
    split_ifs with h
    · rw [State.station_setStation_same]
      exact (if_pos h).symm
    · exact (if_neg h).symm
  · rw [if_neg hkey]
    have hne : 4 * n + j ≠ 4 * m + i := fun h => hkey (Prod.ext (by simp only; omega) (by simp only at hx ⊢; omega))
    simp only
    split_ifs
    · exact State.station_setStation_ne _ _ hne
    · rfl

theorem State.onlySlots_moveStart (x : Nat × Nat) : OnlySlots s (s.moveStart u e x) := by
  unfold State.moveStart
  simp only
  split_ifs
  · exact OnlySlots.setStation ..
  · exact OnlySlots.refl s

theorem State.movedSlot_moveStart (x : Nat × Nat) (hx : x.2 < 4) (hj : j < 4) :
    (s.moveStart u e x).movedSlot u e n j = s.movedSlot u e n j := by
  have honly := State.onlySlots_moveStart (s := s) (u := u) (e := e) x
  have hstation := State.station_moveStart (s := s) (u := u) (e := e) (n := n) x hx hj
  by_cases hkey : (n, j) = x
  · rw [← State.movedSlot_setStation_moved (s := s)]
    refine State.movedSlot_congr ?_ (honly.rd _) (honly.rd _)
    rw [hstation, if_pos hkey, State.station_setStation_same]
  · exact State.movedSlot_congr (hstation.trans (if_neg hkey)) (honly.rd _) (honly.rd _)

/-- The slots of a list are moved, once each for all that some stand in it twice, and nothing else changes. -/
theorem State.moveStarts_spec {l : List (Nat × Nat)} (hl : ∀ x ∈ l, x.2 < 4) :
    OnlySlots s (s.moveStarts u e l)
      ∧ ∀ n, ∀ j < 4, (s.moveStarts u e l).station n j = if (n, j) ∈ l then s.movedSlot u e n j else s.station n j := by
  induction l generalizing s with
  | nil => exact ⟨OnlySlots.refl s, fun n j _ => by simp [State.moveStarts]⟩
  | cons x rest ih =>
    have hx : x.2 < 4 := hl x (List.mem_cons_self ..)
    obtain ⟨honly, hslots⟩ := ih (s := s.moveStart u e x) fun y hy => hl y (List.mem_cons_of_mem _ hy)
    refine ⟨(State.onlySlots_moveStart x).trans honly, fun n j hj => ?_⟩
    rw [State.moveStarts, hslots n j hj, State.movedSlot_moveStart x hx hj, State.station_moveStart x hx hj]
    by_cases hrest : (n, j) ∈ rest <;> simp [hrest]

end

/-! ### Slots (R43, R71) -/

/-- A slot that is enabled at once (R43, R45). -/
def State.enabledSlot (s : State) (n j k phase : Nat) : Station :=
  let st := s.station n j
  let start := max (s.startStitch n) (s.stitch + 2)
  let first := firstMatch k phase start
  let st1 := { st with activated := false, enabledAt := s.stitch + 2, start := start, change := none }
  if st.opened.isSome then { st1 with resume := some first } else { st1 with next := first }

theorem State.enableSlot_eq (s : State) (n j k phase : Nat) :
    s.enableSlot n j k phase = s.setStation n j (s.enabledSlot n j k phase) := rfl

theorem State.ownerOf_lt {s : State} {off u : Nat} (h : s.ownerOf off = some u) : u < 32 := by
  unfold State.ownerOf at h
  split at h
  · exact Option.some.inj h ▸ Fld.read_lt _ _
  · exact absurd h.symm (Option.some_ne_none u)

theorem State.enabledSlot_congr {s t : State} (n j k phase : Nat) (hcore : t.core = s.core)
    (hrd : ∀ off, off < 0x400000 ∨ 0x3000000 ≤ off → t.rd off = s.rd off) :
    t.enabledSlot n j k phase = s.enabledSlot n j k phase := by
  have hstation : t.station n j = s.station n j := by
    unfold State.station
    rw [hcore]
  have howner : t.coreTenant n = s.coreTenant n := State.ownerOf_congr (hrd _ (.inr (by unfold Reg.CORE_OWNER; omega)))
  have hcount : t.stitch = s.stitch := by
    unfold State.stitch
    rw [hrd _ (.inl (by decide))]
  have hstart : t.startStitch n = s.startStitch n := by
    unfold State.startStitch
    rw [howner]
    split
    next u hu =>
      have hu : u < 32 := State.ownerOf_lt hu
      exact State.fld_congr (hrd _ (.inl (by unfold Reg.TICK_TENANT_START_STITCH; omega))) _
    next => rfl
  unfold State.enabledSlot
  rw [hstation, hcount, hstart]

/-- A word asks to enable a slot with a phase at or above its cadence (R43). -/
abbrev PhaseRefused (v : Word) : Prop :=
  Fl.STATION_CONFIG_ENABLE.read v = 1 ∧ Fl.STATION_CONFIG_CADENCE.read v + 1 ≤ Fl.STATION_CONFIG_PHASE.read v

/-- ENABLE, CADENCE and PHASE of a slot take the fields of a word. -/
def State.storeSlot (s : State) (n j : Nat) (v : Word) : State :=
  let r := Reg.STATION_CONFIG n j
  ((s.setFld r Fl.STATION_CONFIG_ENABLE (Fl.STATION_CONFIG_ENABLE.read v)).setFld r Fl.STATION_CONFIG_CADENCE
    (Fl.STATION_CONFIG_CADENCE.read v)).setFld r Fl.STATION_CONFIG_PHASE (Fl.STATION_CONFIG_PHASE.read v)

section
variable (s : State) (n j : Nat) (v : Word)

theorem State.changes_storeSlot : Changes [] (· = Reg.STATION_CONFIG n j) s (s.storeSlot n j v) :=
  ((Changes.setFld _ _ _ _).trans (Changes.setFld _ _ _ _)).trans (Changes.setFld _ _ _ _)

theorem State.fld_storeSlot (f : Fld) : (s.storeSlot n j v).fld (Reg.STATION_CONFIG n j) f =
    f.read (Fl.STATION_CONFIG_PHASE.write (Fl.STATION_CONFIG_CADENCE.write (Fl.STATION_CONFIG_ENABLE.write (s.rd (Reg.STATION_CONFIG n j))
      (Fl.STATION_CONFIG_ENABLE.read v)) (Fl.STATION_CONFIG_CADENCE.read v)) (Fl.STATION_CONFIG_PHASE.read v)) := by
  simp only [State.storeSlot, State.fld, State.rd_setFld, if_true]

theorem State.enable_storeSlot :
    (s.storeSlot n j v).fld (Reg.STATION_CONFIG n j) Fl.STATION_CONFIG_ENABLE = Fl.STATION_CONFIG_ENABLE.read v := by
  rw [State.fld_storeSlot, Fld.read_write_disjoint _ _ _ _ (by decide), Fld.read_write_disjoint _ _ _ _ (by decide),
    Fld.read_write _ _ _ (by decide), Nat.mod_eq_of_lt (Fld.read_lt _ _)]

theorem State.cadence_storeSlot :
    (s.storeSlot n j v).fld (Reg.STATION_CONFIG n j) Fl.STATION_CONFIG_CADENCE = Fl.STATION_CONFIG_CADENCE.read v := by
  rw [State.fld_storeSlot, Fld.read_write_disjoint _ _ _ _ (by decide), Fld.read_write _ _ _ (by decide),
    Nat.mod_eq_of_lt (Fld.read_lt _ _)]

theorem State.phase_storeSlot :
    (s.storeSlot n j v).fld (Reg.STATION_CONFIG n j) Fl.STATION_CONFIG_PHASE = Fl.STATION_CONFIG_PHASE.read v := by
  rw [State.fld_storeSlot, Fld.read_write _ _ _ (by decide), Nat.mod_eq_of_lt (Fld.read_lt _ _)]

theorem State.configErr_storeSlot : (s.storeSlot n j v).fld (Reg.STATION_CONFIG n j) Fl.STATION_CONFIG_CONFIG_ERR
    = s.fld (Reg.STATION_CONFIG n j) Fl.STATION_CONFIG_CONFIG_ERR := by
  rw [State.fld_storeSlot, Fld.read_write_disjoint _ _ _ _ (by decide), Fld.read_write_disjoint _ _ _ _ (by decide),
    Fld.read_write_disjoint _ _ _ _ (by decide)]
  rfl

/-- A write that enables a slot clears CONFIG_ERR. -/
def State.clearConfigErr (s : State) (n j : Nat) (v : Word) : State :=
  if Fl.STATION_CONFIG_ENABLE.read v = 1 then s.setFld (Reg.STATION_CONFIG n j) Fl.STATION_CONFIG_CONFIG_ERR 0 else s

theorem State.changes_clearConfigErr : Changes [] (· = Reg.STATION_CONFIG n j) s (s.clearConfigErr n j v) := by
  unfold State.clearConfigErr
  split_ifs
  · exact Changes.setFld ..
  · exact Changes.refl ..

theorem State.fld_clearConfigErr (off : Nat) {f : Fld} (h : f.lo + f.width ≤ 1 ∨ 2 ≤ f.lo) :
    (s.clearConfigErr n j v).fld off f = s.fld off f := by
  unfold State.clearConfigErr
  split_ifs
  · by_cases hoff : off = Reg.STATION_CONFIG n j
    · rw [hoff, State.fld_setFld_disjoint _ _ _ _ _ h]
    · exact State.fld_setFld_ne _ _ _ _ hoff
  · rfl

@[simp] theorem State.core_clearConfigErr : (s.clearConfigErr n j v).core = s.core := by
  unfold State.clearConfigErr
  split_ifs <;> rfl

@[simp] theorem State.slotOn_clearConfigErr : (s.clearConfigErr n j v).slotOn n j = s.slotOn n j := by
  unfold State.slotOn State.flag
  rw [State.fld_clearConfigErr _ _ _ _ _ (by decide)]

variable {s n j v}

theorem State.writeStationConfig_refused (h : PhaseRefused v) :
    s.writeStationConfig n j v = s.setFld (Reg.STATION_CONFIG n j) Fl.STATION_CONFIG_CONFIG_ERR 1 :=
  if_pos (by simpa [PhaseRefused] using h)

theorem State.writeStationConfig_enabled (h : ¬PhaseRefused v) (hon : s.slotOn n j = true) :
    s.writeStationConfig n j v = (s.clearConfigErr n j v).setStation n j { s.station n j with
      change := some (Fl.STATION_CONFIG_ENABLE.read v, Fl.STATION_CONFIG_CADENCE.read v, Fl.STATION_CONFIG_PHASE.read v) } := by
  have hstation : (s.clearConfigErr n j v).station n j = s.station n j := by
    unfold State.station
    rw [State.core_clearConfigErr]
  rw [← hstation]
  exact (if_neg (by simpa [PhaseRefused] using h)).trans (if_pos ((State.slotOn_clearConfigErr s n j v).trans hon))

theorem State.writeStationConfig_disabled (h : ¬PhaseRefused v) (hoff : s.slotOn n j = false) :
    s.writeStationConfig n j v = if Fl.STATION_CONFIG_ENABLE.read v = 1 then
        ((s.clearConfigErr n j v).storeSlot n j v).enableSlot n j (Fl.STATION_CONFIG_CADENCE.read v + 1) (Fl.STATION_CONFIG_PHASE.read v)
      else (s.clearConfigErr n j v).storeSlot n j v :=
  (if_neg (by simpa [PhaseRefused] using h)).trans (if_neg (Bool.eq_false_iff.1 ((State.slotOn_clearConfigErr s n j v).trans hoff)))

/-- A disabled slot that is enabled: its fields are stored before it is enabled with them. -/
theorem State.writeStationConfig_enables (h : ¬PhaseRefused v) (hen : Fl.STATION_CONFIG_ENABLE.read v = 1) (hoff : s.slotOn n j = false) :
    ∃ s1, s.writeStationConfig n j v
          = s1.enableSlot n j (Fl.STATION_CONFIG_CADENCE.read v + 1) (Fl.STATION_CONFIG_PHASE.read v)
      ∧ Changes [] (· = Reg.STATION_CONFIG n j) s s1
      ∧ s1.fld (Reg.STATION_CONFIG n j) Fl.STATION_CONFIG_ENABLE = Fl.STATION_CONFIG_ENABLE.read v
      ∧ s1.fld (Reg.STATION_CONFIG n j) Fl.STATION_CONFIG_CADENCE = Fl.STATION_CONFIG_CADENCE.read v
      ∧ s1.fld (Reg.STATION_CONFIG n j) Fl.STATION_CONFIG_PHASE = Fl.STATION_CONFIG_PHASE.read v
      ∧ s1.fld (Reg.STATION_CONFIG n j) Fl.STATION_CONFIG_CONFIG_ERR = 0 := by
  have hclear : s.clearConfigErr n j v = s.setFld (Reg.STATION_CONFIG n j) Fl.STATION_CONFIG_CONFIG_ERR 0 := if_pos hen
  refine ⟨(s.clearConfigErr n j v).storeSlot n j v, (State.writeStationConfig_disabled h hoff).trans (if_pos hen),
    (State.changes_clearConfigErr ..).trans (State.changes_storeSlot ..), State.enable_storeSlot .., State.cadence_storeSlot ..,
    State.phase_storeSlot .., ?_⟩
  rw [State.configErr_storeSlot, hclear, State.fld_setFld_same _ _ _ _ (by decide)]
  rfl

/-- The slot's own register does not place its first activation. -/
theorem State.enabledSlot_config {n : Fin 128} {j : Fin 4} {s t : State} (h : Changes [] (· = Reg.STATION_CONFIG n j) s t)
    (k phase : Nat) : t.enabledSlot n j k phase = s.enabledSlot n j k phase :=
  State.enabledSlot_congr _ _ _ _ (h.1 .core (by simp)) fun off ho =>
    h.2.1 off (ho.elim not_recordBlock_of_lt fun ho => not_recordBlock_of_ge (by omega))
      (by unfold Reg.STATION_CONFIG Reg.coreBase; omega)

end

end Sys2Proof.Machine

namespace Sys2Proof.Proofs

open Machine Claims

section
variable {s : State} {who : Requester} {v : Word}

/-- A change of length is scheduled where its conditions hold (R47). -/
theorem lenChange_scheduled (hmay : s.mayWrite who Reg.TICK_LEN_CHANGE_AT = true) (hok : s.lenChangeOk v.toNat = true) :
    Does s (.lenChangeSchedule who v) [.tick] (fun off => off = Reg.TICK_LEN_CHANGE_AT ∨ off = Reg.TICK_STATUS) fun t =>
      t.rd Reg.TICK_LEN_CHANGE_AT = v ∧ t.fld Reg.TICK_STATUS Fl.TICK_STATUS_LEN_PENDING = 1
        ∧ t.tick = { s.tick with change := some (s.fld Reg.TICK_LEN_NEXT Fl.TICK_LEN_NEXT_LEN, v.toNat) } := by
  have hwrite : s.begin.writeLenChangeAt v = ((s.begin.wr Reg.TICK_LEN_CHANGE_AT v).setTick { s.tick with
      change := some (s.fld Reg.TICK_LEN_NEXT Fl.TICK_LEN_NEXT_LEN, v.toNat) }).setFld Reg.TICK_STATUS Fl.TICK_STATUS_LEN_PENDING 1 :=
    if_pos hok
  refine does_of_finish (congrArg finish ((State.guarded_begin hmay _).trans hwrite)) ?_ fun t ht => ⟨?_, ?_, ?_⟩
  · exact ((Changes.of_begin ((Changes.wr _ _ _).mono (by simp) fun _ => .inl)).trans
      ((Changes.setTick _ _).mono (fun _ => id) fun _ => .inr)).trans ((Changes.setFld _ _ _ _).mono (by simp) fun _ => .inr)
  · rw [ht.rd _ (not_recordBlock_of_lt (by decide)), State.rd_setFld_ne _ _ _ (by decide), State.rd_setTick _ _ (by decide),
      State.rd_wr_same]
  · rw [ht.fld (not_recordBlock_of_lt (by decide)), State.fld_setFld_same _ _ _ _ (by decide)]
    rfl
  · rw [ht.tick]
    rfl

/-- A change of length whose conditions fail has no effect (R47). -/
theorem lenChange_refused (hmay : s.mayWrite who Reg.TICK_LEN_CHANGE_AT = true) (hok : ¬s.lenChangeOk v.toNat = true) :
    DoesNothing s (.lenChangeSchedule who v) :=
  have hwrite : s.begin.writeLenChangeAt v = s.begin := if_neg hok
  doesNothing_of_finish (congrArg finish ((State.guarded_begin hmay _).trans hwrite))

/-- A write of START_STITCH takes a value of at least STITCH_COUNT + 2, and moves the tenant's slots without an activation (R45). -/
theorem startStitch_moves {u : Fin 32} (hmay : s.mayWrite who (Reg.TICK_TENANT_START_STITCH u) = true) :
    let e := max v.toNat (s.stitch + 2)
    Does s (.startStitchWrite who u v) [.core] (fun off => off = Reg.TICK_TENANT_START_STITCH u) fun t =>
      t.rd (Reg.TICK_TENANT_START_STITCH u) = BitVec.ofNat 64 e ∧ t.core = { s.core with stations := t.core.stations }
        ∧ ∀ x ∈ s.core.stations, t.station (x.1 / 4) (x.1 % 4) = s.movedSlot u e (x.1 / 4) (x.1 % 4) := by
  intro e
  let s1 := s.begin.wr (Reg.TICK_TENANT_START_STITCH u) (BitVec.ofNat 64 e)
  have heffect : (if s.stitch + 2 ≤ v.toNat then v.toNat else s.stitch + 2) = e := by
    split_ifs <;> omega
  have hwrite : s.begin.writeStartStitch u v = s1.moveStarts u e s.slots := by
    unfold State.writeStartStitch
    exact congrArg (fun e => (s.begin.wr (Reg.TICK_TENANT_START_STITCH u) (BitVec.ofNat 64 e)).moveStarts u e s.slots) heffect
  have hslots : ∀ x ∈ s.slots, x.2 < 4 := fun x hx => by
    obtain ⟨y, -, rfl⟩ := List.mem_map.1 hx
    exact Nat.mod_lt _ (by decide)
  obtain ⟨honly, hmoved⟩ := State.moveStarts_spec (s := s1) (u := u) (e := e) hslots
  have htick : Reg.TICK_TENANT_START_STITCH u < 0x400000 := by
    unfold Reg.TICK_TENANT_START_STITCH
    omega
  refine does_of_finish (congrArg finish ((State.guarded_begin hmay _).trans hwrite)) ?_ fun t ht => ⟨?_, ?_, fun x hx => ?_⟩
  · exact (Changes.of_begin ((Changes.wr _ _ _).mono (by simp) fun _ => id)).trans (honly.changes.mono (by simp) fun _ => False.elim)
  · rw [ht.rd _ (not_recordBlock_of_lt htick), honly.rd, State.rd_wr_same]
  · rw [ht.core, honly]
    rfl
  · have hmem : (x.1 / 4, x.1 % 4) ∈ s.slots := List.mem_map.2 ⟨x, hx, rfl⟩
    have hother : ∀ off, 0x1000000 ≤ off → s1.rd off = s.rd off := fun off ho =>
      State.rd_wr_ne s.begin _ (by omega)
    have hstation : t.station (x.1 / 4) (x.1 % 4) = (s1.moveStarts u e s.slots).station (x.1 / 4) (x.1 % 4) := by
      unfold State.station
      rw [ht.core]
    rw [hstation, hmoved _ _ (Nat.mod_lt _ (by decide)), if_pos hmem]
    exact State.movedSlot_congr rfl (hother _ (by unfold Reg.CORE_OWNER; omega))
      (hother _ (by unfold Reg.STATION_CONFIG Reg.coreBase; omega))

section
variable {n : Fin 128} {j : Fin 4}

theorem stationConfig_not_record (n : Fin 128) (j : Fin 4) : ¬RecordBlock (Reg.STATION_CONFIG n j) :=
  not_recordBlock_of_ge (by unfold Reg.STATION_CONFIG Reg.coreBase; omega)

/-- The other slots after a change of slot (n, j). -/
theorem others_setStation {s t : State} {x : Station} (h : t.core = (s.setStation n j x).core) (m i : Nat)
    (hother : ¬(m = n.val ∧ i = j.val)) (hi : i < 4) : t.station m i = s.station m i := by
  unfold State.station
  rw [h]
  exact State.station_setStation_ne s x (by omega)

variable (hmay : s.mayWrite who (Reg.STATION_CONFIG n j) = true)
include hmay

theorem stationConfig_refused (hbad : PhaseRefused v) :
    Does s (.stationConfigWrite who n j v) [] (fun off => off = Reg.STATION_CONFIG n j) fun t =>
      t.fld (Reg.STATION_CONFIG n j) Fl.STATION_CONFIG_CONFIG_ERR = 1 ∧ t.slotOn n j = s.slotOn n j ∧ t.cadence n j = s.cadence n j
        ∧ t.phaseOf n j = s.phaseOf n j := by
  refine does_of_finish (congrArg finish ((State.guarded_begin hmay _).trans (State.writeStationConfig_refused hbad)))
    (Changes.of_begin (Changes.setFld ..)) fun t ht => ?_
  have reads : ∀ f : Fld, f.lo + f.width ≤ 1 ∨ 2 ≤ f.lo → t.fld (Reg.STATION_CONFIG n j) f = s.fld (Reg.STATION_CONFIG n j) f :=
    fun f hf => (ht.fld (stationConfig_not_record n j) f).trans (State.fld_setFld_disjoint _ _ _ _ _ hf)
  refine ⟨?_, ?_, ?_, ?_⟩
  · rw [ht.fld (stationConfig_not_record n j), State.fld_setFld_same _ _ _ _ (by decide)]
    rfl
  · unfold State.slotOn State.flag
    rw [reads _ (by decide)]
  · unfold State.cadence
    rw [reads _ (by decide)]
  · exact reads _ (by decide)

/-- An enabled slot takes the word at its next deadline. -/
theorem stationConfig_waits (hon : s.slotOn n j = true) (hbad : ¬PhaseRefused v) :
    Does s (.stationConfigWrite who n j v) [.core] (fun off => off = Reg.STATION_CONFIG n j) fun t =>
      t.slotOn n j = true ∧ t.cadence n j = s.cadence n j ∧ t.phaseOf n j = s.phaseOf n j
        ∧ (∀ m i, ¬(m = n.val ∧ i = j.val) → m < 128 → i < 4 → t.station m i = s.station m i)
        ∧ t.station n j = { s.station n j with
            change := some (Fl.STATION_CONFIG_ENABLE.read v, Fl.STATION_CONFIG_CADENCE.read v, Fl.STATION_CONFIG_PHASE.read v) } := by
  refine does_of_finish (congrArg finish ((State.guarded_begin hmay _).trans (State.writeStationConfig_enabled hbad hon))) ?_
    fun t ht => ?_
  · exact (Changes.of_begin ((State.changes_clearConfigErr ..).mono (by simp) fun _ => id)).trans
      ((OnlySlots.setStation _ _ _ _).changes.mono (fun _ => id) fun _ => False.elim)
  have reads : ∀ f : Fld, f.lo + f.width ≤ 1 ∨ 2 ≤ f.lo → t.fld (Reg.STATION_CONFIG n j) f = s.fld (Reg.STATION_CONFIG n j) f :=
    fun f hf => (ht.fld (stationConfig_not_record n j) f).trans (State.fld_clearConfigErr _ _ _ _ _ hf)
  have hcore : t.core = (s.setStation n j { s.station n j with
      change := some (Fl.STATION_CONFIG_ENABLE.read v, Fl.STATION_CONFIG_CADENCE.read v, Fl.STATION_CONFIG_PHASE.read v) }).core := by
    rw [ht.core]
    unfold State.setStation
    rw [State.core_clearConfigErr]
    rfl
  refine ⟨?_, ?_, ?_, fun m i hother _ hi => others_setStation hcore m i hother hi, ?_⟩
  · rw [← hon]
    unfold State.slotOn State.flag
    rw [reads _ (by decide)]
  · unfold State.cadence
    rw [reads _ (by decide)]
  · exact reads _ (by decide)
  · unfold State.station
    rw [hcore]
    exact State.station_setStation_same s n j _

/-- A disabled slot that stays disabled takes the word at once. -/
theorem stationConfig_stored (hen : Fl.STATION_CONFIG_ENABLE.read v = 0) (hoff : s.slotOn n j = false) :
    Does s (.stationConfigWrite who n j v) [] (fun off => off = Reg.STATION_CONFIG n j) fun t =>
      t.fld (Reg.STATION_CONFIG n j) Fl.STATION_CONFIG_ENABLE = Fl.STATION_CONFIG_ENABLE.read v
        ∧ t.fld (Reg.STATION_CONFIG n j) Fl.STATION_CONFIG_CADENCE + 1 = Fl.STATION_CONFIG_CADENCE.read v + 1
        ∧ t.fld (Reg.STATION_CONFIG n j) Fl.STATION_CONFIG_PHASE = Fl.STATION_CONFIG_PHASE.read v := by
  have hbad : ¬PhaseRefused v := fun h => absurd (hen.symm.trans h.1) (by decide)
  have hwrite : s.begin.writeStationConfig n j v = (s.begin.clearConfigErr n j v).storeSlot n j v :=
    (State.writeStationConfig_disabled (s := s.begin) hbad hoff).trans (if_neg fun h => absurd (hen.symm.trans h) (by decide))
  refine does_of_finish (congrArg finish ((State.guarded_begin hmay _).trans hwrite)) ?_ fun t ht => ?_
  · exact (Changes.of_begin (State.changes_clearConfigErr ..)).trans (State.changes_storeSlot ..)
  · simp only [ht.fld (stationConfig_not_record n j), State.enable_storeSlot, State.cadence_storeSlot, State.phase_storeSlot]
    trivial

/-- A disabled slot is enabled at once; its first activation is the first stitch of its phase from START_STITCH on, two stitches
ahead at the least. -/
theorem stationConfig_enables (hen : Fl.STATION_CONFIG_ENABLE.read v = 1)
    (hphase : Fl.STATION_CONFIG_PHASE.read v < Fl.STATION_CONFIG_CADENCE.read v + 1) (hoff : s.slotOn n j = false) :
    Does s (.stationConfigWrite who n j v) [.core] (fun off => off = Reg.STATION_CONFIG n j) fun t =>
      (t.fld (Reg.STATION_CONFIG n j) Fl.STATION_CONFIG_ENABLE = Fl.STATION_CONFIG_ENABLE.read v
          ∧ t.fld (Reg.STATION_CONFIG n j) Fl.STATION_CONFIG_CADENCE + 1 = Fl.STATION_CONFIG_CADENCE.read v + 1
          ∧ t.fld (Reg.STATION_CONFIG n j) Fl.STATION_CONFIG_PHASE = Fl.STATION_CONFIG_PHASE.read v)
        ∧ t.fld (Reg.STATION_CONFIG n j) Fl.STATION_CONFIG_CONFIG_ERR = 0
        ∧ (∀ m i, ¬(m = n.val ∧ i = j.val) → m < 128 → i < 4 → t.station m i = s.station m i)
        ∧ t.station n j = s.enabledSlot n j (Fl.STATION_CONFIG_CADENCE.read v + 1) (Fl.STATION_CONFIG_PHASE.read v) := by
  have hbad : ¬PhaseRefused v := fun h => absurd h.2 (Nat.not_le_of_lt hphase)
  obtain ⟨s1, hwrite, hchanges, henable, hcadence, hphase, herr⟩ := State.writeStationConfig_enables (s := s.begin) hbad hen hoff
  have hslot := State.enabledSlot_config hchanges (Fl.STATION_CONFIG_CADENCE.read v + 1) (Fl.STATION_CONFIG_PHASE.read v)
  refine does_of_finish (congrArg finish ((State.guarded_begin hmay _).trans hwrite)) ?_ fun t ht => ?_
  · exact (Changes.of_begin (hchanges.mono (by simp) fun _ => id)).trans
      ((OnlySlots.setStation _ _ _ _).changes.mono (fun _ => id) fun _ => False.elim)
  have reads : ∀ f : Fld, t.fld (Reg.STATION_CONFIG n j) f = s1.fld (Reg.STATION_CONFIG n j) f :=
    fun f => ht.fld (stationConfig_not_record n j) f
  have hcore : t.core = (s.setStation n j (s.enabledSlot n j (Fl.STATION_CONFIG_CADENCE.read v + 1)
      (Fl.STATION_CONFIG_PHASE.read v))).core := by
    have hcore1 : s1.core = s.core := hchanges.1 .core (by simp)
    rw [ht.core, State.enableSlot_eq, hslot]
    unfold State.setStation
    rw [hcore1]
    rfl
  refine ⟨⟨?_, ?_, ?_⟩, ?_, fun m i hother _ hi => others_setStation hcore m i hother hi, ?_⟩
  · rw [reads, henable]
  · rw [reads, hcadence]
  · rw [reads, hphase]
  · rw [reads, herr]
  · unfold State.station
    rw [hcore]
    exact State.station_setStation_same s n j _

end

end

/-- Settles O27. That START_STITCH, written too early, stores the value in effect is the model's choice (notes/assumptions/94), and
`State.movedSlot` says what it does to each slot. -/
theorem tickWritesSchedule : Obligations.TickWritesSchedule := by
  intro s who v
  refine ⟨fun hmay => ⟨fun hok => lenChange_scheduled hmay ((State.lenChangeOk_iff s _).2 hok),
    fun hok => lenChange_refused hmay (mt (State.lenChangeOk_iff s _).1 hok)⟩, fun u hmay => ?_, fun n j hmay => ⟨fun hen hbad => ?_,
    fun hen hoff => stationConfig_stored hmay hen hoff, fun hen hphase hoff => ?_,
    fun hon hbad => stationConfig_waits hmay hon hbad⟩⟩
  · obtain ⟨t, ht, ⟨hstart, hcore, hslots⟩, hframe⟩ := startStitch_moves (v := v) hmay
    refine ⟨t, ht, ⟨by rw [hstart, BitVec.toNat_ofNat], hcore, fun x hx => ⟨fun hmoved hphase => ?_, fun hkept => ?_⟩⟩, hframe⟩
    · obtain ⟨hlo, hhi, hmod⟩ := firstMatch_spec (max (max v.toNat (s.stitch + 2)) (s.station (x.1 / 4) (x.1 % 4)).enabledAt) hphase
      exact ⟨_, hlo, hhi, hmod, (hslots x hx).trans (if_pos hmoved)⟩
    · exact (hslots x hx).trans (if_neg hkept)
  · exact stationConfig_refused hmay ⟨hen, hbad⟩
  · obtain ⟨t, ht, ⟨hstored, herr, hothers, hslot⟩, hframe⟩ := stationConfig_enables hmay hen hphase hoff
    obtain ⟨hlo, hhi, hmod⟩ := firstMatch_spec (max (s.startStitch n) (s.stitch + 2)) hphase
    refine ⟨t, ht, ⟨hstored, herr, hothers, _, hlo, hhi, hmod, ?_⟩, hframe⟩
    rw [hslot]
    unfold State.enabledSlot
    simp only
    split_ifs <;> trivial

end Sys2Proof.Proofs
end

section
/-! Holds and clearances in the tick tree (R55, R59, R60): which edges a device passes on, and to which ports. -/

namespace Sys2Proof.Machine

open Claims

section
variable {s t : State} {b B slip : Nat}

/-- Sixteen bits of a boundary name the one they are nearest to (R327). -/
theorem State.nearest_of_named {b : BitVec 16} (h : NamedBoundary s b B) : s.nearest 16 b.toNat = B := by
  obtain ⟨hlow, hlo, hhi⟩ := h
  have hb : b.toNat < 65536 := b.isLt
  simp only [State.nearest, signedOf]
  norm_num only
  split_ifs <;> omega

/-- Edges depend on the ports alone. -/
theorem EdgesSent.congr {s' t' : State} {ports : List Nat} {kind : Nat} (hs : s'.net = s.net) (ht : t'.net = t.net)
    (h : EdgesSent s t ports kind slip B) : EdgesSent s' t' ports kind slip B := by
  unfold EdgesSent State.port at h ⊢
  rwa [hs, ht]

/-- A command that changes the tick's state and then sends edges. -/
theorem does_edges {c : Instr} {offs : Nat → Prop} {ports : List Nat} {kind : Nat} (hports : ports.Nodup)
    (hframe : Changes [.tick] offs s t) (hc : exec c s = finish (t.edges kind slip B ports)) :
    Does s c [.tick, .net] offs fun u =>
      u.tick = t.tick ∧ (∀ off, ¬RecordBlock off → u.rd off = t.rd off) ∧ EdgesSent s u ports kind slip B := by
  obtain ⟨hedges, hsent⟩ := t.edges_spec kind slip B hports
  have hnet : t.net = s.net := hframe.1 .net (by simp)
  refine does_of_finish hc ?_ fun u hu => ⟨?_, fun off ho => ?_, EdgesSent.congr hnet.symm hu.net hsent⟩
  · exact (hframe.mono (by simp) fun _ => id).trans ((t.changes_edges kind slip B hports).mono (by simp) fun _ => False.elim)
  · rw [hu.tick, hedges]
  · rw [hu.rd off ho, hedges]
    rfl

theorem State.fireDue_none (h : s.tick.due = none) : s.fireDue slip = s := by
  unfold State.fireDue
  rw [h]

theorem State.portsBelow_setTick (x : TickState) (h : x.role = s.tick.role) : (s.setTick x).portsBelow = s.portsBelow :=
  State.portsBelow_congr h fun _ hstatus _ => s.rd_setTick x hstatus

theorem State.isMaster_iff : s.isMaster = true ↔ s.tick.role = 1 ∨ s.tick.role = 3 := by
  simp [State.isMaster]

theorem State.follows_role (h : s.follows = true) : s.tick.role = 2 := by
  simp only [State.follows, Bool.and_eq_true, beq_iff_eq] at h
  exact h.1

theorem State.isMaster_of_follows (h : s.follows = true) : s.isMaster = false := by
  simp [State.isMaster, State.follows_role h]

theorem State.isUpstream_of_isMaster (h : s.isMaster = true) (p : Nat) : s.isUpstream p = false := by
  obtain h | h := State.isMaster_iff.1 h <;> simp [State.isUpstream, h]

theorem State.isUpstream_of_ne {p : Nat} (h : p ≠ upPort s) : s.isUpstream p = false := by
  unfold upPort at h
  simp [State.isUpstream, h]

end

/-! ### The announcement (R59, R60) -/

section
variable (s : State) (b slip : Nat)

/-- The state in which a device sends an announcement on. -/
def State.takeAnnouncement : State :=
  (s.setTick { s.tick with domain := none, asked := none, announced := some (b, slip), heard := [] }).addSlip slip

theorem State.changes_takeAnnouncement : Changes [.tick] (fun off => off = Reg.TICK_STATUS ∨ off = Reg.TICK_SLIP_CYCLES) s
    (s.takeAnnouncement b slip) :=
  ((Changes.setTick s _).mono (fun _ => id) fun _ => .inl).trans ((Changes.wr _ _ _).mono (by simp) fun _ => .inr)

theorem State.announceDown_eq : s.announceDown b slip = (s.takeAnnouncement b slip).edges 4 slip b s.portsBelow := rfl

theorem State.tick_takeAnnouncement : (s.takeAnnouncement b slip).tick
    = { s.tick with domain := none, asked := none, announced := some (b, slip), heard := [] } := rfl

theorem State.slipCycles_takeAnnouncement : ((s.takeAnnouncement b slip).rd Reg.TICK_SLIP_CYCLES).toNat
    = ((s.rd Reg.TICK_SLIP_CYCLES).toNat + slip) % 2 ^ 64 := by
  unfold State.takeAnnouncement State.addSlip State.addWrap
  rw [State.rd_wr_same, State.rd_setTick _ _ (by decide), BitVec.toNat_add, BitVec.toNat_ofNat, Nat.add_mod_mod]

end

/-! ### Edges from below and from the master (R59, R327) -/

section
variable {s : State} {p b slip : Nat}

/-- A device takes holds from below: it is a master, or it follows and the port is not the one towards its master. -/
def State.TakesHolds (s : State) (p : Nat) : Prop := s.isMaster = true ∨ s.follows = true ∧ p ≠ upPort s

theorem State.TakesHolds.inTree (h : s.TakesHolds p) : (s.isMaster || s.follows) = true :=
  (Bool.or_eq_true _ _).mpr (h.imp id And.left)

theorem State.TakesHolds.isUpstream (h : s.TakesHolds p) : s.isUpstream p = false :=
  h.elim (fun h => State.isUpstream_of_isMaster h p) fun h => State.isUpstream_of_ne h.2

/-- A hold from below is remembered. -/
def State.holdHeard (s : State) (p b : Nat) : State :=
  s.setTick { s.tick with below := s.tick.below ++ [(p, b)], heard := s.tick.heard ++ [(p, b)] }

theorem State.holds_eq_false (hhold : s.tick.hold = none) (hbelow : ∀ x ∈ s.tick.below, x.2 ≠ b) : s.holds b = false := by
  unfold State.holds
  rw [hhold, Bool.or_false, List.any_eq_false]
  exact fun x hx => by simpa using hbelow x hx

theorem State.holdFrom_stale (h : s.staleHold b = true) : s.holdFrom p b = s := if_pos (.inr (.inr (.inl h)))

theorem State.holdFrom_first (htakes : s.TakesHolds p) (hstale : s.staleHold b = false) (hheard : (p, b) ∉ s.tick.heard)
    (hfirst : s.holds b = false) : s.holdFrom p b = (s.holdHeard p b).passHold b := by
  have hnot : ¬((s.isMaster || s.follows) = false ∨ s.isUpstream p = true ∨ s.staleHold b = true
      ∨ s.tick.heard.contains (p, b) = true) := by
    simp [htakes.inTree, htakes.isUpstream, hstale, hheard]
  exact (if_neg hnot).trans (if_pos (by rw [hfirst]; rfl))

theorem State.follows_setTick_role (x : TickState) (h : x.role = s.tick.role) : (s.setTick x).follows = s.follows := by
  rw [State.follows_setTick, h]
  rfl

theorem State.passHold_master (h : s.isMaster = true) :
    s.passHold b = (s.setTick { s.tick with domain := some b }).edges 3 0 b s.portsBelow := if_pos h

theorem State.passHold_follower (h : s.follows = true) :
    s.passHold b = (s.setTick { s.tick with asked := some b }).edges 1 0 b [upPort s] := by
  have hup : upPort (s.setTick { s.tick with asked := some b }) = upPort s := s.fld_setTick _ _ (by decide)
  have hmaster : ¬s.isMaster = true := by simp [State.isMaster_of_follows h]
  rw [← hup]
  exact (if_neg hmaster).trans (if_pos h)

/-- The first hold of a boundary from below goes down as a domain hold at the master. -/
theorem State.holdFrom_master (hmaster : s.isMaster = true) (hstale : s.staleHold b = false) (hheard : (p, b) ∉ s.tick.heard)
    (hfirst : s.holds b = false) : s.holdFrom p b
      = ((s.holdHeard p b).setTick { (s.holdHeard p b).tick with domain := some b }).edges 3 0 b s.portsBelow := by
  have hports : (s.holdHeard p b).portsBelow = s.portsBelow := State.portsBelow_setTick _ rfl
  rw [State.holdFrom_first (.inl hmaster) hstale hheard hfirst, ← hports]
  exact State.passHold_master hmaster

/-- It goes up at a follower. -/
theorem State.holdFrom_follower (hfollows : s.follows = true) (hport : p ≠ upPort s) (hstale : s.staleHold b = false)
    (hheard : (p, b) ∉ s.tick.heard) (hfirst : s.holds b = false) : s.holdFrom p b
      = ((s.holdHeard p b).setTick { (s.holdHeard p b).tick with asked := some b }).edges 1 0 b [upPort s] := by
  have hup : upPort (s.holdHeard p b) = upPort s := s.fld_setTick _ _ (by decide)
  rw [State.holdFrom_first (.inr ⟨hfollows, hport⟩) hstale hheard hfirst, ← hup]
  exact State.passHold_follower ((State.follows_setTick_role _ rfl).trans hfollows)

/-- A clearance from below takes the hold away, and its slip counts. -/
def State.holdCleared (s : State) (p b slip : Nat) : State :=
  s.setTick { s.tick with below := s.tick.below.filter (fun x => x != (p, b)), slip := max s.tick.slip slip }

theorem State.tick_holdCleared : (s.holdCleared p b slip).tick
    = { s.tick with below := s.tick.below.filter (fun x => x != (p, b)), slip := max s.tick.slip slip } := rfl

theorem State.clearFrom_more (htree : s.isMaster = true ∨ s.follows = true) (hmem : (p, b) ∈ s.tick.below)
    (hmore : (s.holdCleared p b slip).holds b = true) : s.clearFrom p b slip = s.holdCleared p b slip :=
  have hnot : ¬((s.isMaster || s.follows) = false ∨ s.tick.below.contains (p, b) = false) := by
    simp [hmem, (Bool.or_eq_true _ _).mpr htree]
  (if_neg hnot).trans (if_pos hmore)

/-- The slip of the holds is handed on. -/
def State.slipTaken (s : State) : State := s.setTick { s.tick with slip := 0 }

theorem State.tick_slipTaken : s.slipTaken.tick = { s.tick with slip := 0 } := rfl

theorem State.cleared_master (h : s.isMaster = true) :
    s.cleared b = (s.slipTaken.takeAnnouncement b s.tick.slip).edges 4 s.tick.slip b s.portsBelow := by
  rw [← State.portsBelow_setTick { s.tick with slip := 0 } rfl]
  exact if_pos h

theorem State.cleared_follower (h : s.follows = true) : s.cleared b
    = (s.slipTaken.setTick { s.slipTaken.tick with sentUp := some (b, s.tick.slip) }).edges 2 s.tick.slip b [upPort s] := by
  have hup : upPort (s.slipTaken.setTick { s.slipTaken.tick with sentUp := some (b, s.tick.slip) }) = upPort s :=
    (s.slipTaken.fld_setTick _ _ (by decide)).trans (s.fld_setTick _ _ (by decide))
  have hmaster : ¬s.slipTaken.isMaster = true := fun hm => Bool.false_ne_true ((State.isMaster_of_follows h).symm.trans hm)
  have hfollows : s.slipTaken.follows = true := (State.follows_setTick_role _ rfl).trans h
  rw [← hup]
  exact (if_neg hmaster).trans (if_pos hfollows)

/-- The last hold of a boundary clears. -/
theorem State.clearFrom_last (htree : s.isMaster = true ∨ s.follows = true) (hmem : (p, b) ∈ s.tick.below)
    (hlast : (s.holdCleared p b slip).holds b = false) (hdue : ((s.holdCleared p b slip).cleared b).tick.due = none) :
    s.clearFrom p b slip = (s.holdCleared p b slip).cleared b := by
  have hnot : ¬((s.isMaster || s.follows) = false ∨ s.tick.below.contains (p, b) = false) := by
    simp [hmem, (Bool.or_eq_true _ _).mpr htree]
  refine (if_neg hnot).trans ((if_neg (Bool.eq_false_iff.1 hlast)).trans ?_)
  simp only
  split_ifs
  · exact State.fireDue_none hdue
  · rfl

/-- The last clearance is announced at the master. -/
theorem State.clearFrom_master (hmaster : s.isMaster = true) (hmem : (p, b) ∈ s.tick.below)
    (hlast : (s.holdCleared p b slip).holds b = false) (hdue : s.tick.due = none) :
    s.clearFrom p b slip = ((s.holdCleared p b slip).slipTaken.takeAnnouncement b (max s.tick.slip slip)).edges 4
      (max s.tick.slip slip) b s.portsBelow := by
  have hcleared : (s.holdCleared p b slip).cleared b = _ := State.cleared_master hmaster
  have hports : (s.holdCleared p b slip).portsBelow = s.portsBelow := State.portsBelow_setTick _ rfl
  rw [hports] at hcleared
  rw [State.clearFrom_last (.inl hmaster) hmem hlast, hcleared]
  · rfl
  · rw [hcleared, (State.edges_spec _ _ _ _ s.portsBelow_nodup).1]
    exact hdue

/-- It goes up at a follower. -/
theorem State.clearFrom_follower (hfollows : s.follows = true) (hmem : (p, b) ∈ s.tick.below)
    (hlast : (s.holdCleared p b slip).holds b = false) (hdue : s.tick.due = none) :
    s.clearFrom p b slip = ((s.holdCleared p b slip).slipTaken.setTick { (s.holdCleared p b slip).slipTaken.tick with
      sentUp := some (b, max s.tick.slip slip) }).edges 2 (max s.tick.slip slip) b [upPort s] := by
  have hup : upPort (s.holdCleared p b slip) = upPort s := s.fld_setTick _ _ (by decide)
  have hcleared : (s.holdCleared p b slip).cleared b = _ :=
    State.cleared_follower ((State.follows_setTick_role _ rfl).trans hfollows)
  rw [hup] at hcleared
  rw [State.clearFrom_last (.inr hfollows) hmem hlast, hcleared]
  · rfl
  · rw [hcleared, (State.edges_spec _ _ _ _ (List.nodup_singleton _)).1]
    exact hdue

theorem State.domainHold_stale (h : s.staleHold b = true) : s.domainHold b = s := if_pos (.inr h)

theorem State.domainHold_eq (hfollows : s.follows = true) (hstale : s.staleHold b = false) (hdomain : s.tick.domain ≠ some b) :
    s.domainHold b = (s.setTick { s.tick with domain := some b }).edges 3 0 b s.portsBelow :=
  (if_neg (by simp [hfollows, hstale])).trans (if_neg hdomain)

theorem State.announce_stale (h : s.staleHold b = true) : s.announce b slip = s := if_pos (.inr h)

theorem State.announce_eq (hfollows : s.follows = true) (hstale : s.staleHold b = false) (hdue : s.tick.due = none) :
    s.announce b slip = (s.takeAnnouncement b slip).edges 4 slip b s.portsBelow := by
  have hnet := (s.takeAnnouncement b slip).edges_spec 4 slip b s.portsBelow_nodup
  refine (if_neg (by simp [hfollows, hstale])).trans (State.fireDue_none ?_)
  rw [State.announceDown_eq, hnet.1]
  exact hdue

end

end Sys2Proof.Machine

namespace Sys2Proof.Proofs

open Machine Claims

section
variable {s : State} {p : Fin 24} {b : BitVec 16} {slip : W32} {B : Nat} (hnamed : NamedBoundary s b B)
include hnamed

theorem exec_tickHold : exec (.tickHold p b) s = finish (s.begin.holdFrom p B) := by
  rw [← State.nearest_of_named hnamed]
  rfl

theorem exec_tickClear : exec (.tickClear p b slip) s = finish (s.begin.clearFrom p B slip.toNat) := by
  rw [← State.nearest_of_named hnamed]
  rfl

theorem exec_tickDomainHold : exec (.tickDomainHold b) s = finish (s.begin.domainHold B) := by
  rw [← State.nearest_of_named hnamed]
  rfl

theorem exec_tickAnnounce : exec (.tickAnnounce b slip) s = finish (s.begin.announce B slip.toNat) := by
  rw [← State.nearest_of_named hnamed]
  rfl

/-- The first hold from below, at a master. -/
theorem tickHold_master (hmaster : s.isMaster = true) (hstale : s.staleHold B = false) (hhold : s.tick.hold = none)
    (hbelow : ∀ x ∈ s.tick.below, x.2 ≠ B) (hheard : (p.val, B) ∉ s.tick.heard) :
    Does s (.tickHold p b) [.tick, .net] (fun off => off = Reg.TICK_STATUS) fun t =>
      t.tick = { s.tick with below := s.tick.below ++ [(p.val, B)], heard := s.tick.heard ++ [(p.val, B)], domain := some B }
        ∧ EdgesSent s t s.portsBelow 3 0 B := by
  have hfrom := State.holdFrom_master (s := s.begin) hmaster hstale hheard (State.holds_eq_false hhold hbelow)
  obtain ⟨t, ht, ⟨htick, -, hsent⟩, hframe⟩ := does_edges s.portsBelow_nodup
    (Changes.of_begin ((Changes.setTick _ _).trans (Changes.setTick _ _))) ((exec_tickHold hnamed).trans (congrArg finish hfrom))
  exact ⟨t, ht, ⟨htick, hsent⟩, hframe⟩

/-- The first hold from below, at a follower. -/
theorem tickHold_follower (hfollows : s.follows = true) (hport : p.val ≠ upPort s) (hstale : s.staleHold B = false)
    (hhold : s.tick.hold = none) (hbelow : ∀ x ∈ s.tick.below, x.2 ≠ B) (hheard : (p.val, B) ∉ s.tick.heard) :
    Does s (.tickHold p b) [.tick, .net] (fun off => off = Reg.TICK_STATUS) fun t =>
      t.tick = { s.tick with below := s.tick.below ++ [(p.val, B)], heard := s.tick.heard ++ [(p.val, B)], asked := some B }
        ∧ EdgesSent s t [upPort s] 1 0 B := by
  have hfrom := State.holdFrom_follower (s := s.begin) hfollows hport hstale hheard (State.holds_eq_false hhold hbelow)
  obtain ⟨t, ht, ⟨htick, -, hsent⟩, hframe⟩ := does_edges (List.nodup_singleton _)
    (Changes.of_begin ((Changes.setTick _ _).trans (Changes.setTick _ _))) ((exec_tickHold hnamed).trans (congrArg finish hfrom))
  exact ⟨t, ht, ⟨htick, hsent⟩, hframe⟩

omit hnamed in
/-- The one hold from below is taken away. -/
theorem filter_ne_singleton (hbelow : s.tick.below = [(p.val, B)]) : s.tick.below.filter (fun x => x != (p.val, B)) = [] := by
  simp [hbelow]

omit hnamed in
/-- No hold of the boundary is left then. -/
theorem holds_holdCleared (hhold : s.tick.hold = none) (hbelow : s.tick.below = [(p.val, B)]) :
    (s.begin.holdCleared p B slip.toNat).holds B = false :=
  State.holds_eq_false hhold fun x hx => by
    rw [State.tick_holdCleared, State.begin_tick] at hx
    simp only [filter_ne_singleton hbelow, List.not_mem_nil] at hx

/-- The last clearance from below, at a master. -/
theorem tickClear_master (hmaster : s.isMaster = true) (hhold : s.tick.hold = none) (hbelow : s.tick.below = [(p.val, B)])
    (hdue : s.tick.due = none) :
    let more := max s.tick.slip slip.toNat
    Does s (.tickClear p b slip) [.tick, .net] (fun off => off = Reg.TICK_STATUS ∨ off = Reg.TICK_SLIP_CYCLES) fun t =>
      t.tick = { s.tick with below := [], heard := [], domain := none, asked := none, announced := some (B, more), slip := 0 }
        ∧ (t.rd Reg.TICK_SLIP_CYCLES).toNat = ((s.rd Reg.TICK_SLIP_CYCLES).toNat + more) % 2 ^ 64
        ∧ EdgesSent s t s.portsBelow 4 more B := by
  intro more
  have hcleared : Changes [.tick] (fun off => off = Reg.TICK_STATUS ∨ off = Reg.TICK_SLIP_CYCLES) s
      (s.begin.holdCleared p B slip.toNat).slipTaken :=
    (Changes.of_begin ((Changes.setTick _ _).trans (Changes.setTick _ _))).mono (fun _ => id) fun _ => .inl
  have hfrom := State.clearFrom_master (s := s.begin) (slip := slip.toNat) hmaster (hbelow ▸ List.mem_cons_self ..)
    (holds_holdCleared hhold hbelow) hdue
  obtain ⟨t, ht, ⟨htick, hrd, hsent⟩, hframe⟩ := does_edges s.portsBelow_nodup
    (hcleared.trans (State.changes_takeAnnouncement _ B more)) ((exec_tickClear hnamed).trans (congrArg finish hfrom))
  refine ⟨t, ht, ⟨?_, ?_, hsent⟩, hframe⟩
  · rw [htick, State.tick_takeAnnouncement, State.tick_slipTaken, State.tick_holdCleared, State.begin_tick,
      filter_ne_singleton hbelow]
  · rw [hrd _ (not_recordBlock_of_lt (by decide)), State.slipCycles_takeAnnouncement, State.slipTaken, State.holdCleared,
      State.rd_setTick _ _ (by decide), State.rd_setTick _ _ (by decide)]
    rfl

/-- The last clearance from below, at a follower. -/
theorem tickClear_follower (hfollows : s.follows = true) (hhold : s.tick.hold = none) (hbelow : s.tick.below = [(p.val, B)])
    (hdue : s.tick.due = none) :
    let more := max s.tick.slip slip.toNat
    Does s (.tickClear p b slip) [.tick, .net] (fun off => off = Reg.TICK_STATUS) fun t =>
      t.tick = { s.tick with below := [], slip := 0, sentUp := some (B, more) } ∧ EdgesSent s t [upPort s] 2 more B := by
  intro more
  have hcleared : Changes [.tick] (· = Reg.TICK_STATUS) s (s.begin.holdCleared p B slip.toNat).slipTaken :=
    Changes.of_begin ((Changes.setTick _ _).trans (Changes.setTick _ _))
  have hfrom := State.clearFrom_follower (s := s.begin) (slip := slip.toNat) hfollows (hbelow ▸ List.mem_cons_self ..)
    (holds_holdCleared hhold hbelow) hdue
  obtain ⟨t, ht, ⟨htick, -, hsent⟩, hframe⟩ := does_edges (List.nodup_singleton _)
    (hcleared.trans (Changes.setTick _ _)) ((exec_tickClear hnamed).trans (congrArg finish hfrom))
  refine ⟨t, ht, ⟨?_, hsent⟩, hframe⟩
  rw [htick, State.setTick_tick, State.tick_slipTaken, State.tick_holdCleared, State.begin_tick, filter_ne_singleton hbelow]

/-- A clearance that leaves another hold of the boundary. -/
theorem tickClear_more {q : Nat} (htree : s.isMaster = true ∨ s.follows = true) (hbelow : s.tick.below = [(p.val, B), (q, B)])
    (hq : q ≠ p.val) :
    Does s (.tickClear p b slip) [.tick] (fun off => off = Reg.TICK_STATUS) fun t =>
      t.tick = { s.tick with below := [(q, B)], slip := max s.tick.slip slip.toNat } := by
  have hrest : s.tick.below.filter (fun x => x != (p.val, B)) = [(q, B)] := by simp [hbelow, hq]
  have hmore : (s.begin.holdCleared p B slip.toNat).holds B = true := by
    simp [State.holds, State.tick_holdCleared, hrest]
  have hfrom := State.clearFrom_more (s := s.begin) (slip := slip.toNat) htree (hbelow ▸ List.mem_cons_self ..) hmore
  refine does_of_finish ((exec_tickClear hnamed).trans (congrArg finish hfrom)) (Changes.of_begin (Changes.setTick _ _))
    fun t ht => ?_
  rw [ht.tick, State.tick_holdCleared, State.begin_tick, hrest]

/-- A domain hold goes down. -/
theorem tickDomainHold_down (hfollows : s.follows = true) (hstale : s.staleHold B = false) (hdomain : s.tick.domain ≠ some B) :
    Does s (.tickDomainHold b) [.tick, .net] (fun off => off = Reg.TICK_STATUS) fun t =>
      t.tick = { s.tick with domain := some B } ∧ EdgesSent s t s.portsBelow 3 0 B := by
  obtain ⟨t, ht, ⟨htick, -, hsent⟩, hframe⟩ := does_edges s.portsBelow_nodup (Changes.of_begin (Changes.setTick _ _))
    ((exec_tickDomainHold hnamed).trans (congrArg finish (State.domainHold_eq (s := s.begin) hfollows hstale hdomain)))
  exact ⟨t, ht, ⟨htick, hsent⟩, hframe⟩

/-- An announcement goes down, and every device adds its slip. -/
theorem tickAnnounce_down (hfollows : s.follows = true) (hstale : s.staleHold B = false) (hdue : s.tick.due = none) :
    Does s (.tickAnnounce b slip) [.tick, .net] (fun off => off = Reg.TICK_STATUS ∨ off = Reg.TICK_SLIP_CYCLES) fun t =>
      t.tick = { s.tick with domain := none, asked := none, announced := some (B, slip.toNat), heard := [] }
        ∧ (t.rd Reg.TICK_SLIP_CYCLES).toNat = ((s.rd Reg.TICK_SLIP_CYCLES).toNat + slip.toNat) % 2 ^ 64
        ∧ EdgesSent s t s.portsBelow 4 slip.toNat B := by
  obtain ⟨t, ht, ⟨htick, hrd, hsent⟩, hframe⟩ := does_edges s.portsBelow_nodup
    (Changes.of_begin (State.changes_takeAnnouncement s.begin B slip.toNat))
    ((exec_tickAnnounce hnamed).trans (congrArg finish (State.announce_eq (s := s.begin) hfollows hstale hdue)))
  refine ⟨t, ht, ⟨htick, ?_, hsent⟩, hframe⟩
  rw [hrd _ (not_recordBlock_of_lt (by decide)), State.slipCycles_takeAnnouncement]
  rfl

end

/-- Settles O26: a device passes on, to the ports on the other side, what it takes in; the boundary that sixteen bits name is the
nearest one. -/
theorem tickTreeForwardsEdges : Obligations.TickTreeForwardsEdges := by
  intro s p b slip B hnamed
  refine ⟨fun hstale => ⟨?_, ?_, ?_⟩, fun hstale hhold hbelow hheard => ⟨fun hrole => ?_, fun hfollows hport => ?_⟩,
    fun hhold hbelow hdue => ⟨fun hrole => ?_, fun hfollows => ?_⟩, ?_, fun hfollows hstale hdomain => ?_,
    fun hfollows hstale hdue => ?_⟩
  · exact doesNothing_of_finish ((exec_tickHold hnamed).trans (congrArg finish (State.holdFrom_stale (s := s.begin) hstale)))
  · exact doesNothing_of_finish ((exec_tickDomainHold hnamed).trans (congrArg finish (State.domainHold_stale (s := s.begin) hstale)))
  · exact doesNothing_of_finish ((exec_tickAnnounce hnamed).trans (congrArg finish (State.announce_stale (s := s.begin) hstale)))
  · exact tickHold_master hnamed (State.isMaster_iff.2 hrole) hstale hhold hbelow hheard
  · exact tickHold_follower hnamed hfollows hport hstale hhold hbelow hheard
  · exact tickClear_master hnamed (State.isMaster_iff.2 hrole) hhold hbelow hdue
  · exact tickClear_follower hnamed hfollows hhold hbelow hdue
  · rintro q B' htree hbelow rfl hq
    exact tickClear_more hnamed htree hbelow hq
  · exact tickDomainHold_down hnamed hfollows hstale hdomain
  · exact tickAnnounce_down hnamed hfollows hstale hdue

end Sys2Proof.Proofs
end

section
/-! SUPPORT. The drain of a core that holds no work (R98, R101): its queues and the core itself go down at once. -/

namespace Sys2Proof.Machine

open Claims

/-- An invariant of the steps of a counted loop holds at its end. -/
theorem iterate_invariant {σ : Type} {f : Nat → σ → σ} (P : Nat → σ → Prop) {n base : Nat} {s : σ} (h : P base s)
    (hstep : ∀ i s, base ≤ i → i < base + n → P i s → P (i + 1) (f i s)) : P (base + n) (iterate f n base s) := by
  induction n generalizing base s with
  | zero => exact h
  | succ n ih =>
    have hnext := ih (hstep base s le_rfl (by omega) h) fun i s hlo hhi => hstep i s (by omega) (by omega)
    rwa [show base + 1 + n = base + (n + 1) by omega] at hnext

/-- Core n holds no work, its cluster is up, and no retirement waits for a drain. -/
structure CalmCore (n : Nat) (s : State) : Prop where
  lt : n < 128
  queues : ∀ e < 4, s.queue n e = []
  shuttle : s.shuttleState n = 0 ∨ s.shuttleState n = 3
  launch : (s.launch n).wp = (s.launch n).rp
  retiring : s.core.retiring = []
  cluster : s.clusterState (n / 16) = 0

/-- t is s after steps of a drain of core n: states of the core and of its queues go up, and drains are noted. -/
structure DrainSteps (n : Nat) (s t : State) : Prop where
  frame : Changes [.core] (CoreUnitRegs n) s t
  mem : t.mem = s.mem
  core : t.core = { s.core with drains := t.core.drains, entries := t.core.entries }
  queueUp : ∀ e < 4, s.queueState n e ≤ t.queueState n e
  coreUp : s.coreState n ≤ t.coreState n
  coreMax : s.coreState n ≤ 2 → t.coreState n ≤ 2

section
variable {n e : Nat} {s t u : State}

theorem DrainSteps.refl (n : Nat) (s : State) : DrainSteps n s s := ⟨Changes.refl .., rfl, rfl, fun _ _ => le_rfl, le_rfl, id⟩

theorem DrainSteps.trans (h : DrainSteps n s t) (g : DrainSteps n t u) : DrainSteps n s u where
  frame := h.frame.trans g.frame
  mem := g.mem.trans h.mem
  core := by rw [g.core, h.core]
  queueUp e he := (h.queueUp e he).trans (g.queueUp e he)
  coreUp := h.coreUp.trans g.coreUp
  coreMax hs := g.coreMax (h.coreMax hs)

/-- The registers of a core's drain lie in the core's block. -/
theorem coreBlock_of_coreUnitRegs {off : Nat} (h : CoreUnitRegs n off) :
    Reg.coreBase n + 0x600 ≤ off ∧ off < Reg.coreBase n + 0x800 := by
  obtain rfl | ⟨e, he, rfl⟩ := h
  · unfold Reg.CORE_UNIT_STATUS
    omega
  · unfold Reg.QUEUE_STATUS
    omega

theorem DrainSteps.rd (h : DrainSteps n s t) {off : Nat} (hrecord : ¬RecordBlock off)
    (hoff : ¬(Reg.coreBase n + 0x600 ≤ off ∧ off < Reg.coreBase n + 0x800)) : t.rd off = s.rd off :=
  h.frame.2.1 off hrecord fun ho => hoff (coreBlock_of_coreUnitRegs ho)

theorem coreBase_bounds (hn : n < 128) : 0x1000000 ≤ Reg.coreBase n ∧ Reg.coreBase n ≤ 0x1FF0000 := by
  unfold Reg.coreBase
  omega

theorem CalmCore.congr (hs : CalmCore n s)
    (hrd : ∀ off, ¬RecordBlock off → ¬(Reg.coreBase n + 0x600 ≤ off ∧ off < Reg.coreBase n + 0x840) → t.rd off = s.rd off)
    (hqueues : t.core.queues = s.core.queues) (hlaunches : t.core.launches = s.core.launches)
    (hretiring : t.core.retiring = s.core.retiring) : CalmCore n t := by
  have hbase := coreBase_bounds hs.lt
  have hshuttle : t.shuttleState n = s.shuttleState n := State.fld_congr (hrd _ (not_recordBlock_of_ge
    (by unfold Reg.SHUTTLE_STATUS; omega)) (by unfold Reg.SHUTTLE_STATUS; omega)) _
  have hcluster : t.clusterState (n / 16) = s.clusterState (n / 16) := State.fld_congr (hrd _ (not_recordBlock_of_ge
    (by unfold Reg.CLUSTER_UNIT_STATUS Reg.clusterBase; omega))
      (by unfold Reg.CLUSTER_UNIT_STATUS Reg.clusterBase Reg.coreBase; omega)) _
  have hqueue : ∀ e, t.queue n e = s.queue n e := fun e => by
    unfold State.queue
    rw [hqueues]
  have hlaunch : t.launch n = s.launch n := by
    unfold State.launch
    rw [hlaunches]
  exact ⟨hs.lt, fun e he => (hqueue e).trans (hs.queues e he), hshuttle ▸ hs.shuttle, hlaunch ▸ hs.launch,
    hretiring.trans hs.retiring, hcluster ▸ hs.cluster⟩

theorem DrainSteps.calm (h : DrainSteps n s t) (hs : CalmCore n s) : CalmCore n t :=
  hs.congr (fun _ hrecord hoff => h.rd hrecord fun ho => hoff ⟨ho.1, by omega⟩) (by rw [h.core]) (by rw [h.core]) (by rw [h.core])

/-! ### The steps of a drain -/

/-- A change of the notes of drains. -/
theorem DrainSteps.note (n : Nat) (s : State) (d : List Drain) (l : List (DrainUnit × Nat)) :
    DrainSteps n s { s with core := { s.core with drains := d, entries := l } } :=
  ⟨(Changes.setCore s _).mono (fun _ => id) fun _ => False.elim, rfl, rfl, fun _ _ => le_rfl, le_rfl, id⟩

theorem DrainSteps.drainEnded (w : DrainUnit) (h : s.core.retiring = []) : DrainSteps n s (s.drainEnded w) := by
  have hnone : s.drainEnded w = { s with core := { s.core with drains := s.core.drains.filter (fun d => d.what != w) } } :=
    if_neg (by simp [h])
  rw [hnone]
  exact DrainSteps.note n s _ s.core.entries

theorem DrainSteps.beginDrain (w : DrainUnit) : DrainSteps n s (s.beginDrain w) := DrainSteps.note n s _ _

/-- A queue's state goes up. -/
theorem DrainSteps.setQueueState (he : e < 4) {v : Nat} (hv : s.queueState n e ≤ v) (hv4 : v < 4) :
    DrainSteps n s (s.setFld (Reg.QUEUE_STATUS n e) Fl.QUEUE_STATUS_STATE v) where
  frame := (Changes.setFld _ _ _ _).mono (by simp) fun _ ho => .inr ⟨e, he, ho⟩
  mem := rfl
  core := rfl
  queueUp i hi := by
    unfold State.queueState at hv ⊢
    by_cases hie : i = e
    · rw [hie, State.fld_setFld_same _ _ _ _ (by decide)]
      exact hv.trans (Nat.mod_eq_of_lt hv4).ge
    · rw [State.fld_setFld_ne _ _ _ _ (by unfold Reg.QUEUE_STATUS; omega)]
  coreUp := (State.fld_setFld_ne _ _ _ _ (by unfold Reg.QUEUE_STATUS Reg.CORE_UNIT_STATUS; omega)).ge
  coreMax hs := (State.fld_setFld_ne _ _ _ _ (by unfold Reg.QUEUE_STATUS Reg.CORE_UNIT_STATUS; omega)).le.trans hs

theorem queueState_setFld {v : Nat} (hv : v < 4) :
    (s.setFld (Reg.QUEUE_STATUS n e) Fl.QUEUE_STATUS_STATE v).queueState n e = v :=
  (State.fld_setFld_same _ _ _ _ (by decide)).trans (Nat.mod_eq_of_lt hv)

theorem coreState_setFld {v : Nat} (hv : v < 4) :
    (s.setFld (Reg.CORE_UNIT_STATUS n) Fl.CORE_UNIT_STATUS_STATE v).coreState n = v :=
  (State.fld_setFld_same _ _ _ _ (by decide)).trans (Nat.mod_eq_of_lt hv)

/-- The core's state goes up. -/
theorem DrainSteps.setCoreState {v : Nat} (hv : s.coreState n ≤ v) (hv2 : v ≤ 2) :
    DrainSteps n s (s.setFld (Reg.CORE_UNIT_STATUS n) Fl.CORE_UNIT_STATUS_STATE v) where
  frame := (Changes.setFld _ _ _ _).mono (by simp) fun _ => .inl
  mem := rfl
  core := rfl
  queueUp i hi := (State.fld_setFld_ne _ _ _ _ (by unfold Reg.QUEUE_STATUS Reg.CORE_UNIT_STATUS; omega)).ge
  coreUp := hv.trans (coreState_setFld (by omega)).ge
  coreMax _ := (coreState_setFld (by omega)).le.trans hv2

/-! ### The drain -/

theorem State.queueState_lt (s : State) (n e : Nat) : s.queueState n e < 4 := Fld.read_lt _ _

/-- A draining queue without commands goes down. -/
theorem State.checkQueue_calm (h : CalmCore n s) (he : e < 4) :
    DrainSteps n s (s.checkQueue n e) ∧ (s.checkQueue n e).queueState n e ≠ 1 := by
  unfold State.checkQueue
  split_ifs with hdrains
  · have hset := DrainSteps.setQueueState (s := s) (n := n) he (v := 2) (by omega) (by decide)
    have hended := DrainSteps.drainEnded (n := n) (.queue n e) (hset.calm h).retiring
    have hdown := hended.queueUp e he
    rw [queueState_setFld (by decide)] at hdown
    exact ⟨hset.trans hended, by omega⟩
  · exact ⟨DrainSteps.refl n s, fun hone => hdrains ⟨hone, h.queues e he⟩⟩

/-- A core that drains goes down with its last queue. -/
theorem State.checkCore_calm (h : CalmCore n s) :
    DrainSteps n s (s.checkCore n)
      ∧ (1 ≤ s.coreState n → s.coreState n ≤ 2 → (∀ e < 4, 1 ≤ s.queueState n e) → (s.checkCore n).coreState n = 2) := by
  obtain ⟨hqueues, hdown⟩ := iterate_invariant (f := fun e s => s.checkQueue n e) (n := 4) (base := 0) (s := s)
    (fun i t => DrainSteps n s t ∧ ((∀ e < 4, 1 ≤ s.queueState n e) → ∀ e < i, 2 ≤ t.queueState n e))
    ⟨DrainSteps.refl n s, fun _ e he => absurd he (Nat.not_lt_zero e)⟩ fun i t _ hi ⟨hst, htwo⟩ => by
      obtain ⟨hstep, hne⟩ := State.checkQueue_calm (hst.calm h) hi
      refine ⟨hst.trans hstep, fun hone e he => ?_⟩
      have hup := hstep.queueUp e (by omega)
      obtain rfl | hlt : e = i ∨ e < i := by omega
      · have hfirst := (hst.queueUp e hi).trans hup
        have := hone e hi
        omega
      · exact (htwo hone e hlt).trans hup
  unfold State.checkCore
  simp only
  generalize iterate (fun e s => s.checkQueue n e) 4 0 s = t at hqueues hdown
  split_ifs with hends
  · have hset := DrainSteps.setCoreState (s := t) (n := n) (v := 2) (by omega) le_rfl
    have hended := DrainSteps.drainEnded (n := n) (.core n) (hset.calm (hqueues.calm h)).retiring
    have hup := hended.coreUp
    have hmax := hended.coreMax
    rw [coreState_setFld (by decide)] at hup hmax
    exact ⟨hqueues.trans (hset.trans hended), fun _ _ _ => by have := hmax le_rfl; omega⟩
  · refine ⟨hqueues, fun hlo hhi hone => ?_⟩
    have hall : (List.range 4).all (fun e => t.queueDown n e) = true := List.all_eq_true.2 fun e he => by
      have htwo := hdown hone e (List.mem_range.1 he)
      have hlt := t.queueState_lt n e
      have : t.queueState n e = 2 ∨ t.queueState n e = 3 := by omega
      simpa [State.queueDown] using this
    have hne : t.coreState n ≠ 1 := fun h1 => hends ⟨h1, hall⟩
    have hup := hqueues.coreUp
    have hmax := hqueues.coreMax hhi
    omega

/-- The cluster of a calm core stays up. -/
theorem State.checkDrains_calm (h : CalmCore n s) : s.checkDrains n = s.checkCore n :=
  if_neg fun hdrains => absurd ((((State.checkCore_calm h).1.calm h).cluster).symm.trans hdrains.1) (by decide)

/-- An engine without commands goes down. -/
theorem State.drainQueue_calm (h : CalmCore n s) (he : e < 4) (reason : Option Nat) :
    DrainSteps n s (s.drainQueue n e reason) ∧ 1 ≤ (s.drainQueue n e reason).queueState n e := by
  by_cases hup : s.queueState n e = 0
  · let s1 := (s.setFld (Reg.QUEUE_STATUS n e) Fl.QUEUE_STATUS_STATE 1).beginDrain (.queue n e)
    have hbegun : DrainSteps n s s1 :=
      (DrainSteps.setQueueState he (by omega) (by decide)).trans (DrainSteps.beginDrain _)
    have hcalm : CalmCore n s1 := hbegun.calm h
    have hstaged : (reason.isSome && s1.stalledOn n e) = false := by
      obtain hs | hs := hcalm.shuttle <;> simp [State.stalledOn, hs]
    have hcancel : s1.cancelQueue n e s1.stitch 0 = s1 := by
      simp [State.cancelQueue, hcalm.queues e he, State.cancelList]
    have hdrain : s.drainQueue n e reason = s1.checkDrains n := by
      unfold State.drainQueue
      rw [if_pos hup]
      change (if (reason.isSome && s1.stalledOn n e) = true then _ else
        s1.cancelQueue n e s1.stitch (reason.isSome && s1.stalledOn n e).toNat).checkDrains n = _
      rw [hstaged, if_neg Bool.false_ne_true, Bool.toNat_false, hcancel]
    have hone : s1.queueState n e = 1 := queueState_setFld (s := s) (by decide)
    rw [hdrain, State.checkDrains_calm hcalm]
    exact ⟨hbegun.trans (State.checkCore_calm hcalm).1, hone ▸ (State.checkCore_calm hcalm).1.queueUp e he⟩
  · have hsame : s.drainQueue n e reason = s := if_neg hup
    rw [hsame]
    exact ⟨DrainSteps.refl n s, Nat.one_le_iff_ne_zero.2 hup⟩

/-- A core without work goes down at once (R98, R101). -/
theorem State.drainCore_calm (h : CalmCore n s) (hup : s.coreState n = 0) :
    DrainSteps n s (s.drainCore n) ∧ (s.drainCore n).coreState n = 2 := by
  let s1 := (s.setFld (Reg.CORE_UNIT_STATUS n) Fl.CORE_UNIT_STATUS_STATE 1).beginDrain (.core n)
  have hbegun : DrainSteps n s s1 := (DrainSteps.setCoreState (by omega) (by decide)).trans (DrainSteps.beginDrain _)
  have hone : s1.coreState n = 1 := coreState_setFld (s := s) (by decide)
  obtain ⟨hqueues, hdown⟩ := iterate_invariant (f := fun e s => s.drainQueue n e (some 8)) (n := 4) (base := 0) (s := s1)
    (fun i t => DrainSteps n s1 t ∧ ∀ e < i, 1 ≤ t.queueState n e)
    ⟨DrainSteps.refl n s1, fun e he => absurd he (Nat.not_lt_zero e)⟩ fun i t _ hi ⟨hst, hones⟩ => by
      obtain ⟨hstep, hlast⟩ := State.drainQueue_calm ((hbegun.trans hst).calm h) hi (some 8)
      refine ⟨hst.trans hstep, fun e he => ?_⟩
      obtain rfl | hlt : e = i ∨ e < i := by omega
      · exact hlast
      · exact (hones e hlt).trans (hstep.queueUp e (by omega))
  have hdrain : s.drainCore n = (iterate (fun e s => s.drainQueue n e (some 8)) 4 0 s1).checkDrains n := by
    have hcalm := (hbegun.trans hqueues).calm h
    have hshuttle : s1.shuttleState n ≠ 1 ∧ s1.shuttleState n ≠ 2 := by
      have := (hbegun.calm h).shuttle
      omega
    have hlaunch : ∀ t : State, CalmCore n t → t.cancelLaunch n = t := fun t ht => if_pos ht.launch
    unfold State.drainCore
    rw [if_pos hup]
    simp only
    rw [if_pos (.inl hshuttle), hlaunch _ hcalm]
  have hcalm := (hbegun.trans hqueues).calm h
  obtain ⟨hcheck, hends⟩ := State.checkCore_calm hcalm
  rw [hdrain, State.checkDrains_calm hcalm]
  exact ⟨hbegun.trans (hqueues.trans hcheck), hends (hone ▸ hqueues.coreUp) (hqueues.coreMax (by omega)) hdown⟩

end

end Sys2Proof.Machine
end

section
/-! The slip limit, the withheld edges and holdover (R56, R61, R62, R65). -/

namespace Sys2Proof.Machine

open Claims

/-! ### Slots that are disabled (R62) -/

/-- The CONFIG registers of the slots of core n. -/
def SlotConfigs (n off : Nat) : Prop := ∃ i < 4, off = Reg.STATION_CONFIG n i

/-- t is s after slots of core n have been disabled. -/
structure SlotsDisabled (n : Nat) (s t : State) : Prop where
  frame : Changes [.core] (SlotConfigs n) s t
  mem : t.mem = s.mem
  core : t.core = { s.core with stations := t.core.stations }
  steady : s.SlotsSteady → t.SlotsSteady

section
variable {n : Nat} {s t : State}

theorem State.fld_disableSlot (i off : Nat) (f : Fld) : (s.disableSlot n i).fld off f
    = (s.setFld (Reg.STATION_CONFIG n i) Fl.STATION_CONFIG_ENABLE 0).fld off f := rfl

theorem State.disableSlot_spec {i : Nat} (hi : i < 4) :
    SlotsDisabled n s (s.disableSlot n i) ∧ (s.disableSlot n i).fld (Reg.STATION_CONFIG n i) Fl.STATION_CONFIG_ENABLE = 0
      ∧ ((s.disableSlot n i).station n i).active = [] := by
  refine ⟨⟨?_, rfl, rfl, fun h => ?_⟩, ?_, ?_⟩
  · exact ((Changes.setFld _ _ _ _).mono (by simp) fun _ ho => ⟨i, hi, ho⟩).trans
      ((OnlySlots.setStation _ _ _ _).changes.mono (fun _ => id) fun _ => False.elim)
  · exact State.SlotsSteady.setStation (s := s.setFld (Reg.STATION_CONFIG n i) Fl.STATION_CONFIG_ENABLE 0) h n i rfl rfl
  · rw [State.fld_disableSlot, State.fld_setFld_same _ _ _ _ (by decide)]
    rfl
  · exact congrArg Station.active (State.station_setStation_same _ _ _ _)

/-- Disabling another slot of the core keeps a disabled slot disabled. -/
theorem State.disableSlot_other {i e : Nat} (hie : e ≠ i) :
    (s.disableSlot n i).fld (Reg.STATION_CONFIG n e) Fl.STATION_CONFIG_ENABLE = s.fld (Reg.STATION_CONFIG n e) Fl.STATION_CONFIG_ENABLE
      ∧ (s.disableSlot n i).station n e = s.station n e :=
  ⟨(State.fld_disableSlot _ _ _).trans (State.fld_setFld_ne _ _ _ _ (by unfold Reg.STATION_CONFIG; omega)),
    State.station_setStation_ne (s.setFld (Reg.STATION_CONFIG n i) Fl.STATION_CONFIG_ENABLE 0) _ (by omega)⟩

/-- The four slots of one core are disabled. -/
theorem State.disableCores_one (n : Nat) (s : State) :
    SlotsDisabled n s (s.disableCores [n])
      ∧ ∀ i < 4, (s.disableCores [n]).fld (Reg.STATION_CONFIG n i) Fl.STATION_CONFIG_ENABLE = 0
        ∧ ((s.disableCores [n]).station n i).active = [] :=
  iterate_invariant (f := fun j s => s.disableSlot n j) (n := 4) (base := 0) (s := s)
    (fun i t => SlotsDisabled n s t ∧ ∀ e < i, t.fld (Reg.STATION_CONFIG n e) Fl.STATION_CONFIG_ENABLE = 0
      ∧ (t.station n e).active = [])
    ⟨⟨Changes.refl .., rfl, rfl, id⟩, fun e he => absurd he (Nat.not_lt_zero e)⟩ fun i t _ hi ⟨hst, hoff⟩ => by
      obtain ⟨hstep, hlast⟩ := State.disableSlot_spec (n := n) (s := t) hi
      refine ⟨⟨hst.frame.trans hstep.frame, hstep.mem.trans hst.mem, by rw [hstep.core, hst.core],
        fun h => hstep.steady (hst.steady h)⟩, fun e he => ?_⟩
      by_cases hie : e = i
      · exact hie ▸ hlast
      · obtain ⟨henable, hstation⟩ := State.disableSlot_other (n := n) (s := t) hie
        rw [henable, hstation]
        exact hoff e (by omega)

theorem SlotsDisabled.rd (h : SlotsDisabled n s t) {off : Nat} (hrecord : ¬RecordBlock off)
    (hoff : ¬(Reg.coreBase n + 0x800 ≤ off ∧ off < Reg.coreBase n + 0x840)) : t.rd off = s.rd off :=
  h.frame.2.1 off hrecord fun ⟨i, hi, ho⟩ => hoff (by rw [ho]; unfold Reg.STATION_CONFIG; omega)

theorem SlotsDisabled.calm (h : SlotsDisabled n s t) (hs : CalmCore n s) : CalmCore n t :=
  hs.congr (fun _ hrecord hoff => h.rd hrecord fun ho => hoff ⟨by omega, ho.2⟩) (by rw [h.core]) (by rw [h.core]) (by rw [h.core])

/-- A core is faulted (R62): its slots are disabled and it drains. -/
def State.faultCore (s : State) (n : Nat) : State := (s.disableCores [n]).drainCore n

/-- What is left of a core without work that is faulted. -/
structure CoreFaulted (n : Nat) (s t : State) : Prop where
  frame : Changes [.core] (fun off => Reg.coreBase n + 0x600 ≤ off ∧ off < Reg.coreBase n + 0x840) s t
  mem : t.mem = s.mem
  core : t.core = { s.core with stations := t.core.stations, drains := t.core.drains, entries := t.core.entries }
  down : t.coreState n = 2
  disabled : ∀ i < 4, t.fld (Reg.STATION_CONFIG n i) Fl.STATION_CONFIG_ENABLE = 0
  idle : ∀ i < 4, (t.station n i).active = []
  steady : s.SlotsSteady → t.SlotsSteady

theorem State.faultCore_spec (hs : CalmCore n s) (hup : s.coreState n = 0) : CoreFaulted n s (s.faultCore n) := by
  have hbase := coreBase_bounds hs.lt
  obtain ⟨hslots, hoff⟩ := State.disableCores_one n s
  unfold State.faultCore
  generalize s.disableCores [n] = s1 at hslots hoff
  have hup1 : s1.coreState n = 0 := (State.fld_congr (hslots.rd (not_recordBlock_of_ge (by unfold Reg.CORE_UNIT_STATUS; omega))
    (by unfold Reg.CORE_UNIT_STATUS; omega)) _).trans hup
  obtain ⟨hdrain, hdown⟩ := State.drainCore_calm (hslots.calm hs) hup1
  generalize s1.drainCore n = t at hdrain hdown
  have hstation : ∀ m i, t.station m i = s1.station m i := fun m i => by
    unfold State.station
    rw [hdrain.core]
  refine ⟨?_, hdrain.mem.trans hslots.mem, by rw [hdrain.core, hslots.core], hdown, fun i hi => ?_, fun i hi => ?_, fun h m i => ?_⟩
  · have hconfigs : ∀ off, SlotConfigs n off → Reg.coreBase n + 0x600 ≤ off ∧ off < Reg.coreBase n + 0x840 := by
      rintro off ⟨i, hi, rfl⟩
      unfold Reg.STATION_CONFIG
      omega
    have hunits : ∀ off, CoreUnitRegs n off → Reg.coreBase n + 0x600 ≤ off ∧ off < Reg.coreBase n + 0x840 := fun off ho => by
      have := coreBlock_of_coreUnitRegs ho
      omega
    exact (hslots.frame.mono (fun _ => id) hconfigs).trans (hdrain.frame.mono (fun _ => id) hunits)
  · exact (State.fld_congr (hdrain.rd (not_recordBlock_of_ge (by unfold Reg.STATION_CONFIG; omega))
      (by unfold Reg.STATION_CONFIG; omega)) _).trans (hoff i hi).1
  · rw [hstation]
    exact (hoff i hi).2
  · rw [hstation]
    exact hslots.steady h m i

theorem CoreFaulted.rd (h : CoreFaulted n s t) {off : Nat} (hrecord : ¬RecordBlock off)
    (hoff : ¬(Reg.coreBase n ≤ off ∧ off < Reg.coreBase n + 0x10000)) : t.rd off = s.rd off :=
  h.frame.2.1 off hrecord fun ho => hoff (by omega)

end
/-! ### The end of a hold (R58, R60) -/

section
variable {s : State} {h : Hold}

/-- The hold is over, its slip taken up. -/
def State.dropHold (s : State) (h : Hold) : State :=
  s.setTick { s.tick with hold := none, slip := max s.tick.slip (s.slipNow h) }

/-- A device alone adds the slip of its hold to SLIP_CYCLES. -/
theorem State.cleared_alone {b : Nat} (hrole : s.tick.role = 0) :
    s.cleared b = (s.setTick { s.tick with slip := 0 }).addSlip s.tick.slip := by
  have hmaster : (s.setTick { s.tick with slip := 0 }).isMaster = false := by simp [State.isMaster, hrole]
  have hfollows : (s.setTick { s.tick with slip := 0 }).follows = false := by simp [hrole]
  exact (if_neg (Bool.eq_false_iff.1 hmaster)).trans (if_neg (Bool.eq_false_iff.1 hfollows))

theorem State.endHold_alone (hready : FireReady (s.dropHold h)) (hrole : s.tick.role = 0) (hbelow : s.tick.below = []) :
    let t := s.endHold h
    (∀ off, ¬RecordBlock off → off ≠ Reg.TICK_STITCH_COUNT → off ≠ Reg.TICK_STATUS → off ≠ Reg.TICK_SLIP_CYCLES →
        t.rd off = s.rd off)
      ∧ t.tick.hold = none ∧ t.rd Reg.TICK_STITCH_COUNT = BitVec.ofNat 64 h.boundary
      ∧ (t.rd Reg.TICK_SLIP_CYCLES).toNat
        = ((s.rd Reg.TICK_SLIP_CYCLES).toNat + max s.tick.slip (s.slipNow h)) % 2 ^ 64 := by
  obtain ⟨hframe, hcount, k, r, htick⟩ := State.fire_spec hready h.boundary
  have hend : s.endHold h = ((s.dropHold h).fire h.boundary).cleared h.boundary := by
    refine if_neg ?_
    change ¬((s.dropHold h).fire h.boundary).tick.below.any _ = true
    rw [htick]
    simp [State.dropHold, hbelow]
  rw [hend, State.cleared_alone (by rw [htick]; exact hrole)]
  generalize (s.dropHold h).fire h.boundary = u at *
  have hrd : ∀ off, ¬RecordBlock off → off ≠ Reg.TICK_STITCH_COUNT → off ≠ Reg.TICK_STATUS → u.rd off = s.rd off :=
    fun off hrecord hne hstatus => (BoundaryFrame.rd hframe hrecord hne hstatus).trans (s.rd_setTick _ hstatus)
  have hslip : u.tick.slip = max s.tick.slip (s.slipNow h) := by rw [htick]; rfl
  refine ⟨fun off hrecord hne hstatus hcycles => ?_, ?_, ?_, ?_⟩
  · exact (State.rd_wr_ne _ _ hcycles).trans ((u.rd_setTick _ hstatus).trans (hrd off hrecord hne hstatus))
  · rw [State.addSlip, State.addWrap_tick, State.setTick_tick, htick]
    rfl
  · exact (State.rd_wr_ne _ _ (by decide)).trans ((u.rd_setTick _ (by decide)).trans hcount)
  · rw [State.addSlip, State.addWrap, State.rd_wr_same, u.rd_setTick _ (by decide), BitVec.toNat_add, BitVec.toNat_ofNat,
      Nat.add_mod_mod, hrd _ (not_recordBlock_of_lt (by decide)) (by decide) (by decide), hslip]

/-- A hold ends when its one late slot has nothing active any more. -/
theorem State.releaseHold_alone {n j : Nat} (hhold : s.tick.hold = some h) (hedge : h.byEdge = false) (hlate : h.late = [(n, j)])
    (hidle : (s.station n j).active = []) (hrole : s.tick.role = 0) : s.releaseHold = s.endHold h := by
  have hdone : h.late.filter (fun x => s.lateAt x.1 x.2 h.boundary) = [] := by
    simp [hlate, State.lateAt, hidle]
  unfold State.releaseHold
  simp only [hhold]
  rw [if_neg (Bool.eq_false_iff.1 hedge), if_pos hdone, if_neg fun hr => absurd (hrole.symm.trans hr.1) (by decide)]

/-- At SLIP_LIMIT the core of the one late slot is faulted, and the hold is looked at again (R61, R62). -/
theorem State.exec_slipLimit {n j : Nat} (hhold : s.tick.hold = some h) (hlate : h.late = [(n, j)])
    (hstill : s.lateAt n j h.boundary = true) (hcores : s.faultCores n = [n])
    (hlimit : h.clock + max 1 (s.fld Reg.TICK_SLIP_LIMIT Fl.TICK_SLIP_LIMIT_STITCHES) ≤ s.stitchClock) :
    exec .slipLimit s = finish (s.begin.faultCore n).releaseHold := by
  have hlist : s.begin.faultList (h.late.filter (fun x => s.begin.lateAt x.1 x.2 h.boundary)) = [n] := by
    have hlateSlot : s.begin.lateAt n j h.boundary = true := hstill
    have hlateCore : s.begin.faultCores n = [n] := hcores
    simp [hlate, hlateSlot, State.faultList, hlateCore]
  have hnot : ¬(h.late = [] ∨ s.stitchClock < h.clock + max 1 (s.fld Reg.TICK_SLIP_LIMIT Fl.TICK_SLIP_LIMIT_STITCHES)) := by
    simp only [hlate, List.cons_ne_nil, false_or]
    omega
  change finish (match s.tick.hold with | none => _ | some h => _) = _
  rw [hhold]
  refine congrArg finish ((if_neg hnot).trans ?_)
  simp only [hlist]
  rfl

end

/-! ### Edges of TICK_IN (R65) -/

section
variable {s : State} {h : Hold}

/-- A device that does not follow waits for the same clearance after a change of the tick's state beside its domain. -/
theorem State.waitsClearance_setTick (x : TickState) (hdomain : x.domain = s.tick.domain) (hasked : x.asked = s.tick.asked)
    (hrole : x.role = s.tick.role) (hmaster : s.tick.role ≠ 2) : (s.setTick x).waitsClearance = s.waitsClearance := by
  have hfollows : ∀ t : State, t.tick.role = s.tick.role → t.follows = false := fun t ht => by
    simp [State.follows, ht, hmaster]
  unfold State.waitsClearance
  rw [hfollows _ hrole, hfollows s rfl, State.stitch_setTick, State.setTick_tick, hdomain, hasked]
  rfl

/-- TICK_IN edges come again. -/
def State.edgeSeen (s : State) : State := s.setTick { s.tick with inLost := false }

/-- A withheld edge counts as a stitch and fires nothing. -/
theorem State.exec_tickInEdge_withheld (wide : Bool) (hrole : s.tick.role = 3) (hclock : s.clocked = true)
    (hhold : s.tick.hold = some h) (hwaits : s.waitsClearance = false) (hedge : h.byEdge = true) (hwithhold : 0 < s.tick.withhold) :
    exec (.tickInEdge wide) s
      = finish (s.begin.edgeSeen.setTick { s.begin.edgeSeen.tick with withhold := s.tick.withhold - 1 }).advanceClock := by
  have hnot : ¬(s.tick.role ≠ 3 ∨ s.clocked = false) := by simp [hrole, hclock]
  have hclear : s.begin.edgeSeen.waitsClearance = false :=
    (State.waitsClearance_setTick (s := s.begin) _ rfl rfl rfl (by simp [hrole])).trans hwaits
  have hkept : ¬((match s.begin.edgeSeen.tick.hold with | some h => !h.byEdge | none => false)
      || s.begin.edgeSeen.waitsClearance) = true := by
    have hsame : s.begin.edgeSeen.tick.hold = some h := hhold
    simp [hsame, hedge, hclear]
  exact congrArg finish ((if_neg hnot).trans ((if_neg hkept).trans (if_pos hwithhold)))

/-- An edge during a hold for late slots is skipped. -/
theorem State.exec_tickInEdge_skipped (wide : Bool) (hrole : s.tick.role = 3) (hclock : s.clocked = true)
    (hhold : s.tick.hold = some h) (hedge : h.byEdge = false) :
    exec (.tickInEdge wide) s
      = finish ((s.begin.edgeSeen.count Reg.TICK_IN_SKIPPED).setFld Reg.TICK_STATUS Fl.TICK_STATUS_EXTERNAL_ALIGNED 0) := by
  have hnot : ¬(s.tick.role ≠ 3 ∨ s.clocked = false) := by simp [hrole, hclock]
  have hkept : ((match s.begin.edgeSeen.tick.hold with | some h => !h.byEdge | none => false)
      || s.begin.edgeSeen.waitsClearance) = true := by
    have hsame : s.begin.edgeSeen.tick.hold = some h := hhold
    simp [hsame, hedge]
  exact congrArg finish ((if_neg hnot).trans (if_pos hkept))

end

end Sys2Proof.Machine

namespace Sys2Proof.Proofs

open Machine Claims

section
variable {s : State} {h : Hold}

theorem tickInEdge_withheld (wide : Bool) (hrole : s.tick.role = 3) (hclock : s.clocked = true)
    (hhold : s.tick.hold = some h) (hwaits : s.waitsClearance = false) (hedge : h.byEdge = true) (hwithhold : 0 < s.tick.withhold)
    (hnew : NoNewWaits s) :
    Does s (.tickInEdge wide) [.upd, .coll, .tick, .stitchClock] (fun off => off = Reg.TICK_STATUS) fun t =>
      t.tick = { s.tick with inLost := false, withhold := s.tick.withhold - 1 } ∧ t.stitchClock = s.stitchClock + 1 := by
  let s1 := s.begin.edgeSeen.setTick { s.begin.edgeSeen.tick with withhold := s.tick.withhold - 1 }
  have hframe : Changes [.tick] (· = Reg.TICK_STATUS) s s1 := Changes.of_begin ((Changes.setTick _ _).trans (Changes.setTick _ _))
  have hsteady : NoNewWaits s1 := NoNewWaits.of_tick hnew rfl rfl rfl fun off hstatus _ =>
    (State.rd_setTick _ _ hstatus).trans (State.rd_setTick s.begin _ hstatus)
  obtain ⟨u, c, hclocked⟩ := State.advanceClock_eq hsteady
  refine does_of_finish (State.exec_tickInEdge_withheld wide hrole hclock hhold hwaits hedge hwithhold) ?_ fun t ht => ⟨?_, ?_⟩
  · change Changes _ _ s s1.advanceClock
    rw [hclocked]
    exact (hframe.mono (by simp) fun _ => id).trans ((Changes.setClock s1 u c _).mono (by simp) fun _ => False.elim)
  · rw [ht.tick]
    change s1.advanceClock.tick = _
    rw [hclocked]
    rfl
  · rw [ht.stitchClock]
    change s1.advanceClock.stitchClock = _
    rw [hclocked]
    rfl

theorem tickInEdge_skipped (wide : Bool) (hrole : s.tick.role = 3) (hclock : s.clocked = true)
    (hhold : s.tick.hold = some h) (hedge : h.byEdge = false) :
    Does s (.tickInEdge wide) [.tick] (fun off => off = Reg.TICK_STATUS ∨ off = Reg.TICK_IN_SKIPPED) fun t =>
      t.tick = { s.tick with inLost := false }
        ∧ t.fld Reg.TICK_IN_SKIPPED Fl.TICK_IN_SKIPPED_COUNT = satNext (s.fld Reg.TICK_IN_SKIPPED Fl.TICK_IN_SKIPPED_COUNT)
        ∧ t.fld Reg.TICK_STATUS Fl.TICK_STATUS_EXTERNAL_ALIGNED = 0 := by
  refine does_of_finish (State.exec_tickInEdge_skipped wide hrole hclock hhold hedge) ?_ fun t ht => ⟨?_, ?_, ?_⟩
  · exact ((Changes.of_begin ((Changes.setTick _ _).mono (fun _ => id) fun _ => .inl)).trans
      ((Changes.count _ _).mono (by simp) fun _ => .inr)).trans ((Changes.setFld _ _ _ _).mono (by simp) fun _ => .inl)
  · rw [ht.tick, State.setFld_tick]
    exact (Changes.count s.begin.edgeSeen Reg.TICK_IN_SKIPPED).1 .tick (by simp)
  · rw [ht.fld (not_recordBlock_of_lt (by decide)), State.fld_setFld_ne _ _ _ _ (by decide)]
    refine (State.fld_count_same _ _).trans ?_
    rw [State.edgeSeen, State.fld_setTick _ _ _ (by decide)]
    rfl
  · rw [ht.fld (not_recordBlock_of_lt (by decide)), State.fld_setFld_same _ _ _ _ (by decide)]
    rfl

/-- A follower in holdover goes on by its own timer. -/
theorem holdover_begins (hfollows : s.follows = true) (hdue : s.tick.due = none) :
    Does s .holdover [.tick] (fun off => off = Reg.TICK_STATUS) fun t =>
      t.fld Reg.TICK_STATUS Fl.TICK_STATUS_HOLDOVER = 1
        ∧ t.tick = { s.tick with domain := none, asked := none, below := [], heard := [], upLen := none, upCount := none,
                                 skew := none, returned := false } := by
  let alone : TickState := { s.tick with domain := none, asked := none, below := [], heard := [], upLen := none, upCount := none,
                                         skew := none, returned := false }
  let s1 := (s.begin.setFld Reg.TICK_STATUS Fl.TICK_STATUS_HOLDOVER 1).setTick alone
  have hfire : s1.fireDue 0 = s1 := State.fireDue_none hdue
  have hexec : exec .holdover s = finish s1 := congrArg finish ((if_pos hfollows).trans hfire)
  refine does_of_finish hexec ?_ fun t ht => ⟨?_, ?_⟩
  · exact (Changes.of_begin ((Changes.setFld _ _ _ _).mono (by simp) fun _ => id)).trans (Changes.setTick _ _)
  · rw [ht.fld (not_recordBlock_of_lt (by decide)), State.fld_status_setTick _ _ _ (by decide),
      State.fld_setFld_same _ _ _ _ (by decide)]
    rfl
  · rw [ht.tick]
    rfl

/-- The device at which a hold for one core ends after the core has been faulted is ready to fire. -/
theorem fireReady_dropHold {n : Nat} {t : State} (hfault : CoreFaulted n s t) (hn : n < 128) (hquiet : ∀ e < 4, s.queue n e = [])
    (hrole : s.fld Reg.TICK_CONTROL Fl.TICK_CONTROL_ROLE = s.tick.role) (hchange : s.tick.change = none)
    (hlength : s.tick.upLen = none) (hretire : s.fw.retirePending = false) (hactivate : s.fw.activateAt = none)
    (hnew : NoNewWaits s) (hslots : s.SlotsSteady) : FireReady (t.dropHold h) := by
  have htick : t.tick = s.tick := hfault.frame.1 .tick (by simp)
  have hfw : t.fw = s.fw := hfault.frame.1 .fw (by simp)
  have htier : t.tier = s.tier := hfault.frame.1 .tier (by simp)
  have hbase := coreBase_bounds hn
  have hwaitRd : ∀ off, WaitReg s off → (t.dropHold h).rd off = s.rd off := fun off ho =>
    (State.rd_setTick _ _ ho.not_tick.1).trans (hfault.rd ho.not_record (ho.not_core hn hquiet))
  have hcontrol : t.rd Reg.TICK_CONTROL = s.rd Reg.TICK_CONTROL :=
    hfault.rd (not_recordBlock_of_lt (by decide)) fun hblock => by
      unfold Reg.TICK_CONTROL at hblock
      omega
  have hqueues : (t.dropHold h).core.queues = s.core.queues := by rw [State.dropHold, State.setTick_core, hfault.core]
  refine ⟨NoNewWaits.congr hfault.mem hwaitRd hnew hqueues htier, ?_, ?_, ?_, ?_, ?_, ?_⟩
  · exact (congrArg TickState.change htick).trans hchange
  · exact (congrArg TickState.upLen htick).trans hlength
  · rw [State.dropHold, State.fld_setTick _ _ _ (by decide), State.fld_congr hcontrol, hrole, ← htick]
    rfl
  · exact (congrArg FwState.retirePending hfw).trans hretire
  · exact (congrArg FwState.activateAt hfw).trans hactivate
  · exact hfault.steady hslots

/-- At SLIP_LIMIT the late core is faulted and the boundary fires (R61, R62). -/
theorem slipLimit_fires {n j : Nat} (hn : n < 128) (hj : j < 4) (hhold : s.tick.hold = some h) (hlate : h.late = [(n, j)])
    (hedge : h.byEdge = false) (hrole : s.tick.role = 0) (hbelow : s.tick.below = []) (hstill : s.lateAt n j h.boundary = true)
    (hcores : s.faultCores n = [n]) (hcalm : CalmCore n s.begin) (hup : s.coreState n = 0)
    (hready : ∀ t, CoreFaulted n s.begin t → FireReady (t.dropHold h))
    (hlimit : h.clock + max 1 (s.fld Reg.TICK_SLIP_LIMIT Fl.TICK_SLIP_LIMIT_STITCHES) ≤ s.stitchClock) :
    ∃ t, exec .slipLimit s = .next t ∧ t.tick.hold = none ∧ t.coreState n = 2
      ∧ (t.rd Reg.TICK_STITCH_COUNT).toNat = h.boundary % 2 ^ 64
      ∧ (∀ i < 4, t.fld (Reg.STATION_CONFIG n i) Fl.STATION_CONFIG_ENABLE = 0)
      ∧ (∀ m < 128, m ≠ n → ∀ i < 4, t.rd (Reg.STATION_CONFIG m i) = s.rd (Reg.STATION_CONFIG m i))
      ∧ (t.rd Reg.TICK_SLIP_CYCLES).toNat
        = ((s.rd Reg.TICK_SLIP_CYCLES).toNat + max s.tick.slip ((s.uptime - h.since) * 3)) % 2 ^ 64 := by
  have hbase := coreBase_bounds hn
  have hfault : CoreFaulted n s.begin (s.begin.faultCore n) := State.faultCore_spec hcalm hup
  have hexec := State.exec_slipLimit hhold hlate hstill hcores hlimit
  generalize s.begin.faultCore n = u at hfault hexec
  have htick : u.tick = s.tick := hfault.frame.1 .tick (by simp)
  rw [State.releaseHold_alone (htick ▸ hhold) hedge hlate (hfault.idle j hj) (htick ▸ hrole)] at hexec
  obtain ⟨hrd, hnone, hcount, hslip⟩ := State.endHold_alone (hready u hfault) (htick ▸ hrole) (htick ▸ hbelow)
  obtain ⟨t, ht, hevents⟩ := finish_spec (u.endHold h)
  have hcore : ∀ off, 0x1000000 ≤ off → t.rd off = u.rd off := fun off ho => by
    have hrecord : ¬RecordBlock off := not_recordBlock_of_ge (by omega)
    rw [hevents.rd off hrecord]
    refine hrd off hrecord ?_ ?_ ?_ <;> simp only [Reg.TICK_STITCH_COUNT, Reg.TICK_STATUS, Reg.TICK_SLIP_CYCLES] <;> omega
  have hother : ∀ off, ¬RecordBlock off → off < 0x1000000 ∨ 0x2000000 ≤ off → u.rd off = s.rd off := fun off hrecord ho =>
    hfault.rd hrecord fun hblock => by omega
  refine ⟨t, hexec.trans ht, ?_, ?_, ?_, fun i hi => ?_, fun m hm hmn i hi => ?_, ?_⟩
  · rw [hevents.tick, hnone]
  · exact (State.fld_congr (hcore _ (by unfold Reg.CORE_UNIT_STATUS; omega)) _).trans hfault.down
  · rw [hevents.rd _ (not_recordBlock_of_lt (by decide)), hcount, BitVec.toNat_ofNat]
  · exact (State.fld_congr (hcore _ (by unfold Reg.STATION_CONFIG; omega)) _).trans (hfault.disabled i hi)
  · have hother := coreBase_bounds hm
    rw [hcore _ (by unfold Reg.STATION_CONFIG; omega)]
    exact hfault.rd (not_recordBlock_of_ge (by unfold Reg.STATION_CONFIG; omega))
      (by unfold Reg.STATION_CONFIG Reg.coreBase; omega)
  · have huptime : u.uptime = s.uptime := by
      unfold State.uptime
      rw [hother _ (not_recordBlock_of_ge (by decide)) (by decide)]
    rw [hevents.rd _ (not_recordBlock_of_lt (by decide)), hslip, hother _ (not_recordBlock_of_lt (by decide)) (by decide), htick,
      State.slipNow, huptime]

end

/-- Settles O25: the end of the hold at SLIP_LIMIT is reached by the drain of a core without work, after which the boundary fires as
in a steady device. -/
theorem withheldEdgesSlipLimitAndHoldover : Obligations.WithheldEdgesSlipLimitAndHoldover := by
  refine ⟨fun s h wide hrole hclock hhold hwaits => ⟨fun hedge hwithhold hnew => ?_, fun hedge => ?_⟩, ?_,
    fun s hfollows hdue => holdover_begins hfollows hdue, fun s hfollows => ?_⟩
  · exact tickInEdge_withheld wide hrole hclock hhold hwaits hedge hwithhold hnew
  · exact tickInEdge_skipped wide hrole hclock hhold hedge
  · intro s h n j hn hj hhold hlate hedge hrole hcontrol hchange hlength hbelow hretire hactivate hnew hstill hcores hretiring
      hcluster hup ⟨hqueues, hshuttle, hlaunch⟩ hslots hlimit
    have hready : ∀ t, CoreFaulted n s.begin t → FireReady (t.dropHold h) := fun t hfault =>
      fireReady_dropHold hfault hn hqueues (hcontrol.trans hrole.symm) hchange hlength hretire hactivate hnew
        (s.slotsSteady_of_stations hslots)
    exact slipLimit_fires hn hj hhold hlate hedge hrole hbelow hstill hcores ⟨hn, hqueues, hshuttle, hlaunch, hretiring, hcluster⟩
      hup hready hlimit
  · exact doesNothing_of_finish (congrArg finish (if_neg (Bool.eq_false_iff.1 hfollows)))

end Sys2Proof.Proofs
end

section
/-! A write into far memory that pushes a line out of the write-combining buffer reads the latent errors of that line (R238, R376),
those among them that stand under the number of a die-stack word. -/

namespace Sys2Proof.Machine

open Claims

/-- A MOVE_WRITE at its one step: the tile of its unwritten descriptor, one FP32 element at hoop offset 0, goes to far address 0. -/
def QEntry.writesFirstLine : QEntry := { uid := 0, cmd := 3, started := true }

/-- Core 0's first mover has that command at work, its tenant owns the first far region, and the buffer's set of line 0 is full;
its oldest line, 8,192, is to make room, and a latent error stands under the number of a word at that line's address. -/
def State.latentInOldestLine : State :=
  let ready := State.reset.setFld Reg.SECURITY_BOOT_STATUS Fl.SECURITY_BOOT_STATUS_READY 1
  let up := ready.setFld (Reg.FAR_STATUS 0) Fl.FAR_STATUS_STATE 0
  let owned := (up.wr (Reg.CORE_OWNER 0) 0x103).wr (Reg.TIER_REGION_FAR 0) 0x103
  let queued := owned.setQueue 0 2 [QEntry.writesFirstLine]
  { queued with mem := { queued.mem with wcb := (List.range 16).map fun i => ⟨8192 * (i + 1), 1⟩, upsets := [(8 * 8192, 1)] } }

/-- INTEGRITY.CORRECTED of near memory after a command. -/
def correctedAfter : Result → Option Nat
  | .next t => some (t.fld (Reg.INTEGRITY_CORRECTED 1) Fl.INTEGRITY_CORRECTED_COUNT)
  | _ => none

theorem State.latentInOldestLine_atWork : MoverAtWork State.latentInOldestLine 0 2 QEntry.writesFirstLine 3 := by
  unfold MoverAtWork SoundFar
  decide +kernel

theorem State.latentInOldestLine_mayWrite :
    State.latentInOldestLine.tenantMay (State.latentInOldestLine.coreTenant 0) 0 (tileOf 0 0).dense true = true := by decide +kernel

theorem State.latentInOldestLine_cleanTile : CleanSpans State.latentInOldestLine ((tileOf 0 0).spans 0) := by
  unfold CleanSpans
  decide +kernel

theorem State.latentInOldestLine_corrected :
    State.latentInOldestLine.fld (Reg.INTEGRITY_CORRECTED 1) Fl.INTEGRITY_CORRECTED_COUNT = 0 := by decide +kernel

/-- The line that makes room is read, and its latent error counts as corrected in near memory. -/
theorem State.latentInOldestLine_correctedAfter :
    correctedAfter (exec (.moveWrite 0 0 1) State.latentInOldestLine) = some 1 := by decide +kernel

end Sys2Proof.Machine

namespace Sys2Proof.Proofs

open Machine Claims

/-- Refutes O18: a MOVE_WRITE into far memory is to change no register outside the memory controllers' and its queue's, in every
state in which each latent error stands under a key below 2^44 or past the write-combining buffers (`SoundFar`). A key below 2^44 is
the number of a die-stack word, but those below 2^37 would lie at far addresses, and `State.lineErrors` counts them to far lines. In
`State.latentInOldestLine` the write pushes such a line out of the buffer, its error is corrected, and INTEGRITY.CORRECTED counts it.
The statement lacks the premise that no key below 2^44 lies at a far address. -/
theorem not_moversCopyBytes : ¬ Obligations.MoversCopyBytes := by
  unfold Obligations.MoversCopyBytes
  intro h
  obtain ⟨-, hwrites, -⟩ := h State.latentInOldestLine 0 0 QEntry.writesFirstLine (tileOf 0 0)
  obtain ⟨hdone, -⟩ := hwrites (.moveWrite 0 0 1) State.latentInOldestLine_atWork rfl rfl
  obtain ⟨t, ht, -, -, hregs, -⟩ := hdone rfl State.latentInOldestLine_mayWrite State.latentInOldestLine_cleanTile
  have hkept : t.rd (Reg.INTEGRITY_CORRECTED 1) = State.latentInOldestLine.rd (Reg.INTEGRITY_CORRECTED 1) :=
    hregs _ (not_recordBlock_of_ge (by decide)) (by unfold MemoryRegs; decide)
  have hcount := State.latentInOldestLine_correctedAfter
  rw [ht, correctedAfter, State.fld_congr hkept, State.latentInOldestLine_corrected] at hcount
  exact absurd hcount (by decide)

end Sys2Proof.Proofs
end

section
/-! SUPPORT. The end of an instruction of the shuttle, said once: what its stop (R105) and its move to the next address (R74) leave,
up to the records of the command. -/

namespace Sys2Proof.Machine

/-! ### The shuttle's tables and registers -/

@[simp] theorem State.shuttle_setShuttle_same (s : State) (n : Nat) (x : Shuttle) : (s.setShuttle n x).shuttle n = x :=
  Sparse.get_set_same _ _ _ _

theorem State.shuttle_setShuttle_ne (s : State) {n m : Nat} (x : Shuttle) (h : m ≠ n) :
    (s.setShuttle n x).shuttle m = s.shuttle m := Sparse.get_set_ne _ _ _ _ h

theorem coreBase_ge (n : Nat) : 0x1000000 ≤ Reg.coreBase n := by
  unfold Reg.coreBase
  omega

theorem not_recordBlock_core {n off : Nat} (h : Reg.coreBase n ≤ off) : ¬RecordBlock off :=
  not_recordBlock_of_ge (by have := coreBase_ge n; omega)

theorem shuttleStatus_not_record (n : Nat) : ¬RecordBlock (Reg.SHUTTLE_STATUS n) :=
  not_recordBlock_core (n := n) (by unfold Reg.SHUTTLE_STATUS; omega)

theorem shuttleControl_not_record (n : Nat) : ¬RecordBlock (Reg.SHUTTLE_CONTROL n) :=
  not_recordBlock_core (n := n) (by unfold Reg.SHUTTLE_CONTROL; omega)

theorem shuttleControl_ne_status (n : Nat) : Reg.SHUTTLE_CONTROL n ≠ Reg.SHUTTLE_STATUS n := by
  unfold Reg.SHUTTLE_CONTROL Reg.SHUTTLE_STATUS
  omega

theorem State.pc_lt (s : State) (n : Nat) : s.pc n < 8192 := Fld.read_lt _ _

/-- Only a RUNNING shuttle shows a START that waits behind it. -/
theorem State.syncStall_of_ne {s : State} {n : Nat} (h : s.shuttleState n ≠ 1) : s.syncStall n = s := if_neg h

end Sys2Proof.Machine

namespace Sys2Proof.Claims

open Machine

/-! ### The frame of an instruction -/

section
variable {s t u : State} {n : Fin 128} {offs offs' : Nat → Prop}

theorem ShuttleFrame.trans (h : ShuttleFrame s t n offs) (g : ShuttleFrame t u n offs) : ShuttleFrame s u n offs := by
  obtain ⟨hregs, hcore, hothers⟩ := h
  obtain ⟨gregs, gcore, gothers⟩ := g
  refine ⟨hregs.trans gregs, by rw [gcore, hcore], fun m hm => ?_⟩
  exact ⟨(gothers m hm).1.trans (hothers m hm).1, (gothers m hm).2.trans (hothers m hm).2⟩

theorem ShuttleFrame.mono (h : ShuttleFrame s t n offs) (ho : ∀ off, offs off → offs' off) : ShuttleFrame s t n offs' :=
  ⟨h.1.mono (fun _ => id) fun off => Or.imp_right (Or.imp_right (ho off)), h.2⟩

/-- A change of registers alone is in the frame of the instruction that may write them. -/
theorem ShuttleFrame.of_changes (h : Changes [] offs s t) : ShuttleFrame s t n offs := by
  have hcore : t.core = s.core := h.1 .core (by simp)
  refine ⟨h.mono (by simp) fun _ ho => .inr (.inr ho), by rw [hcore], fun m _ => ?_⟩
  unfold State.shuttle State.launch
  rw [hcore]
  exact ⟨rfl, rfl⟩

theorem ShuttleFrame.events (h : ShuttleFrame s t n offs) (e : EventsOnly t u) : ShuttleFrame s u n offs :=
  h.trans (.of_changes ((Changes.refl [] offs t).events e))

/-- What the frame says of a register. -/
theorem ShuttleFrame.rd (h : ShuttleFrame s t n offs) {off : Nat} (hrecord : ¬RecordBlock off)
    (hstatus : off ≠ Reg.SHUTTLE_STATUS n) (hcontrol : off ≠ Reg.SHUTTLE_CONTROL n) (hoff : ¬offs off) : t.rd off = s.rd off :=
  h.1.2.1 off hrecord fun ho => ho.elim hstatus fun ho => ho.elim hcontrol hoff

theorem ShuttleFrame.setStatus (s : State) (n : Fin 128) (f : Fld) (v : Nat) :
    ShuttleFrame s (s.setFld (Reg.SHUTTLE_STATUS n) f v) n noReg :=
  ⟨(Changes.setFld s _ f v).mono (by simp) fun _ => .inl, rfl, fun _ _ => ⟨rfl, rfl⟩⟩

theorem ShuttleFrame.setControl (s : State) (n : Fin 128) (f : Fld) (v : Nat) :
    ShuttleFrame s (s.setFld (Reg.SHUTTLE_CONTROL n) f v) n noReg :=
  ⟨(Changes.setFld s _ f v).mono (by simp) fun _ => .inr ∘ .inl, rfl, fun _ _ => ⟨rfl, rfl⟩⟩

theorem ShuttleFrame.setShuttle (s : State) (n : Fin 128) (x : Shuttle) : ShuttleFrame s (s.setShuttle n x) n noReg :=
  ⟨(Changes.setCore s _).mono (fun _ => id) fun _ => False.elim, rfl,
    fun _ hm => ⟨s.shuttle_setShuttle_ne x (Fin.val_ne_of_ne hm), rfl⟩⟩

theorem ShuttleFrame.setLaunch (s : State) (n : Fin 128) (l : Launch) : ShuttleFrame s (s.setLaunch n l) n noReg :=
  ⟨(Changes.setLaunch s n l).mono (fun _ => id) fun _ => False.elim, rfl,
    fun _ hm => ⟨rfl, s.launch_setLaunch_ne l (Fin.val_ne_of_ne hm)⟩⟩

theorem ShuttleFrame.syncStall (s : State) (n : Fin 128) : ShuttleFrame s (s.syncStall n) n noReg := by
  by_cases h : s.shuttleState n = 1
  · rw [State.syncStall, if_pos h]
    exact .setStatus s n _ _
  · rw [State.syncStall_of_ne h]
    exact .of_changes (Changes.refl _ _ s)

end

end Sys2Proof.Claims

namespace Sys2Proof.Machine

open Claims

/-! ### A stop -/

section
variable (s : State) (n : Fin 128)

/-- A stopped shuttle, before a STOP descriptor that waits for it completes (R95, R105). -/
def State.halted (n reason : Nat) : State :=
  let status := ((s.setFld (Reg.SHUTTLE_STATUS n) Fl.SHUTTLE_STATUS_STATE 3).setFld (Reg.SHUTTLE_STATUS n)
    Fl.SHUTTLE_STATUS_STALL_CAUSE 0).setFld (Reg.SHUTTLE_STATUS n) Fl.SHUTTLE_STATUS_STOP_REASON reason
  (status.setFld (Reg.SHUTTLE_CONTROL n) Fl.SHUTTLE_CONTROL_STOP_REQ 0).setShuttle n { s.shuttle n with wait := none }

theorem State.halted_stops {reason : Nat} (h : reason < 16) : Stops s (s.halted n reason) n reason := by
  have hne := shuttleControl_ne_status n
  simp (disch := decide) [Stops, State.halted, State.shuttleState, State.pc, State.fld, State.rd_setFld, hne, hne.symm,
    Fld.read_write_disjoint, Fld.read_write]
  exact ⟨rfl, Nat.mod_eq_of_lt h⟩

theorem State.halted_frame (reason : Nat) : ShuttleFrame s (s.halted n reason) n noReg :=
  (((((ShuttleFrame.setStatus s n _ _).trans (.setStatus _ n _ _)).trans (.setStatus _ n _ _))).trans (.setControl _ n _ _)).trans
    (.setShuttle _ n _)

theorem State.stopShuttle_eq (reason : Nat) : s.stopShuttle n reason =
    if ((s.halted n reason).launch n).stopping then (s.halted n reason).passLaunch n 0 else s.halted n reason := rfl

/-- A stop of the shuttle (R105); a STOP descriptor that waited completes (R95). -/
theorem State.stopShuttle_spec {reason : Nat} (h : reason < 16) :
    Stops s (s.stopShuttle n reason) n reason ∧ ShuttleFrame s (s.stopShuttle n reason) n noReg := by
  have hstops := s.halted_stops n h
  have hframe := s.halted_frame n reason
  rw [State.stopShuttle_eq]
  generalize s.halted n reason = u at hstops hframe
  split
  · let l : Launch := { u.launch n with rp := ((u.launch n).rp + 1) % 32, last := 0, stopping := false }
    have hpass : u.passLaunch n 0 = u.setLaunch n l := State.syncStall_of_ne (s := u.setLaunch n l) (by
      have hstate : (u.setLaunch n l).shuttleState n = 3 := hstops.1
      omega)
    rw [hpass]
    exact ⟨hstops, hframe.trans (.setLaunch u n l)⟩
  · exact ⟨hstops, hframe⟩

/-! ### The move past an instruction -/

/-- The shuttle goes on, or stops behind the last address (R74). -/
theorem State.nextPc_spec : Onward s (s.nextPc n) n ∧ ShuttleFrame s (s.nextPc n) n noReg := by
  unfold Onward
  by_cases hlast : s.pc n = 8191
  · rw [if_pos hlast, State.nextPc_last s hlast]
    exact s.stopShuttle_spec n (by decide)
  · rw [if_neg hlast, State.nextPc_of_lt s hlast]
    have hlt := s.pc_lt n
    refine ⟨⟨?_, ?_, ?_, ?_, ?_, rfl, rfl⟩, .setStatus s n _ _⟩
    · exact (State.fld_setFld_same _ _ _ _ (by decide)).trans (Nat.mod_eq_of_lt (by simp [Fl.SHUTTLE_STATUS_PC]; omega))
    · exact State.fld_setFld_disjoint _ _ _ _ _ (by decide)
    · exact State.fld_setFld_disjoint _ _ _ _ _ (by decide)
    · exact State.fld_setFld_disjoint _ _ _ _ _ (by decide)
    · exact State.rd_setFld_ne _ _ _ (shuttleControl_ne_status n)

end

end Sys2Proof.Machine

namespace Sys2Proof.Claims

open Machine

/-! ### What the records of the command leave -/

section
variable {s r t : State} {n : Fin 128} {c : Instr} {offs : Nat → Prop}

/-- The registers and the tables of core n's shuttle are the same. -/
structure ShuttleKept (s r : State) (n : Fin 128) : Prop where
  status : r.rd (Reg.SHUTTLE_STATUS n) = s.rd (Reg.SHUTTLE_STATUS n)
  control : r.rd (Reg.SHUTTLE_CONTROL n) = s.rd (Reg.SHUTTLE_CONTROL n)
  shuttle : r.shuttle n = s.shuttle n
  launch : r.launch n = s.launch n

theorem ShuttleKept.of_core {parts : List Part} (h : Changes parts offs s r) (hstatus : ¬offs (Reg.SHUTTLE_STATUS n))
    (hcontrol : ¬offs (Reg.SHUTTLE_CONTROL n)) (hshuttles : r.core.shuttles = s.core.shuttles)
    (hlaunches : r.core.launches = s.core.launches) : ShuttleKept s r n where
  status := h.2.1 _ (shuttleStatus_not_record n) hstatus
  control := h.2.1 _ (shuttleControl_not_record n) hcontrol
  shuttle := by
    unfold State.shuttle
    rw [hshuttles]
  launch := by
    unfold State.launch
    rw [hlaunches]

theorem ShuttleKept.of_changes (h : Changes [] offs s r) (hstatus : ¬offs (Reg.SHUTTLE_STATUS n))
    (hcontrol : ¬offs (Reg.SHUTTLE_CONTROL n)) : ShuttleKept s r n :=
  have hcore : r.core = s.core := h.1 .core (by simp)
  .of_core h hstatus hcontrol (by rw [hcore]) (by rw [hcore])

theorem ShuttleKept.of_events (h : EventsOnly s r) : ShuttleKept s r n :=
  .of_changes ((Changes.refl [] noReg s).events h) id id

theorem Stops.of_pc {reason : Nat} (g : Stops r t n reason) (h : r.pc n = s.pc n) : Stops s t n reason := by
  obtain ⟨hstate, hreason, hpc, hrest⟩ := g
  exact ⟨hstate, hreason, hpc.trans h, hrest⟩

theorem Stops.kept {reason : Nat} (h : Stops s r n reason) (g : ShuttleKept r t n) : Stops s t n reason := by
  obtain ⟨hstate, hreason, hpc, hreq, hwait⟩ := h
  exact ⟨(State.fld_congr g.status _).trans hstate, (State.fld_congr g.status _).trans hreason,
    (State.fld_congr g.status _).trans hpc, (State.fld_congr g.control _).trans hreq, by rw [g.shuttle, hwait]⟩

theorem Onward.of_kept (g : Onward r t n) (h : ShuttleKept s r n) : Onward s t n := by
  have hpc : r.pc n = s.pc n := State.fld_congr h.status _
  unfold Onward at g ⊢
  rw [hpc] at g
  split_ifs at g ⊢
  · exact g.of_pc hpc
  · obtain ⟨hnext, hstate, hcause, hreason, hcontrol, hshuttle, hlaunch⟩ := g
    exact ⟨hnext, hstate.trans (State.fld_congr h.status _), hcause.trans (State.fld_congr h.status _),
      hreason.trans (State.fld_congr h.status _), hcontrol.trans h.control, hshuttle.trans h.shuttle, hlaunch.trans h.launch⟩

theorem Onward.kept (h : Onward s r n) (g : ShuttleKept r t n) : Onward s t n := by
  unfold Onward at h ⊢
  split_ifs at h ⊢
  · exact h.kept g
  · obtain ⟨hnext, hstate, hcause, hreason, hcontrol, hshuttle, hlaunch⟩ := h
    exact ⟨(State.fld_congr g.status _).trans hnext, (State.fld_congr g.status _).trans hstate,
      (State.fld_congr g.status _).trans hcause, (State.fld_congr g.status _).trans hreason, g.control.trans hcontrol,
      g.shuttle.trans hshuttle, g.launch.trans hlaunch⟩

/-- A command that ends in a stop, after steps that leave the shuttle as it was. -/
theorem stops_of_finish {reason : Nat} (hc : exec c s = finish (r.stopShuttle n reason)) (hreason : reason < 16)
    (h : ShuttleKept s r n) : ∃ t, exec c s = .next t ∧ Stops s t n reason ∧ ShuttleFrame r t n noReg := by
  obtain ⟨hstops, hframe⟩ := r.stopShuttle_spec n hreason
  obtain ⟨t, ht, he⟩ := finish_spec (r.stopShuttle n reason)
  exact ⟨t, hc.trans ht, (hstops.kept (.of_events he)).of_pc (State.fld_congr h.status _), hframe.events he⟩

/-- A command that ends in the move past its instruction, after steps that leave the shuttle as it was. -/
theorem onward_of_finish (hc : exec c s = finish (r.nextPc n)) (h : ShuttleKept s r n) :
    ∃ t, exec c s = .next t ∧ Onward s t n ∧ ShuttleFrame r t n noReg := by
  obtain ⟨honward, hframe⟩ := r.nextPc_spec n
  obtain ⟨t, ht, he⟩ := finish_spec (r.nextPc n)
  exact ⟨t, hc.trans ht, (honward.kept (.of_events he)).of_kept h, hframe.events he⟩

theorem changes_begin (s : State) : Changes [] noReg s s.begin := Changes.begin s

/-- An instruction that stops the shuttle instead of its effect. -/
theorem stops_at_once {reason : Nat} (hc : exec c s = finish (s.begin.stopShuttle n reason)) (hreason : reason < 16) :
    ∃ t, exec c s = .next t ∧ Stops s t n reason ∧ ShuttleFrame s t n noReg := by
  obtain ⟨t, ht, hstops, hframe⟩ := stops_of_finish hc hreason (.of_changes (changes_begin s) id id)
  exact ⟨t, ht, hstops, (ShuttleFrame.of_changes (changes_begin s)).trans hframe⟩

/-- The instruction that the shuttle fetches runs. -/
theorem Fetches.runIns {op : Nat} {w : W32} (h : Fetches s n op w) (f : W32 → State → State) :
    runIns n op s f = finish (f w s.begin) := by
  obtain ⟨hrun, hstate, hword, hop, hreserved, hsound, hsources⟩ := h
  exact congrArg finish (State.fetchDo_run s.begin hrun hstate hword hop hreserved rfl hsound hsources)

end

end Sys2Proof.Claims
end

section
/-! SUPPORT. Operations on a knot that is not armed and whose bytes hold no error (R181, R183, R191), and where a knot's registers
stand (R204). -/

namespace Sys2Proof.Machine

open Claims

/-! ### The registers of a knot -/

theorem knotReg_bounds {k off : Nat} (h : off = knotStateReg k ∨ off = knotArmReg k) :
    ∃ c r, off = 0x1000000 + c * 0x200000 + 0x100000 + r ∧ r < 0x40000 := by
  obtain rfl | rfl := h
  · exact ⟨k / 16384, k % 16384 * 0x10, rfl, by omega⟩
  · refine ⟨k / 16384, k % 16384 * 0x10 + 8, ?_, by omega⟩
    unfold knotArmReg Reg.KNOT_ARM Reg.clusterBase
    omega

/-- A knot's registers lie in no core's block (R465). -/
theorem knotReg_not_core {k off : Nat} (h : off = knotStateReg k ∨ off = knotArmReg k) (n : Nat) :
    ¬(Reg.coreBase n ≤ off ∧ off < Reg.coreBase n + 0x10000) := by
  obtain ⟨c, r, rfl, hr⟩ := knotReg_bounds h
  unfold Reg.coreBase
  omega

theorem knotReg_not_record {k off : Nat} (h : off = knotStateReg k ∨ off = knotArmReg k) : ¬RecordBlock off := by
  obtain ⟨c, r, rfl, -⟩ := knotReg_bounds h
  exact not_recordBlock_of_ge (by omega)

theorem knotReg_ne_status {k off : Nat} (h : off = knotStateReg k ∨ off = knotArmReg k) (n : Nat) :
    off ≠ Reg.SHUTTLE_STATUS n := fun ho => knotReg_not_core h n (by unfold Reg.SHUTTLE_STATUS at ho; omega)

theorem knotReg_ne_control {k off : Nat} (h : off = knotStateReg k ∨ off = knotArmReg k) (n : Nat) :
    off ≠ Reg.SHUTTLE_CONTROL n := fun ho => knotReg_not_core h n (by unfold Reg.SHUTTLE_CONTROL at ho; omega)

theorem knotArmReg_ne_state (k : Nat) : knotArmReg k ≠ knotStateReg k := by
  unfold knotArmReg knotStateReg Reg.KNOT_ARM Reg.KNOT_STATE
  omega

section
variable {s t : State} {k : Nat}

theorem State.knotCount_lt (s : State) (k : Nat) : s.knotCount k < 2 ^ 32 := Fld.read_lt _ _

theorem State.knotCount_of_rd (h : t.rd (knotStateReg k) = s.rd (knotStateReg k)) : t.knotCount k = s.knotCount k :=
  State.fld_congr h _

theorem State.knotFrayed_of_rd (h : t.rd (knotStateReg k) = s.rd (knotStateReg k)) : t.knotFrayed k = s.knotFrayed k :=
  congrArg (· == 1) (State.fld_congr h _)

theorem State.knotArmed_of_rd (h : t.rd (knotStateReg k) = s.rd (knotStateReg k)) : t.knotArmed k = s.knotArmed k :=
  congrArg (· == 1) (State.fld_congr h _)

/-! ### Conditions on a count -/

theorem State.knotOwned_iff (u : Option Nat) : s.knotOwned k u = true ↔ ∃ v, u = some v ∧ s.knotTenant k = some v := by
  cases u <;> simp [State.knotOwned]

theorem knotGe_iff {count v : Nat} (h : count < 2 ^ 32) : knotGe count v = true ↔ KnotReached count v := by
  unfold knotGe KnotReached signedOf
  simp only [decide_eq_true_eq]
  split_ifs <;> omega

/-- The wait conditions that are no reserved codes (R112). -/
theorem condHolds_iff {cond count v : Nat} (hcond : cond = 1 ∨ cond = 2) (hcount : count < 2 ^ 32) (hv : v < 2 ^ 32) :
    condHolds cond count v = true ↔ WaitMet cond count v := by
  unfold condHolds WaitMet
  obtain rfl | rfl := hcond
  · rw [if_neg (by decide), if_pos rfl, knotGe_iff hcount]
  · rw [if_pos rfl, if_neg (by decide), Nat.mod_eq_of_lt hcount, Nat.mod_eq_of_lt hv, beq_iff_eq]

/-! ### One operation -/

theorem State.readKnot_sound (h : SoundKnot s k) : s.readKnot k = s := by
  obtain ⟨hstate, harm⟩ := h
  have hread : s.readArrays (s.knotTenant k) [knotStateReg k, knotArmReg k] = (s, false) :=
    s.readArrays_sound (by simp [hstate, harm])
  simp [State.readKnot, hread]

theorem State.knotError_sound (h : SoundKnot s k) : s.knotError k = s.knotFrayed k := by
  simp [State.knotError, h.1, h.2]

theorem State.evaluateArm_unarmed (h : s.knotArmed k = false) : s.evaluateArm k = (s, []) := by
  simp [State.evaluateArm, h]

/-- An operation that notifies no knot of this device is the bank's one step. -/
theorem State.knotDo_of_step {r : State} {op : KnotChange} (h : SoundKnot s k) (hstep : s.knotStep k op = (r, [])) :
    s.knotDo k op = r := by
  simp [State.knotDo, State.knotRun, State.readKnot_sound h, hstep]

theorem State.knotArmed_setCount (v : Nat) :
    (s.setFld (knotStateReg k) Fl.KNOT_STATE_COUNT v).knotArmed k = s.knotArmed k :=
  congrArg (· == 1) (State.fld_setFld_disjoint _ _ _ _ _ (by decide))

theorem State.knotFrayed_setCount (v : Nat) :
    (s.setFld (knotStateReg k) Fl.KNOT_STATE_COUNT v).knotFrayed k = s.knotFrayed k :=
  congrArg (· == 1) (State.fld_setFld_disjoint _ _ _ _ _ (by decide))

theorem State.knotCount_setCount (v : Nat) :
    (s.setFld (knotStateReg k) Fl.KNOT_STATE_COUNT v).knotCount k = v % 2 ^ 32 :=
  State.fld_setFld_same _ _ _ _ (by decide)

theorem State.knotDo_set (h : QuietKnot s k) (v : Nat) :
    s.knotDo k (.set v) = s.setFld (knotStateReg k) Fl.KNOT_STATE_COUNT v :=
  State.knotDo_of_step h.1 (State.evaluateArm_unarmed ((State.knotArmed_setCount v).trans h.2))

theorem State.knotDo_add (h : QuietKnot s k) (v : Nat) :
    s.knotDo k (.add v) = s.setFld (knotStateReg k) Fl.KNOT_STATE_COUNT (s.knotCount k + v) :=
  State.knotDo_of_step h.1 (State.evaluateArm_unarmed ((State.knotArmed_setCount _).trans h.2))

end

end Sys2Proof.Machine
end

section
/-! HALT and the stops that an instruction takes instead of its effect (R94, R106, R108, R113, R185). -/

namespace Sys2Proof.Proofs

open Machine Claims

section
variable {s : State} {n : Fin 128} {w : W32}

theorem halt_without_doneKnot (h : Fetches s n 0x02 w) (hnone : (s.shuttle n).doneKnot = none) :
    ∃ t, exec (.halt n) s = .next t ∧ Stops s t n 1 ∧ ShuttleFrame s t n noReg :=
  stops_at_once ((h.runIns _).trans (by
    have hbegin : (s.begin.shuttle n).doneKnot = none := hnone
    rw [hbegin])) (by decide)

theorem halt_adds_to_doneKnot {k : Nat} (h : Fetches s n 0x02 w) (hdone : (s.shuttle n).doneKnot = some k)
    (howned : s.knotOwned k (s.coreTenant n) = true) (hquiet : QuietKnot s k) :
    ∃ t, exec (.halt n) s = .next t ∧ Stops s t n 1 ∧ t.knotCount k = (s.knotCount k + 1) % 2 ^ 32
      ∧ t.knotFrayed k = s.knotFrayed k ∧ ShuttleFrame s t n (fun off => off = knotStateReg k) := by
  let r := s.begin.setFld (knotStateReg k) Fl.KNOT_STATE_COUNT (s.knotCount k + 1)
  have hexec : exec (.halt n) s = finish (r.stopShuttle n 1) := (h.runIns _).trans (by
    have hbegin : (s.begin.shuttle n).doneKnot = some k := hdone
    have hmay : s.begin.knotOwned k (s.begin.coreTenant n) = true := howned
    have hadd : s.begin.knotDo k (.add 1) = r := State.knotDo_add (s := s.begin) hquiet 1
    rw [hbegin]
    simp only [hmay, if_true, hadd])
  have hframe : Changes [] (fun off => off = knotStateReg k) s r := .of_begin (Changes.setFld _ _ _ _)
  have hstatus := knotReg_ne_status (k := k) (.inl rfl) n
  have hcontrol := knotReg_ne_control (k := k) (.inl rfl) n
  obtain ⟨t, ht, hstops, hrest⟩ := stops_of_finish hexec (by decide) (.of_changes hframe hstatus.symm hcontrol.symm)
  have hrd : t.rd (knotStateReg k) = r.rd (knotStateReg k) := hrest.rd (knotReg_not_record (.inl rfl)) hstatus hcontrol id
  exact ⟨t, ht, hstops, (State.knotCount_of_rd hrd).trans (State.knotCount_setCount _),
    (State.knotFrayed_of_rd hrd).trans (State.knotFrayed_setCount _),
    (ShuttleFrame.of_changes hframe).trans (hrest.mono fun _ => False.elim)⟩

theorem halt_of_foreign_doneKnot {k : Nat} (h : Fetches s n 0x02 w) (hdone : (s.shuttle n).doneKnot = some k)
    (hforeign : s.knotOwned k (s.coreTenant n) = false) :
    ∃ t, exec (.halt n) s = .next t ∧ Stops s t n 6 ∧ ShuttleFrame s t n noReg :=
  stops_at_once ((h.runIns _).trans (by
    have hbegin : (s.begin.shuttle n).doneKnot = some k := hdone
    have hmay : s.begin.knotOwned k (s.begin.coreTenant n) = false := hforeign
    rw [hbegin]
    simp only [hmay, Bool.false_eq_true, if_false])) (by decide)

/-- An instruction whose effect begins with the check of its knot's owner stops where the knot is foreign (R113, R185). -/
theorem foreign_knot_stops {c : Instr} {op k : Nat} {f : W32 → State → State} {g : State} (h : Fetches s n op w)
    (hc : exec c s = runIns n op s f)
    (hf : f w s.begin = if s.knotOwned k (s.coreTenant n) then g else s.begin.stopShuttle n 6)
    (hforeign : s.knotOwned k (s.coreTenant n) = false) :
    ∃ t, exec c s = .next t ∧ Stops s t n 6 ∧ ShuttleFrame s t n noReg :=
  stops_at_once (hc.trans ((h.runIns f).trans (by simp only [hf, hforeign, Bool.false_eq_true, if_false]))) (by decide)

theorem reservedOpcode_stops (hrun : s.coresRun = true) (hstate : s.shuttleState n = 1)
    (hreserved : insReserved (s.instructionAt n (s.pc n)) = true) (hsound : SoundFetch s n) :
    ∃ t, exec (.reservedOpcode n) s = .next t ∧ Stops s t n 7 ∧ ShuttleFrame s t n noReg := by
  have hread : s.begin.readSpans (s.begin.coreTenant n) [insSpan n (s.begin.pc n)] = (s.begin, false) :=
    s.begin.readSpans_sound fun p hp => by
      rw [List.mem_singleton.1 hp]
      exact hsound
  have hall : s.begin.coresRun = true ∧ s.begin.shuttleState n = 1
      ∧ insReserved (s.begin.instructionAt n (s.begin.pc n)) = true := ⟨hrun, hstate, hreserved⟩
  refine stops_at_once ?_ (by decide)
  change finish (if _ ∧ _ ∧ _ then _ else _) = _
  rw [hread]
  exact congrArg finish (if_pos hall)

end

/-- Settles O3: each instruction ends in a stop of the shuttle, after the add to DONE_KNOT where HALT makes one. -/
theorem shuttleStopsKeepProgramCounter : Obligations.ShuttleStopsKeepProgramCounter := by
  intro s n w
  refine ⟨halt_without_doneKnot, fun h k u hdone hcore hknot hsound harmed => ?_, fun h k hdone hforeign => ?_,
    fun c op k hmem h hforeign => ?_, reservedOpcode_stops⟩
  · exact halt_adds_to_doneKnot h hdone ((State.knotOwned_iff _).2 ⟨u, hcore, hknot⟩) ⟨hsound, harmed⟩
  · exact halt_of_foreign_doneKnot h hdone (Bool.eq_false_iff.2 (mt (State.knotOwned_iff _).1 hforeign))
  · have hno : s.knotOwned k (s.coreTenant n) = false := Bool.eq_false_iff.2 (mt (State.knotOwned_iff _).1 hforeign)
    simp only [List.mem_cons, Prod.mk.injEq, List.not_mem_nil, or_false] at hmem
    obtain ⟨rfl, rfl, rfl⟩ | ⟨rfl, rfl, rfl⟩ | ⟨rfl, rfl, rfl⟩ | ⟨rfl, rfl, rfl⟩ | ⟨rfl, rfl, rfl⟩ := hmem <;>
      exact foreign_knot_stops h rfl rfl hno

end Sys2Proof.Proofs
end

section
/-! The waits of the shuttle on a knot, their wake, and its operations on a knot (R80, R112, R113, R188). -/

namespace Sys2Proof.Machine

open Claims

section
variable (s : State) (n : Fin 128)

/-! ### A stall -/

theorem State.stallShuttle_frame (cause engine : Nat) : ShuttleFrame s (s.stallShuttle n cause engine) n noReg :=
  ((ShuttleFrame.setStatus s n _ _).trans (.setStatus _ n _ _)).trans (.setStatus _ n _ _)

theorem State.stallShuttle_fields (cause engine : Nat) :
    (s.stallShuttle n cause engine).shuttleState n = 2 ∧ (s.stallShuttle n cause engine).pc n = s.pc n
      ∧ (s.stallShuttle n cause engine).fld (Reg.SHUTTLE_STATUS n) Fl.SHUTTLE_STATUS_STALL_CAUSE = cause % 4 := by
  simp (disch := decide) [State.stallShuttle, State.shuttleState, State.pc, State.fld, State.rd_setFld, Fld.read_write_disjoint,
    Fld.read_write]
  exact ⟨rfl, rfl⟩

/-- STALL_CAUSE of a RUNNING shuttle is all that its refresh may write (R105). -/
theorem State.syncStall_fields : (s.syncStall n).shuttleState n = s.shuttleState n ∧ (s.syncStall n).pc n = s.pc n
    ∧ (s.syncStall n).shuttle n = s.shuttle n := by
  by_cases h : s.shuttleState n = 1
  · rw [State.syncStall, if_pos h]
    exact ⟨State.fld_setFld_disjoint _ _ _ _ _ (by decide), State.fld_setFld_disjoint _ _ _ _ _ (by decide), rfl⟩
  · rw [State.syncStall_of_ne h]
    exact ⟨rfl, rfl, rfl⟩

end

/-! ### An arm -/

section
variable {s : State} {k : Nat}

/-- An arm whose threshold is not reached waits (R191). -/
theorem State.evaluateArm_waiting (hfrayed : s.knotFrayed k = false)
    (hge : knotGe (s.knotCount k) (s.fld (knotArmReg k) Fl.KNOT_ARM_THRESHOLD) = false) : s.evaluateArm k = (s, []) := by
  simp [State.evaluateArm, hfrayed, hge]

theorem State.recordArm_eq (v target : Nat) : s.recordArm k v target none none =
    ((s.setFld (knotArmReg k) Fl.KNOT_ARM_THRESHOLD v).setFld (knotArmReg k) Fl.KNOT_ARM_TARGET target).setFld (knotStateReg k)
      Fl.KNOT_STATE_ARMED 1 := rfl

theorem State.recordArm_changes (v target : Nat) :
    Changes [] (fun off => off = knotStateReg k ∨ off = knotArmReg k) s (s.recordArm k v target none none) := by
  rw [State.recordArm_eq]
  exact (((Changes.setFld s _ _ _).trans (Changes.setFld _ _ _ _)).mono (by simp) fun _ => .inr).trans
    ((Changes.setFld _ _ _ _).mono (by simp) fun _ => .inl)

/-- A recorded arm of this device: the count and FRAYED stay. -/
theorem State.recordArm_fields (v target : Nat) : let r := s.recordArm k v target none none
    r.knotArmed k = true ∧ r.knotCount k = s.knotCount k ∧ r.knotFrayed k = s.knotFrayed k
      ∧ r.fld (knotArmReg k) Fl.KNOT_ARM_THRESHOLD = v % 2 ^ 32 ∧ r.fld (knotArmReg k) Fl.KNOT_ARM_TARGET = target % 4 := by
  have hne := knotArmReg_ne_state k
  simp (disch := decide) [State.recordArm_eq, State.knotArmed, State.knotCount, State.knotFrayed, State.flag, State.fld,
    State.rd_setFld, hne, hne.symm, Fld.read_write_disjoint, Fld.read_write]
  exact ⟨rfl, rfl⟩

theorem State.knotDo_arm {v : Nat} (h : QuietKnot s k) (hfrayed : s.knotFrayed k = false) (hv : v < 2 ^ 32)
    (hreached : ¬KnotReached (s.knotCount k) v) : s.knotDo k (.arm v 0 none none) = s.recordArm k v 0 none none := by
  obtain ⟨-, hcount, hfray, hthreshold, -⟩ := State.recordArm_fields (s := s) (k := k) v 0
  have hwaits : (s.recordArm k v 0 none none).evaluateArm k = (s.recordArm k v 0 none none, []) :=
    State.evaluateArm_waiting (hfray.trans hfrayed) (by
      rw [hcount, hthreshold, Nat.mod_eq_of_lt hv]
      exact Bool.eq_false_iff.2 (mt (knotGe_iff (s.knotCount_lt k)).1 hreached))
  exact State.knotDo_of_step h.1 (by simp [State.knotStep, h.2, hwaits])

end

end Sys2Proof.Machine

namespace Sys2Proof.Proofs

open Machine Claims

section
variable {s : State} {n : Fin 128} {w : W32} {c : Instr} {k : Nat}

/-! ### Waits -/

/-- A wait on a knot of the core's tenant (R112, R188). -/
theorem waits_of_shuttleWait {cond v : Nat} (hc : exec c s = finish (s.begin.shuttleWait n k cond v))
    (howned : s.knotOwned k (s.coreTenant n) = true) (hsound : SoundKnot s k) (hcond : cond = 1 ∨ cond = 2) (hv : v < 2 ^ 32) :
    Waits s n c k cond v := by
  have hread : s.begin.readKnot k = s.begin := State.readKnot_sound hsound
  have hmet : condHolds cond (s.knotCount k) v = true ↔ WaitMet cond (s.knotCount k) v := condHolds_iff hcond (s.knotCount_lt k) hv
  have hwait : s.begin.shuttleWait n k cond v = if s.knotFrayed k then s.begin.stopShuttle n 11
      else if condHolds cond (s.knotCount k) v then s.begin.nextPc n
      else (s.begin.stallShuttle n 1 0).setShuttle n { s.shuttle n with wait := some (k, cond, v, s.stitchClock) } := by
    have hmay : s.begin.knotOwned k (s.begin.coreTenant n) = true := howned
    unfold State.shuttleWait
    rw [if_pos hmay, hread]
    rfl
  have hbegin := changes_begin s
  rw [hwait] at hc
  by_cases hfrayed : s.knotFrayed k = true
  · rw [if_pos hfrayed] at hc
    obtain ⟨t, ht, hstops, hframe⟩ := stops_at_once hc (by decide)
    exact ⟨t, ht, fun _ => hstops, fun hno => absurd (hfrayed.symm.trans hno) (by decide), hframe⟩
  rw [if_neg hfrayed] at hc
  by_cases hholds : condHolds cond (s.knotCount k) v = true
  · rw [if_pos hholds] at hc
    obtain ⟨t, ht, honward, hframe⟩ := onward_of_finish hc (.of_changes hbegin id id)
    exact ⟨t, ht, fun hyes => absurd hyes hfrayed, fun _ => ⟨fun _ => honward, fun hno => absurd (hmet.1 hholds) hno⟩,
      (ShuttleFrame.of_changes hbegin).trans hframe⟩
  · rw [if_neg hholds] at hc
    obtain ⟨hstate, hpc, hcause⟩ := s.begin.stallShuttle_fields n 1 0
    have hframe := s.begin.stallShuttle_frame n 1 0
    generalize s.begin.stallShuttle n 1 0 = u at hstate hpc hcause hframe hc
    obtain ⟨t, ht, he⟩ := finish_spec (u.setShuttle n { s.shuttle n with wait := some (k, cond, v, s.stitchClock) })
    have hstatus : t.rd (Reg.SHUTTLE_STATUS n) = u.rd (Reg.SHUTTLE_STATUS n) := he.rd _ (shuttleStatus_not_record n)
    have hshuttle := (ShuttleKept.of_events (n := n) he).shuttle
    refine ⟨t, hc.trans ht, fun hyes => absurd hyes hfrayed, fun _ => ⟨fun hyes => absurd (hmet.2 hyes) hholds, fun _ =>
      ⟨?_, ?_, ?_, ?_⟩⟩, ?_⟩
    · exact (State.fld_congr hstatus _).trans hstate
    · exact (State.fld_congr hstatus _).trans hpc
    · exact (State.fld_congr hstatus _).trans hcause
    · rw [hshuttle, State.shuttle_setShuttle_same]
    · exact (ShuttleFrame.of_changes hbegin).trans ((hframe.trans (.setShuttle u n _)).events he)

theorem knotWait_waits (h : Fetches s n 0x18 w) (howned : s.knotOwned (insField w 0 17) (s.coreTenant n) = true)
    (hsound : SoundKnot s (insField w 0 17)) :
    Waits s n (.knotWait n) (insField w 0 17) (insField w 17 3) (s.counter n (insField w 21 5)).toNat := by
  have hcond : insField w 17 3 = 1 ∨ insField w 17 3 = 2 := by
    obtain ⟨-, -, -, hop, hreserved, -⟩ := h
    simp only [insReserved, hop, decide_eq_false_iff_not] at hreserved
    omega
  exact waits_of_shuttleWait (h.runIns _) howned hsound hcond (BitVec.isLt _)

theorem knotWaitIndirect_waits (h : Fetches s n 0x19 w)
    (howned : s.knotOwned ((s.counter n (insField w 16 5)).toNat % 2 ^ 17) (s.coreTenant n) = true)
    (hsound : SoundKnot s ((s.counter n (insField w 16 5)).toNat % 2 ^ 17)) :
    Waits s n (.knotWaitIndirect n) ((s.counter n (insField w 16 5)).toNat % 2 ^ 17) (insField w 0 4)
      (s.counter n (insField w 21 5)).toNat := by
  have hcond : insField w 0 4 = 1 ∨ insField w 0 4 = 2 := by
    obtain ⟨-, -, -, hop, hreserved, -⟩ := h
    simp only [insReserved, hop, decide_eq_false_iff_not] at hreserved
    omega
  exact waits_of_shuttleWait (h.runIns _) howned hsound hcond (BitVec.isLt _)

/-! ### Operations -/

/-- An operation of the shuttle on a quiet knot of the core's tenant (R113). -/
theorem appliesKnotOp_of_shuttleKnot {kop v : Nat} (hc : exec c s = finish (s.begin.shuttleKnot n k kop v))
    (howned : s.knotOwned k (s.coreTenant n) = true) (hquiet : QuietKnot s k) (hkop : kop ≤ 2) (hv : v < 2 ^ 32)
    (hwaits : kop = 2 → s.knotFrayed k = false ∧ ¬KnotReached (s.knotCount k) v) : AppliesKnotOp s n c k kop v := by
  have hends : ∀ {r : State}, exec c s = finish (r.nextPc n) →
      Changes [] (fun off => off = knotStateReg k ∨ off = knotArmReg k) s.begin r →
      ∃ t, exec c s = .next t ∧ Onward s t n ∧ t.rd (knotStateReg k) = r.rd (knotStateReg k)
        ∧ t.rd (knotArmReg k) = r.rd (knotArmReg k)
        ∧ ShuttleFrame s t n (fun off => off = knotStateReg k ∨ off = knotArmReg k) := fun {r} hexec hr => by
    have hframe := hr.of_begin
    obtain ⟨t, ht, honward, hrest⟩ := onward_of_finish hexec
      (.of_changes hframe (fun ho => knotReg_ne_status ho n rfl) fun ho => knotReg_ne_control ho n rfl)
    have hrd : ∀ {off}, off = knotStateReg k ∨ off = knotArmReg k → t.rd off = r.rd off := fun ho =>
      hrest.rd (knotReg_not_record ho) (knotReg_ne_status ho n) (knotReg_ne_control ho n) id
    exact ⟨t, ht, honward, hrd (.inl rfl), hrd (.inr rfl),
      (ShuttleFrame.of_changes hframe).trans (hrest.mono fun _ => False.elim)⟩
  have hne := knotArmReg_ne_state k
  have hmay : s.begin.knotOwned k (s.begin.coreTenant n) = true := howned
  unfold State.shuttleKnot at hc
  rw [if_pos hmay] at hc
  obtain rfl | rfl | rfl : kop = 0 ∨ kop = 1 ∨ kop = 2 := by omega
  · have hset : s.begin.knotDo k (.set v) = _ := State.knotDo_set (s := s.begin) hquiet v
    simp only [hset] at hc
    obtain ⟨t, ht, honward, hstate, harm, hframe⟩ := hends hc ((Changes.setFld _ _ _ _).mono (by simp) fun _ => .inl)
    refine ⟨t, ht, honward, fun _ => ⟨?_, harm.trans (State.rd_setFld_ne _ _ _ hne)⟩, by simp, by simp, ?_, hframe⟩
    · rw [State.knotCount_of_rd hstate, State.knotCount_setCount, Nat.mod_eq_of_lt hv]
    · exact (State.knotFrayed_of_rd hstate).trans (State.knotFrayed_setCount _)
  · have hadd : s.begin.knotDo k (.add v) = _ := State.knotDo_add (s := s.begin) hquiet v
    simp only [hadd] at hc
    obtain ⟨t, ht, honward, hstate, harm, hframe⟩ := hends hc ((Changes.setFld _ _ _ _).mono (by simp) fun _ => .inl)
    refine ⟨t, ht, honward, by simp, fun _ => ⟨?_, harm.trans (State.rd_setFld_ne _ _ _ hne)⟩, by simp, ?_, hframe⟩
    · rw [State.knotCount_of_rd hstate, State.knotCount_setCount]
      rfl
    · exact (State.knotFrayed_of_rd hstate).trans (State.knotFrayed_setCount _)
  · obtain ⟨hfrayed, hreached⟩ := hwaits rfl
    have harm : s.begin.knotDo k (.arm v 0 none none) = _ := State.knotDo_arm (s := s.begin) hquiet hfrayed hv hreached
    simp only [harm] at hc
    obtain ⟨t, ht, honward, hstate, harm, hframe⟩ := hends hc (State.recordArm_changes v 0)
    obtain ⟨harmed, hcount, hfray, hthreshold, htarget⟩ := State.recordArm_fields (s := s.begin) (k := k) v 0
    refine ⟨t, ht, honward, by simp, by simp, fun _ => ⟨?_, ?_, ?_, ?_⟩, ?_, hframe⟩
    · exact (State.knotArmed_of_rd hstate).trans harmed
    · exact (State.knotCount_of_rd hstate).trans hcount
    · exact (State.fld_congr harm _).trans (hthreshold.trans (Nat.mod_eq_of_lt hv))
    · exact (State.fld_congr harm _).trans htarget
    · exact (State.knotFrayed_of_rd hstate).trans hfray

/-! ### The wake -/

theorem exec_shuttleWaitWake {cond v since : Nat} (hrun : s.coresRun = true) (hstate : s.shuttleState n = 2)
    (hwait : (s.shuttle n).wait = some (k, cond, v, since)) : exec (.shuttleWaitWake n) s = finish
      (if s.begin.knotError k then (s.begin.takeKnotError k).stopShuttle n 11
      else if condHolds cond (s.begin.knotCount k) v then
        (((s.begin.setShuttle n { s.begin.shuttle n with wait := none }).setFld (Reg.SHUTTLE_STATUS n) Fl.SHUTTLE_STATUS_STATE
          1).nextPc n).syncStall n
      else s.begin) := by
  have hbegin : (s.begin.shuttle n).wait = some (k, cond, v, since) := hwait
  have hon : ¬(s.begin.coresRun = false ∨ s.begin.shuttleState n ≠ 2) := by
    rintro (hoff | hoff)
    · exact absurd (hrun.symm.trans hoff) (by decide)
    · exact hoff hstate
  have hexec : exec (.shuttleWaitWake n) s = execShuttleWaitWake n s := rfl
  rw [hexec, execShuttleWaitWake]
  simp only [hbegin, if_neg hon]

theorem wake_on_fray {cond v since : Nat} (hrun : s.coresRun = true) (hstate : s.shuttleState n = 2)
    (hwait : (s.shuttle n).wait = some (k, cond, v, since)) (hfrayed : s.knotFrayed k = true) :
    ∃ t, exec (.shuttleWaitWake n) s = .next t ∧ Stops s t n 11 ∧ ShuttleFrame s t n noReg :=
  stops_at_once ((exec_shuttleWaitWake hrun hstate hwait).trans (by
    have herror : s.begin.knotError k = true := congrArg (· || _) hfrayed
    have htake : s.begin.takeKnotError k = s.begin := if_pos hfrayed
    rw [if_pos herror, htake])) (by decide)

theorem wake_when_met {cond v since : Nat} (hrun : s.coresRun = true) (hstate : s.shuttleState n = 2)
    (hwait : (s.shuttle n).wait = some (k, cond, v, since)) (hsound : SoundKnot s k) (hfrayed : s.knotFrayed k = false)
    (hholds : condHolds cond (s.knotCount k) v = true) :
    ∃ t, exec (.shuttleWaitWake n) s = .next t ∧ (t.shuttle n).wait = none ∧ ShuttleFrame s t n noReg
      ∧ if s.pc n = 8191 then Stops s t n 12 else t.shuttleState n = 1 ∧ t.pc n = s.pc n + 1 := by
  let r := (s.begin.setShuttle n { s.shuttle n with wait := none }).setFld (Reg.SHUTTLE_STATUS n) Fl.SHUTTLE_STATUS_STATE 1
  have hexec : exec (.shuttleWaitWake n) s = finish ((r.nextPc n).syncStall n) := by
    have herror : s.begin.knotError k = false := (State.knotError_sound (s := s.begin) hsound).trans hfrayed
    have hcount : condHolds cond (s.begin.knotCount k) v = true := hholds
    rw [exec_shuttleWaitWake hrun hstate hwait, if_neg (Bool.eq_false_iff.1 herror), if_pos hcount]
    rfl
  have hr : ShuttleFrame s r n noReg :=
    ((ShuttleFrame.of_changes (changes_begin s)).trans (.setShuttle _ n _)).trans (.setStatus _ n _ _)
  have hpc : r.pc n = s.pc n := State.fld_setFld_disjoint _ _ _ _ _ (by decide)
  have hruns : r.shuttleState n = 1 := State.fld_setFld_same _ _ _ _ (by decide)
  have hnone : (r.shuttle n).wait = none := congrArg Shuttle.wait (State.shuttle_setShuttle_same _ _ _)
  obtain ⟨honward, hframe⟩ := r.nextPc_spec n
  obtain ⟨hsyncState, hsyncPc, hsyncShuttle⟩ := (r.nextPc n).syncStall_fields n
  obtain ⟨t, ht, he⟩ := finish_spec ((r.nextPc n).syncStall n)
  have hkept := ShuttleKept.of_events (n := n) he
  have hall := ((hr.trans hframe).trans (.syncStall _ n)).events he
  unfold Onward at honward
  rw [hpc] at honward
  by_cases hlast : s.pc n = 8191
  · simp only [if_pos hlast] at honward ⊢
    have hsame : (r.nextPc n).syncStall n = r.nextPc n := State.syncStall_of_ne (by have := honward.1; omega)
    rw [hsame] at hkept
    have hstops := (honward.kept hkept).of_pc hpc
    exact ⟨t, hexec.trans ht, hstops.2.2.2.2, hall, hstops⟩
  · simp only [if_neg hlast] at honward ⊢
    obtain ⟨hnext, hstill, -, -, -, hshuttle, -⟩ := honward
    refine ⟨t, hexec.trans ht, ?_, hall, ?_, ?_⟩
    · rw [hkept.shuttle, hsyncShuttle, hshuttle, hnone]
    · exact (State.fld_congr hkept.status _).trans (hsyncState.trans (hstill.trans hruns))
    · exact (State.fld_congr hkept.status _).trans (hsyncPc.trans hnext)

end

/-- Settles O4: the waits and the operations of each form are those of its knot, and the wake ends the wait by a stop or the move
past it. -/
theorem shuttleKnotInstructions : Obligations.ShuttleKnotInstructions := by
  intro s n w k hknot hsound
  have howned : s.knotOwned k (s.coreTenant n) = true := (State.knotOwned_iff _).2 hknot
  refine ⟨?_, ?_, ?_, ?_, fun cond v since hrun hstate hwait => ⟨fun hfrayed => ?_, fun hfrayed hcond hv hmet => ?_⟩⟩
  · rintro h rfl
    exact knotWait_waits h howned hsound
  · rintro h rfl
    exact knotWaitIndirect_waits h howned hsound
  · rintro h rfl harmed hwaits
    have hkop : insField w 17 4 ≤ 2 := by
      obtain ⟨-, -, -, hop, hreserved, -⟩ := h
      simp only [insReserved, hop, decide_eq_false_iff_not] at hreserved
      omega
    exact appliesKnotOp_of_shuttleKnot (h.runIns _) howned ⟨hsound, harmed⟩ hkop (BitVec.isLt _) hwaits
  · rintro h rfl harmed hwaits
    have hkop : insField w 0 4 ≤ 2 := by
      obtain ⟨-, -, -, hop, hreserved, -⟩ := h
      simp only [insReserved, hop, decide_eq_false_iff_not] at hreserved
      omega
    exact appliesKnotOp_of_shuttleKnot (h.runIns _) howned ⟨hsound, harmed⟩ hkop (BitVec.isLt _) hwaits
  · exact wake_on_fray hrun hstate hwait hfrayed
  · exact wake_when_met hrun hstate hwait hsound hfrayed ((condHolds_iff hcond (s.knotCount_lt k) hv).2 hmet)

end Sys2Proof.Proofs
end

section
/-! SUPPORT. The address generators (R75): their registers, the indices that an advance leaves, and what the shuttle's operations on a
generator write (R114). -/

namespace Sys2Proof.Machine

open Claims

/-! ### Fields of a byte-coded array -/

section
variable (s : State)

theorem State.changes_healSpan {offs : Nat → Prop} {lo len : Nat} (h : ∀ key, lo ≤ key → key < lo + len → offs (key / 8 * 8)) :
    Changes [] offs s (s.healSpan lo len) := by
  refine ⟨fun p _ => by cases p <;> first | rfl | exact fun _ => rfl, fun _ _ _ => rfl, fun _ e he => ?_⟩
  refine List.mem_filter.trans (and_iff_left_of_imp fun _ => ?_)
  simp only [Bool.not_eq_true', Bool.and_eq_false_iff, decide_eq_false_iff_not]
  by_contra hin
  push Not at hin
  exact he (.inr (.inl (h e.1 hin.1 hin.2)))

theorem State.rd_of_regs {t : State} (h : t.regs = s.regs) (a : Nat) : t.rd a = s.rd a := by
  unfold State.rd
  rw [h]

theorem State.rd_healArray (off a : Nat) : (s.healArray off).rd a = s.rd a := s.rd_of_regs rfl a

theorem State.rd_setArr (off : Nat) (f : Fld) (v a : Nat) : (s.setArr off f v).rd a = (s.setFld off f v).rd a :=
  (s.setFld off f v).rd_of_regs rfl a

/-- A write of a field that fills whole bytes of its register (R371). -/
theorem State.changes_setArr {off : Nat} {f : Fld} (v : Nat) (hoff : off % 8 = 0) (hf : f.lo / 8 + (f.lo % 8 + f.width + 7) / 8 ≤ 8) :
    Changes [] (· = off) s (s.setArr off f v) :=
  (Changes.setFld s off f v).trans (State.changes_healSpan _ fun key hlo hhi => by omega)

theorem State.changes_healArray {off : Nat} (hoff : off % 8 = 0) : Changes [] (· = off) s (s.healArray off) :=
  State.changes_healSpan _ fun key hlo hhi => by omega

end

/-! ### The registers of a generator -/

theorem genReg_core {n g off : Nat} (h : GenRegs n g off) : Reg.coreBase n + 0x200 ≤ off := by
  obtain rfl | rfl | rfl | rfl | ⟨d, -, rfl⟩ := h
  · unfold Reg.GEN_BASE
    omega
  · unfold Reg.GEN_CONFIG
    omega
  · unfold Reg.GEN_INDEX
    omega
  · unfold Reg.GEN_INDEX_HI
    omega
  · unfold Reg.GEN_DIM
    omega

theorem genReg_mod {n g off : Nat} (h : GenRegs n g off) : off % 8 = 0 := by
  obtain rfl | rfl | rfl | rfl | ⟨d, -, rfl⟩ := h
  · unfold Reg.GEN_BASE Reg.coreBase
    omega
  · unfold Reg.GEN_CONFIG Reg.coreBase
    omega
  · unfold Reg.GEN_INDEX Reg.coreBase
    omega
  · unfold Reg.GEN_INDEX_HI Reg.coreBase
    omega
  · unfold Reg.GEN_DIM Reg.coreBase
    omega

theorem genReg_not_record {n g off : Nat} (h : GenRegs n g off) : ¬RecordBlock off :=
  not_recordBlock_core (n := n) (by have := genReg_core h; omega)

theorem genReg_ne_status {n g off : Nat} (h : GenRegs n g off) : off ≠ Reg.SHUTTLE_STATUS n := by
  have := genReg_core h
  unfold Reg.SHUTTLE_STATUS
  omega

theorem genReg_ne_control {n g off : Nat} (h : GenRegs n g off) : off ≠ Reg.SHUTTLE_CONTROL n := by
  have := genReg_core h
  unfold Reg.SHUTTLE_CONTROL
  omega

theorem genBase_genReg (n g : Nat) : GenRegs n g (Reg.GEN_BASE n g) := .inl rfl
theorem genConfig_genReg (n g : Nat) : GenRegs n g (Reg.GEN_CONFIG n g) := .inr (.inl rfl)
theorem genIndex_genReg (n g : Nat) : GenRegs n g (Reg.GEN_INDEX n g) := .inr (.inr (.inl rfl))
theorem genIndexHi_genReg (n g : Nat) : GenRegs n g (Reg.GEN_INDEX_HI n g) := .inr (.inr (.inr (.inl rfl)))
theorem genDim_genReg (n g : Nat) {d : Nat} (h : d < 6) : GenRegs n g (Reg.GEN_DIM n g d) := .inr (.inr (.inr (.inr ⟨d, h, rfl⟩)))

/-- A generator is what its registers hold. -/
theorem State.gen_congr {s t : State} {n g : Nat} (h : ∀ off, GenRegs n g off → t.rd off = s.rd off) : t.gen n g = s.gen n g := by
  have hdim : ∀ d ∈ List.range 6, ∀ f, t.fld (Reg.GEN_DIM n g d) f = s.fld (Reg.GEN_DIM n g d) f := fun d hd f =>
    State.fld_congr (h _ (genDim_genReg n g (List.mem_range.1 hd))) f
  unfold State.gen
  rw [State.fld_congr (h _ (genBase_genReg n g)), State.fld_congr (h _ (genConfig_genReg n g)),
    List.map_congr_left fun d hd => congrArg (· + 1) (hdim d hd _), List.map_congr_left fun d hd => congrArg (signedOf 32) (hdim d hd _),
    List.map_congr_left fun d _ => State.fld_congr (h _ (genIndex_genReg n g)) _,
    List.map_congr_left fun d _ => State.fld_congr (h _ (genIndexHi_genReg n g)) _]

/-! ### The indices -/

/-- Four indices, one above the other, in a register (R105). -/
def packed (a b c d : Nat) : Word := BitVec.ofNat 64 (a + b * 2 ^ 16 + c * 2 ^ 32 + d * 2 ^ 48)

theorem read_packed {a b c d i : Nat} (ha : a < 2 ^ 16) (hb : b < 2 ^ 16) (hc : c < 2 ^ 16) (hd : d < 2 ^ 16) (hi : i < 4) :
    (⟨16 * i, 16⟩ : Fld).read (packed a b c d) = nth [a, b, c, d] i := by
  unfold Fld.read packed
  rw [BitVec.toNat_ofNat]
  interval_cases i <;> simp only [nth, List.getD_cons_zero, List.getD_cons_succ] <;> omega

def packedHigh (e f : Nat) : Word := BitVec.ofNat 64 (e + f * 2 ^ 16)

theorem read_packedHigh {e f i : Nat} (he : e < 2 ^ 16) (hf : f < 2 ^ 16) (hi : i < 2) :
    (⟨16 * i, 16⟩ : Fld).read (packedHigh e f) = nth [e, f] i := by
  unfold Fld.read packedHigh
  rw [BitVec.toNat_ofNat]
  interval_cases i <;> simp only [nth, List.getD_cons_zero, List.getD_cons_succ] <;> omega

section
variable {s : State} {n g : Nat} {idx : List Nat} {ended : Bool}

/-- The registers that the indices and END stand in. -/
def IndexRegs (n g off : Nat) : Prop := off = Reg.GEN_INDEX n g ∨ off = Reg.GEN_INDEX_HI n g ∨ off = Reg.GEN_CONFIG n g

theorem IndexRegs.genReg {off : Nat} (h : IndexRegs n g off) : GenRegs n g off := by
  obtain rfl | rfl | rfl := h
  · exact genIndex_genReg n g
  · exact genIndexHi_genReg n g
  · exact genConfig_genReg n g

theorem State.setGenIdx_eq : s.setGenIdx n g idx ended =
    ((((s.wr (Reg.GEN_INDEX n g) (packed (nth idx 0) (nth idx 1) (nth idx 2) (nth idx 3))).healArray (Reg.GEN_INDEX n g)).wr
      (Reg.GEN_INDEX_HI n g) (packedHigh (nth idx 4) (nth idx 5))).healArray (Reg.GEN_INDEX_HI n g)).setArr (Reg.GEN_CONFIG n g)
        Fl.GEN_CONFIG_END ended.toNat := by
  simp only [State.setGenIdx, packed, packedHigh]

theorem State.changes_setGenIdx : Changes [] (IndexRegs n g) s (s.setGenIdx n g idx ended) := by
  have hlo := genReg_mod (genIndex_genReg n g)
  have hhi := genReg_mod (genIndexHi_genReg n g)
  have hconfig := genReg_mod (genConfig_genReg n g)
  have hlow : ∀ u : State, ∀ v, Changes [] (IndexRegs n g) u ((u.wr (Reg.GEN_INDEX n g) v).healArray (Reg.GEN_INDEX n g)) := fun u v =>
    ((Changes.wr u _ v).trans (State.changes_healArray _ hlo)).mono (by simp) fun _ => .inl
  have hhigh : ∀ u : State, ∀ v, Changes [] (IndexRegs n g) u ((u.wr (Reg.GEN_INDEX_HI n g) v).healArray (Reg.GEN_INDEX_HI n g)) :=
    fun u v => ((Changes.wr u _ v).trans (State.changes_healArray _ hhi)).mono (by simp) fun _ => .inr ∘ .inl
  rw [State.setGenIdx_eq]
  exact ((hlow s _).trans (hhigh _ _)).trans ((State.changes_setArr _ _ hconfig (by decide)).mono (by simp) fun _ => .inr ∘ .inr)

theorem State.rd_setGenIdx {off : Nat} : (s.setGenIdx n g idx ended).rd off =
    if off = Reg.GEN_CONFIG n g then Fl.GEN_CONFIG_END.write (s.rd (Reg.GEN_CONFIG n g)) ended.toNat
    else if off = Reg.GEN_INDEX_HI n g then packedHigh (nth idx 4) (nth idx 5)
    else if off = Reg.GEN_INDEX n g then packed (nth idx 0) (nth idx 1) (nth idx 2) (nth idx 3)
    else s.rd off := by
  have hhi : Reg.GEN_CONFIG n g ≠ Reg.GEN_INDEX_HI n g := by
    unfold Reg.GEN_CONFIG Reg.GEN_INDEX_HI
    omega
  have hlo : Reg.GEN_CONFIG n g ≠ Reg.GEN_INDEX n g := by
    unfold Reg.GEN_CONFIG Reg.GEN_INDEX
    omega
  simp only [State.setGenIdx_eq, State.rd_setArr, State.rd_healArray, State.rd_wr, State.rd_setFld, hhi, hlo, if_false]

theorem State.end_setGenIdx : (s.setGenIdx n g idx ended).flag (Reg.GEN_CONFIG n g) Fl.GEN_CONFIG_END = ended := by
  have hend : (s.setGenIdx n g idx ended).fld (Reg.GEN_CONFIG n g) Fl.GEN_CONFIG_END = ended.toNat % 2 ^ 1 := by
    rw [State.fld, State.rd_setGenIdx, if_pos rfl, Fld.read_write _ _ _ (by decide)]
    rfl
  rw [State.flag, hend]
  cases ended <;> rfl

/-- A write of six indices leaves the generator's other parts. -/
theorem State.gen_setGenIdx (hlen : idx.length = 6) (hlt : ∀ x ∈ idx, x < 2 ^ 16) :
    (s.setGenIdx n g idx ended).gen n g = { s.gen n g with idx := idx } := by
  obtain ⟨a, b, c, d, e, f, rfl⟩ : ∃ a b c d e f, idx = [a, b, c, d, e, f] := by
    match idx, hlen with
    | [a, b, c, d, e, f], _ => exact ⟨a, b, c, d, e, f, rfl⟩
  simp only [List.mem_cons, List.not_mem_nil, or_false, forall_eq_or_imp, forall_eq] at hlt
  obtain ⟨ha, hb, hc, hd, he, hf⟩ := hlt
  have hkept : ∀ off, ¬IndexRegs n g off → (s.setGenIdx n g [a, b, c, d, e, f] ended).rd off = s.rd off := fun off ho => by
    simp only [IndexRegs, not_or] at ho
    obtain ⟨hlo, hhi, hconfig⟩ := ho
    rw [State.rd_setGenIdx, if_neg hconfig, if_neg hhi, if_neg hlo]
  have hlo : (s.setGenIdx n g [a, b, c, d, e, f] ended).rd (Reg.GEN_INDEX n g) = packed a b c d := by
    rw [State.rd_setGenIdx, if_neg (by unfold Reg.GEN_INDEX Reg.GEN_CONFIG; omega),
      if_neg (by unfold Reg.GEN_INDEX Reg.GEN_INDEX_HI; omega), if_pos rfl]
    rfl
  have hhi : (s.setGenIdx n g [a, b, c, d, e, f] ended).rd (Reg.GEN_INDEX_HI n g) = packedHigh e f := by
    rw [State.rd_setGenIdx, if_neg (by unfold Reg.GEN_INDEX_HI Reg.GEN_CONFIG; omega), if_pos rfl]
    rfl
  have hdims : (s.setGenIdx n g [a, b, c, d, e, f] ended).fld (Reg.GEN_CONFIG n g) Fl.GEN_CONFIG_DIMS
      = s.fld (Reg.GEN_CONFIG n g) Fl.GEN_CONFIG_DIMS := by
    rw [State.fld, State.rd_setGenIdx, if_pos rfl, Fld.read_write_disjoint _ _ _ _ (by decide), State.fld]
  have hbase := hkept (Reg.GEN_BASE n g) (by unfold IndexRegs Reg.GEN_BASE Reg.GEN_INDEX Reg.GEN_INDEX_HI Reg.GEN_CONFIG; omega)
  have hdim : ∀ i ∈ List.range 6, ∀ f', (s.setGenIdx n g [a, b, c, d, e, f] ended).fld (Reg.GEN_DIM n g i) f'
      = s.fld (Reg.GEN_DIM n g i) f' := fun i hi f' => State.fld_congr (hkept _ (by
    have := List.mem_range.1 hi
    unfold IndexRegs Reg.GEN_DIM Reg.GEN_INDEX Reg.GEN_INDEX_HI Reg.GEN_CONFIG
    omega)) f'
  have hlow : ∀ i ∈ List.range 4, (s.setGenIdx n g [a, b, c, d, e, f] ended).fld (Reg.GEN_INDEX n g) ⟨16 * i, 16⟩
      = nth [a, b, c, d] i := fun i hi => by
    rw [State.fld, hlo, read_packed ha hb hc hd (List.mem_range.1 hi)]
  have hhigh : ∀ i ∈ List.range 2, (s.setGenIdx n g [a, b, c, d, e, f] ended).fld (Reg.GEN_INDEX_HI n g) ⟨16 * i, 16⟩
      = nth [e, f] i := fun i hi => by
    rw [State.fld, hhi, read_packedHigh he hf (List.mem_range.1 hi)]
  unfold State.gen
  rw [State.fld_congr hbase, hdims, List.map_congr_left fun i hi => congrArg (· + 1) (hdim i hi _),
    List.map_congr_left fun i hi => congrArg (signedOf 32) (hdim i hi _), List.map_congr_left hlow, List.map_congr_left hhigh]
  rfl

end

/-! ### An advance -/

theorem advanceIdx_length (k : Nat) (cs is : List Nat) : (advanceIdx k cs is).1.length = is.length := by
  induction k generalizing cs is with
  | zero => rfl
  | succ k ih =>
    match cs, is with
    | [], _ => rfl
    | _ :: _, [] => rfl
    | c :: cs, i :: is =>
      unfold advanceIdx
      split_ifs
      · rfl
      · exact congrArg (· + 1) (ih cs is)

/-- The indices stay below the bound of their counts. -/
theorem advanceIdx_lt {b : Nat} (hb : 0 < b) (k : Nat) {cs is : List Nat} (hcs : ∀ c ∈ cs, c ≤ b) (his : ∀ i ∈ is, i < b) :
    ∀ x ∈ (advanceIdx k cs is).1, x < b := by
  induction k generalizing cs is with
  | zero => exact his
  | succ k ih =>
    match cs, is with
    | [], _ => exact his
    | _ :: _, [] => exact his
    | c :: cs, i :: is =>
      obtain ⟨hc, hcs⟩ := List.forall_mem_cons.1 hcs
      obtain ⟨-, his⟩ := List.forall_mem_cons.1 his
      unfold advanceIdx
      split_ifs with hlt
      · exact List.forall_mem_cons.2 ⟨by omega, his⟩
      · exact List.forall_mem_cons.2 ⟨hb, ih hcs his⟩

/-- An advance of k dimensions without a wrap: the first index below its last value counts, and those before it return to 0. -/
def CountsUp (k : Nat) (ns idx idx' : List Nat) : Prop :=
  ∃ d < k, d < idx.length ∧ nth idx d + 1 < nth ns d ∧ (∀ j < d, nth ns j ≤ nth idx j + 1)
    ∧ ∀ j < idx.length, nth idx' j = if j < d then 0 else if j = d then nth idx d + 1 else nth idx j

/-- A wrap of k dimensions: every index stands at its last value and returns to 0. -/
def WrapsAround (k : Nat) (ns idx idx' : List Nat) : Prop :=
  (∀ j < k, nth ns j ≤ nth idx j + 1) ∧ ∀ j < idx.length, nth idx' j = if j < k then 0 else nth idx j

/-- An advance counts up, or wraps around and says so (R75). -/
theorem advanceIdx_spec (k : Nat) {ns idx : List Nat} (hns : k ≤ ns.length) (hidx : k ≤ idx.length) :
    if (advanceIdx k ns idx).2 then WrapsAround k ns idx (advanceIdx k ns idx).1 else CountsUp k ns idx (advanceIdx k ns idx).1 := by
  induction k generalizing ns idx with
  | zero => exact ⟨by simp, fun j _ => rfl⟩
  | succ k ih =>
    match ns, idx with
    | [], _ => exact absurd hns (by simp)
    | _ :: _, [] => exact absurd hidx (by simp)
    | c :: cs, i :: is =>
      by_cases hlt : i + 1 < c
      · have hadv : advanceIdx (k + 1) (c :: cs) (i :: is) = ((i + 1) :: is, false) := if_pos hlt
        rw [hadv, if_neg Bool.false_ne_true]
        refine ⟨0, by omega, by simp, hlt, by simp, fun j _ => ?_⟩
        cases j <;> simp [nth]
      · have hadv : advanceIdx (k + 1) (c :: cs) (i :: is) = (0 :: (advanceIdx k cs is).1, (advanceIdx k cs is).2) := if_neg hlt
        have hrest := ih (ns := cs) (idx := is) (by simpa using hns) (by simpa using hidx)
        have hzero : c ≤ i + 1 := by omega
        rw [hadv]
        generalize advanceIdx k cs is = r at hrest
        simp only
        split_ifs at hrest ⊢
        · obtain ⟨hlast, hwrap⟩ := hrest
          refine ⟨fun j hj => ?_, fun j hj => ?_⟩
          · cases j with
            | zero => exact hzero
            | succ j => exact hlast j (by omega)
          · cases j with
            | zero => rfl
            | succ j => simpa [nth] using hwrap j (by simpa using hj)
        · obtain ⟨d, hd, hlen, hbelow, hlast, hcount⟩ := hrest
          refine ⟨d + 1, by omega, by simpa using hlen, hbelow, fun j hj => ?_, fun j hj => ?_⟩
          · cases j with
            | zero => exact hzero
            | succ j => exact hlast j (by omega)
          · cases j with
            | zero => rfl
            | succ j => simpa [nth] using hcount j (by simpa using hj)

theorem State.gen_idx_length (s : State) (n g : Nat) : (s.gen n g).idx.length = 6 := by simp [State.gen]

theorem State.gen_counts_length (s : State) (n g : Nat) : (s.gen n g).counts.length = 6 := by simp [State.gen]

theorem State.gen_idx_lt (s : State) (n g : Nat) : ∀ i ∈ (s.gen n g).idx, i < 2 ^ 16 := by
  intro i hi
  simp only [State.gen, List.mem_append, List.mem_map] at hi
  obtain ⟨d, -, rfl⟩ | ⟨d, -, rfl⟩ := hi
  · exact Fld.read_lt _ _
  · exact Fld.read_lt _ _

theorem State.gen_counts_le (s : State) (n g : Nat) : ∀ c ∈ (s.gen n g).counts, c ≤ 2 ^ 16 := by
  intro c hc
  simp only [State.gen, List.mem_map] at hc
  obtain ⟨d, -, rfl⟩ := hc
  exact Fld.read_lt _ _

section
variable {s : State} {n g : Nat}

theorem State.gen_advanceGen : (s.advanceGen n g).gen n g = (s.gen n g).advance.1 :=
  State.gen_setGenIdx ((advanceIdx_length _ _ _).trans (s.gen_idx_length n g))
    (advanceIdx_lt (by decide) _ (s.gen_counts_le n g) (s.gen_idx_lt n g))

theorem State.end_advanceGen : (s.advanceGen n g).flag (Reg.GEN_CONFIG n g) Fl.GEN_CONFIG_END
    = (s.flag (Reg.GEN_CONFIG n g) Fl.GEN_CONFIG_END || (s.gen n g).advance.2) := State.end_setGenIdx

/-- An advance of a legal configuration (R75): the next indices, and END where the sequence wraps. -/
theorem State.advanceGen_spec (hdims : (s.gen n g).dims ≤ 6) :
    NextIdx (s.gen n g).dims (s.gen n g).counts (s.gen n g).idx (s.gen n g).advance.1.idx
      ∧ ((s.gen n g).advance.2 = true ↔ ∀ j < (s.gen n g).dims, nth (s.gen n g).counts j ≤ nth (s.gen n g).idx j + 1) := by
  have hspec := advanceIdx_spec (s.gen n g).dims (ns := (s.gen n g).counts) (idx := (s.gen n g).idx)
    (by rw [State.gen_counts_length]; exact hdims) (by rw [State.gen_idx_length]; exact hdims)
  have hlen := advanceIdx_length (s.gen n g).dims (s.gen n g).counts (s.gen n g).idx
  unfold GenState.advance NextIdx
  simp only
  split_ifs at hspec with hwrap
  · exact ⟨⟨hlen, .inr hspec⟩, iff_of_true hwrap hspec.1⟩
  · obtain ⟨d, hd, -, hbelow, -⟩ := id hspec
    exact ⟨⟨hlen, .inl hspec⟩, iff_of_false hwrap fun hall => by have := hall d hd; omega⟩

end

end Sys2Proof.Machine
end

section
/-! Generator instructions of the shuttle (O5). -/

namespace Sys2Proof.Machine

open Claims

/-! ### The operations of GENERATOR (R114) -/

/-- The registers that operation `gop` of a generator writes. -/
def GenOpRegs (n g gop d off : Nat) : Prop :=
  (gop ≤ 3 ∧ off = Reg.GEN_BASE n g) ∨ ((gop = 4 ∨ gop = 5) ∧ off = Reg.GEN_DIM n g d) ∨ (gop = 6 ∧ off = Reg.GEN_CONFIG n g)
    ∨ (7 ≤ gop ∧ IndexRegs n g off)

theorem GenOpRegs.genReg {n g gop d off : Nat} (hd : gop = 4 ∨ gop = 5 → d < 6) (h : GenOpRegs n g gop d off) : GenRegs n g off := by
  obtain ⟨-, rfl⟩ | ⟨hgop, rfl⟩ | ⟨-, rfl⟩ | ⟨-, hindex⟩ := h
  · exact genBase_genReg n g
  · exact genDim_genReg n g (hd hgop)
  · exact genConfig_genReg n g
  · exact hindex.genReg

/-- The base's two parts make it up. -/
theorem baseAddr_parts (w : Word) : Fl.GEN_BASE_ADDR.read w = (⟨0, 32⟩ : Fld).read w + (⟨32, 16⟩ : Fld).read w * 2 ^ 32 := by
  simp only [Fld.read, Fl.GEN_BASE_ADDR]
  omega

/-- One of the base's three 16-bit parts (R114). -/
theorem baseAddr_part {p : Nat} (hp : p < 3) (w : Word) :
    Fl.GEN_BASE_ADDR.read w / 2 ^ (16 * p) % 2 ^ 16 = (⟨16 * p, 16⟩ : Fld).read w := by
  simp only [Fld.read, Fl.GEN_BASE_ADDR]
  interval_cases p <;> omega

section
variable (s : State) (n g d : Nat)

theorem State.fld_setArr_same (off : Nat) (f : Fld) (v : Nat) (h : f.lo + f.width ≤ 64) :
    (s.setArr off f v).fld off f = v % 2 ^ f.width := by
  rw [State.fld, State.rd_setArr]
  exact s.fld_setFld_same off f v h

theorem State.fld_setArr_disjoint (off : Nat) (f e : Fld) (v : Nat) (h : e.lo + e.width ≤ f.lo ∨ f.lo + f.width ≤ e.lo) :
    (s.setArr off f v).fld off e = s.fld off e := by
  rw [State.fld, State.rd_setArr]
  exact s.fld_setFld_disjoint off f e v h

theorem State.fld_setArr_ne {off a : Nat} (f e : Fld) (v : Nat) (h : a ≠ off) : (s.setArr off f v).fld a e = s.fld a e := by
  rw [State.fld, State.rd_setArr]
  exact s.fld_setFld_ne f e v h

theorem genBase_parts : genBase s n g = s.fld (Reg.GEN_BASE n g) ⟨0, 32⟩ + s.fld (Reg.GEN_BASE n g) ⟨32, 16⟩ * 2 ^ 32 :=
  baseAddr_parts _

theorem genBase_setLow {v : Nat} (hv : v < 2 ^ 32) :
    genBase (s.setArr (Reg.GEN_BASE n g) ⟨0, 32⟩ v) n g = genBase s n g / 2 ^ 32 * 2 ^ 32 + v := by
  have hlow := s.fld_setArr_same (Reg.GEN_BASE n g) ⟨0, 32⟩ v (by decide)
  have hhigh := s.fld_setArr_disjoint (Reg.GEN_BASE n g) ⟨0, 32⟩ ⟨32, 16⟩ v (by decide)
  have hlt : s.fld (Reg.GEN_BASE n g) ⟨0, 32⟩ < 2 ^ 32 := Fld.read_lt _ _
  rw [genBase_parts, genBase_parts, hlow, hhigh]
  generalize s.fld (Reg.GEN_BASE n g) ⟨0, 32⟩ = low at hlt ⊢
  simp only
  omega

theorem genBase_setHigh (v : Nat) :
    genBase (s.setArr (Reg.GEN_BASE n g) ⟨32, 16⟩ v) n g = genBase s n g % 2 ^ 32 + v % 2 ^ 16 * 2 ^ 32 := by
  have hhigh := s.fld_setArr_same (Reg.GEN_BASE n g) ⟨32, 16⟩ v (by decide)
  have hlow := s.fld_setArr_disjoint (Reg.GEN_BASE n g) ⟨32, 16⟩ ⟨0, 32⟩ v (by decide)
  have hlt : s.fld (Reg.GEN_BASE n g) ⟨0, 32⟩ < 2 ^ 32 := Fld.read_lt _ _
  rw [genBase_parts, genBase_parts, hlow, hhigh]
  generalize s.fld (Reg.GEN_BASE n g) ⟨0, 32⟩ = low at hlt ⊢
  simp only
  omega

theorem genBase_setGenBase (a : Nat) : genBase (s.setGenBase n g a) n g = a % 2 ^ 48 :=
  s.fld_setArr_same _ Fl.GEN_BASE_ADDR a (by decide)

/-- A write of one of the base's three parts leaves the others (R114). -/
theorem genBase_setPart {p q v : Nat} (hp : p < 3) (hq : q < 3) (hv : v < 2 ^ 16) :
    genBase (s.setArr (Reg.GEN_BASE n g) ⟨16 * q, 16⟩ v) n g / 2 ^ (16 * p) % 2 ^ 16
      = if p = q then v else genBase s n g / 2 ^ (16 * p) % 2 ^ 16 := by
  unfold genBase State.fld
  rw [baseAddr_part hp, baseAddr_part hp]
  split_ifs with heq
  · subst heq
    exact (s.fld_setArr_same _ ⟨16 * p, 16⟩ v (by simp only; omega)).trans (Nat.mod_eq_of_lt hv)
  · exact s.fld_setArr_disjoint _ ⟨16 * q, 16⟩ ⟨16 * p, 16⟩ v (by simp only; omega)

theorem nth_counts {i : Nat} (hi : i < 6) : nth (s.gen n g).counts i = s.fld (Reg.GEN_DIM n g i) Fl.GEN_DIM_COUNT + 1 := by
  simp [nth, State.gen, hi]

theorem nth_strides {i : Nat} (hi : i < 6) :
    (s.gen n g).strides.getD i 0 = signedOf 32 (s.fld (Reg.GEN_DIM n g i) Fl.GEN_DIM_STRIDE) := by
  simp [State.gen, hi]

theorem genDim_inj {i j : Nat} (h : Reg.GEN_DIM n g i = Reg.GEN_DIM n g j) : i = j := by
  unfold Reg.GEN_DIM at h
  omega

/-- A write of one field of a dimension leaves the other field of every dimension. -/
theorem State.genDim_other {f e : Fld} (h : e.lo + e.width ≤ f.lo ∨ f.lo + f.width ≤ e.lo) (v i : Nat) :
    (s.setArr (Reg.GEN_DIM n g d) f v).fld (Reg.GEN_DIM n g i) e = s.fld (Reg.GEN_DIM n g i) e := by
  by_cases hi : i = d
  · subst hi
    exact s.fld_setArr_disjoint _ f e v h
  · exact s.fld_setArr_ne f e v fun heq => hi (genDim_inj n g heq)

theorem strides_setCount (v : Nat) : ((s.setArr (Reg.GEN_DIM n g d) Fl.GEN_DIM_COUNT v).gen n g).strides = (s.gen n g).strides :=
  List.map_congr_left fun i _ => congrArg (signedOf 32) (s.genDim_other n g d (by decide) v i)

theorem counts_setStride (v : Nat) : ((s.setArr (Reg.GEN_DIM n g d) Fl.GEN_DIM_STRIDE v).gen n g).counts = (s.gen n g).counts :=
  List.map_congr_left fun i _ => congrArg (· + 1) (s.genDim_other n g d (by decide) v i)

theorem counts_setCount (hd : d < 6) (v : Nat) :
    nth ((s.setArr (Reg.GEN_DIM n g d) Fl.GEN_DIM_COUNT (v + 2 ^ 16 - 1)).gen n g).counts d = (v + 2 ^ 32 - 1) % 2 ^ 16 + 1 := by
  have hcount := s.fld_setArr_same (Reg.GEN_DIM n g d) Fl.GEN_DIM_COUNT (v + 2 ^ 16 - 1) (by decide)
  rw [nth_counts _ _ _ hd, hcount]
  simp only [Fl.GEN_DIM_COUNT]
  omega

theorem strides_setStride (hd : d < 6) {v : Nat} (hv : v < 2 ^ 32) :
    ((s.setArr (Reg.GEN_DIM n g d) Fl.GEN_DIM_STRIDE v).gen n g).strides.getD d 0 = signedOf 32 v := by
  have hstride := s.fld_setArr_same (Reg.GEN_DIM n g d) Fl.GEN_DIM_STRIDE v (by decide)
  rw [nth_strides _ _ _ hd, hstride]
  exact congrArg (signedOf 32) (Nat.mod_eq_of_lt hv)

theorem dims_setDims {v : Nat} (hv : v ≤ 6) : ((s.setArr (Reg.GEN_CONFIG n g) Fl.GEN_CONFIG_DIMS v).gen n g).dims = v :=
  (s.fld_setArr_same _ Fl.GEN_CONFIG_DIMS v (by decide)).trans (Nat.mod_eq_of_lt (by simp only [Fl.GEN_CONFIG_DIMS]; omega))

/-- RESET and ADVANCE write indices and END. -/
theorem State.genOp_indices {gop : Nat} (h : 7 ≤ gop) (v : Nat) :
    ∃ idx ended, s.genOp n g gop d v = s.setGenIdx n g idx ended ∧ idx.length = 6 ∧ ∀ x ∈ idx, x < 2 ^ 16 := by
  by_cases hreset : gop = 7
  · subst hreset
    exact ⟨[0, 0, 0, 0, 0, 0], false, rfl, rfl, by simp⟩
  · have hadv : s.genOp n g gop d v = s.advanceGen n g := by
      unfold State.genOp
      split <;> first | omega | rfl
    exact ⟨(s.gen n g).advance.1.idx, s.flag (Reg.GEN_CONFIG n g) Fl.GEN_CONFIG_END || (s.gen n g).advance.2, hadv,
      (advanceIdx_length _ _ _).trans (s.gen_idx_length n g), advanceIdx_lt (by decide) _ (s.gen_counts_le n g) (s.gen_idx_lt n g)⟩

theorem State.genOp_changes {gop : Nat} (hd : gop = 4 ∨ gop = 5 → d < 6) (v : Nat) :
    Changes [] (GenOpRegs n g gop d) s (s.genOp n g gop d v) := by
  have hbase : ∀ f : Fld, f.lo / 8 + (f.lo % 8 + f.width + 7) / 8 ≤ 8 → ∀ a, gop ≤ 3 →
      Changes [] (GenOpRegs n g gop d) s (s.setArr (Reg.GEN_BASE n g) f a) := fun f hf a hgop =>
    (s.changes_setArr a (genReg_mod (genBase_genReg n g)) hf).mono (by simp) fun _ ho => .inl ⟨hgop, ho⟩
  have hdim : ∀ f : Fld, f.lo / 8 + (f.lo % 8 + f.width + 7) / 8 ≤ 8 → ∀ a, gop = 4 ∨ gop = 5 →
      Changes [] (GenOpRegs n g gop d) s (s.setArr (Reg.GEN_DIM n g d) f a) := fun f hf a hgop =>
    (s.changes_setArr a (genReg_mod (genDim_genReg n g (hd hgop))) hf).mono (by simp) fun _ ho => .inr (.inl ⟨hgop, ho⟩)
  by_cases hindex : 7 ≤ gop
  · obtain ⟨idx, ended, heq, -⟩ := s.genOp_indices n g d hindex v
    rw [heq]
    exact State.changes_setGenIdx.mono (by simp) fun _ ho => .inr (.inr (.inr ⟨hindex, ho⟩))
  · have hlt : gop < 7 := by omega
    interval_cases gop
    · exact hbase _ (by decide) _ (by decide)
    · exact hbase _ (by decide) _ (by decide)
    · exact hbase _ (by decide) _ (by decide)
    · exact hbase _ (by decide) _ (by decide)
    · exact hdim _ (by decide) _ (by decide)
    · exact hdim _ (by decide) _ (by decide)
    · exact (s.changes_setArr v (genReg_mod (genConfig_genReg n g)) (by decide)).mono (by simp) fun _ ho => .inr (.inr (.inl ⟨rfl, ho⟩))

/-- What an advance leaves of the indices and of END (R75). -/
theorem advanceGen_does (h : GenOk s n g) :
    NextIdx (s.gen n g).dims (s.gen n g).counts (s.gen n g).idx ((s.advanceGen n g).gen n g).idx
      ∧ ((s.advanceGen n g).flag (Reg.GEN_CONFIG n g) Fl.GEN_CONFIG_END = true ↔
        s.flag (Reg.GEN_CONFIG n g) Fl.GEN_CONFIG_END = true
          ∨ ∀ j < (s.gen n g).dims, nth (s.gen n g).counts j ≤ nth (s.gen n g).idx j + 1) := by
  obtain ⟨hnext, hwrap⟩ := State.advanceGen_spec h.1
  rw [State.gen_advanceGen, State.end_advanceGen, Bool.or_eq_true, hwrap]
  exact ⟨hnext, Iff.rfl⟩

end

end Sys2Proof.Machine

namespace Sys2Proof.Proofs

open Machine Claims

section
variable {s : State} {n : Fin 128} {w : W32}

/-- The two generator instructions end with the move past them, and the generator holds what its operation left. -/
theorem generator_ends {c : Instr} {r : State} {g : Nat} {offs : Nat → Prop} (hc : exec c s = finish (r.nextPc n))
    (hr : Changes [] offs s.begin r) (hoffs : ∀ off, offs off → GenRegs n g off) :
    ∃ t, exec c s = .next t ∧ Onward s t n ∧ (∀ off, GenRegs n g off → t.rd off = r.rd off) ∧ ShuttleFrame s t n offs := by
  obtain ⟨t, ht, honward, hrest⟩ := onward_of_finish hc (.of_changes hr.of_begin (fun ho => genReg_ne_status (hoffs _ ho) rfl)
    fun ho => genReg_ne_control (hoffs _ ho) rfl)
  exact ⟨t, ht, honward, fun off ho => hrest.rd (genReg_not_record ho) (genReg_ne_status ho) (genReg_ne_control ho) id,
    (ShuttleFrame.of_changes hr.of_begin).trans (hrest.mono fun _ => False.elim)⟩

theorem generator_codes (h : Fetches s n 0x20 w) :
    insField w 11 4 ≤ 8 ∧ (insField w 11 4 = 4 ∨ insField w 11 4 = 5 → insField w 20 3 < 6) := by
  obtain ⟨-, -, -, hop, hreserved, -⟩ := h
  simp only [insReserved, hop, Bool.or_eq_false_iff, Bool.and_eq_false_iff, decide_eq_false_iff_not, beq_eq_false_iff_ne] at hreserved
  omega

theorem generatorImmediate_part (h : Fetches s n 0x21 w) : insField w 21 2 < 3 := by
  obtain ⟨-, -, -, hop, hreserved, -⟩ := h
  simp only [insReserved, hop, beq_eq_false_iff_ne] at hreserved
  have : insField w 21 2 < 2 ^ 2 := Nat.mod_lt _ (by decide)
  omega

theorem exec_generator (h : Fetches s n 0x20 w) : exec (.generator n) s = finish
    (if insField w 11 4 = 6 ∧ ¬(1 ≤ (s.counter n (insField w 15 5)).toNat ∧ (s.counter n (insField w 15 5)).toNat ≤ 6)
      then s.begin.stopShuttle n 6
      else (s.begin.genOp n (insField w 23 3) (insField w 11 4) (insField w 20 3) (s.counter n (insField w 15 5)).toNat).nextPc n) :=
  h.runIns _

end

/-- Settles O5: each operation of GENERATOR and the immediate write is a write of the generator's own registers. -/
theorem generatorInstructions : Obligations.GeneratorInstructions := by
  intro s n w
  have hv : (s.counter n (insField w 15 5)).toNat < 2 ^ 32 := BitVec.isLt _
  refine ⟨fun h hdims => ?_, fun h hcode hdims => ?_, fun h => ?_⟩
  · have hexec := exec_generator h
    obtain ⟨hgop, hd⟩ := generator_codes h
    generalize insField w 11 4 = gop at *
    generalize (s.counter n (insField w 15 5)).toNat = v at *
    generalize insField w 23 3 = g at *
    generalize insField w 20 3 = d at *
    rw [if_neg fun hbad => hbad.2 (hdims hbad.1)] at hexec
    have hchanges := s.begin.genOp_changes n g d hd v
    obtain ⟨t, ht, honward, hrd, hframe⟩ := generator_ends hexec hchanges fun off => GenOpRegs.genReg hd
    have hother : ∀ off, GenRegs n g off → ¬GenOpRegs n g gop d off → t.rd off = s.rd off := fun off ho hno =>
      hframe.rd (genReg_not_record ho) (genReg_ne_status ho) (genReg_ne_control ho) hno
    have hbase : genBase t n g = genBase (s.begin.genOp n g gop d v) n g := State.fld_congr (hrd _ (genBase_genReg n g)) _
    have hgen : t.gen n g = (s.begin.genOp n g gop d v).gen n g := State.gen_congr hrd
    have hend : t.flag (Reg.GEN_CONFIG n g) Fl.GEN_CONFIG_END
        = (s.begin.genOp n g gop d v).flag (Reg.GEN_CONFIG n g) Fl.GEN_CONFIG_END :=
      congrArg (· == 1) (State.fld_congr (hrd _ (genConfig_genReg n g)) _)
    refine ⟨t, ht, honward, ?_, fun hcode off ho hne => hother off ho ?_, fun hcode off ho hne => hother off ho ?_,
      fun hcode off ho hne => hother off ho ?_, fun hcode => ⟨?_, ?_, fun i hi => hother _ (genDim_genReg n g hi) ?_⟩,
      hframe.mono fun off => GenOpRegs.genReg hd⟩
    · rw [hbase, hgen, hend]
      interval_cases gop
      · exact genBase_setLow s.begin n g hv
      · exact genBase_setHigh s.begin n g v
      · exact genBase_setGenBase s.begin n g _
      · exact genBase_setGenBase s.begin n g _
      · exact ⟨counts_setCount s.begin n g d (hd (.inl rfl)) v, strides_setCount s.begin n g d _⟩
      · exact ⟨strides_setStride s.begin n g d (hd (.inr rfl)) hv, counts_setStride s.begin n g d v⟩
      · exact dims_setDims s.begin n g (hdims rfl).2
      · exact ⟨congrArg GenState.idx (State.gen_setGenIdx (s := s.begin) (n := n) (g := g) (ended := false) rfl (by simp)),
          State.end_setGenIdx (s := s.begin) (n := n) (g := g) (ended := false)⟩
      · exact advanceGen_does s.begin n g
    · unfold GenOpRegs; omega
    · unfold GenOpRegs; omega
    · unfold GenOpRegs; omega
    · exact State.fld_congr (hother _ (genBase_genReg n g) (by
        unfold GenOpRegs IndexRegs Reg.GEN_BASE Reg.GEN_CONFIG Reg.GEN_INDEX Reg.GEN_INDEX_HI
        omega)) _
    · obtain ⟨idx, ended, heq, hlen, hlt⟩ := s.begin.genOp_indices n g d hcode v
      rw [hgen, heq, State.gen_setGenIdx hlen hlt]
      rfl
    · unfold GenOpRegs IndexRegs Reg.GEN_DIM Reg.GEN_CONFIG Reg.GEN_INDEX Reg.GEN_INDEX_HI
      omega
  · exact stops_at_once ((exec_generator h).trans (by rw [if_pos ⟨hcode, hdims⟩])) (by decide)
  · have hq := generatorImmediate_part h
    have himm : insField w 0 16 < 2 ^ 16 := Nat.mod_lt _ (by decide)
    have hexec : exec (.generatorImmediate n) s = finish ((s.begin.setArr (Reg.GEN_BASE n (insField w 23 3))
        ⟨16 * insField w 21 2, 16⟩ (insField w 0 16)).nextPc n) := h.runIns _
    obtain ⟨t, ht, honward, hrd, hframe⟩ := generator_ends hexec
      (s.begin.changes_setArr (insField w 0 16) (f := ⟨16 * insField w 21 2, 16⟩) (genReg_mod (genBase_genReg n (insField w 23 3)))
        (by simp only; omega)) fun off ho => ho ▸ genBase_genReg n (insField w 23 3)
    refine ⟨t, ht, honward, fun p hp => ?_, hframe⟩
    have hbase : genBase t n (insField w 23 3) = _ := State.fld_congr (hrd _ (genBase_genReg n _)) _
    rw [hbase]
    exact genBase_setPart s.begin n _ hp hq himm

end Sys2Proof.Proofs
end

section
/-! SUPPORT. What the report of one occurrence leaves (R448): its counters count one, its sticky bits are set, and no other
register but those of record writing differs. -/

namespace Sys2Proof.Machine

open Claims

theorem cond_number_lt (c : Cond) : c.number < 64 := by cases c <;> decide

theorem State.bit_setBit_same (s : State) (off : Nat) {i : Nat} (hi : i < 64) : (s.setBit off i).bit off i = true := by
  have hbit : ((s.setBit off i).rd off).toNat.testBit i = true := by
    rw [State.setBit, State.rd_wr_same, BitVec.toNat_or, Nat.testBit_or, BitVec.toNat_ofNat, Nat.testBit_mod_two_pow,
      Nat.testBit_two_pow_self]
    simp [hi]
  rw [State.bit, beq_iff_eq]
  exact of_decide_eq_true ((Nat.testBit_eq_decide_div_mod_eq ..).symm.trans hbit)

/-! ### The registers of an occurrence -/

section
variable {c : Cond} {tenant : Option Nat} {off : Nat}

theorem eventRegs_lt (h : EventRegs c tenant off) : off < 0x403000 := by
  have hc := cond_number_lt c
  obtain rfl | rfl | ⟨u, -, rfl⟩ := h
  · unfold Reg.EVENT_CONDITION
    omega
  · decide
  · unfold Reg.EVTENANT_STICKY
    omega

theorem eventRegs_not_record (h : EventRegs c tenant off) : ¬RecordBlock off := by
  have hc := cond_number_lt c
  obtain rfl | rfl | ⟨u, -, rfl⟩ := h
  · unfold RecordBlock Reg.EVENT_CONDITION
    omega
  · unfold RecordBlock Reg.EVENT_STICKY
    omega
  · unfold RecordBlock Reg.EVTENANT_STICKY
    omega

theorem eventCondition_eventRegs (c : Cond) (tenant : Option Nat) : EventRegs c tenant (Reg.EVENT_CONDITION c.number) := .inl rfl

/-- The condition counter shares no register with the sticky bits, nor with the counter of another condition. -/
theorem eventCondition_of_eventRegs {d : Cond} (h : EventRegs c tenant (Reg.EVENT_CONDITION d.number)) : d.number = c.number := by
  have hd := cond_number_lt d
  obtain heq | heq | ⟨u, -, heq⟩ := h
  · unfold Reg.EVENT_CONDITION at heq
    omega
  · unfold Reg.EVENT_CONDITION Reg.EVENT_STICKY at heq
    omega
  · unfold Reg.EVENT_CONDITION Reg.EVTENANT_STICKY at heq
    omega

end

/-! ### A report -/

section
variable (s : State) (o : Occurrence)

theorem Changes.setBit (off bit : Nat) : Changes [] (· = off) s (s.setBit off bit) := Changes.wr s off _

theorem Changes.countAll (offs : List Nat) : Changes [] (· ∈ offs) s (s.countAll offs) := by
  induction offs generalizing s with
  | nil => exact Changes.refl _ _ s
  | cons off rest ih =>
    exact ((Changes.count s off).mono (by simp) fun _ ho => ho ▸ List.mem_cons_self).trans
      ((ih (s.count off)).mono (by simp) fun _ => List.mem_cons_of_mem off)

theorem State.changes_tallied : Changes [] (fun off => off ∈ o.counters ∨ EventRegs o.cond o.tenant off) s (s.tallied o) := by
  have hcount := ((Changes.countAll s o.counters).mono (parts' := [])
    (offs' := fun off => off ∈ o.counters ∨ EventRegs o.cond o.tenant off) (by simp) fun _ => .inl).trans
      ((Changes.count _ (Reg.EVENT_CONDITION o.cond.number)).mono (by simp) fun _ => .inr ∘ .inl)
  have hsticky := hcount.trans ((Changes.setBit _ Reg.EVENT_STICKY o.cond.number).mono (by simp) fun _ => .inr ∘ .inr ∘ .inl)
  unfold State.tallied
  simp only
  split
  next u htenant => exact hsticky.trans ((Changes.setBit _ _ _).mono (by simp) fun _ ho => .inr (.inr (.inr ⟨u, htenant, ho⟩)))
  next => exact hsticky

theorem Changes.raise : Changes [] (fun off => off ∈ o.counters ∨ EventRegs o.cond o.tenant off) s (s.raise o) :=
  (s.changes_tallied o).events (EventsOnly.raise s o)

/-- Reporting sets the sticky bits alone after its counts. -/
theorem State.rd_tallied {off : Nat} (hglobal : off ≠ Reg.EVENT_STICKY) (htenant : ∀ u, off ≠ Reg.EVTENANT_STICKY (u % 32)) :
    (s.tallied o).rd off = ((s.countAll o.counters).count (Reg.EVENT_CONDITION o.cond.number)).rd off := by
  unfold State.tallied
  cases o.tenant with
  | none => exact State.rd_setBit_ne _ _ hglobal
  | some u => exact (State.rd_setBit_ne _ _ (htenant u)).trans (State.rd_setBit_ne _ _ hglobal)

theorem State.sticky_tallied : (s.tallied o).bit Reg.EVENT_STICKY o.cond.number = true
    ∧ ∀ u, o.tenant = some u → (s.tallied o).bit (Reg.EVTENANT_STICKY (u % 32)) o.cond.number = true := by
  have hlt := cond_number_lt o.cond
  unfold State.tallied
  cases htenant : o.tenant with
  | none => exact ⟨State.bit_setBit_same _ _ hlt, by simp⟩
  | some v =>
    have hne : Reg.EVENT_STICKY ≠ Reg.EVTENANT_STICKY (v % 32) := by
      unfold Reg.EVENT_STICKY Reg.EVTENANT_STICKY
      omega
    refine ⟨(State.bit_congr (State.rd_setBit_ne _ _ hne) _).trans (State.bit_setBit_same _ _ hlt), fun u hu => ?_⟩
    cases hu
    exact State.bit_setBit_same _ _ hlt

/-- An occurrence whose unit counters stand beside the event block is reported (R448). -/
theorem State.reported_raise (h : ∀ off ∈ o.counters, 0x403000 ≤ off) : Reported s (s.raise o) o.cond o.tenant := by
  have hlt := cond_number_lt o.cond
  have hrd : ∀ off, EventRegs o.cond o.tenant off → (s.raise o).rd off = (s.tallied o).rd off := fun off ho =>
    (EventsOnly.raise s o).rd off (eventRegs_not_record ho)
  obtain ⟨hsticky, htenant⟩ := s.sticky_tallied o
  refine ⟨?_, (State.bit_congr (hrd _ (.inr (.inl rfl))) _).trans hsticky,
    fun u hu => (State.bit_congr (hrd _ (.inr (.inr ⟨u, hu, rfl⟩))) _).trans (htenant u hu)⟩
  have hmem : Reg.EVENT_CONDITION o.cond.number ∉ o.counters := fun hin => by
    have := h _ hin
    unfold Reg.EVENT_CONDITION at this
    omega
  rw [State.fld_congr (hrd _ (eventCondition_eventRegs _ _)), State.fld_congr (s.rd_tallied o ?_ ?_)]
  · exact (State.fld_count_same _ _).trans (congrArg satNext (State.fld_congr (State.rd_countAll_ne _ hmem) _))
  · unfold Reg.EVENT_CONDITION Reg.EVENT_STICKY
    omega
  · intro u
    unfold Reg.EVENT_CONDITION Reg.EVTENANT_STICKY
    omega

/-- The one unit counter of an occurrence counts (R448). -/
theorem State.fld_raise_counter {off : Nat} (hcounters : o.counters = [off]) (h : 0x500000 ≤ off) :
    (s.raise o).fld off ⟨0, 32⟩ = satNext (s.fld off ⟨0, 32⟩) := by
  have hlt := cond_number_lt o.cond
  have hrecord : ¬RecordBlock off := not_recordBlock_of_ge (by omega)
  have hcondition : off ≠ Reg.EVENT_CONDITION o.cond.number := by
    unfold Reg.EVENT_CONDITION
    omega
  rw [State.fld_congr ((EventsOnly.raise s o).rd off hrecord), State.fld_congr (s.rd_tallied o ?_ ?_), hcounters,
    State.fld_congr (State.rd_count_ne _ hcondition)]
  · exact State.fld_count_same _ _
  · unfold Reg.EVENT_STICKY
    omega
  · intro u
    unfold Reg.EVTENANT_STICKY
    omega

end

end Sys2Proof.Machine

namespace Sys2Proof.Claims

open Machine

/-- A report stays reported while its registers stay, and counts from where its counter stood. -/
theorem Reported.congr {s r u t : State} {c : Cond} {tenant : Option Nat} (h : Reported r u c tenant)
    (hs : r.rd (Reg.EVENT_CONDITION c.number) = s.rd (Reg.EVENT_CONDITION c.number))
    (ht : ∀ off, EventRegs c tenant off → t.rd off = u.rd off) : Reported s t c tenant := by
  obtain ⟨hcount, hsticky, htenant⟩ := h
  exact ⟨(State.fld_congr (ht _ (.inl rfl)) _).trans (hcount.trans (congrArg satNext (State.fld_congr hs _))),
    (State.bit_congr (ht _ (.inr (.inl rfl))) _).trans hsticky,
    fun v hv => (State.bit_congr (ht _ (.inr (.inr ⟨v, hv, rfl⟩))) _).trans (htenant v hv)⟩

end Sys2Proof.Claims
end

section
/-! The refusals of ISSUE and the issue that completes CANCELLED (R83, R86, R96, R97, R128). -/

namespace Sys2Proof.Proofs

open Machine Claims

/-! ### The checks of ISSUE -/

section
variable {s : State} {n : Fin 128} {e : Nat} {slot : Option Nat}

theorem issue_of_closed {j : Nat} (hslot : slot = some j) (hclosed : (s.station n j).opened = none) :
    s.issue n e slot = s.stopShuttle n 4 := by
  subst hslot
  simp [State.issue, hclosed]

theorem open_of_not_closed (h : ¬∃ j, slot = some j ∧ (s.station n j).opened = none) :
    ∀ j, slot = some j → (s.station n j).opened.isSome = true := fun j hslot =>
  Option.isSome_iff_ne_none.2 fun hnone => h ⟨j, hslot, hnone⟩

section
variable (hopen : ∀ j, slot = some j → (s.station n j).opened.isSome = true)
include hopen

/-- The checks behind that of the activation (R128). -/
theorem issue_of_open : s.issue n e slot =
    if !s.issueForm n e (s.staging n e) then s.stopShuttle n 7
    else if !s.issueRange n e (s.staging n e) then s.stopShuttle n 6
    else if s.issueAbsent n e (s.staging n e) then s.refuseAbsent n e
    else if s.queueState n e = 0 ∧ 512 ≤ (s.queue n e).length then s.stallShuttle n 2 e
    else s.acceptIssue n e (s.staging n e) slot := by
  unfold State.issue
  cases slot with
  | none => rfl
  | some j =>
    have hsome := Option.isSome_iff_ne_none.1 (hopen j rfl)
    simp only [Option.isNone_iff_eq_none, hsome, if_false]

theorem issue_of_reservedForm (hform : s.issueForm n e (s.staging n e) = false) : s.issue n e slot = s.stopShuttle n 7 := by
  simp [issue_of_open hopen, hform]

theorem issue_out_of_range (hform : s.issueForm n e (s.staging n e) = true) (hrange : s.issueRange n e (s.staging n e) = false) :
    s.issue n e slot = s.stopShuttle n 6 := by
  simp [issue_of_open hopen, hform, hrange]

theorem issue_of_absent (hform : s.issueForm n e (s.staging n e) = true) (hrange : s.issueRange n e (s.staging n e) = true)
    (habsent : s.issueAbsent n e (s.staging n e) = true) : s.issue n e slot = s.refuseAbsent n e := by
  simp [issue_of_open hopen, hform, hrange, habsent]

theorem issue_of_not_enabled (hform : s.issueForm n e (s.staging n e) = true) (hrange : s.issueRange n e (s.staging n e) = true)
    (hpresent : s.issueAbsent n e (s.staging n e) = false) (hstate : s.queueState n e ≠ 0) :
    s.issue n e slot = (s.cancelIssue n e (s.staging n e)).nextPc n := by
  simp [issue_of_open hopen, hform, hrange, hpresent, hstate, State.acceptIssue]

end

end

/-! ### An absent engine -/

section
variable {s : State} {n : Fin 128} {c : Instr} {e : Nat}

/-- The occurrence that the front end reports for an absent engine (R97). -/
def absentUnit (s : State) (n e : Nat) : Occurrence where
  cond := .absentUnit
  ribbon := .fault
  source := source 1 n 4
  tenant := s.coreTenant n
  detail := source 1 n e + s.fld (Reg.SHUTTLE_STATUS n) Fl.SHUTTLE_STATUS_PC * 2 ^ 32
  counters := [Reg.CORE_ABSENT_UNIT n]

theorem refuseAbsent_eq (s : State) (n e : Nat) : s.refuseAbsent n e = (s.raise (absentUnit s n e)).stopShuttle n 3 := rfl

theorem absent_stops (hc : exec c s = finish (s.begin.refuseAbsent n e)) :
    ∃ t, exec c s = .next t ∧ Stops s t n 3 ∧ Reported s t .absentUnit (s.coreTenant n)
      ∧ t.fld (Reg.CORE_ABSENT_UNIT n) Fl.CORE_ABSENT_UNIT_COUNT
        = satNext (s.fld (Reg.CORE_ABSENT_UNIT n) Fl.CORE_ABSENT_UNIT_COUNT)
      ∧ ShuttleFrame s t n (fun off => off = Reg.CORE_ABSENT_UNIT n ∨ EventRegs .absentUnit (s.coreTenant n) off) := by
  let o := absentUnit s.begin n e
  have hbase := coreBase_ge n
  have hunit : Reg.coreBase n ≤ Reg.CORE_ABSENT_UNIT n := by
    unfold Reg.CORE_ABSENT_UNIT
    omega
  have hreported : Reported s (s.begin.raise o) .absentUnit (s.coreTenant n) :=
    State.reported_raise s.begin o fun off ho => by
      rw [List.mem_singleton.1 ho]
      omega
  have hcount : (s.begin.raise o).fld (Reg.CORE_ABSENT_UNIT n) ⟨0, 32⟩ = satNext (s.fld (Reg.CORE_ABSENT_UNIT n) ⟨0, 32⟩) :=
    State.fld_raise_counter s.begin o rfl (by omega)
  have hchanges : Changes [] (fun off => off = Reg.CORE_ABSENT_UNIT n ∨ EventRegs .absentUnit (s.coreTenant n) off) s
      (s.begin.raise o) := ((Changes.raise s.begin o).mono (by simp) fun off => Or.imp_left List.mem_singleton.1).of_begin
  have hstatus : ∀ {off}, EventRegs .absentUnit (s.coreTenant n) off → off ≠ Reg.SHUTTLE_STATUS n ∧ off ≠ Reg.SHUTTLE_CONTROL n :=
    fun ho => by
      have := eventRegs_lt ho
      unfold Reg.SHUTTLE_STATUS Reg.SHUTTLE_CONTROL
      omega
  have hunitStatus : Reg.CORE_ABSENT_UNIT n ≠ Reg.SHUTTLE_STATUS n ∧ Reg.CORE_ABSENT_UNIT n ≠ Reg.SHUTTLE_CONTROL n := by
    unfold Reg.CORE_ABSENT_UNIT Reg.SHUTTLE_STATUS Reg.SHUTTLE_CONTROL
    omega
  rw [refuseAbsent_eq] at hc
  obtain ⟨t, ht, hstops, hframe⟩ := stops_of_finish hc (by decide) (.of_changes hchanges
    (fun ho => ho.elim (fun h => hunitStatus.1 h.symm) fun h => (hstatus h).1 rfl)
    (fun ho => ho.elim (fun h => hunitStatus.2 h.symm) fun h => (hstatus h).2 rfl))
  refine ⟨t, ht, hstops, hreported.congr rfl fun off ho => ?_, ?_,
    (ShuttleFrame.of_changes hchanges).trans (hframe.mono fun _ => False.elim)⟩
  · exact hframe.rd (eventRegs_not_record ho) (hstatus ho).1 (hstatus ho).2 id
  · exact (State.fld_congr (hframe.rd (not_recordBlock_core hunit) hunitStatus.1 hunitStatus.2 id) _).trans hcount

end

/-! ### The parts of a cancelled issue -/

/-- The registers of the generators that a command binds. -/
def BoundRegs (n : Nat) (c : BitVec 128) (off : Nat) : Prop :=
  ∃ g, (cmdS0 c = some g ∨ cmdS1 c = some g) ∧ GenRegs n g off

/-- The registers that the fray of a command's local set field writes. -/
def FrayRegs (s : State) (c : BitVec 128) (off : Nat) : Prop :=
  cmdSetOp c ≠ 0 ∧ (off = knotStateReg (cmdSetKnot c) ∨ off = Reg.KNOT_FRAYED_KNOT (bankOf (cmdSetKnot c))
    ∨ EventRegs .frayedKnot (s.knotTenant (cmdSetKnot c)) off)

section
variable {s t : State} {n g e k : Nat} {c : BitVec 128} {off : Nat}

theorem cmdField_lt (c : BitVec 128) (lo width : Nat) : cmdField c lo width < 2 ^ width := Nat.mod_lt _ (by positivity)

theorem boundGenerator_lt (h : cmdS0 c = some g ∨ cmdS1 c = some g) : g < 8 := by
  unfold cmdS0 cmdS1 at h
  have h0 := cmdField_lt c 28 3
  have h1 := cmdField_lt c 32 3
  obtain h | h := h
  · split at h
    · cases h
      exact h0
    · cases h
  · split at h
    · cases h
      exact h1
    · cases h

/-- The bound generators stand in their part of the core's block (R104). -/
theorem boundRegs_core (h : BoundRegs n c off) : Reg.coreBase n + 0x200 ≤ off ∧ off < Reg.coreBase n + 0x600 := by
  obtain ⟨g, hbound, hreg⟩ := h
  have hlo := genReg_core hreg
  have hg := boundGenerator_lt hbound
  refine ⟨hlo, ?_⟩
  obtain rfl | rfl | rfl | rfl | ⟨d, hd, rfl⟩ := hreg
  · unfold Reg.GEN_BASE
    omega
  · unfold Reg.GEN_CONFIG
    omega
  · unfold Reg.GEN_INDEX
    omega
  · unfold Reg.GEN_INDEX_HI
    omega
  · unfold Reg.GEN_DIM
    omega

/-- The registers of a fray lie in no core's block, and below the rights of the cores (R465). -/
theorem frayRegs_place (h : FrayRegs s c off) :
    (∀ n, ¬(Reg.coreBase n ≤ off ∧ off < Reg.coreBase n + 0x10000)) ∧ off < 0x3800000 := by
  obtain ⟨-, rfl | rfl | hevent⟩ := h
  · have hk : cmdSetKnot c < 2 ^ 17 := cmdField_lt c 59 17
    refine ⟨knotReg_not_core (.inl rfl), ?_⟩
    unfold knotStateReg Reg.KNOT_STATE Reg.clusterBase
    omega
  · have hk : cmdSetKnot c < 2 ^ 17 := cmdField_lt c 59 17
    unfold Reg.KNOT_FRAYED_KNOT bankOf Reg.clusterBase Reg.coreBase
    exact ⟨fun n => by omega, by omega⟩
  · have hlt := eventRegs_lt hevent
    exact ⟨fun n => by have := coreBase_ge n; omega, by omega⟩

theorem State.changes_streamGen (len : Nat) : Changes [] (GenRegs n g) s (s.streamGen n g len) := by
  unfold State.streamGen
  split
  · exact State.changes_setGenIdx.mono (by simp) fun _ => IndexRegs.genReg
  · exact State.changes_setGenIdx.mono (by simp) fun _ => IndexRegs.genReg

theorem State.changes_advanceBound : Changes [] (BoundRegs n c) s (s.advanceBound n c) := by
  have hstream : ∀ (u : State) {g : Nat}, cmdS0 c = some g ∨ cmdS1 c = some g →
      Changes [] (BoundRegs n c) u (u.streamGen n g (cmdLength c)) := fun u g hg =>
    (State.changes_streamGen _).mono (by simp) fun _ ho => ⟨g, hg, ho⟩
  unfold State.advanceBound
  split
  next g h h0 h1 =>
    split
    · exact hstream s (.inl h0)
    · exact (hstream s (.inl h0)).trans (hstream _ (.inr h1))
  next g h0 h1 => exact hstream s (.inl h0)
  next h h0 h1 => exact hstream s (.inr h1)
  next => exact Changes.refl _ _ s

/-! ### The fray of the set field -/

/-- A knot stays quiet while its registers and their bytes stay. -/
theorem quietKnot_of_changes {parts : List Part} {offs : Nat → Prop} (h : Changes parts offs s t) (hmem : .mem ∉ parts)
    (hk : k < 2 ^ 17) (hstate : ¬offs (knotStateReg k)) (harm : ¬offs (knotArmReg k)) (hquiet : QuietKnot s k) : QuietKnot t k := by
  have hsound : ∀ off, off = knotStateReg k ∨ off = knotArmReg k → ¬offs off → s.arrayErrors off = [] → t.arrayErrors off = [] := by
    intro off ho hno hnone
    have hplace : off % 8 = 0 ∧ off < stagingBase := by
      obtain rfl | rfl := ho
      · unfold knotStateReg Reg.KNOT_STATE Reg.clusterBase stagingBase
        omega
      · unfold knotArmReg Reg.KNOT_ARM Reg.clusterBase stagingBase
        omega
    have hrecord := knotReg_not_record ho
    refine List.filter_eq_nil_iff.2 fun x hx hin => ?_
    have hkey : x.1 / 8 * 8 = off ∧ x.1 < stagingBase := by
      simp only [Bool.and_eq_true, decide_eq_true_eq] at hin
      unfold stagingBase at hplace ⊢
      omega
    have hkept : x ∈ s.mem.arrayUpsets := (h.2.2 hmem x (by
      unfold OpenByte
      rw [hkey.1]
      rintro (hr | ho | ⟨hstaging, -⟩)
      · exact hrecord hr
      · exact hno ho
      · omega)).1 hx
    exact List.filter_eq_nil_iff.1 hnone x hkept hin
  obtain ⟨⟨hsoundState, hsoundArm⟩, harmed⟩ := hquiet
  exact ⟨⟨hsound _ (.inl rfl) hstate hsoundState, hsound _ (.inr rfl) harm hsoundArm⟩,
    (State.knotArmed_of_rd (h.2.1 _ (knotReg_not_record (.inl rfl)) hstate)).trans harmed⟩

theorem changes_reportFray (s : State) (k cause : Nat) : Changes []
    (fun off => off = Reg.KNOT_FRAYED_KNOT (bankOf k) ∨ EventRegs .frayedKnot (s.knotTenant k) off) s (s.reportFray k cause) :=
  (Changes.raise s _).mono (by simp) fun _ => Or.imp_left List.mem_singleton.1

/-- The report of a fray leaves the knots. -/
theorem rd_reportFray (s : State) {off : Nat} (ho : off = knotStateReg k ∨ off = knotArmReg k) (cause : Nat) :
    (s.reportFray k cause).rd off = s.rd off := by
  refine (changes_reportFray s k cause).2.1 off (knotReg_not_record ho) ?_
  rintro (heq | hevent)
  · obtain ⟨c, r, rfl, hr⟩ := knotReg_bounds ho
    unfold Reg.KNOT_FRAYED_KNOT Reg.clusterBase at heq
    omega
  · have hlt := eventRegs_lt hevent
    obtain ⟨c, r, rfl, -⟩ := knotReg_bounds ho
    omega

theorem knotDo_fray (h : QuietKnot s k) (cause : Nat) :
    s.knotDo k (.fray cause) = (s.setFld (knotStateReg k) Fl.KNOT_STATE_FRAYED 1).reportFray k cause :=
  State.knotDo_of_step h.1 (State.evaluateArm_unarmed (by
    rw [State.knotArmed_of_rd (rd_reportFray _ (.inl rfl) cause)]
    exact (congrArg (· == 1) (State.fld_setFld_disjoint _ _ _ _ _ (by decide))).trans h.2))

/-- The register that names the owner of knot k (R185). -/
def knotOwnerReg (k : Nat) : Nat := Reg.KNOT_OWNER (k / 16384) (k % 16384 / 256)

theorem knotOwnerReg_bounds (k : Nat) :
    ∃ c r, knotOwnerReg k = 0x1000000 + c * 0x200000 + 0x140000 + r ∧ r < 0x200 :=
  ⟨k / 16384, k % 16384 / 256 * 8, rfl, by omega⟩

theorem knotOwnerReg_not_record (k : Nat) : ¬RecordBlock (knotOwnerReg k) := by
  obtain ⟨c, r, heq, -⟩ := knotOwnerReg_bounds k
  exact not_recordBlock_of_ge (by omega)

theorem knotOwnerReg_not_core (k n : Nat) : ¬(Reg.coreBase n ≤ knotOwnerReg k ∧ knotOwnerReg k < Reg.coreBase n + 0x10000) := by
  obtain ⟨c, r, heq, hr⟩ := knotOwnerReg_bounds k
  rw [heq]
  unfold Reg.coreBase
  omega

theorem knotOwnerReg_ne_knotReg {off : Nat} (ho : off = knotStateReg k ∨ off = knotArmReg k) (j : Nat) : knotOwnerReg j ≠ off := by
  obtain ⟨c, r, rfl, hr⟩ := knotReg_bounds ho
  obtain ⟨c', r', heq, hr'⟩ := knotOwnerReg_bounds j
  omega

/-- A local set field of a cancelled command frays its knot (R119). -/
theorem fraySet_spec {device : Nat} {st : CmdStatus}
    (h : cmdSetOp c = 0 ∨ setIsLocal c = true ∧ QuietKnot s (cmdSetKnot c)) :
    Changes [] (FrayRegs s c) s (s.fraySet n e c device st)
      ∧ (cmdSetOp c ≠ 0 → (s.fraySet n e c device st).knotFrayed (cmdSetKnot c) = true) := by
  by_cases hset : cmdSetOp c = 0
  · rw [State.fraySet, if_pos hset]
    exact ⟨Changes.refl _ _ s, fun hno => absurd hset hno⟩
  · obtain ⟨hlocal, hquiet⟩ := h.resolve_left hset
    rw [State.fraySet, if_neg hset, if_pos hlocal, knotDo_fray hquiet]
    let u := s.setFld (knotStateReg (cmdSetKnot c)) Fl.KNOT_STATE_FRAYED 1
    have howner : u.knotTenant (cmdSetKnot c) = s.knotTenant (cmdSetKnot c) :=
      State.ownerOf_congr (State.rd_setFld_ne _ _ _ (knotOwnerReg_ne_knotReg (.inl rfl) _))
    refine ⟨((Changes.setFld s _ _ _).mono (by simp) fun _ ho => ⟨hset, .inl ho⟩).trans
      ((changes_reportFray u _ _).mono (by simp) fun _ ho => ⟨hset, .inr (howner ▸ ho)⟩), fun _ => ?_⟩
    rw [State.knotFrayed_of_rd (rd_reportFray _ (.inl rfl) _)]
    exact congrArg (· == 1) (State.fld_setFld_same _ _ _ _ (by decide))

/-! ### The record of the queue -/

theorem fld_countN_one (s : State) (off : Nat) : (s.countN off 1).fld off ⟨0, 32⟩ = satNext (s.fld off ⟨0, 32⟩) := by
  have hset := s.fld_setFld_same off ⟨0, 32⟩ (satNext (s.fld off ⟨0, 32⟩)) (by decide)
  have hlt : satNext (s.fld off ⟨0, 32⟩) < 2 ^ 32 := by
    unfold satNext
    omega
  exact hset.trans (Nat.mod_eq_of_lt hlt)

theorem queueCancelled_ge (n e : Nat) : 0x1000000 ≤ Reg.QUEUE_CANCELLED n e := by
  have := coreBase_ge n
  unfold Reg.QUEUE_CANCELLED
  omega

/-- The CANCELLED record of one command (R103): the queue's count, and the occurrence. -/
theorem recordCancelled_spec (s : State) (n e entry : Nat) :
    Changes [] (fun off => off = Reg.QUEUE_CANCELLED n e ∨ EventRegs .cancelled (s.coreTenant n) off) s (s.recordCancelled n e 1 entry)
      ∧ Reported s (s.recordCancelled n e 1 entry) .cancelled (s.coreTenant n)
      ∧ (s.recordCancelled n e 1 entry).fld (Reg.QUEUE_CANCELLED n e) Fl.QUEUE_CANCELLED_COUNT
        = satNext (s.fld (Reg.QUEUE_CANCELLED n e) Fl.QUEUE_CANCELLED_COUNT) := by
  have hplace := queueCancelled_ge n e
  let u := s.countN (Reg.QUEUE_CANCELLED n e) 1
  let o : Occurrence := { cond := .cancelled, ribbon := .notice, source := source 1 n e, tenant := s.coreTenant n,
                          detail := 1 % 2 ^ 32 + entry % 2 ^ 64 * 2 ^ 32 }
  have hraise : Changes [] (EventRegs .cancelled (s.coreTenant n)) u (u.raise o) :=
    (Changes.raise u o).mono (by simp) fun _ ho => ho.resolve_left List.not_mem_nil
  have hreported : Reported u (u.raise o) .cancelled (s.coreTenant n) := State.reported_raise u o (by simp [o])
  have heq : s.recordCancelled n e 1 entry = u.raise o := rfl
  rw [heq]
  refine ⟨((Changes.setFld s _ _ _).mono (by simp) fun _ ho => .inl ho).trans (hraise.mono (by simp) fun _ ho => .inr ho),
    hreported.congr (State.rd_setFld_ne _ _ _ ?_) fun _ _ => rfl, ?_⟩
  · unfold Reg.EVENT_CONDITION
    have := cond_number_lt .cancelled
    omega
  · have hkept := hraise.2.1 (Reg.QUEUE_CANCELLED n e) (not_recordBlock_of_ge (by omega)) fun ho => by
      have := eventRegs_lt ho
      omega
    rw [State.fld_congr hkept]
    exact fld_countN_one s (Reg.QUEUE_CANCELLED n e)

end

/-! ### The whole of a cancelled issue -/

/-- The registers that a cancelled issue writes before the shuttle goes on. -/
def CancelRegs (s : State) (n e : Nat) (c : BitVec 128) (off : Nat) : Prop :=
  off = Reg.QUEUE_STATUS n e ∨ off = Reg.QUEUE_CANCELLED n e ∨ EventRegs .cancelled (s.coreTenant n) off ∨ BoundRegs n c off
    ∨ FrayRegs s c off

/-- What an issue to an engine that is not ENABLED leaves (R86). -/
structure Cancels (s r : State) (n e : Nat) (c : BitVec 128) : Prop where
  reported : Reported s r .cancelled (s.coreTenant n)
  last : r.fld (Reg.QUEUE_STATUS n e) Fl.QUEUE_STATUS_LAST_STATUS = 1
  count : r.fld (Reg.QUEUE_CANCELLED n e) Fl.QUEUE_CANCELLED_COUNT
    = satNext (s.fld (Reg.QUEUE_CANCELLED n e) Fl.QUEUE_CANCELLED_COUNT)
  frayed : cmdSetOp c ≠ 0 → r.knotFrayed (cmdSetKnot c) = true

/-- What a cancelled issue leaves outlives what keeps its registers. -/
theorem Cancels.kept {s r t : State} {n e : Nat} {c : BitVec 128} (h : Cancels s r n e c)
    (hrd : ∀ off, CancelRegs s n e c off → t.rd off = r.rd off) : Cancels s t n e c where
  reported := h.reported.congr rfl fun off ho => hrd off (.inr (.inr (.inl ho)))
  last := (State.fld_congr (hrd _ (.inl rfl)) _).trans h.last
  count := (State.fld_congr (hrd _ (.inr (.inl rfl))) _).trans h.count
  frayed hset := (State.knotFrayed_of_rd (hrd _ (.inr (.inr (.inr (.inr ⟨hset, .inl rfl⟩)))))).trans (h.frayed hset)

section
variable {s : State} {n : Fin 128} {e : Nat} {c : BitVec 128}

theorem coreBase_bounds (n : Fin 128) : 0x1000000 ≤ Reg.coreBase n ∧ Reg.coreBase n + 0x10000 ≤ 0x2000000 := by
  have := n.isLt
  unfold Reg.coreBase
  omega

theorem queueRegs_place (n : Nat) (he : e < 4) :
    (Reg.coreBase n + 0x600 ≤ Reg.QUEUE_STATUS n e ∧ Reg.QUEUE_STATUS n e < Reg.coreBase n + 0x700)
      ∧ Reg.coreBase n + 0x600 ≤ Reg.QUEUE_CANCELLED n e ∧ Reg.QUEUE_CANCELLED n e < Reg.coreBase n + 0x700
      ∧ Reg.QUEUE_CANCELLED n e ≠ Reg.QUEUE_STATUS n e := by
  unfold Reg.QUEUE_STATUS Reg.QUEUE_CANCELLED
  omega

/-- The steps of a cancelled issue before the fray of its set field: the generators advance, and the queue shows the completion. -/
def beforeFray (s : State) (n e : Nat) (c : BitVec 128) : State :=
  ((s.advanceBound n c).setFld (Reg.QUEUE_STATUS n e) Fl.QUEUE_STATUS_LAST_STATUS 1).countCompletion n e

theorem changes_beforeFray (s : State) (n e : Nat) (c : BitVec 128) :
    Changes [.core] (fun off => BoundRegs n c off ∨ off = Reg.QUEUE_STATUS n e) s (beforeFray s n e c) := by
  have hbound : Changes [.core] (fun off => BoundRegs n c off ∨ off = Reg.QUEUE_STATUS n e) s (s.advanceBound n c) :=
    State.changes_advanceBound.mono (by simp) fun _ => .inl
  exact (hbound.trans ((Changes.setFld _ _ _ _).mono (by simp) fun _ => .inr)).trans
    ((Changes.setCore _ _).mono (fun _ => id) fun _ => False.elim)

theorem core_beforeFray (s : State) (n e : Nat) (c : BitVec 128) :
    (beforeFray s n e c).core = { s.core with completions := (beforeFray s n e c).core.completions } := by
  have hcore : (s.advanceBound n c).core = s.core := State.changes_advanceBound.1 .core (by simp)
  rw [← hcore]
  rfl

/-- A register outside the core's generators and the queue's STATUS is as before. -/
theorem rd_beforeFray {off : Nat} (hrecord : ¬RecordBlock off)
    (h : ¬(Reg.coreBase n + 0x200 ≤ off ∧ off < Reg.coreBase n + 0x600) ∧ off ≠ Reg.QUEUE_STATUS n e) :
    (beforeFray s n e c).rd off = s.rd off :=
  (changes_beforeFray s n e c).2.1 off hrecord fun ho => ho.elim (fun hb => h.1 (boundRegs_core hb)) h.2

theorem beforeFray_last (s : State) (n e : Nat) (c : BitVec 128) :
    (beforeFray s n e c).fld (Reg.QUEUE_STATUS n e) Fl.QUEUE_STATUS_LAST_STATUS = 1 := by
  have hset := (s.advanceBound n c).fld_setFld_same (Reg.QUEUE_STATUS n e) Fl.QUEUE_STATUS_LAST_STATUS 1 (by decide)
  have hkept : (beforeFray s n e c).rd (Reg.QUEUE_STATUS n e)
      = ((s.advanceBound n c).setFld (Reg.QUEUE_STATUS n e) Fl.QUEUE_STATUS_LAST_STATUS 1).rd (Reg.QUEUE_STATUS n e) := rfl
  exact (State.fld_congr hkept _).trans hset

theorem knotTenant_beforeFray (he : e < 4) (k : Nat) : (beforeFray s n e c).knotTenant k = s.knotTenant k :=
  State.ownerOf_congr (off := knotOwnerReg k) (rd_beforeFray (knotOwnerReg_not_record k) (by
    have := knotOwnerReg_not_core k n
    obtain ⟨hstatus, -⟩ := queueRegs_place n he
    omega))

theorem quietKnot_beforeFray (he : e < 4) {k : Nat} (hk : k < 2 ^ 17) (h : QuietKnot s k) : QuietKnot (beforeFray s n e c) k := by
  have hplace : ∀ off, off = knotStateReg k ∨ off = knotArmReg k → ¬(BoundRegs n c off ∨ off = Reg.QUEUE_STATUS n e) := by
    rintro off ho (hbound | rfl)
    · have := boundRegs_core hbound
      exact knotReg_not_core ho n (by omega)
    · obtain ⟨hstatus, -⟩ := queueRegs_place n he
      exact knotReg_not_core ho n (by omega)
  exact quietKnot_of_changes (changes_beforeFray s n e c) (by simp) hk (hplace _ (.inl rfl)) (hplace _ (.inr rfl)) h

/-- A cancelled issue before its record: the set field has frayed its knot. -/
def afterFray (s : State) (n e : Nat) (c : BitVec 128) : State :=
  (beforeFray s n e c).fraySet n e c (s.setDeviceNow n c) .cancelled

theorem afterFray_spec (he : e < 4) (h : cmdSetOp c = 0 ∨ setIsLocal c = true ∧ QuietKnot s (cmdSetKnot c)) :
    Changes [] (FrayRegs s c) (beforeFray s n e c) (afterFray s n e c)
      ∧ (cmdSetOp c ≠ 0 → (afterFray s n e c).knotFrayed (cmdSetKnot c) = true) := by
  obtain ⟨hchanges, hfrayed⟩ := fraySet_spec (n := n) (e := e) (device := s.setDeviceNow n c) (st := .cancelled)
    (h.imp_right (And.imp_right (quietKnot_beforeFray (c := c) (n := n) he (cmdField_lt c 59 17))))
  refine ⟨hchanges.mono (by simp) fun off ho => ?_, hfrayed⟩
  unfold FrayRegs at ho ⊢
  rwa [knotTenant_beforeFray he] at ho

section
variable (he : e < 4) (h : cmdSetOp c = 0 ∨ setIsLocal c = true ∧ QuietKnot s (cmdSetKnot c))
include he h

/-- The fray leaves the core's block. -/
theorem rd_afterFray_core {off : Nat} (hge : Reg.coreBase n ≤ off) (hlt : off < Reg.coreBase n + 0x10000) :
    (afterFray s n e c).rd off = (beforeFray s n e c).rd off :=
  (afterFray_spec he h).1.2.1 off (not_recordBlock_core hge) fun ho => (frayRegs_place ho).1 n ⟨hge, hlt⟩

theorem coreTenant_afterFray : (afterFray s n e c).coreTenant n = s.coreTenant n := by
  obtain ⟨hlo, hhi⟩ := coreBase_bounds n
  obtain ⟨hstatus, -⟩ := queueRegs_place n he
  have howner : 0x3800000 ≤ Reg.CORE_OWNER n := by
    unfold Reg.CORE_OWNER
    omega
  generalize hoff : Reg.CORE_OWNER n = off at howner
  have hrecord : ¬RecordBlock off := not_recordBlock_of_ge (by omega)
  have hfray : (afterFray s n e c).rd off = (beforeFray s n e c).rd off := (afterFray_spec he h).1.2.1 off hrecord fun ho => by
    have := (frayRegs_place ho).2
    omega
  exact State.ownerOf_congr (hoff ▸ hfray.trans (rd_beforeFray hrecord (by omega)))

/-- The counter of the condition CANCELLED is as before the issue. -/
theorem rd_afterFray_condition :
    (afterFray s n e c).rd (Reg.EVENT_CONDITION Cond.cancelled.number) = s.rd (Reg.EVENT_CONDITION Cond.cancelled.number) := by
  obtain ⟨hlo, hhi⟩ := coreBase_bounds n
  obtain ⟨hstatus, -⟩ := queueRegs_place n he
  have hother : ¬EventRegs .frayedKnot (s.knotTenant (cmdSetKnot c)) (Reg.EVENT_CONDITION Cond.cancelled.number) := fun ho =>
    absurd (eventCondition_of_eventRegs ho) (by decide)
  have hevent := eventCondition_eventRegs .cancelled none
  generalize Reg.EVENT_CONDITION Cond.cancelled.number = off at hother hevent ⊢
  have hrecord := eventRegs_not_record hevent
  have hlt := eventRegs_lt hevent
  refine ((afterFray_spec he h).1.2.1 off hrecord fun ho => ?_).trans (rd_beforeFray hrecord (by omega))
  obtain ⟨-, heq | heq | hfrayed⟩ := ho
  · obtain ⟨c', r, hplace, -⟩ := knotReg_bounds (.inl heq)
    omega
  · unfold Reg.KNOT_FRAYED_KNOT Reg.clusterBase at heq
    omega
  · exact hother hfrayed

theorem cancelIssue_cancels : Cancels s (s.cancelIssue n e c) n e c
    ∧ (s.cancelIssue n e c).core = { s.core with completions := (s.cancelIssue n e c).core.completions }
    ∧ Changes [.core] (CancelRegs s n e c) s (s.cancelIssue n e c) := by
  obtain ⟨hlo, hhi⟩ := coreBase_bounds n
  obtain ⟨hstatus, hcancelled, hhigh, hne⟩ := queueRegs_place n he
  obtain ⟨hfray, hfrayed⟩ := afterFray_spec (n := n) he h
  have hcore : ∀ {off}, Reg.coreBase n ≤ off → off < Reg.coreBase n + 0x10000 →
      (afterFray s n e c).rd off = (beforeFray s n e c).rd off := rd_afterFray_core he h
  have heq : s.cancelIssue n e c
      = (afterFray s n e c).recordCancelled n e 1 ((beforeFray s n e c).entryStitch (.queue n e)) := rfl
  obtain ⟨hrecord, hreported, hcount⟩ := recordCancelled_spec (afterFray s n e c) n e
    ((beforeFray s n e c).entryStitch (.queue n e))
  rw [← heq] at hrecord hreported hcount
  rw [coreTenant_afterFray he h] at hrecord hreported
  have hrest : ∀ {off}, 0x1000000 ≤ off → off ≠ Reg.QUEUE_CANCELLED n e → (s.cancelIssue n e c).rd off = (afterFray s n e c).rd off :=
    fun hge hoff => hrecord.2.1 _ (not_recordBlock_of_ge (by omega)) fun ho => ho.elim hoff fun hevent => by
      have := eventRegs_lt hevent
      omega
  refine ⟨⟨hreported.congr (rd_afterFray_condition he h) fun _ _ => rfl, ?_, ?_, fun hset => ?_⟩, ?_, ?_⟩
  · rw [State.fld_congr (hrest (by omega) hne.symm), State.fld_congr (hcore (by omega) (by omega)), beforeFray_last]
  · rw [hcount, State.fld_congr (hcore (by omega) (by omega)),
      State.fld_congr (rd_beforeFray (not_recordBlock_of_ge (by omega)) ⟨by omega, hne⟩)]
  · obtain ⟨c', r, hplace, -⟩ := knotReg_bounds (k := cmdSetKnot c) (.inl rfl)
    have hknot := knotReg_not_core (k := cmdSetKnot c) (.inl rfl) n
    rw [State.knotFrayed_of_rd (hrest (by omega) fun hoff => by omega), hfrayed hset]
  · have hfrayCore : (afterFray s n e c).core = (beforeFray s n e c).core := hfray.1 .core (by simp)
    have hrecordCore : (s.cancelIssue n e c).core = (afterFray s n e c).core := hrecord.1 .core (by simp)
    rw [hrecordCore, hfrayCore, core_beforeFray]
  · have hbefore : Changes [.core] (CancelRegs s n e c) s (beforeFray s n e c) := (changes_beforeFray s n e c).mono (fun _ => id)
      fun _ ho => ho.elim (.inr ∘ .inr ∘ .inr ∘ .inl) .inl
    exact (hbefore.trans (hfray.mono (by simp) fun _ => .inr ∘ .inr ∘ .inr ∘ .inr)).trans
      (hrecord.mono (by simp) fun _ ho => ho.elim (.inr ∘ .inl) (.inr ∘ .inr ∘ .inl))

end

theorem cancelRegs_not_record {off : Nat} (h : CancelRegs s n e c off) : ¬RecordBlock off := by
  have hlo := coreBase_ge n
  obtain rfl | rfl | hevent | hbound | ⟨-, hknot | rfl | hevent⟩ := h
  · exact not_recordBlock_core (n := n) (by unfold Reg.QUEUE_STATUS; omega)
  · exact not_recordBlock_core (n := n) (by unfold Reg.QUEUE_CANCELLED; omega)
  · exact eventRegs_not_record hevent
  · exact not_recordBlock_core (n := n) (by have := boundRegs_core hbound; omega)
  · exact knotReg_not_record (.inl hknot)
  · exact not_recordBlock_of_ge (by unfold Reg.KNOT_FRAYED_KNOT Reg.clusterBase; omega)
  · exact eventRegs_not_record hevent

/-- No register of a cancelled issue is the shuttle's own. -/
theorem cancelRegs_ne_shuttle (he : e < 4) {off : Nat} (h : CancelRegs s n e c off) :
    off ≠ Reg.SHUTTLE_STATUS n ∧ off ≠ Reg.SHUTTLE_CONTROL n := by
  obtain ⟨hstatus, hcancelled, -⟩ := queueRegs_place n he
  have hlo := coreBase_ge n
  have hplace : ∀ {x}, x = Reg.SHUTTLE_STATUS n ∨ x = Reg.SHUTTLE_CONTROL n → Reg.coreBase n ≤ x ∧ x < Reg.coreBase n + 0x200 := by
    unfold Reg.SHUTTLE_STATUS Reg.SHUTTLE_CONTROL
    omega
  suffices hnot : ¬(Reg.coreBase n ≤ off ∧ off < Reg.coreBase n + 0x200) from
    ⟨fun ho => hnot (hplace (.inl ho)), fun ho => hnot (hplace (.inr ho))⟩
  obtain rfl | rfl | hevent | hbound | hfray := h
  · omega
  · omega
  · have := eventRegs_lt hevent
    omega
  · have := boundRegs_core hbound
    omega
  · have := (frayRegs_place hfray).1 n
    omega

end

section
variable {s : State} {n : Fin 128} {e : Nat} {c : BitVec 128} {i : Instr}

/-- The issue to an engine that is not ENABLED: the command completes CANCELLED and the shuttle goes on (R86). -/
theorem cancelled_goes_on (hc : exec i s = finish ((s.begin.cancelIssue n e c).nextPc n)) (he : e < 4)
    (h : cmdSetOp c = 0 ∨ setIsLocal c = true ∧ QuietKnot s (cmdSetKnot c)) :
    ∃ t, exec i s = .next t ∧ Onward s t n ∧ Cancels s t n e c ∧ t.queue n e = s.queue n e
      ∧ Changes [.core] (fun off => off = Reg.SHUTTLE_STATUS n ∨ off = Reg.SHUTTLE_CONTROL n ∨ CancelRegs s n e c off) s t := by
  obtain ⟨hcancels, hcore, hchanges⟩ := cancelIssue_cancels (s := s.begin) (n := n) he h
  generalize s.begin.cancelIssue n e c = r at *
  have hcancels : Cancels s r n e c := ⟨hcancels.reported, hcancels.last, hcancels.count, hcancels.frayed⟩
  have hchanges : Changes [.core] (CancelRegs s n e c) s r := hchanges.of_begin
  have hcore : r.core = { s.core with completions := r.core.completions } := hcore
  obtain ⟨t, ht, honward, hframe⟩ := onward_of_finish hc (.of_core hchanges (fun ho => (cancelRegs_ne_shuttle he ho).1 rfl)
    (fun ho => (cancelRegs_ne_shuttle he ho).2 rfl) (by rw [hcore]) (by rw [hcore]))
  refine ⟨t, ht, honward, hcancels.kept fun off ho => ?_, ?_, ?_⟩
  · exact hframe.rd (cancelRegs_not_record ho) (cancelRegs_ne_shuttle he ho).1 (cancelRegs_ne_shuttle he ho).2 id
  · unfold State.queue
    rw [hframe.2.1, hcore]
  · exact (hchanges.mono (fun _ => id) fun _ => .inr ∘ .inr).trans
      (hframe.1.mono (fun _ => id) fun _ ho => ho.imp_right (Or.imp_right False.elim))

end

theorem execIssue_eq {s : State} {n : Fin 128} {w : W32} (h : Fetches s n 0x2C w) :
    exec (.issue n) s = finish (s.begin.issue n (insField w 24 2) (slotNamed w)) := h.runIns _

/-- Settles O8: the checks of ISSUE in their order, each by its branch, and the cancelled issue by the frames of its steps. -/
theorem issueRefusalsInOrder : Obligations.IssueRefusalsInOrder := by
  intro s n w h
  have hexec := execIssue_eq h
  have he : insField w 24 2 < 4 := Nat.mod_lt _ (by decide)
  refine ⟨fun ⟨j, hslot, hclosed⟩ => ?_, fun hopen hform => ?_, fun hopen hform hrange => ?_,
    fun hopen hform hrange habsent => ?_, fun ⟨hopen, hform, hrange, hpresent⟩ hstate hset => ?_⟩
  · exact stops_at_once (hexec.trans (congrArg finish (issue_of_closed (s := s.begin) hslot hclosed))) (by decide)
  · exact stops_at_once (hexec.trans (congrArg finish (issue_of_reservedForm (s := s.begin) (open_of_not_closed hopen) hform)))
      (by decide)
  · exact stops_at_once (hexec.trans (congrArg finish (issue_out_of_range (s := s.begin) (open_of_not_closed hopen) hform hrange)))
      (by decide)
  · exact absent_stops (hexec.trans (congrArg finish
      (issue_of_absent (s := s.begin) (open_of_not_closed hopen) hform hrange habsent)))
  · obtain ⟨t, ht, honward, hcancels, hqueue, hchanges⟩ := cancelled_goes_on (hexec.trans (congrArg finish
      (issue_of_not_enabled (s := s.begin) hopen hform hrange hpresent hstate))) he hset
    exact ⟨t, ht, honward, hcancels.reported, hcancels.last, hcancels.count, hqueue, hcancels.frayed, hchanges⟩

end Sys2Proof.Proofs
end

section
/-! SUPPORT. Hoop memory: bytes as numbers, loads of clean spans, which change nothing, and stores, which change memory alone
(R206, R252, R376). -/

namespace Sys2Proof.Machine

open Claims

/-! ### Bytes and numbers -/

@[simp] theorem length_bytesLE (w v : Nat) : (bytesLE w v).length = w := by
  induction w generalizing v with
  | zero => rfl
  | succ w ih => rw [bytesLE, List.length_cons, ih]

theorem natLE_lt (bs : List Byte) : natLE bs < 256 ^ bs.length := by
  induction bs with
  | nil => exact Nat.one_pos
  | cons b rest ih =>
    have := b.isLt
    rw [natLE, List.length_cons, pow_succ]
    omega

/-- The number of the low w bytes of a number. -/
theorem natLE_bytesLE_mod (w v : Nat) : natLE (bytesLE w v) = v % 256 ^ w := by
  induction w generalizing v with
  | zero => simp [bytesLE, natLE, Nat.mod_one]
  | succ w ih => rw [bytesLE, natLE, ih, BitVec.toNat_ofNat, pow_succ' 256 w, Nat.mod_mul]

theorem length_mapRange {α : Type} (f : Nat → α) (step len base : Nat) : (mapRange f step len base).length = len := by
  induction len generalizing base with
  | zero => rfl
  | succ len ih => rw [mapRange, List.length_cons, ih]

theorem getElem_mapRange {α : Type} (f : Nat → α) (step : Nat) {len base i : Nat} (h : i < (mapRange f step len base).length) :
    (mapRange f step len base)[i] = f (base + i * step) := by
  induction len generalizing base i with
  | zero => exact absurd h (Nat.not_lt_zero i)
  | succ len ih =>
    cases i with
    | zero => simp [mapRange]
    | succ i => simp only [mapRange, List.getElem_cons_succ, ih, Nat.succ_mul, Nat.add_assoc, Nat.add_comm step]

section
variable (s : State)

@[simp] theorem State.length_bytesAt (a len : Nat) : (s.bytesAt a len).length = len := length_mapRange ..

theorem State.getElem_bytesAt {a len j : Nat} (h : j < (s.bytesAt a len).length) : (s.bytesAt a len)[j] = s.byteAt (a + j) :=
  (getElem_mapRange s.byteAt 1 h).trans (by rw [Nat.mul_one])

/-- Bytes of memory are a list of bytes when each byte is. -/
theorem State.bytesAt_eq {a : Nat} {bs : List Byte} (h : ∀ j (hj : j < bs.length), s.byteAt (a + j) = bs[j]) :
    s.bytesAt a bs.length = bs := by
  refine List.ext_getElem (length_mapRange ..) fun j _ hj => ?_
  rw [State.getElem_bytesAt, h j hj]

theorem State.bytesAt_congr {s t : State} {a len : Nat} (h : ∀ j < len, t.byteAt (a + j) = s.byteAt (a + j)) :
    t.bytesAt a len = s.bytesAt a len := by
  refine List.ext_getElem (by simp) fun j hj _ => ?_
  rw [State.getElem_bytesAt, State.getElem_bytesAt, h j (by simpa using hj)]

end

/-- Encodings of w bytes each, one after the other. -/
theorem getD_flatMap_bytesLE (w : Nat) (vals : List Nat) {c j : Nat} (hc : c < vals.length) (hj : j < w) :
    (vals.flatMap (bytesLE w)).getD (c * w + j) 0 = (bytesLE w vals[c]).getD j 0 := by
  induction vals generalizing c with
  | nil => exact absurd hc (Nat.not_lt_zero c)
  | cons v rest ih =>
    rw [List.flatMap_cons]
    cases c with
    | zero => rw [Nat.zero_mul, Nat.zero_add, List.getD_append _ _ _ _ (by simpa), List.getElem_cons_zero]
    | succ c =>
      rw [List.getD_append_right _ _ _ _ (by rw [length_bytesLE, Nat.succ_mul]; omega), List.getElem_cons_succ,
        ← ih (Nat.lt_of_succ_lt_succ hc), length_bytesLE, Nat.succ_mul, show c * w + w + j - w = c * w + j by omega]

@[simp] theorem length_flatMap_bytesLE (w : Nat) (vals : List Nat) : (vals.flatMap (bytesLE w)).length = vals.length * w := by
  simp

/-! ### The address map above the hoop windows (R206) -/

/-- An address that the controllers of near and far memory do not count: it lies at or above the hoop windows. -/
theorem placeOf_hoop_up {a : Nat} (h : hoopBase ≤ a) : placeOf a ≠ .near ∧ ∀ k, placeOf a ≠ .far k := by
  have hfar : ¬a < 0x010000000000 := by unfold hoopBase at h; omega
  have hnear : ¬(nearBase ≤ a ∧ a < 0x040100000000) := by unfold hoopBase at h; omega
  unfold placeOf
  rw [if_neg hfar, if_neg hnear]
  split_ifs <;> simp

theorem hoopBase_le_hoopAddr (n off : Nat) : hoopBase ≤ hoopAddr n off := by
  unfold hoopAddr
  omega

/-- The lines of an extent above the hoop windows lie there too. -/
theorem hoopBase_le_of_mem_linesOf {a len l : Nat} (ha : hoopBase ≤ a) (hl : l ∈ linesOf a len) : hoopBase ≤ l * 64 := by
  have hmem : ∀ k base, l ∈ mapRange (fun l => l) 1 k base → base ≤ l := by
    intro k base h
    obtain ⟨i, hi, rfl⟩ := List.mem_iff_getElem.1 h
    rw [getElem_mapRange]
    omega
  unfold linesOf at hl
  unfold hoopBase at ha ⊢
  split_ifs at hl
  · exact absurd hl (List.not_mem_nil)
  · have := hmem _ _ hl
    omega

/-! ### Loads -/

section
variable {s : State}

theorem State.touchRead_hoop (x : ReadClass) {l : Nat} (h : hoopBase ≤ l * 64) : s.touchRead x l = s := by
  obtain ⟨hnear, hfar⟩ := placeOf_hoop_up h
  cases hplace : placeOf (l * 64) with
  | near => exact absurd hplace hnear
  | far k => exact absurd hplace (hfar k)
  | _ => simp only [State.touchRead, hplace]

theorem State.touchReads_hoop (x : ReadClass) {ls : List Nat} (h : ∀ l ∈ ls, hoopBase ≤ l * 64) : s.touchReads x ls = s := by
  induction ls with
  | nil => rfl
  | cons l rest ih =>
    rw [State.touchReads, State.touchRead_hoop x (h l (List.mem_cons_self ..))]
    exact ih fun m hm => h m (List.mem_cons_of_mem _ hm)

/-- A load of hoop memory without errors and poison changes nothing and comes back clean. -/
theorem State.load_clean (who : Option Nat) (x : ReadClass) {a len : Nat} (ha : hoopBase ≤ a)
    (hclean : ∀ l ∈ linesOf a len, s.lineErrors l = [] ∧ s.linePoisoned l = false) :
    (s.load who x a len).s = s ∧ (s.load who x a len).poison = [] := by
  have hpoison : (linesOf a len).filter s.linePoisoned = [] := by
    simpa [List.filter_eq_nil_iff] using fun l hl => (hclean l hl).2
  have herrors : (linesOf a len).flatMap s.lineErrors = [] := List.flatMap_eq_nil_iff.2 fun l hl => (hclean l hl).1
  have hread : ((s.touchReads x (linesOf a len)).notePoison ((linesOf a len).filter s.linePoisoned)).readUpsets who
      ((linesOf a len).flatMap s.lineErrors) = s := by
    rw [hpoison, herrors, State.touchReads_hoop x fun l => hoopBase_le_of_mem_linesOf ha]
    rfl
  have hlost : (linesOf a len).filter (fun l => (s.lineErrors l).any fun e => upsetLost e.1 e.2) = [] :=
    List.filter_eq_nil_iff.2 fun l hl => by simp [(hclean l hl).1]
  unfold State.load
  refine ⟨hread, ?_⟩
  simp only [hread, hlost]
  simpa using fun l hl => (hclean l hl).2

/-- Clean spans of hoop memory are read as they stand. -/
theorem State.loadSpans_clean (who : Option Nat) (x : ReadClass) {spans : List (Nat × Nat)}
    (hhoop : ∀ p ∈ spans, hoopBase ≤ p.1) (hclean : CleanSpans s spans) : s.loadSpans who x spans = (s, false) := by
  induction spans with
  | nil => rfl
  | cons p rest ih =>
    have hp := List.mem_cons_self (a := p) (l := rest)
    obtain ⟨hstate, hpoison⟩ := State.load_clean (s := s) who x (hhoop p hp) (hclean p hp)
    have hrest := ih (fun q hq => hhoop q (List.mem_cons_of_mem _ hq)) fun q hq => hclean q (List.mem_cons_of_mem _ hq)
    simp [State.loadSpans, hstate, hpoison, hrest]

theorem Tile.hoopBase_le_spans (t : Tile) (n : Nat) : ∀ p ∈ t.spans n, hoopBase ≤ p.1 := by
  intro p hp
  unfold Tile.spans at hp
  rcases List.mem_append.1 hp with hrow | hscale
  · obtain ⟨r, _, rfl⟩ := List.mem_map.1 hrow
    exact hoopBase_le_hoopAddr ..
  · split_ifs at hscale
    · rw [List.mem_singleton.1 hscale]
      exact hoopBase_le_hoopAddr ..
    · exact absurd hscale List.not_mem_nil

end

/-! ### Stores -/

/-- From s to t memory alone has changed. -/
def OnlyMem (s t : State) : Prop := t = { s with mem := t.mem }

theorem OnlyMem.refl (s : State) : OnlyMem s s := rfl

theorem OnlyMem.trans {s t u : State} (h : OnlyMem s t) (g : OnlyMem t u) : OnlyMem s u := by
  unfold OnlyMem at h g ⊢
  rw [g, h]

theorem OnlyMem.changes {s t : State} (h : OnlyMem s t) : Changes [.mem] noReg s t := by
  rw [h]
  refine ⟨fun p hp => ?_, fun _ _ _ => rfl, fun hm => absurd (List.mem_singleton_self _) hm⟩
  cases p with
  | mem => exact absurd (List.mem_singleton_self _) hp
  | config => exact fun _ => rfl
  | _ => rfl

theorem OnlyMem.core {s t : State} (h : OnlyMem s t) : t.core = s.core := by rw [h]

section
variable (s : State)

theorem State.onlyMem_putBytes (a : Nat) (bs : List Byte) : OnlyMem s (s.putBytes a bs) := by
  induction bs generalizing s a with
  | nil => exact OnlyMem.refl s
  | cons b rest ih => exact OnlyMem.trans (show OnlyMem s (s.putByte a b) from rfl) (ih _ _)

/-- From s to t memory alone has changed, and of it no byte. -/
def SameBytes (s t : State) : Prop := OnlyMem s t ∧ t.mem.bytes = s.mem.bytes

theorem SameBytes.refl (s : State) : SameBytes s s := ⟨rfl, rfl⟩

theorem SameBytes.trans {s t u : State} (h : SameBytes s t) (g : SameBytes t u) : SameBytes s u :=
  ⟨h.1.trans g.1, g.2.trans h.2⟩

theorem SameBytes.setPoison {s t : State} (h : SameBytes s t) (l : Nat) (p : Bool) : SameBytes s (t.setPoison l p) :=
  h.trans ⟨rfl, rfl⟩

theorem SameBytes.clearUpsets {s t : State} (h : SameBytes s t) (lo n : Nat) : SameBytes s (t.clearUpsets lo n) :=
  h.trans ⟨rfl, rfl⟩

theorem SameBytes.ite {s t u : State} {c : Prop} [Decidable c] (h : SameBytes s t) (g : SameBytes s u) :
    SameBytes s (if c then t else u) := by
  split
  · exact h
  · exact g

theorem SameBytes.poisonIf {s t : State} (h : SameBytes s t) (l : Nat) (p : Bool) :
    SameBytes s (if p then t.setPoison l true else t) := .ite (h.setPoison l true) h

/-- What the controllers do for a write of a hoop line: poison and latent errors, no byte. -/
theorem State.sameBytes_touchWrite (a len : Nat) (poisoned : Bool) {l : Nat} (h : hoopBase ≤ l * 64) :
    SameBytes s (s.touchWrite a len poisoned l) := by
  obtain ⟨hnear, hfar⟩ := placeOf_hoop_up h
  have hs := SameBytes.refl s
  cases hplace : placeOf (l * 64) with
  | near => exact absurd hplace hnear
  | far k => exact absurd hplace (hfar k)
  | _ =>
    simp only [State.touchWrite, hplace]
    exact .poisonIf (.clearUpsets (.clearUpsets (.ite (.clearUpsets (.clearUpsets (hs.setPoison ..) ..) ..) hs) ..) ..) ..

theorem State.sameBytes_touchWrites (a len : Nat) (bad : List Nat) {ls : List Nat} (h : ∀ l ∈ ls, hoopBase ≤ l * 64) :
    SameBytes s (s.touchWrites a len bad ls) := by
  induction ls generalizing s with
  | nil => exact SameBytes.refl s
  | cons l rest ih =>
    exact (s.sameBytes_touchWrite a len _ (h l (List.mem_cons_self ..))).trans
      (ih _ fun m hm => h m (List.mem_cons_of_mem _ hm))

/-- A store to hoop memory changes memory alone, and of its bytes those it names. -/
theorem State.store_hoop {a : Nat} (ha : hoopBase ≤ a) (bs : List Byte) (bad : List Nat) :
    OnlyMem s (s.store a bs bad)
      ∧ ∀ x, (s.store a bs bad).byteAt x = if a ≤ x ∧ x < a + bs.length then bs.getD (x - a) 0 else s.byteAt x := by
  obtain ⟨honly, hbytes⟩ := s.sameBytes_touchWrites a bs.length bad (ls := linesOf a bs.length)
    fun l => hoopBase_le_of_mem_linesOf ha
  refine ⟨honly.trans (State.onlyMem_putBytes _ a bs), fun x => ?_⟩
  unfold State.store
  rw [State.byteAt_putBytes]
  unfold State.byteAt
  rw [hbytes]

end

/-! ### Tiles written row by row -/

/-- A row of encodings of w bytes each, stored at a hoop address. -/
theorem State.store_row (s : State) {a : Nat} (ha : hoopBase ≤ a) (w cols : Nat) (v : Nat → Nat) :
    let t := s.store a (((List.range cols).map v).flatMap (bytesLE w)) []
    OnlyMem s t ∧ (∀ c < cols, t.bytesAt (a + c * w) w = bytesLE w (v c))
      ∧ ∀ x, ¬(a ≤ x ∧ x < a + cols * w) → t.byteAt x = s.byteAt x := by
  obtain ⟨honly, hbyte⟩ := s.store_hoop ha (((List.range cols).map v).flatMap (bytesLE w)) []
  rw [length_flatMap_bytesLE, List.length_map, List.length_range] at hbyte
  refine ⟨honly, fun c hc => ?_, fun x hx => by rw [hbyte, if_neg hx]⟩
  generalize s.store _ _ [] = t at hbyte ⊢
  have hrow := t.bytesAt_eq (bs := bytesLE w (v c)) (a := a + c * w) fun j hj => by
    rw [length_bytesLE] at hj
    have hend : c * w + w ≤ cols * w := by
      rw [← Nat.succ_mul]
      exact Nat.mul_le_mul_right w hc
    rw [hbyte, if_pos (by omega), show a + c * w + j - a = c * w + j by omega, getD_flatMap_bytesLE w _ (by simpa using hc) hj,
      List.getElem_map, List.getElem_range, List.getD_eq_getElem]
  rwa [length_bytesLE] at hrow

section
variable {n : Nat} {t : Tile} {w : Nat}

/-- The element (r, c) of a tile whose elements are w whole bytes. -/
def Tile.elementAddr (t : Tile) (n w r c : Nat) : Nat := hoopAddr n (t.base + r * t.stride) + c * w

/-- The rows r₀ to r₀ + k − 1 of a tile, written with the values of a table. -/
structure RowsWritten (s u : State) (n : Nat) (t : Tile) (w cols r₀ k : Nat) (v : Nat → Nat → Nat) : Prop where
  onlyMem : OnlyMem s u
  element : ∀ r, r₀ ≤ r → r < r₀ + k → ∀ c < cols, u.bytesAt (t.elementAddr n w r c) w = bytesLE w (v r c)
  kept : ∀ x, (∀ r, r₀ ≤ r → r < r₀ + k → ¬(t.elementAddr n w r 0 ≤ x ∧ x < t.elementAddr n w r cols)) →
    u.byteAt x = s.byteAt x

theorem State.writeRows_written (s : State) {cols : Nat} (hw : formatBits t.format / 8 = w) (hfit : cols * w ≤ t.stride)
    (v : Nat → Nat → Nat) (r₀ k : Nat) :
    RowsWritten s (s.writeRows n t ((List.range' r₀ k).map fun r => (List.range cols).map (v r)) r₀) n t w cols r₀ k v := by
  induction k generalizing s r₀ with
  | zero => exact ⟨OnlyMem.refl s, fun r _ _ => by omega, fun _ _ => rfl⟩
  | succ k ih =>
    obtain ⟨honly, hrow, hkept⟩ := s.store_row (hoopBase_le_hoopAddr n (t.base + r₀ * t.stride)) w cols (v r₀)
    rw [List.range'_succ, List.map_cons, State.writeRows, rowBytesOf, hw]
    generalize s.store _ _ [] = u at honly hrow hkept ⊢
    have hrest := ih u (r₀ + 1)
    have hbelow : ∀ r, r₀ + 1 ≤ r → t.elementAddr n w r₀ cols ≤ t.elementAddr n w r 0 := fun r hr => by
      have := Nat.mul_le_mul_right t.stride hr
      rw [Nat.succ_mul] at this
      simp only [Tile.elementAddr, hoopAddr]
      omega
    have hlast : ∀ r c, c < cols → t.elementAddr n w r c + w ≤ t.elementAddr n w r cols := fun r c hc => by
      have := Nat.mul_le_mul_right w (Nat.succ_le_of_lt hc)
      rw [Nat.succ_mul] at this
      simp only [Tile.elementAddr]
      omega
    refine ⟨honly.trans hrest.onlyMem, fun r hlo hhi c hc => ?_, fun x hx => ?_⟩
    · by_cases hr : r = r₀
      · subst hr
        have hnow : u.bytesAt (t.elementAddr n w r c) w = bytesLE w (v r c) := by simpa [Tile.elementAddr] using hrow c hc
        rw [← hnow]
        refine State.bytesAt_congr fun j hj => hrest.kept _ fun r' hlo' _ hin => ?_
        have := hbelow r' hlo'
        have := hlast r c hc
        omega
      · exact hrest.element r (by omega) (by omega) c hc
    · rw [hrest.kept x fun r hlo hhi => hx r (by omega) (by omega), hkept x]
      simpa [Tile.elementAddr] using hx r₀ le_rfl (by omega)

/-- An element that fills whole bytes is the number of its bytes. -/
theorem State.element_bytes (s : State) (hw : formatBits t.format = 8 * w) (r c : Nat) :
    s.element n t r c = natLE (s.bytesAt (t.elementAddr n w r c) w) := by
  have hlt := natLE_lt (s.bytesAt (t.elementAddr n w r c) w)
  rw [State.length_bytesAt, show 256 = 2 ^ 8 by rfl, ← pow_mul] at hlt
  have hbits : c * (8 * w) = 8 * (c * w) := by ring
  have haddr : hoopAddr n (t.base + r * t.stride + c * w) = t.elementAddr n w r c := by
    simp only [hoopAddr, Tile.elementAddr]
    omega
  simp only [State.element]
  rw [hw, hbits, Nat.mul_div_cancel_left _ (by decide), Nat.mul_mod_right, haddr, show (0 + 8 * w + 7) / 8 = w by omega, pow_zero,
    Nat.div_one, Nat.mod_eq_of_lt hlt]

theorem Tile.rowBytes_of_whole (hw : formatBits t.format = 8 * w) : t.rowBytes = t.cols * w := by
  have hbits : t.cols * (8 * w) = 8 * (t.cols * w) := by ring
  unfold Tile.rowBytes
  rw [hw, hbits]
  omega

end

end Sys2Proof.Machine
end

section
/-! SUPPORT. The matrix engine's state: its queue, the registers that its commands write, and the accumulators of its lanes
(R89, R105, R131, R145). -/

namespace Sys2Proof.Machine

open Claims

/-! ### Engine queues -/

section
variable (s : State)

theorem State.queue_setQueue (n e m f : Nat) (q : List QEntry) :
    (s.setQueue n e q).queue m f = if 4 * m + f = 4 * n + e then q else s.queue m f := Sparse.get_set _ _ _ _ _

theorem State.changes_setQueue (n e : Nat) (q : List QEntry) :
    Changes [.core] (· = Reg.QUEUE_STATUS n e) s (s.setQueue n e q) :=
  ((Changes.setCore s _).mono (fun _ => id) fun _ => False.elim).trans
    (((Changes.setFld _ _ _ _).trans (Changes.setFld _ _ _ _)).mono (by simp) fun _ => id)

theorem State.rd_setQueue_ne {n e off : Nat} (q : List QEntry) (h : off ≠ Reg.QUEUE_STATUS n e) :
    (s.setQueue n e q).rd off = s.rd off := (State.rd_setFld_ne _ _ _ h).trans (State.rd_setFld_ne _ _ _ h)

end

section
variable {s r t : State} {n : Fin 128} {e : Nat} {x y : QEntry}

/-- Where a command ends in the replacement of x by y, which keeps its number, no other command has changed. -/
theorem replaces_of_putEntryQ (hcore : t.core = (r.putEntryQ n e y).core) (hqueues : r.core.queues = s.core.queues)
    (huid : y.uid = x.uid) (he : e < 4) : Replaces s t n e x y := by
  have hqueue : ∀ m f, t.queue m f = if 4 * m + f = 4 * n + e then (s.queue n e).map fun z => if z.uid = x.uid then y else z
      else s.queue m f := fun m f => by
    have hkept : ∀ m f, r.queue m f = s.queue m f := fun m f => by rw [State.queue, State.queue, hqueues]
    rw [State.queue, hcore, ← State.queue, State.putEntryQ, State.queue_setQueue, hkept, hkept, huid]
  refine ⟨by rw [hqueue, if_pos rfl], fun m f hne => ?_⟩
  rw [hqueue, if_neg fun h => hne ⟨Fin.ext (by omega), by omega⟩]

/-- A front command that may start is the one that starts (R89). -/
theorem startable_of_mayStart {op : Nat} (h : MayStart s n e x op) : s.startable n e (isOp op) = some x := by
  obtain ⟨hfront, hruns, hstate, hroom, htag, hwait, hop⟩ := h
  have heligible : s.eligible n e x = true := by
    unfold State.eligible State.inFlight
    rw [hruns, hstate, decide_eq_true hroom]
    cases hx : x.tag with
    | none => rfl
    | some p => exact decide_eq_true (htag p.1 p.2 hx)
  have hholds : s.waitHolds x = true := by
    obtain hnone | ⟨hsound, hmet⟩ := hwait
    · simp [State.waitHolds, QEntry.waits, hnone]
    · simp [State.waitHolds, hsound, hmet]
  simp only [State.startable, State.frontWaiting, hfront, heligible, hholds, isOp, hop, beq_self_eq_true, Bool.and_self, if_true]

/-- The head of the matrix queue, started and with work left, works (R89). -/
theorem headWork_of_matrixHead {op : Nat} (h : MatrixHead s n x op) : s.headWork n 0 op = some x := by
  obtain ⟨hruns, ⟨rest, hqueue⟩, hstarted, hwork, hspill, hop, _⟩ := h
  simp only [State.headWork, hqueue, hruns, hstarted, hwork, hspill, isOp, hop, beq_self_eq_true, Bool.not_false, Bool.and_self,
    if_true]

theorem startable_of_matrixHead {op : Nat} (h : MatrixHead s n x op) : s.startable n 0 (isOp op) = none := by
  obtain ⟨_, _, _, _, _, _, hnone⟩ := h
  exact hnone

theorem matrixWork_of_matrixHead {op : Nat} (h : MatrixHead s n x op) (f : QEntry → State → State) :
    s.matrixWork n op f = f x s := by
  simp only [State.matrixWork, startable_of_matrixHead h, headWork_of_matrixHead h]

end

/-! ### The accumulators -/

/-- The two accumulators of a lane are the same in two states. -/
def SameLane (s t : State) (m r c : Nat) : Prop := t.wideAt m r c = s.wideAt m r c ∧ t.narrowAt m r c = s.narrowAt m r c

theorem SameLane.trans {s t u : State} {m r c : Nat} (h : SameLane s t m r c) (g : SameLane t u m r c) : SameLane s u m r c :=
  ⟨g.1.trans h.1, g.2.trans h.2⟩

/-- From s to t the accumulators alone have changed, and `MX.FLAGS` of core n. -/
structure OnlyLanes (n : Nat) (s t : State) : Prop where
  state : t = { s with regs := t.regs, core := { s.core with wide := t.core.wide, narrow := t.core.narrow } }
  rd : ∀ off, off ≠ Reg.MX_FLAGS n → t.rd off = s.rd off

namespace OnlyLanes

variable {n : Nat} {s t u : State}

theorem refl (n : Nat) (s : State) : OnlyLanes n s s := ⟨rfl, fun _ _ => rfl⟩

theorem trans (h : OnlyLanes n s t) (g : OnlyLanes n t u) : OnlyLanes n s u :=
  ⟨by rw [g.state, h.state], fun off ho => (g.rd off ho).trans (h.rd off ho)⟩

theorem mem (h : OnlyLanes n s t) : t.mem = s.mem := by rw [h.state]

theorem queues (h : OnlyLanes n s t) : t.core.queues = s.core.queues := by rw [h.state]

theorem changes (h : OnlyLanes n s t) : Changes [.core] (· = Reg.MX_FLAGS n) s t := by
  refine ⟨fun p hp => ?_, fun off _ ho => h.rd off ho, fun _ _ _ => by rw [h.mem]⟩
  rw [h.state]
  cases p with
  | core => exact absurd (List.mem_singleton_self _) hp
  | config => exact fun _ => rfl
  | _ => rfl

theorem setWide (s : State) (n r c : Nat) (v : W32) : OnlyLanes n s (s.setWide n r c v) := ⟨rfl, fun _ _ => rfl⟩

theorem setNarrow (s : State) (n r c : Nat) (xs : List Narrow) : OnlyLanes n s (s.setNarrow n r c xs) :=
  ⟨rfl, fun _ _ => rfl⟩

theorem clearNarrow (s : State) (n : Nat) : OnlyLanes n s (s.clearNarrow n) := ⟨rfl, fun _ _ => rfl⟩

theorem mxFlags (s : State) (n : Nat) (f : Flags) : OnlyLanes n s (s.mxFlags n f) := ⟨rfl, fun _ ho => State.rd_wr_ne s _ ho⟩

theorem setAllWide (s : State) (n : Nat) (f : Nat → W32) : OnlyLanes n s (s.setAllWide n f) := by
  unfold State.setAllWide
  generalize 512 = k
  exact iterate_invariant (fun _ t => OnlyLanes n s t) (refl n s) fun i _ _ _ h => h.trans (setWide _ n _ _ (f i))

end OnlyLanes

section
variable (s : State) {n m r c i j : Nat}

theorem State.wideAt_setWide (v : W32) : (s.setWide n r c v).wideAt m i j
    = if 512 * m + 16 * i + j = 512 * n + 16 * r + c then v else s.wideAt m i j := Sparse.get_set _ _ _ _ _

theorem State.wideAt_clearNarrow (n m i j : Nat) : (s.clearNarrow n).wideAt m i j = s.wideAt m i j := rfl

/-- Lane (i, j) of a core after every accumulator of core n was set by its lane number. -/
theorem State.wideAt_setAllWide (f : Nat → W32) (hi : i < 32) (hj : j < 16) :
    (s.setAllWide n f).wideAt m i j = if m = n then f (16 * i + j) else s.wideAt m i j := by
  have hall := iterate_invariant (f := fun k t => t.setWide n (k / 16) (k % 16) (f k)) (n := 512) (base := 0) (s := s)
    (fun k t => t.wideAt m i j = if m = n ∧ 16 * i + j < k then f (16 * i + j) else s.wideAt m i j) (by simp)
    fun k t _ hk ht => by
      rw [State.wideAt_setWide, ht]
      by_cases hkey : 512 * m + 16 * i + j = 512 * n + 16 * (k / 16) + k % 16
      · obtain ⟨hm, hlane⟩ : m = n ∧ 16 * i + j = k := by omega
        rw [if_pos hkey, if_pos ⟨hm, hlane ▸ Nat.lt_succ_self k⟩, hlane]
      · rw [if_neg hkey]
        have : (m = n ∧ 16 * i + j < k + 1) ↔ (m = n ∧ 16 * i + j < k) := by omega
        simp only [this]
  refine hall.trans (if_congr ?_ rfl rfl)
  omega

theorem State.narrowAt_setNarrow_ne (xs : List Narrow) (h : 512 * m + 16 * i + j ≠ 512 * n + 16 * r + c) :
    (s.setNarrow n r c xs).narrowAt m i j = s.narrowAt m i j := by
  refine List.map_congr_left fun k hk => ?_
  have hk := List.mem_range.1 hk
  have hset : ∀ (table : Sparse Narrow) (l : Nat) (v : Narrow), l < 3 →
      Sparse.get (fun _ => ({} : Narrow)) (Sparse.set (fun _ => {}) table (3 * (512 * n + 16 * r + c) + l) v)
        (3 * (512 * m + 16 * i + j) + k) = Sparse.get (fun _ => {}) table (3 * (512 * m + 16 * i + j) + k) :=
    fun table l v hl => Sparse.get_set_ne _ _ _ _ (by omega)
  exact ((hset _ 2 _ (by decide)).trans (hset _ 1 _ (by decide))).trans (hset _ 0 _ (by decide))

/-- The narrow accumulators of a core are empty once they are dropped. -/
theorem State.narrowAt_clearNarrow (hr : r < 32) (hc : c < 16) : (s.clearNarrow n).narrowAt n r c = [{}, {}, {}] := by
  have hdrop : ∀ k < 3, Sparse.get (fun _ => ({} : Narrow)) (s.clearNarrow n).core.narrow (3 * (512 * n + 16 * r + c) + k) = {} :=
    fun k hk => (Sparse.get_drop _ _ _ _).trans (if_pos (beq_iff_eq.2 (by omega)))
  exact List.map_congr_left (g := fun _ => ({} : Narrow)) fun k hk => hdrop k (List.mem_range.1 hk)

end

/-! ### What the records of a command leave of the engine -/

theorem State.wideAt_congr {s t : State} (h : t.core = s.core) (m i j : Nat) : t.wideAt m i j = s.wideAt m i j := by
  rw [State.wideAt, State.wideAt, h]

theorem State.byteAt_congr {s t : State} (h : t.mem = s.mem) (a : Nat) : t.byteAt a = s.byteAt a := by
  rw [State.byteAt, State.byteAt, h]

theorem State.wideAt_putEntryQ (s : State) (n e : Nat) (y : QEntry) (m i j : Nat) :
    (s.putEntryQ n e y).wideAt m i j = s.wideAt m i j :=
  congrArg (fun w => Sparse.get (fun _ => (0 : W32)) w _) (show (s.putEntryQ n e y).core.wide = s.core.wide from rfl)

theorem State.byteAt_putEntryQ (s : State) (n e : Nat) (y : QEntry) (a : Nat) : (s.putEntryQ n e y).byteAt a = s.byteAt a :=
  State.byteAt_congr (show (s.putEntryQ n e y).mem = s.mem from rfl) a

section
variable {r t : State} (h : EventsOnly r t)

include h

theorem EventsOnly.wideAt (m i j : Nat) : t.wideAt m i j = r.wideAt m i j := State.wideAt_congr h.core m i j

theorem EventsOnly.byteAt (a : Nat) : t.byteAt a = r.byteAt a := by rw [State.byteAt, State.byteAt, h.mem]

end

/-! ### The registers of the matrix engine -/

theorem matrixRegs_not_record {n off : Nat} (h : MatrixRegs n off) : ¬RecordBlock off := by
  refine not_recordBlock_core (n := n) ?_
  simp only [MatrixRegs, Reg.QUEUE_STATUS, Reg.MX_GROUP_CYCLES, Reg.MX_STALL_CYCLES, Reg.MX_FLAGS, Reg.MX_SPILL_RECORD] at h
  omega

theorem groupCycles_apart (n : Nat) : Reg.MX_GROUP_CYCLES n ≠ Reg.QUEUE_STATUS n 0
    ∧ Reg.MX_GROUP_CYCLES n ≠ Reg.MX_STALL_CYCLES n ∧ Reg.MX_GROUP_CYCLES n ≠ Reg.MX_FLAGS n := by
  simp [Reg.QUEUE_STATUS, Reg.MX_GROUP_CYCLES, Reg.MX_STALL_CYCLES, Reg.MX_FLAGS]

theorem spillRecord_apart (n : Nat) : Reg.MX_SPILL_RECORD n ≠ Reg.QUEUE_STATUS n 0
    ∧ Reg.MX_SPILL_RECORD n ≠ Reg.MX_STALL_CYCLES n := by
  simp [Reg.QUEUE_STATUS, Reg.MX_STALL_CYCLES, Reg.MX_SPILL_RECORD]

theorem stitchCount_not_matrixRegs (n : Nat) : ¬MatrixRegs n Reg.TICK_STITCH_COUNT := by
  have := coreBase_ge n
  simp only [MatrixRegs, Reg.TICK_STITCH_COUNT, Reg.QUEUE_STATUS, Reg.MX_GROUP_CYCLES, Reg.MX_STALL_CYCLES, Reg.MX_FLAGS,
    Reg.MX_SPILL_RECORD]
  omega

/-! ### The frame of a matrix command -/

section
variable {s r : State} {n : Fin 128} {parts : List Part}

theorem OnlyLanes.matrixChanges (h : OnlyLanes n s r) : Changes [.core] (MatrixRegs n) s r :=
  h.changes.mono (fun _ => id) fun _ => .inr ∘ .inr ∘ .inr ∘ .inl

theorem OnlyMem.matrixChanges (h : OnlyMem s r) (n : Nat) : Changes [.core, .mem] (MatrixRegs n) s r :=
  h.changes.mono (by simp) fun _ => False.elim

/-- The replacement of a command in the matrix queue is in the frame of a matrix command. -/
theorem changes_putEntryQ (h : Changes parts (MatrixRegs n) s r) (hcore : .core ∈ parts) (y : QEntry) :
    Changes parts (MatrixRegs n) s (r.putEntryQ n 0 y) :=
  h.trans ((State.changes_setQueue r n 0 _).mono (by simpa using hcore) fun _ => .inl)

end

end Sys2Proof.Machine
end

section
/-! MATRIX_PASS (R131 to R138, R147): its start, and one step of the lanes. -/

namespace Sys2Proof.Proofs

open Machine Claims

/-! ### The lanes of a step -/

/-- The lane (r, c) after a step whose operands are the rows a and b. -/
def laneOut (s : State) (n mode p count : Nat) (last : Bool) (a b : List MxOperand) (r c : Nat) : Lane :=
  let y := Lane.run { narrow := s.narrowAt n r c, wide := s.wideAt n r c, count := count } mode p (groupsOf mode a.length) (a.zip b)
  if last && y.count != 0 then y.promote mode else y

section
variable {s t : State} {n mode p count : Nat} {last : Bool}

theorem laneOut_congr {r c : Nat} (h : SameLane s t n r c) (a b : List MxOperand) :
    laneOut t n mode p count last a b r c = laneOut s n mode p count last a b r c := by
  simp only [laneOut, h.1, h.2]

theorem laneStep_eq (s : State) (a b : List MxOperand) (r c : Nat) :
    let z := laneOut s n mode p count last a b r c
    s.laneStep n mode p count last a b r c = ((s.setWide n r c z.wide).setNarrow n r c z.narrow).mxFlags n z.flags := rfl

/-- From s to t the lanes of core n that a test names took the step, and no other lane changed. -/
structure LanesTaken (s t : State) (n mode p count : Nat) (last : Bool) (A B : Nat → List MxOperand) (on : Nat → Nat → Prop) :
    Prop where
  only : OnlyLanes n s t
  wide : ∀ r < 32, ∀ c < 16, on r c → t.wideAt n r c = (laneOut s n mode p count last (A r) (B c) r c).wide
  same : ∀ m, ∀ r < 32, ∀ c < 16, ¬(m = n ∧ on r c) → SameLane s t m r c

variable {A B : Nat → List MxOperand} {on on' : Nat → Nat → Prop}

theorem LanesTaken.none (s : State) (h : ∀ r c, ¬on r c) : LanesTaken s s n mode p count last A B on :=
  ⟨OnlyLanes.refl n s, fun r _ c _ hon => absurd hon (h r c), fun _ _ _ _ _ _ => ⟨rfl, rfl⟩⟩

/-- Steps of lanes that are not the same lanes, one after the other. -/
theorem LanesTaken.trans {u : State} (h : LanesTaken s t n mode p count last A B on)
    (g : LanesTaken t u n mode p count last A B on') (hapart : ∀ r c, on r c → ¬on' r c) :
    LanesTaken s u n mode p count last A B fun r c => on r c ∨ on' r c where
  only := h.only.trans g.only
  wide r hr c hc hon := by
    by_cases hfirst : on r c
    · rw [(g.same n r hr c hc fun hg => hapart r c hfirst hg.2).1, h.wide r hr c hc hfirst]
    · rw [g.wide r hr c hc (hon.resolve_left hfirst), laneOut_congr (h.same n r hr c hc fun hh => hfirst hh.2)]
  same m r hr c hc hoff := (h.same m r hr c hc fun hh => hoff ⟨hh.1, .inl hh.2⟩).trans
    (g.same m r hr c hc fun hg => hoff ⟨hg.1, .inr hg.2⟩)

theorem LanesTaken.of_iff (h : LanesTaken s t n mode p count last A B on) (hon : ∀ r c, on' r c ↔ on r c) :
    LanesTaken s t n mode p count last A B on' := by
  obtain rfl : on' = on := funext fun r => funext fun c => propext (hon r c)
  exact h

/-- One lane takes the step. -/
theorem laneStep_taken (s : State) (A B : Nat → List MxOperand) {r c : Nat} (hr : r < 32) (hc : c < 16) :
    LanesTaken s (s.laneStep n mode p count last (A r) (B c) r c) n mode p count last A B fun i j => i = r ∧ j = c := by
  rw [laneStep_eq]
  generalize hz : laneOut s n mode p count last (A r) (B c) r c = z
  have hkey : ∀ m, ∀ i < 32, ∀ j < 16, ¬(m = n ∧ i = r ∧ j = c) → 512 * m + 16 * i + j ≠ 512 * n + 16 * r + c := by omega
  have hwide : ∀ m i j, (((s.setWide n r c z.wide).setNarrow n r c z.narrow).mxFlags n z.flags).wideAt m i j
      = if 512 * m + 16 * i + j = 512 * n + 16 * r + c then z.wide else s.wideAt m i j := fun m i j => s.wideAt_setWide z.wide
  refine ⟨((OnlyLanes.setWide ..).trans (.setNarrow ..)).trans (.mxFlags ..), fun i _ j _ hon => ?_,
    fun m i hi j hj hoff => ⟨?_, ?_⟩⟩
  · obtain ⟨rfl, rfl⟩ := hon
    rw [hwide, if_pos rfl, hz]
  · rw [hwide, if_neg (hkey m i hi j hj hoff)]
  · exact State.narrowAt_setNarrow_ne _ z.narrow (hkey m i hi j hj hoff)

/-- The lanes of row r, from column c up. -/
theorem rowStep_taken (s : State) (A B : Nat → List MxOperand) {r : Nat} (hr : r < 32) {c k : Nat} (hc : c + k ≤ 16) :
    LanesTaken s (s.rowStep n mode p count last (A r) r ((List.range' c k).map B) c) n mode p count last A B
      fun i j => i = r ∧ c ≤ j ∧ j < c + k := by
  induction k generalizing s c with
  | zero => exact .none s (by omega)
  | succ k ih =>
    rw [List.range'_succ, List.map_cons, State.rowStep]
    exact ((laneStep_taken s A B hr (by omega)).trans (ih _ (by omega)) (by omega)).of_iff (by omega)

/-- The lanes of a step, from row r up. -/
theorem lanesStep_taken (s : State) (A B : Nat → List MxOperand) {r k cols : Nat} (hr : r + k ≤ 32) (hcols : cols ≤ 16) :
    LanesTaken s (s.lanesStep n mode p count last ((List.range' 0 cols).map B) ((List.range' r k).map A) r) n mode p count last A B
      fun i j => r ≤ i ∧ i < r + k ∧ j < cols := by
  induction k generalizing s r with
  | zero => exact .none s (by omega)
  | succ k ih =>
    rw [List.range'_succ, List.map_cons, State.lanesStep]
    exact ((rowStep_taken s A B (by omega) (by omega)).trans (ih _ (by omega)) (by omega)).of_iff (by omega)

end

/-! ### The start of a step -/

/-- The accumulators as the step takes them: the first step of a pass without ACCUMULATE clears them (R131). -/
def freshLanes (s : State) (n : Nat) (x : QEntry) : State :=
  if x.steps = 0 ∧ cmdField x.cmd 27 1 = 0 then (s.setAllWide n (fun _ => 0)).clearNarrow n else s

section
variable {s : State} {n : Nat} {x : QEntry}

theorem freshLanes_only (s : State) (n : Nat) (x : QEntry) : OnlyLanes n s (freshLanes s n x) := by
  unfold freshLanes
  split
  · exact (OnlyLanes.setAllWide ..).trans (.clearNarrow ..)
  · exact .refl n s

theorem wideAt_freshLanes {r c : Nat} (hr : r < 32) (hc : c < 16) (m : Nat) : (freshLanes s n x).wideAt m r c
    = if m = n ∧ x.steps = 0 ∧ cmdField x.cmd 27 1 = 0 then 0 else s.wideAt m r c := by
  unfold freshLanes
  by_cases hfresh : x.steps = 0 ∧ cmdField x.cmd 27 1 = 0
  · rw [if_pos hfresh]
    rw [State.wideAt_clearNarrow, s.wideAt_setAllWide _ hr hc]
    exact if_congr (by simp only [hfresh, and_self, and_true]) rfl rfl
  · rw [if_neg hfresh, if_neg fun h => hfresh h.2]

theorem narrowAt_freshLanes {r c : Nat} (hr : r < 32) (hc : c < 16) : (freshLanes s n x).narrowAt n r c
    = if x.steps = 0 ∧ cmdField x.cmd 27 1 = 0 then [{}, {}, {}] else s.narrowAt n r c := by
  unfold freshLanes
  split
  · exact State.narrowAt_clearNarrow _ hr hc
  · rfl

theorem operandRow_congr {t : State} (h : t.mem = s.mem) (n : Nat) (tile : Tile) (r : Nat) :
    t.operandRow n tile r = s.operandRow n tile r := by
  have hbyte : t.byteAt = s.byteAt := funext (State.byteAt_congr h)
  simp only [State.operandRow, State.element, State.scaleOf, State.bytesAt, hbyte]

/-- The lane of a step, from the accumulators as the step takes them, is the lane of R131 to R139. -/
theorem laneOut_freshLanes {n : Fin 128} (ta tb : Tile) (last : Bool) {r c : Nat} (hr : r < 32) (hc : c < 16) :
    laneOut (freshLanes s n x) n (passMode x) x.promote (x.groups % x.promote) last (s.operandRow n ta r) (s.operandRow n tb c) r c
      = laneAfter s n x ta tb last r c := by
  have hlength : (s.operandRow n ta r).length = ta.cols := by simp [State.operandRow]
  simp only [laneOut, laneAfter, wideAt_freshLanes hr hc, narrowAt_freshLanes hr hc, hlength, true_and, Bool.and_eq_true,
    decide_eq_true_eq, bne_iff_ne]

end

/-! ### One step -/

/-- The registers of a pass count the groups and the cycles of a step (R155). -/
def countGroups (s : State) (n : Nat) (x : QEntry) (g : Nat) : State :=
  let cycles := g * if passMode x = 3 then 3 else 1
  (s.addWrap (Reg.MX_GROUP_CYCLES n) cycles).addWrap (Reg.MX_STALL_CYCLES n) (if x.promote = 1 then cycles else 0)

/-- The lanes after a step on operand tiles. -/
def lanesAfter (s : State) (n : Nat) (x : QEntry) (ta tb : Tile) : State :=
  (freshLanes s n x).lanesStep n (passMode x) x.promote (x.groups % x.promote) x.stepPorts.2
    ((List.range' 0 tb.rows).map (s.operandRow n tb)) ((List.range' 0 ta.rows).map (s.operandRow n ta)) 0

/-- The state after a step on operand tiles, but for the queue. -/
def steppedPass (s : State) (n : Nat) (x : QEntry) (ta tb : Tile) : State :=
  countGroups (lanesAfter s n x ta tb) n x (groupsOf (passMode x) ta.cols)

section
variable {s : State} {n : Fin 128} {x : QEntry} {ta tb : Tile}

/-- The entry of a pass after a step (R147). -/
def entryAfter (x : QEntry) (g stitch : Nat) : QEntry :=
  { x.stepPorts.1 with groups := x.groups + g, workDone := x.stepPorts.2, spillDue := x.duesSpill (x.groups + g) stitch }

theorem passStep_clean (ha : stepTile (x.tile (cmdField x.cmd 6 6)) 0 (portAddress x.s0) = .ok ta)
    (hb : stepTile (x.tile (cmdField x.cmd 12 6)) 1 (portAddress x.s1) = .ok tb)
    (hclean : CleanSpans s (ta.spans n ++ tb.spans n)) :
    s.passStep n x = (steppedPass s n x ta tb).putEntryQ n 0
      (entryAfter x (groupsOf (passMode x) ta.cols) (steppedPass s n x ta tb).stitch) := by
  have hload : s.loadSpans (s.coreTenant n) .urgent (ta.spans n ++ tb.spans n) = (s, false) :=
    State.loadSpans_clean _ _ (fun p hp => (List.mem_append.1 hp).elim (ta.hoopBase_le_spans n p) (tb.hoopBase_le_spans n p)) hclean
  have hrow : ∀ tile r, (freshLanes s n x).operandRow n tile r = s.operandRow n tile r :=
    operandRow_congr (freshLanes_only s n x).mem n
  have hfresh : (if x.steps = 0 ∧ cmdField x.cmd 27 1 = 0 then (s.setAllWide n (fun _ => 0)).clearNarrow n else s)
      = freshLanes s n x := rfl
  unfold State.passStep
  simp only [ha, hb, hload, Bool.false_eq_true, if_false, hfresh, List.range_eq_range', funext (hrow _)]
  rfl

end

/-! ### The start of a pass (R89, R136, R147) -/

/-- The entry of a pass as it starts, with what it samples (R89). -/
def sampledPass (s : State) (n : Nat) (x : QEntry) : QEntry :=
  { x with promote := s.effectiveP n x, spillPeriod := s.fld (Reg.MX_SPILL n) Fl.MX_SPILL_STITCHES, startStitch := s.stitch,
           threshold := s.stitch + s.fld (Reg.MX_SPILL n) Fl.MX_SPILL_STITCHES }

section
variable {s : State} {n : Fin 128} {x : QEntry}

theorem exec_matrixPass (k : Nat) (s : State) : exec (.matrixPass n k) s = execMatrixPass n k s := rfl

theorem exec_matrixPass_starting (h : s.begin.startable n 0 (isOp 2) = some x) (k : Nat) :
    exec (.matrixPass n k) s = finish ((s.begin.startPass n x).passSteps n k) := by
  simp only [exec_matrixPass, execMatrixPass, h]

theorem exec_matrixPass_working (h : s.begin.startable n 0 (isOp 2) = none) (k : Nat) :
    exec (.matrixPass n k) s = finish (s.begin.passSteps n k) := by
  simp only [exec_matrixPass, execMatrixPass, h]

/-- A pass without spills, or with a right spill tile, starts; with spills on, the record is no longer valid (R147). -/
theorem startPass_samples (h : s.fld (Reg.MX_SPILL n) Fl.MX_SPILL_STITCHES = 0 ∨ (x.tile (cmdField x.cmd 18 6)).isSpill = true) :
    ∃ r, Changes [] (MatrixRegs n) s r ∧ s.startPass n x = r.startCmd n 0 (sampledPass s n x) := by
  have hright : ¬(s.fld (Reg.MX_SPILL n) Fl.MX_SPILL_STITCHES ≠ 0 ∧ (x.tile (cmdField x.cmd 18 6)).isSpill = false) := by
    rintro ⟨hperiod, hwrong⟩
    exact h.elim hperiod fun hspill => Bool.noConfusion (hspill.symm.trans hwrong)
  simp only [State.startPass, if_neg hright]
  refine ⟨_, ?_, rfl⟩
  split
  · exact Changes.refl ..
  · exact (Changes.setFld ..).mono (fun _ => id) fun _ => .inr ∘ .inr ∘ .inr ∘ .inr

/-- MATRIX_PASS that makes no step starts the front pass. -/
theorem matrixPass_starts (hmay : MayStart s n 0 x 2)
    (hspill : s.fld (Reg.MX_SPILL n) Fl.MX_SPILL_STITCHES = 0 ∨ (x.tile (cmdField x.cmd 18 6)).isSpill = true) :
    Does s (.matrixPass n 0) [.core] (MatrixRegs n) fun t =>
      Replaces s t n 0 x { sampledPass s n x with started := true, waitSince := none } := by
  obtain ⟨r, hchanges, hstart⟩ := startPass_samples (s := s.begin) hspill
  have hexec : exec (.matrixPass n 0) s = finish (s.begin.startPass n x) :=
    exec_matrixPass_starting (startable_of_mayStart (s := s.begin) hmay) 0
  have hcore : r.core = s.core := hchanges.1 .core (by simp)
  refine does_of_finish (hexec.trans (congrArg finish hstart))
    (changes_putEntryQ (hchanges.of_begin.mono (by simp) fun _ => id) (by simp) _) fun t ht => ?_
  exact replaces_of_putEntryQ ht.core (congrArg (·.queues) hcore) rfl (by decide)

end

/-! ### A step of a pass -/

section
variable {s : State} {n : Fin 128} {x : QEntry} {ta tb : Tile}

theorem countGroups_changes (s : State) (n : Nat) (x : QEntry) (g : Nat) : Changes [] (MatrixRegs n) s (countGroups s n x g) :=
  ((Changes.wr s _ _).mono (fun _ => id) fun _ => .inr ∘ .inl).trans
    ((Changes.wr _ _ _).mono (fun _ => id) fun _ => .inr ∘ .inr ∘ .inl)

/-- GROUP_CYCLES counts the cycles of a step modulo 2^64 (R155). -/
theorem groupCycles_countGroups (s : State) (n : Nat) (x : QEntry) (g : Nat) :
    ((countGroups s n x g).rd (Reg.MX_GROUP_CYCLES n)).toNat
      = ((s.rd (Reg.MX_GROUP_CYCLES n)).toNat + g * if passMode x = 3 then 3 else 1) % 2 ^ 64 := by
  unfold countGroups State.addWrap
  rw [State.rd_wr_ne _ _ (groupCycles_apart n).2.1, State.rd_wr_same, BitVec.toNat_add, BitVec.toNat_ofNat, Nat.add_mod_mod]

theorem lanesAfter_taken (s : State) (n : Nat) (x : QEntry) (ha : ta.rows ≤ 32) (hb : tb.rows ≤ 16) :
    LanesTaken (freshLanes s n x) (lanesAfter s n x ta tb) n (passMode x) x.promote (x.groups % x.promote) x.stepPorts.2
      (s.operandRow n ta) (s.operandRow n tb) fun r c => 0 ≤ r ∧ r < 0 + ta.rows ∧ c < tb.rows :=
  lanesStep_taken (freshLanes s n x) (s.operandRow n ta) (s.operandRow n tb) (by omega) hb

theorem lanesAfter_only (s : State) (n : Nat) (x : QEntry) (ha : ta.rows ≤ 32) (hb : tb.rows ≤ 16) :
    OnlyLanes n s (lanesAfter s n x ta tb) := (freshLanes_only s n x).trans (lanesAfter_taken s n x ha hb).only

/-- The lanes with operands take the step (R131 to R139). -/
theorem wideAt_lanesAfter (ha : ta.rows ≤ 32) (hb : tb.rows ≤ 16) {r c : Nat} (hr : r < ta.rows) (hc : c < tb.rows) :
    (lanesAfter s n x ta tb).wideAt n r c = (laneAfter s n x ta tb x.stepPorts.2 r c).wide := by
  rw [(lanesAfter_taken s n x ha hb).wide r (by omega) c (by omega) (by omega), laneOut_freshLanes ta tb _ (by omega) (by omega)]

/-- The other lanes are cleared by the first step of a pass without ACCUMULATE, and else keep their values. -/
theorem wideAt_lanesAfter_other (ha : ta.rows ≤ 32) (hb : tb.rows ≤ 16) {m : Fin 128} {r c : Nat} (hr : r < 32) (hc : c < 16)
    (hoff : ¬(m = n ∧ r < ta.rows ∧ c < tb.rows)) : (lanesAfter s n x ta tb).wideAt m r c
      = if m = n ∧ x.steps = 0 ∧ cmdField x.cmd 27 1 = 0 then 0 else s.wideAt m r c := by
  rw [((lanesAfter_taken s n x ha hb).same m r hr c hc fun h => hoff ⟨Fin.ext h.1, by omega⟩).1, wideAt_freshLanes hr hc]
  simp only [Fin.ext_iff]

/-- The entry that a step of a pass leaves in the queue. -/
theorem entryAfter_eq (x : QEntry) (g stitch : Nat) : entryAfter x g stitch = { x.stepPorts.1 with
    groups := x.groups + g
    workDone := x.stepPorts.2
    spillDue := decide (0 < x.spillPeriod ∧ (x.groups + g) % x.promote = 0 ∧ x.threshold ≤ stitch) } := by
  have hdue : x.duesSpill (x.groups + g) stitch
      = decide (0 < x.spillPeriod ∧ (x.groups + g) % x.promote = 0 ∧ x.threshold ≤ stitch) := by
    rw [Bool.eq_iff_iff]
    simp [QEntry.duesSpill, and_assoc]
  rw [entryAfter, hdue]

section
variable (ha : ta.rows ≤ 32) (hb : tb.rows ≤ 16)

include ha hb

theorem steppedPass_changes : Changes [.core] (MatrixRegs n) s (steppedPass s n x ta tb) :=
  (lanesAfter_only s n x ha hb).matrixChanges.trans ((countGroups_changes ..).mono (by simp) fun _ => id)

theorem stitch_steppedPass : (steppedPass s n x ta tb).stitch = s.stitch :=
  congrArg BitVec.toNat ((steppedPass_changes ha hb).2.1 _ (not_recordBlock_of_lt (by decide)) (stitchCount_not_matrixRegs n))

theorem queues_steppedPass : (steppedPass s n x ta tb).core.queues = s.core.queues :=
  Eq.trans (congrArg (·.queues) ((countGroups_changes ..).1 .core (by simp))) (lanesAfter_only s n x ha hb).queues

theorem groupCycles_steppedPass : ((steppedPass s n x ta tb).rd (Reg.MX_GROUP_CYCLES n)).toNat
    = ((s.rd (Reg.MX_GROUP_CYCLES n)).toNat + groupsOf (passMode x) ta.cols * if passMode x = 3 then 3 else 1) % 2 ^ 64 := by
  rw [steppedPass, groupCycles_countGroups, (lanesAfter_only s n x ha hb).rd _ (groupCycles_apart n).2.2]

end

theorem wideAt_steppedPass (m r c : Nat) : (steppedPass s n x ta tb).wideAt m r c = (lanesAfter s n x ta tb).wideAt m r c :=
  State.wideAt_congr ((countGroups_changes ..).1 .core (by simp)) m r c

theorem exec_matrixPass_one (hhead : MatrixHead s n x 2)
    (hta : stepTile (x.tile (cmdField x.cmd 6 6)) 0 (portAddress x.s0) = .ok ta)
    (htb : stepTile (x.tile (cmdField x.cmd 12 6)) 1 (portAddress x.s1) = .ok tb) (ha : ta.rows ≤ 32) (hb : tb.rows ≤ 16)
    (hclean : CleanSpans s (ta.spans n ++ tb.spans n)) :
    exec (.matrixPass n 1) s = finish ((steppedPass s.begin n x ta tb).putEntryQ n 0
      (entryAfter x (groupsOf (passMode x) ta.cols) s.stitch)) := by
  have hstitch : (steppedPass s.begin n x ta tb).stitch = s.stitch := stitch_steppedPass (s := s.begin) ha hb
  rw [exec_matrixPass_working (startable_of_matrixHead (s := s.begin) hhead)]
  simp only [State.passSteps, headWork_of_matrixHead (s := s.begin) hhead]
  rw [passStep_clean (s := s.begin) hta htb hclean, hstitch]

/-- MATRIX_PASS makes one step of the pass at the head of the queue. -/
theorem matrixPass_steps (hhead : MatrixHead s n x 2)
    (hta : stepTile (x.tile (cmdField x.cmd 6 6)) 0 (portAddress x.s0) = .ok ta)
    (htb : stepTile (x.tile (cmdField x.cmd 12 6)) 1 (portAddress x.s1) = .ok tb) (ha : ta.rows ≤ 32) (hb : tb.rows ≤ 16)
    (hclean : CleanSpans s (ta.spans n ++ tb.spans n)) :
    Does s (.matrixPass n 1) [.core] (MatrixRegs n) fun t =>
      (∀ r < ta.rows, ∀ c < tb.rows, t.wideAt n r c = (laneAfter s n x ta tb x.stepPorts.2 r c).wide)
      ∧ (∀ r < 32, ∀ c < 16, ¬(r < ta.rows ∧ c < tb.rows) →
          t.wideAt n r c = if x.steps = 0 ∧ cmdField x.cmd 27 1 = 0 then 0 else s.wideAt n r c)
      ∧ (∀ m : Fin 128, m ≠ n → ∀ r < 32, ∀ c < 16, t.wideAt m r c = s.wideAt m r c)
      ∧ Replaces s t n 0 x (entryAfter x (groupsOf (passMode x) ta.cols) s.stitch)
      ∧ (t.rd (Reg.MX_GROUP_CYCLES n)).toNat = ((s.rd (Reg.MX_GROUP_CYCLES n)).toNat
          + groupsOf (passMode x) ta.cols * if passMode x = 3 then 3 else 1) % 2 ^ 64 := by
  refine does_of_finish (exec_matrixPass_one hhead hta htb ha hb hclean)
    (changes_putEntryQ (steppedPass_changes (s := s.begin) ha hb).of_begin (by simp) _) fun t ht => ?_
  have hlane : ∀ m r c, t.wideAt m r c = (lanesAfter s.begin n x ta tb).wideAt m r c := fun m r c => by
    rw [ht.wideAt, State.wideAt_putEntryQ, wideAt_steppedPass]
  refine ⟨fun r hr c hc => ?_, fun r hr c hc hoff => ?_, fun m hm r hr c hc => ?_, ?_, ?_⟩
  · rw [hlane]
    exact wideAt_lanesAfter ha hb hr hc
  · rw [hlane, wideAt_lanesAfter_other ha hb hr hc fun h => hoff h.2]
    exact if_congr (and_iff_right rfl) rfl rfl
  · rw [hlane, wideAt_lanesAfter_other ha hb hr hc fun h => hm h.1, if_neg fun h => hm h.1]
    rfl
  · exact replaces_of_putEntryQ ht.core (queues_steppedPass (s := s.begin) ha hb) rfl (by decide)
  · rw [ht.rd _ (matrixRegs_not_record (.inr (.inl rfl))), State.putEntryQ, State.rd_setQueue_ne _ _ (groupCycles_apart n).1]
    exact groupCycles_steppedPass (s := s.begin) ha hb

end

/-- Settles O14: the start of a pass by what it samples, and one step by the induction over its lanes. -/
theorem matrixPassSteps : Obligations.MatrixPassSteps := by
  intro s n x
  refine ⟨matrixPass_starts, fun ta tb hhead hta htb ha hb hclean => ?_⟩
  have hsteps := matrixPass_steps hhead hta htb ha hb hclean
  rwa [entryAfter_eq] at hsteps

end Sys2Proof.Proofs
end

section
/-! The accumulators out and in (R142, R143, R145, R147): MATRIX_SAVE, MATRIX_LOAD, SPILL and MATRIX_DRAIN. -/

namespace Sys2Proof.Proofs

open Machine Claims

section
variable {s r t : State} {n : Fin 128} {x : QEntry} {tile : Tile}

/-! ### The accumulators in a tile -/

/-- The rows of a tile whose elements are w whole bytes are where `InTile` says. -/
theorem inTile_of_row {w i a : Nat} (hw : formatBits tile.format = 8 * w) (hi : i < tile.rows)
    (h : tile.elementAddr n w i 0 ≤ a ∧ a < tile.elementAddr n w i tile.cols) : InTile n tile a := by
  refine ⟨i, hi, ?_⟩
  rw [Tile.rowBytes_of_whole hw]
  simpa [Tile.elementAddr] using h

/-- A tile of whole bytes is written with a table of values: its elements hold them, and no other byte changes. -/
theorem writeRows_tile (s : State) {w : Nat} (hw : formatBits tile.format = 8 * w) (hfit : tile.rowBytes ≤ tile.stride)
    (v : Nat → Nat → Nat) :
    let u := s.writeRows n tile ((List.range tile.rows).map fun i => (List.range tile.cols).map (v i)) 0
    OnlyMem s u ∧ BytesKept s u (InTile n tile)
      ∧ ∀ i < tile.rows, ∀ j < tile.cols, u.bytesAt (tile.elementAddr n w i j) w = bytesLE w (v i j) := by
  rw [Tile.rowBytes_of_whole hw] at hfit
  have hrows := s.writeRows_written (n := n) (t := tile) (w := w) (by omega) hfit v 0 tile.rows
  rw [List.range_eq_range' (n := tile.rows)]
  exact ⟨hrows.onlyMem, fun a ha => hrows.kept a fun i _ hi h => ha (inTile_of_row hw (by omega) h),
    fun i hi j hj => hrows.element i (Nat.zero_le i) (by omega) j hj⟩

theorem isSpill_iff : tile.isSpill = true ↔ tile.format = 0 ∧ tile.rows = 32 ∧ tile.cols = 16 := by
  simp [Tile.isSpill, and_assoc]

/-- An FP32 tile of 32 rows by 16 takes the accumulators bit for bit (R145). -/
theorem saveWide_holds (s : State) (n : Fin 128) (hspill : tile.isSpill = true) (hstride : 64 ≤ tile.stride) :
    OnlyMem s (s.saveWide n tile) ∧ BytesKept s (s.saveWide n tile) (InTile n tile)
      ∧ HoldsAccumulators s (s.saveWide n tile) n tile := by
  obtain ⟨hformat, hrows, hcols⟩ := isSpill_iff.1 hspill
  have hw : formatBits tile.format = 8 * 4 := by rw [hformat]; rfl
  have hfit : tile.rowBytes ≤ tile.stride := by rw [Tile.rowBytes_of_whole hw, hcols]; exact hstride
  have hwritten := writeRows_tile (n := n) s hw hfit fun i j => (s.wideAt n i j).toNat
  have hsave : s.saveWide n tile = s.writeRows n tile ((List.range tile.rows).map fun i => (List.range tile.cols).map
      fun j => (s.wideAt n i j).toNat) 0 := by
    simp only [State.saveWide, State.wideRow, hrows, hcols, List.map_map]
    rfl
  rw [← hsave] at hwritten
  obtain ⟨honly, hkept, helement⟩ := hwritten
  refine ⟨honly, hkept, fun i hi j hj => ?_⟩
  have haddr : hoopAddr n (tile.base + i * tile.stride + 4 * j) = tile.elementAddr n 4 i j := by
    simp only [hoopAddr, Tile.elementAddr]
    omega
  rw [haddr]
  exact helement i (by omega) j (by omega)

theorem holdsAccumulators_of_bytes (h : HoldsAccumulators s r n tile) (hbyte : ∀ a, t.byteAt a = r.byteAt a) :
    HoldsAccumulators s t n tile := fun i hi j hj => (State.bytesAt_congr fun _ _ => hbyte _).trans (h i hi j hj)

theorem bytesKept_of_bytes {p : Nat → Prop} (h : BytesKept s r p) (hbyte : ∀ a, t.byteAt a = r.byteAt a) : BytesKept s t p :=
  fun a ha => (hbyte a).trans (h a ha)

/-! ### MATRIX_SAVE -/

/-- The entry of a command that has made its one step. -/
def madeOne (x : QEntry) : QEntry := { x with steps := 1, workDone := true }

theorem exec_matrixSave (s : State) : exec (.matrixSave n) s = execMatrixSave n s := rfl
theorem exec_matrixLoad (s : State) : exec (.matrixLoad n) s = execMatrixLoad n s := rfl
theorem exec_matrixDrain (s : State) : exec (.matrixDrain n) s = execMatrixDrain n s := rfl
theorem exec_spill (s : State) : exec (.spill n) s = execSpill n s := rfl

theorem exec_matrixSave_head (hhead : MatrixHead s n x 4) : exec (.matrixSave n) s
    = finish ((s.begin.saveWide n (x.tile (cmdField x.cmd 18 6))).putEntryQ n 0 (madeOne x)) := by
  rw [exec_matrixSave, execMatrixSave, matrixWork_of_matrixHead (s := s.begin) hhead]
  rfl

theorem matrixSave_saves (htile : tile = x.tile (cmdField x.cmd 18 6)) (hhead : MatrixHead s n x 4) (hspill : tile.isSpill = true)
    (hstride : 64 ≤ tile.stride) :
    Does s (.matrixSave n) [.core, .mem] (MatrixRegs n) fun t => HoldsAccumulators s t n tile
      ∧ BytesKept s t (InTile n tile) ∧ (∀ r < 32, ∀ c < 16, t.wideAt n r c = s.wideAt n r c)
      ∧ Replaces s t n 0 x (madeOne x) := by
  obtain ⟨honly, hkept, hholds⟩ := saveWide_holds s.begin n hspill hstride
  have hexec := exec_matrixSave_head hhead
  rw [← htile] at hexec
  generalize s.begin.saveWide n tile = u at honly hkept hholds hexec
  have hcore : u.core = s.core := honly.core
  refine does_of_finish hexec (changes_putEntryQ (honly.matrixChanges n).of_begin (by simp) _) fun t ht => ?_
  have hbyte : ∀ a, t.byteAt a = u.byteAt a := fun a => (ht.byteAt a).trans (State.byteAt_putEntryQ ..)
  refine ⟨holdsAccumulators_of_bytes hholds hbyte, bytesKept_of_bytes hkept hbyte, fun i _ j _ => ?_, ?_⟩
  · rw [ht.wideAt, State.wideAt_putEntryQ]
    exact State.wideAt_congr hcore n i j
  · exact replaces_of_putEntryQ ht.core (congrArg (·.queues) hcore) rfl (by decide)

/-! ### MATRIX_LOAD -/

/-- The accumulators of a core with the elements of a tile, their narrow parts dropped (R145). -/
def loadedLanes (s : State) (n : Nat) (t : Tile) : State :=
  (s.setAllWide n fun i => BitVec.ofNat 32 (s.element n t (i / 16) (i % 16))).clearNarrow n

theorem loadedLanes_only (s : State) (n : Nat) (t : Tile) : OnlyLanes n s (loadedLanes s n t) :=
  (OnlyLanes.setAllWide s n _).trans (.clearNarrow _ n)

/-- Each accumulator holds the four bytes of its element. -/
theorem wideAt_loadedLanes (s : State) (n : Fin 128) (hformat : tile.format = 0) {i j : Nat} (hi : i < 32) (hj : j < 16) :
    ((loadedLanes s n tile).wideAt n i j).toNat = natLE (s.bytesAt (hoopAddr n (tile.base + i * tile.stride + 4 * j)) 4) := by
  have hw : formatBits tile.format = 8 * 4 := by rw [hformat]; rfl
  have haddr : hoopAddr n (tile.base + i * tile.stride + 4 * j) = tile.elementAddr n 4 i j := by
    simp only [hoopAddr, Tile.elementAddr]
    omega
  have hlt := natLE_lt (s.bytesAt (tile.elementAddr n 4 i j) 4)
  rw [State.length_bytesAt, show 256 ^ 4 = 2 ^ 32 by rfl] at hlt
  rw [loadedLanes, State.wideAt_clearNarrow, State.wideAt_setAllWide _ _ hi hj, if_pos rfl, BitVec.toNat_ofNat,
    show (16 * i + j) / 16 = i by omega, show (16 * i + j) % 16 = j by omega, s.element_bytes hw, haddr, Nat.mod_eq_of_lt hlt]

theorem exec_matrixLoad_clean (hhead : MatrixHead s n x 5) (hclean : CleanSpans s ((x.tile (cmdField x.cmd 6 6)).spans n)) :
    exec (.matrixLoad n) s
      = finish ((loadedLanes s.begin n (x.tile (cmdField x.cmd 6 6))).putEntryQ n 0 (madeOne x)) := by
  have hload : s.begin.loadSpans (s.begin.coreTenant n) .urgent ((x.tile (cmdField x.cmd 6 6)).spans n) = (s.begin, false) :=
    State.loadSpans_clean _ _ (Tile.hoopBase_le_spans _ n) hclean
  rw [exec_matrixLoad, execMatrixLoad, matrixWork_of_matrixHead (s := s.begin) hhead]
  simp only [hload, Bool.false_eq_true, if_false]
  rfl

theorem matrixLoad_loads (htile : tile = x.tile (cmdField x.cmd 6 6)) (hhead : MatrixHead s n x 5) (hspill : tile.isSpill = true)
    (hclean : CleanSpans s (tile.spans n)) :
    Does s (.matrixLoad n) [.core] (MatrixRegs n) fun t =>
      (∀ r < 32, ∀ c < 16, (t.wideAt n r c).toNat
        = natLE (s.bytesAt (hoopAddr n (tile.base + r * tile.stride + 4 * c)) 4))
      ∧ Replaces s t n 0 x (madeOne x) := by
  have hexec := exec_matrixLoad_clean hhead (htile ▸ hclean)
  rw [← htile] at hexec
  have hlanes := loadedLanes_only s.begin n tile
  have hwide : ∀ i < 32, ∀ j < 16, ((loadedLanes s.begin n tile).wideAt n i j).toNat
      = natLE (s.bytesAt (hoopAddr n (tile.base + i * tile.stride + 4 * j)) 4) := fun i hi j hj =>
    wideAt_loadedLanes s.begin n (isSpill_iff.1 hspill).1 hi hj
  generalize loadedLanes s.begin n tile = u at hlanes hwide hexec
  refine does_of_finish hexec (changes_putEntryQ hlanes.matrixChanges.of_begin (by simp) _) fun t ht => ⟨fun i hi j hj => ?_, ?_⟩
  · rw [ht.wideAt, State.wideAt_putEntryQ]
    exact hwide i hi j hj
  · exact replaces_of_putEntryQ ht.core hlanes.queues rfl (by decide)

/-! ### SPILL -/

/-- The record of a spill (R147). -/
def recordSpill (s : State) (n steps stitch : Nat) : State :=
  (((s.setFld (Reg.MX_SPILL_RECORD n) Fl.MX_SPILL_RECORD_STEPS steps).setFld (Reg.MX_SPILL_RECORD n) Fl.MX_SPILL_RECORD_STITCH
    stitch).setFld (Reg.MX_SPILL_RECORD n) Fl.MX_SPILL_RECORD_VALID 1).addWrap (Reg.MX_STALL_CYCLES n) 8

theorem recordSpill_changes (s : State) (n steps stitch : Nat) : Changes [] (MatrixRegs n) s (recordSpill s n steps stitch) :=
  ((((Changes.setFld s _ _ _).trans (Changes.setFld _ _ _ _)).trans (Changes.setFld _ _ _ _)).mono (fun _ => id)
    fun _ => .inr ∘ .inr ∘ .inr ∘ .inr).trans ((Changes.wr _ _ _).mono (fun _ => id) fun _ => .inr ∘ .inr ∘ .inl)

theorem fld_recordSpill (s : State) (n steps stitch : Nat) :
    (recordSpill s n steps stitch).fld (Reg.MX_SPILL_RECORD n) Fl.MX_SPILL_RECORD_VALID = 1
      ∧ (recordSpill s n steps stitch).fld (Reg.MX_SPILL_RECORD n) Fl.MX_SPILL_RECORD_STEPS = steps % 2 ^ 16
      ∧ (recordSpill s n steps stitch).fld (Reg.MX_SPILL_RECORD n) Fl.MX_SPILL_RECORD_STITCH
        = stitch % 2 ^ Fl.MX_SPILL_RECORD_STITCH.width := by
  have hstall : ∀ (u : State) (f : Fld), (u.addWrap (Reg.MX_STALL_CYCLES n) 8).fld (Reg.MX_SPILL_RECORD n) f
      = u.fld (Reg.MX_SPILL_RECORD n) f := fun u f => u.fld_wr_ne _ f (spillRecord_apart n).2
  simp only [recordSpill, hstall]
  refine ⟨?_, ?_, ?_⟩
  · exact State.fld_setFld_same _ _ _ _ (by decide)
  · rw [State.fld_setFld_disjoint _ _ _ _ _ (by decide), State.fld_setFld_disjoint _ _ _ _ _ (by decide)]
    exact State.fld_setFld_same _ _ _ _ (by decide)
  · rw [State.fld_setFld_disjoint _ _ _ _ _ (by decide)]
    exact State.fld_setFld_same _ _ _ _ (by decide)

/-- The entry of a pass whose spill was taken waits for the next threshold (R147). -/
def spilled (x : QEntry) (stitch : Nat) : QEntry :=
  { x with threshold := x.startStitch + ((stitch - x.startStitch) / x.spillPeriod + 1) * x.spillPeriod, spillDue := false }

theorem exec_spill_due {rest : List QEntry} (hqueue : s.queue n 0 = x :: rest) (hruns : s.coresRun = true) (hfailed : x.failed = none)
    (hdue : x.spillDue = true) : exec (.spill n) s = finish
      ((recordSpill (s.begin.saveWide n (x.tile (cmdField x.cmd 18 6))) n x.steps s.stitch).putEntryQ n 0 (spilled x s.stitch)) := by
  have hqueue : s.begin.queue n 0 = x :: rest := hqueue
  have hruns : s.begin.coresRun = true := hruns
  rw [exec_spill]
  simp only [execSpill, hruns, if_true, State.takeSpill, hqueue, hfailed, hdue, and_self]
  rfl

theorem spill_spills {rest : List QEntry} (htile : tile = x.tile (cmdField x.cmd 18 6)) (hqueue : s.queue n 0 = x :: rest)
    (hruns : s.coresRun = true) (hfailed : x.failed = none) (hdue : x.spillDue = true) (hspill : tile.isSpill = true)
    (hstride : 64 ≤ tile.stride) :
    Does s (.spill n) [.core, .mem] (MatrixRegs n) fun t => HoldsAccumulators s t n tile ∧ BytesKept s t (InTile n tile)
      ∧ t.fld (Reg.MX_SPILL_RECORD n) Fl.MX_SPILL_RECORD_VALID = 1
      ∧ t.fld (Reg.MX_SPILL_RECORD n) Fl.MX_SPILL_RECORD_STEPS = x.steps % 2 ^ 16
      ∧ t.fld (Reg.MX_SPILL_RECORD n) Fl.MX_SPILL_RECORD_STITCH = s.stitch % 2 ^ Fl.MX_SPILL_RECORD_STITCH.width
      ∧ Replaces s t n 0 x (spilled x s.stitch) := by
  obtain ⟨honly, hkept, hholds⟩ := saveWide_holds s.begin n hspill hstride
  have hexec := exec_spill_due hqueue hruns hfailed hdue
  rw [← htile] at hexec
  generalize s.begin.saveWide n tile = u at honly hkept hholds hexec
  obtain ⟨hvalid, hsteps, hstitch⟩ := fld_recordSpill u n x.steps s.stitch
  have hrecord := recordSpill_changes u n x.steps s.stitch
  have hcore : (recordSpill u n x.steps s.stitch).core = s.core := Eq.trans (hrecord.1 .core (by simp)) honly.core
  have hmem : (recordSpill u n x.steps s.stitch).mem = u.mem := rfl
  generalize recordSpill u n x.steps s.stitch = r at *
  refine does_of_finish hexec (changes_putEntryQ ((honly.matrixChanges n).trans
    (hrecord.mono (by simp) fun _ => id)).of_begin (by simp) _) fun t ht => ?_
  have hfld : ∀ f, t.fld (Reg.MX_SPILL_RECORD n) f = r.fld (Reg.MX_SPILL_RECORD n) f := fun f => by
    rw [ht.fld (matrixRegs_not_record (.inr (.inr (.inr (.inr rfl)))))]
    exact State.fld_congr (State.rd_setQueue_ne _ _ (spillRecord_apart n).1) f
  have hbyte : ∀ a, t.byteAt a = u.byteAt a := fun a => by
    rw [ht.byteAt, State.byteAt_putEntryQ, State.byteAt_congr hmem]
  exact ⟨holdsAccumulators_of_bytes hholds hbyte, bytesKept_of_bytes hkept hbyte, (hfld _).trans hvalid, (hfld _).trans hsteps,
    (hfld _).trans hstitch, replaces_of_putEntryQ ht.core (congrArg (·.queues) hcore) rfl (by decide)⟩

/-! ### MATRIX_DRAIN -/

/-- The converted values of a row (R143). -/
theorem drainRow_fst (code : Nat) (v : List W32) : (drainRow code v).1 = v.map fun x => (drainTo code x).val := by
  induction v with
  | nil => rfl
  | cons x rest ih => rw [List.map_cons, ← ih]; rfl

/-- The formats that a drain without scales takes fill whole bytes (R127). -/
theorem formatBits_whole {code : Nat} (h : code ≤ 4) : formatBits code = 8 * (formatBits code / 8) := by
  interval_cases code <;> rfl

/-- The accumulators of a core, converted to a tile's format and written row by row (R143). -/
def drainedRows (s : State) (n : Nat) (t : Tile) : State :=
  s.writeRows n t ((List.range t.rows).map fun i => (List.range t.cols).map fun j => (drainTo t.format (s.wideAt n i j)).val) 0

/-- A drain without side columns writes the converted values, and clears the accumulators unless KEEP is set. -/
theorem drainWide_plain (hside : cmdField x.cmd 18 3 = 0) : ∃ fl, s.drainWide n x
    = (if cmdField x.cmd 21 1 = 1 then drainedRows s n (x.tile (cmdField x.cmd 6 6))
        else (drainedRows s n (x.tile (cmdField x.cmd 6 6))).setAllWide n fun _ => 0).mxFlags n fl := by
  have hrows : ∀ t : Tile, (((List.range t.rows).map (s.wideRow n t.cols)).map (drainRow t.format)).map (·.1)
      = (List.range t.rows).map fun i => (List.range t.cols).map fun j => (drainTo t.format (s.wideAt n i j)).val := fun t => by
    simp only [List.map_map, Function.comp_def, drainRow_fst, State.wideRow]
  simp only [State.drainWide, hside, if_true, hrows]
  exact ⟨_, rfl⟩

theorem drainedRows_written (s : State) (n : Fin 128) (hformat : tile.format ≤ 4) (hfit : tile.rowBytes ≤ tile.stride) :
    OnlyMem s (drainedRows s n tile) ∧ BytesKept s (drainedRows s n tile) (InTile n tile)
      ∧ ∀ i < tile.rows, ∀ j < tile.cols, (drainedRows s n tile).element n tile i j
        = (drainTo tile.format (s.wideAt n i j)).val % 2 ^ formatBits tile.format := by
  have hw := formatBits_whole hformat
  obtain ⟨honly, hkept, helement⟩ := writeRows_tile (n := n) s hw hfit fun i j => (drainTo tile.format (s.wideAt n i j)).val
  refine ⟨honly, hkept, fun i hi j hj => ?_⟩
  rw [State.element_bytes _ hw, drainedRows, helement i hi j hj, natLE_bytesLE_mod, show 256 = 2 ^ 8 by rfl, ← pow_mul, ← hw]

theorem drainLanes_wideAt (d : State) (n : Nat) (x : QEntry) {i j : Nat} (hi : i < 32) (hj : j < 16) :
    (if cmdField x.cmd 21 1 = 1 then d else d.setAllWide n fun _ => 0).wideAt n i j
      = if cmdField x.cmd 21 1 = 1 then d.wideAt n i j else 0 := by
  split
  · rfl
  · rw [State.wideAt_setAllWide _ _ hi hj, if_pos rfl]

theorem drainLanes_only (d : State) (n : Nat) (x : QEntry) :
    OnlyLanes n d (if cmdField x.cmd 21 1 = 1 then d else d.setAllWide n fun _ => 0) := by
  split
  · exact .refl n d
  · exact .setAllWide ..

theorem exec_matrixDrain_head (hhead : MatrixHead s n x 3) :
    exec (.matrixDrain n) s = finish ((s.begin.drainWide n x).putEntryQ n 0 (madeOne x)) := by
  rw [exec_matrixDrain, execMatrixDrain, matrixWork_of_matrixHead (s := s.begin) hhead]
  rfl

theorem matrixDrain_drains (htile : tile = x.tile (cmdField x.cmd 6 6)) (hhead : MatrixHead s n x 3) (hside : cmdField x.cmd 18 3 = 0)
    (hformat : tile.format ≤ 4) (hfit : tile.rowBytes ≤ tile.stride) :
    Does s (.matrixDrain n) [.core, .mem] (MatrixRegs n) fun t =>
      (∀ r < tile.rows, ∀ c < tile.cols, t.element n tile r c
        = (drainTo tile.format (s.wideAt n r c)).val % 2 ^ formatBits tile.format)
      ∧ BytesKept s t (InTile n tile)
      ∧ (∀ r < 32, ∀ c < 16, t.wideAt n r c = if cmdField x.cmd 21 1 = 1 then s.wideAt n r c else 0)
      ∧ Replaces s t n 0 x (madeOne x) := by
  obtain ⟨fl, hdrain⟩ := drainWide_plain (s := s.begin) (n := n) hside
  rw [← htile] at hdrain
  obtain ⟨honly, hkept, helement⟩ := drainedRows_written s.begin n hformat hfit
  have hexec := exec_matrixDrain_head hhead
  rw [hdrain] at hexec
  generalize drainedRows s.begin n tile = d at honly hkept helement hexec
  have hlanes := (drainLanes_only d n x).trans (.mxFlags _ n fl)
  have hwide : ∀ i < 32, ∀ j < 16, ((if cmdField x.cmd 21 1 = 1 then d else d.setAllWide n fun _ => 0).mxFlags n fl).wideAt n i j
      = if cmdField x.cmd 21 1 = 1 then d.wideAt n i j else 0 := fun i hi j hj => drainLanes_wideAt d n x hi hj
  generalize (if cmdField x.cmd 21 1 = 1 then d else d.setAllWide n fun _ => 0).mxFlags n fl = u at hlanes hwide hexec
  have hcore : d.core = s.core := honly.core
  refine does_of_finish hexec (changes_putEntryQ ((honly.matrixChanges n).trans
    (hlanes.matrixChanges.mono (by simp) fun _ => id)).of_begin (by simp) _) fun t ht => ?_
  have hbyte : ∀ a, t.byteAt a = d.byteAt a := fun a => by
    rw [ht.byteAt, State.byteAt_putEntryQ, State.byteAt_congr hlanes.mem]
  refine ⟨fun i hi j hj => ?_, bytesKept_of_bytes hkept hbyte, fun i hi j hj => ?_, ?_⟩
  · have hw := formatBits_whole hformat
    rw [State.element_bytes t hw, State.bytesAt_congr fun k _ => hbyte _, ← State.element_bytes d hw]
    exact helement i hi j hj
  · rw [ht.wideAt, State.wideAt_putEntryQ]
    exact (hwide i hi j hj).trans (if_congr Iff.rfl (State.wideAt_congr hcore n i j) rfl)
  · exact replaces_of_putEntryQ ht.core (hlanes.queues.trans (congrArg (·.queues) hcore)) rfl (by decide)

end

/-- Settles O15: the writes of a tile row by row, and the loads of clean spans, which change nothing. -/
theorem accumulatorsMoveAndDrain : Obligations.AccumulatorsMoveAndDrain := by
  refine ⟨fun s n x => ⟨fun tile => matrixSave_saves, ?_, fun rest tile => spill_spills⟩, ?_⟩
  · intro tile htile hhead hspill _ hclean
    exact matrixLoad_loads htile hhead hspill hclean
  · intro s n x tile htile hhead hside hformat _ _ hfit
    exact matrixDrain_drains htile hhead hside hformat hfit

end Sys2Proof.Proofs
end

section
/-! SUPPORT. The slots of the vector engine (R171, R178, R179): where their registers lie, and the bits of a HEAD register. -/

namespace Sys2Proof.Machine

open Claims

/-! ### Fields and masks -/

/-- A field that a mask covers reads as before the mask. -/
theorem Fld.read_and_covered (f : Fld) (w m : Word) (h : ∀ i < f.width, m.getLsbD (f.lo + i) = true) :
    f.read (w &&& m) = f.read w := by
  apply Nat.eq_of_testBit_eq
  intro i
  rw [Fld.testBit_read, Fld.testBit_read, BitVec.getLsbD_and]
  by_cases hi : i < f.width
  · rw [h i hi, Bool.and_true]
  · simp [hi]

/-- A field that a mask leaves out reads zero. -/
theorem Fld.read_and_uncovered (f : Fld) (w m : Word) (h : ∀ i < f.width, m.getLsbD (f.lo + i) = false) :
    f.read (w &&& m) = 0 := by
  apply Nat.eq_of_testBit_eq
  intro i
  rw [Fld.testBit_read, BitVec.getLsbD_and, Nat.zero_testBit]
  by_cases hi : i < f.width
  · rw [h i hi, Bool.and_false, Bool.and_false]
  · simp [hi]

/-- A write of a field leaves the bits of a mask that leaves the field out. -/
theorem Fld.write_and_uncovered (f : Fld) (w m : Word) (v : Nat) (h : ∀ i < f.width, m.getLsbD (f.lo + i) = false) :
    f.write w v &&& m = w &&& m := by
  refine BitVec.eq_of_getLsbD_eq fun i _ => ?_
  rw [BitVec.getLsbD_and, BitVec.getLsbD_and, Fld.getLsbD_write]
  split
  · next hin =>
    have hbit := h (i - f.lo) (by omega)
    rw [show f.lo + (i - f.lo) = i by omega] at hbit
    rw [hbit, Bool.and_false, Bool.and_false]
  · rfl

/-! ### Where the registers lie -/

section
variable (n : Nat) (program constant : Bool) (i k : Nat)

theorem slotHead_ge : Reg.coreBase n + 0x4000 ≤ slotHead n program i := by
  cases program <;> simp only [slotHead, Reg.VX_PROGRAM_HEAD, Reg.VX_CHAIN_HEAD, if_true, Bool.false_eq_true, if_false] <;> omega

theorem slotHead_aligned : slotHead n program i % 8 = 0 := by
  cases program <;>
    simp only [slotHead, Reg.VX_PROGRAM_HEAD, Reg.VX_CHAIN_HEAD, Reg.coreBase, if_true, Bool.false_eq_true, if_false] <;> omega

/-- The words of a slot follow its HEAD (R178). -/
theorem slotWordReg_offset : ∃ d, slotWordReg n program constant i k = slotHead n program i + d ∧ 0x40 ≤ d ∧ d % 8 = 0 := by
  cases program with
  | false =>
    have hhead : slotHead n false i = Reg.coreBase n + 0x4000 + i * 0x100 := rfl
    cases constant with
    | false => exact ⟨0x40 + k % 8 * 8, by rw [hhead, slotWordReg, Reg.VX_CHAIN_STAGE]; omega, by omega, by omega⟩
    | true => exact ⟨0x80 + k % 8 * 8, by rw [hhead, slotWordReg, Reg.VX_CHAIN_CONSTANT]; omega, by omega, by omega⟩
  | true =>
    have hhead : slotHead n true i = Reg.coreBase n + 0x5000 + i * 0x200 := rfl
    cases constant with
    | false => exact ⟨0x100 + k % 32 * 8, by rw [hhead, slotWordReg, Reg.VX_PROGRAM_OP]; omega, by omega, by omega⟩
    | true => exact ⟨0x40 + k % 8 * 8, by rw [hhead, slotWordReg, Reg.VX_PROGRAM_CONSTANT]; omega, by omega, by omega⟩

theorem slotWordReg_aligned : slotWordReg n program constant i k % 8 = 0 := by
  obtain ⟨d, hword, -, haligned⟩ := slotWordReg_offset n program constant i k
  have := slotHead_aligned n program i
  omega

variable {n program constant i k}

theorem slotWordReg_ne_slotHead : slotWordReg n program constant i k ≠ slotHead n program i := by
  obtain ⟨d, hword, hd, -⟩ := slotWordReg_offset n program constant i k
  omega

theorem slotHead_ne_status : slotHead n program i ≠ Reg.VX_STATUS n := by
  have := slotHead_ge n program i
  unfold Reg.VX_STATUS
  omega

theorem slotHead_not_record : ¬RecordBlock (slotHead n program i) :=
  not_recordBlock_core (n := n) (by have := slotHead_ge n program i; omega)

theorem slotWordReg_not_record : ¬RecordBlock (slotWordReg n program constant i k) :=
  not_recordBlock_core (n := n) (by
    obtain ⟨d, hword, -, -⟩ := slotWordReg_offset n program constant i k
    have := slotHead_ge n program i
    omega)

theorem vxStatus_not_record (n : Nat) : ¬RecordBlock (Reg.VX_STATUS n) :=
  not_recordBlock_core (n := n) (by unfold Reg.VX_STATUS; omega)

end

/-! ### The bits of a HEAD register -/

/-- VALID is not among the bits that a HEAD write sets (R171, R179). -/
theorem valid_not_headBits (program : Bool) :
    ∀ j < (⟨24, 1⟩ : Fld).width, (headBits program).getLsbD ((⟨24, 1⟩ : Fld).lo + j) = false := by
  cases program <;> decide

theorem length_headBits (v : Word) : Fl.VX_PROGRAM_HEAD_LENGTH.read (v &&& headBits true) = Fl.VX_PROGRAM_HEAD_LENGTH.read v :=
  Fld.read_and_covered _ _ _ (by decide)

theorem stages_headBits (v : Word) : Fl.VX_CHAIN_HEAD_STAGES.read (v &&& headBits false) = Fl.VX_CHAIN_HEAD_STAGES.read v :=
  Fld.read_and_covered _ _ _ (by decide)

end Sys2Proof.Machine
end

section
/-! Writes of the vector engine's slots (R171, R172): what validation finds, HEAD writes, word writes. -/

namespace Sys2Proof.Proofs

open Machine Claims

/-! ### Validation (R171) -/

theorem firstBad_eq_none_iff (ok : Nat → Bool) (ws : List Nat) (k : Nat) : firstBad ok ws k = none ↔ ∀ w ∈ ws, ok w = true := by
  induction ws generalizing k with
  | nil => simp [firstBad]
  | cons w rest ih =>
    rw [firstBad, List.forall_mem_cons]
    split
    · next hok => rw [ih, and_iff_right hok]
    · next hbad => simp [hbad]

/-- The words of a slot up to the length in a HEAD word v hold no reserved value (R168 to R171). -/
def SlotSound (s : State) (n : Nat) (program : Bool) (i : Nat) (v : Word) : Prop :=
  if program = true then ∀ k ≤ Fl.VX_PROGRAM_HEAD_LENGTH.read v, opOk (s.opWord n i k) = true
  else Fl.VX_CHAIN_HEAD_STAGES.read v ≤ 8 ∧ ∀ k < Fl.VX_CHAIN_HEAD_STAGES.read v, stageOk (s.stageWord n i k) = true

section
variable {s t : State} {n i : Nat} {program : Bool}

theorem slotFault_eq_none_iff : s.slotFault n program i = none ↔ SlotSound s n program i (s.rd (slotHead n program i)) := by
  cases program with
  | true =>
    have hwords : s.slotFault n true i = firstBad opOk (s.programOps n i) 0 := rfl
    rw [hwords, firstBad_eq_none_iff]
    simp [SlotSound, State.programOps, slotHead, State.fld]
  | false =>
    have hwords : s.slotFault n false i = if 8 < s.fld (Reg.VX_CHAIN_HEAD n i) Fl.VX_CHAIN_HEAD_STAGES then some 127
      else firstBad stageOk ((s.chainStages n i).map (·.1)) 0 := rfl
    rw [hwords]
    split
    · next hlong => simpa [SlotSound, slotHead, State.fld] using fun h => absurd h (not_le.2 hlong)
    · next hshort =>
      rw [firstBad_eq_none_iff]
      simpa [SlotSound, State.chainStages, slotHead, State.fld] using fun _ => not_lt.1 hshort

/-- Validation reads the words of the slot, and of HEAD the bits that a write sets. -/
theorem slotSound_congr (hwords : ∀ off, off ≠ slotHead n program i → t.rd off = s.rd off) (v : Word) :
    SlotSound t n program i (v &&& headBits program) ↔ SlotSound s n program i v := by
  cases program with
  | true =>
    have hop : ∀ k, t.opWord n i k = s.opWord n i k := fun k => State.fld_congr (hwords _ (by
      simp only [slotHead, if_true, Reg.VX_PROGRAM_OP, Reg.VX_PROGRAM_HEAD]; omega)) _
    simp only [SlotSound, if_true, length_headBits, hop]
  | false =>
    have hstage : ∀ k, t.stageWord n i k = s.stageWord n i k := fun k => State.fld_congr (hwords _ (by
      simp only [slotHead, Bool.false_eq_true, if_false, Reg.VX_CHAIN_STAGE, Reg.VX_CHAIN_HEAD]; omega)) _
    simp only [SlotSound, Bool.false_eq_true, if_false, stages_headBits, hstage]

end

/-! ### Writes of HEAD -/

section
variable (s : State) (n : Nat) (program : Bool) (i : Nat) (v : Word)

/-- A HEAD register that was written, before any validation: VALID is 0. -/
def headWritten : State := (s.wr (slotHead n program i) (v &&& headBits program)).healArray (slotHead n program i)

/-- VX.STATUS with a validation that failed at a position (R171, R179). -/
def faultNoted (k : Nat) : State :=
  (((s.setFld (Reg.VX_STATUS n) Fl.VX_STATUS_SLOT_ERR 1).setFld (Reg.VX_STATUS n) Fl.VX_STATUS_ERR_PROGRAM program.toNat).setFld
    (Reg.VX_STATUS n) Fl.VX_STATUS_ERR_SLOT i).setFld (Reg.VX_STATUS n) Fl.VX_STATUS_ERR_POSITION k

theorem slotsBusy_iff : s.slotsBusy n = true ↔ s.queue n 1 ≠ [] ∧ s.queueState n 1 ≠ 2 := by
  simp [State.slotsBusy]

theorem rd_headWritten_same : (headWritten s n program i v).rd (slotHead n program i) = v &&& headBits program :=
  (State.rd_healArray _ _ _).trans (State.rd_wr_same s _ _)

theorem rd_headWritten_ne {off : Nat} (h : off ≠ slotHead n program i) : (headWritten s n program i v).rd off = s.rd off :=
  (State.rd_healArray _ _ _).trans (State.rd_wr_ne s _ h)

theorem headWritten_changes : Changes [] (· = slotHead n program i) s (headWritten s n program i v) :=
  (Changes.wr s _ _).trans (State.changes_healArray _ (slotHead_aligned n program i))

theorem faultNoted_changes (k : Nat) : Changes [] (· = Reg.VX_STATUS n) s (faultNoted s n program i k) :=
  (((Changes.setFld s _ _ _).trans (Changes.setFld _ _ _ _)).trans (Changes.setFld _ _ _ _)).trans (Changes.setFld _ _ _ _)

theorem fld_faultNoted (k : Nat) (hi : i < 16) :
    (faultNoted s n program i k).fld (Reg.VX_STATUS n) Fl.VX_STATUS_SLOT_ERR = 1
      ∧ (faultNoted s n program i k).fld (Reg.VX_STATUS n) Fl.VX_STATUS_ERR_SLOT = i
      ∧ (faultNoted s n program i k).fld (Reg.VX_STATUS n) Fl.VX_STATUS_ERR_PROGRAM = program.toNat := by
  unfold faultNoted
  refine ⟨?_, ?_, ?_⟩
  · rw [State.fld_setFld_disjoint _ _ _ _ _ (by decide), State.fld_setFld_disjoint _ _ _ _ _ (by decide),
      State.fld_setFld_disjoint _ _ _ _ _ (by decide)]
    exact State.fld_setFld_same _ _ _ _ (by decide)
  · rw [State.fld_setFld_disjoint _ _ _ _ _ (by decide), State.fld_setFld_same _ _ _ _ (by decide)]
    exact Nat.mod_eq_of_lt hi
  · rw [State.fld_setFld_disjoint _ _ _ _ _ (by decide), State.fld_setFld_disjoint _ _ _ _ _ (by decide),
      State.fld_setFld_same _ _ _ _ (by decide)]
    cases program <;> rfl

variable {s n program i v}

theorem writeHead_busy (h : s.slotsBusy n = true) : s.writeHead n program i v = s.slotIgnored n := if_pos h

theorem writeHead_invalid (hfree : ¬s.slotsBusy n = true) (hv : Fld.read ⟨24, 1⟩ v = 0) :
    s.writeHead n program i v = headWritten s n program i v := by
  simp only [State.writeHead, if_neg hfree, hv, if_true]
  rfl

/-- A write that validates ends by what validation finds in the slot (R171). -/
theorem writeHead_validates (hfree : ¬s.slotsBusy n = true) (hv : Fld.read ⟨24, 1⟩ v = 1) :
    (SlotSound s n program i v →
        s.writeHead n program i v = (headWritten s n program i v).setFld (slotHead n program i) ⟨24, 1⟩ 1)
      ∧ (¬SlotSound s n program i v →
        ∃ k, s.writeHead n program i v = faultNoted (headWritten s n program i v) n program i k) := by
  have hfault : (headWritten s n program i v).slotFault n program i = none ↔ SlotSound s n program i v := by
    rw [slotFault_eq_none_iff, rd_headWritten_same]
    exact slotSound_congr (fun off => rd_headWritten_ne s n program i v) v
  have hwrite : s.writeHead n program i v = match (headWritten s n program i v).slotFault n program i with
      | none => (headWritten s n program i v).setFld (slotHead n program i) ⟨24, 1⟩ 1
      | some k => faultNoted (headWritten s n program i v) n program i k := by
    simp only [State.writeHead, if_neg hfree, hv, Nat.one_ne_zero, if_false]
    rfl
  rw [hwrite]
  cases hfound : (headWritten s n program i v).slotFault n program i with
  | none => exact ⟨fun _ => rfl, fun hbad => absurd (hfault.1 hfound) hbad⟩
  | some k => exact ⟨fun hok => absurd (hfault.2 hok) (by simp [hfound]), fun _ => ⟨k, rfl⟩⟩

end

/-! ### Writes of words -/

section
variable (s : State) (n : Nat) (program constant : Bool) (i k : Nat) (v : Word)

/-- A word of a slot that was written, and its HEAD without VALID (R171). -/
def wordWritten : State :=
  ((s.wr (slotWordReg n program constant i k) (slotWordValue program constant v)).healArray
    (slotWordReg n program constant i k)).setFld (slotHead n program i) ⟨24, 1⟩ 0

theorem wordWritten_changes : Changes [] (fun off => off = slotWordReg n program constant i k ∨ off = slotHead n program i) s
    (wordWritten s n program constant i k v) :=
  (((Changes.wr s _ _).trans (State.changes_healArray _ (slotWordReg_aligned n program constant i k))).mono (fun _ => id)
    fun _ => .inl).trans ((Changes.setFld _ _ _ _).mono (fun _ => id) fun _ => .inr)

theorem rd_wordWritten_word :
    (wordWritten s n program constant i k v).rd (slotWordReg n program constant i k) = slotWordValue program constant v := by
  rw [wordWritten, State.rd_setFld_ne _ _ _ slotWordReg_ne_slotHead, State.rd_healArray, State.rd_wr_same]

theorem rd_wordWritten_head : (wordWritten s n program constant i k v).rd (slotHead n program i)
    = Fld.write ⟨24, 1⟩ (s.rd (slotHead n program i)) 0 := by
  rw [wordWritten, State.rd_setFld, if_pos rfl, State.rd_healArray, State.rd_wr_ne _ _ slotWordReg_ne_slotHead.symm]

theorem writeSlotWord_free (hfree : ¬s.slotsBusy n = true) :
    s.writeSlotWord n program constant i k v = wordWritten s n program constant i k v := if_neg hfree

end

/-! ### The statement -/

section
variable {s : State} {who : Requester} {n : Fin 128} {i : Fin 16} {program constant : Bool} {k : Fin 32} {v : Word}

theorem exec_slotValidate (hmay : s.mayWrite who (slotHead n program i) = true) :
    exec (.slotValidate who n program i v) s = finish (s.begin.writeHead n program i v) :=
  congrArg finish (State.guarded_begin hmay _)

theorem exec_slotWordWrite (hmay : s.mayWrite who (slotWordReg n program constant i k) = true) :
    exec (.slotWordWrite who n program constant i k v) s = finish (s.begin.writeSlotWord n program constant i k v) :=
  congrArg finish (State.guarded_begin hmay _)

/-- A command that ends as an ignored slot write sets WRITE_IGNORED alone (R172). -/
theorem does_slotIgnored {c : Instr} (hc : exec c s = finish (s.begin.slotIgnored n)) :
    Does s c [] (fun off => off = Reg.VX_STATUS n) fun t => t.fld (Reg.VX_STATUS n) Fl.VX_STATUS_WRITE_IGNORED = 1 := by
  refine does_of_finish hc (Changes.setFld s.begin _ _ _).of_begin fun t ht => ?_
  rw [ht.fld (vxStatus_not_record n)]
  exact State.fld_setFld_same _ _ _ _ (by decide)

/-- HEAD holds the bits written to it and, as VALID, a bit. -/
def HeadHolds (n : Nat) (program : Bool) (i : Nat) (v : Word) (valid : Nat) (t : State) : Prop :=
  t.fld (slotHead n program i) ⟨24, 1⟩ = valid ∧ t.rd (slotHead n program i) &&& headBits program = v &&& headBits program

theorem HeadHolds.of_rd {s t : State} {valid : Nat} (h : HeadHolds n program i v valid s)
    (hrd : t.rd (slotHead n program i) = s.rd (slotHead n program i)) : HeadHolds n program i v valid t :=
  ⟨(State.fld_congr hrd _).trans h.1, by rw [hrd, h.2]⟩

theorem headWritten_holds (s : State) : HeadHolds n program i v 0 (headWritten s n program i v) := by
  refine ⟨?_, ?_⟩
  · rw [State.fld, rd_headWritten_same]
    exact Fld.read_and_uncovered _ _ _ (valid_not_headBits program)
  · rw [rd_headWritten_same, BitVec.and_assoc, BitVec.and_self]

theorem headValid_holds (s : State) :
    HeadHolds n program i v 1 ((headWritten s n program i v).setFld (slotHead n program i) ⟨24, 1⟩ 1) := by
  refine ⟨State.fld_setFld_same _ _ _ _ (by decide), ?_⟩
  rw [State.rd_setFld, if_pos rfl, Fld.write_and_uncovered _ _ _ _ (valid_not_headBits program)]
  exact (headWritten_holds s).2

theorem slotValidate_invalid (hmay : s.mayWrite who (slotHead n program i) = true) (hfree : ¬s.slotsBusy n = true)
    (hv : Fld.read ⟨24, 1⟩ v = 0) :
    Does s (.slotValidate who n program i v) [.mem] (fun off => off = slotHead n program i) (HeadHolds n program i v 0) :=
  does_of_finish ((exec_slotValidate hmay).trans (congrArg finish (writeHead_invalid hfree hv)))
    ((headWritten_changes ..).of_begin.mono (by simp) fun _ => id)
    fun _ ht => (headWritten_holds s.begin).of_rd (ht.rd _ slotHead_not_record)

theorem slotValidate_sound (hmay : s.mayWrite who (slotHead n program i) = true) (hfree : ¬s.slotsBusy n = true)
    (hv : Fld.read ⟨24, 1⟩ v = 1) (hok : SlotSound s n program i v) :
    Does s (.slotValidate who n program i v) [.mem] (fun off => off = slotHead n program i) (HeadHolds n program i v 1) :=
  does_of_finish ((exec_slotValidate hmay).trans (congrArg finish ((writeHead_validates (s := s.begin) hfree hv).1 hok)))
    (((headWritten_changes ..).trans (Changes.setFld ..)).of_begin.mono (by simp) fun _ => id)
    fun _ ht => (headValid_holds s.begin).of_rd (ht.rd _ slotHead_not_record)

theorem slotValidate_unsound (hmay : s.mayWrite who (slotHead n program i) = true) (hfree : ¬s.slotsBusy n = true)
    (hv : Fld.read ⟨24, 1⟩ v = 1) (hbad : ¬SlotSound s n program i v) :
    Does s (.slotValidate who n program i v) [.mem] (fun off => off = slotHead n program i ∨ off = Reg.VX_STATUS n) fun t =>
      HeadHolds n program i v 0 t ∧ t.fld (Reg.VX_STATUS n) Fl.VX_STATUS_SLOT_ERR = 1
        ∧ t.fld (Reg.VX_STATUS n) Fl.VX_STATUS_ERR_SLOT = i.val
        ∧ t.fld (Reg.VX_STATUS n) Fl.VX_STATUS_ERR_PROGRAM = program.toNat := by
  obtain ⟨k, hwrite⟩ := (writeHead_validates (s := s.begin) hfree hv).2 hbad
  have hnoted := faultNoted_changes (headWritten s.begin n program i v) n program i k
  obtain ⟨herr, hslot, hkind⟩ := fld_faultNoted (headWritten s.begin n program i v) n program i k i.isLt
  refine does_of_finish ((exec_slotValidate hmay).trans (congrArg finish hwrite))
    (((headWritten_changes ..).mono (by simp) fun _ => .inl).trans (hnoted.mono (by simp) fun _ => .inr)).of_begin
    fun t ht => ⟨?_, ?_⟩
  · refine (headWritten_holds s.begin).of_rd ((ht.rd _ slotHead_not_record).trans ?_)
    exact hnoted.2.1 _ slotHead_not_record slotHead_ne_status
  · simp only [ht.fld (vxStatus_not_record n)]
    exact ⟨herr, hslot, hkind⟩

theorem slotWordWrite_writes (hmay : s.mayWrite who (slotWordReg n program constant i k) = true) (hfree : ¬s.slotsBusy n = true) :
    Does s (.slotWordWrite who n program constant i k v) [.mem]
      (fun off => off = slotWordReg n program constant i k ∨ off = slotHead n program i) fun t =>
      t.rd (slotWordReg n program constant i k) = slotWordValue program constant v
        ∧ t.fld (slotHead n program i) ⟨24, 1⟩ = 0
        ∧ t.rd (slotHead n program i) &&& headBits program = s.rd (slotHead n program i) &&& headBits program := by
  refine does_of_finish ((exec_slotWordWrite hmay).trans (congrArg finish (writeSlotWord_free (s := s.begin) (hfree := hfree) ..)))
    ((wordWritten_changes ..).of_begin.mono (by simp) fun _ => id) fun t ht => ⟨?_, ?_⟩
  · rw [ht.rd _ slotWordReg_not_record, rd_wordWritten_word]
  · rw [State.fld, ht.rd _ slotHead_not_record, rd_wordWritten_head, Fld.write_and_uncovered _ _ _ _ (valid_not_headBits program)]
    exact ⟨Fld.read_write _ _ _ (by decide), rfl⟩

end

/-- Settles O17: by what validation finds in the slot that the write leaves. -/
theorem vectorSlotsValidate : Obligations.VectorSlotsValidate := by
  intro s who n i v
  simp only [← slotsBusy_iff s n]
  refine ⟨fun program hmay => ⟨fun hbusy => ?_, slotValidate_invalid hmay, slotValidate_sound hmay, fun hfree hv hbad => ?_⟩,
    fun program constant k hmay => ⟨fun hbusy => ?_, slotWordWrite_writes hmay⟩⟩
  · exact does_slotIgnored ((exec_slotValidate hmay).trans (congrArg finish (writeHead_busy (s := s.begin) hbusy)))
  · exact slotValidate_unsound hmay hfree hv hbad
  · exact does_slotIgnored ((exec_slotWordWrite hmay).trans (congrArg finish (if_pos hbusy)))

end Sys2Proof.Proofs
end

section
/-! SUPPORT. The vector engine's state: its slots, its vector tile registers and the elements of a block, and the frame of its
commands (R156, R157, R166, R169, R178). -/

namespace Sys2Proof.Machine

open Claims

/-! ### The slots of a core -/

/-- The registers of core n's slots read the same in two states (R178). -/
def SameSlots (n : Nat) (s t : State) : Prop := ∀ off, Reg.coreBase n + 0x4000 ≤ off → t.rd off = s.rd off

section
variable {s t : State} {n : Nat} (h : SameSlots n s t)

include h

theorem SameSlots.head (program : Bool) (i : Nat) (f : Fld) : t.fld (slotHead n program i) f = s.fld (slotHead n program i) f :=
  State.fld_congr (h _ (slotHead_ge ..)) f

theorem SameSlots.programHead (i : Nat) (f : Fld) : t.fld (Reg.VX_PROGRAM_HEAD n i) f = s.fld (Reg.VX_PROGRAM_HEAD n i) f :=
  h.head true i f

theorem SameSlots.chainHead (i : Nat) (f : Fld) : t.fld (Reg.VX_CHAIN_HEAD n i) f = s.fld (Reg.VX_CHAIN_HEAD n i) f :=
  h.head false i f

theorem SameSlots.opWord (i k : Nat) : t.opWord n i k = s.opWord n i k :=
  State.fld_congr (h _ (by unfold Reg.VX_PROGRAM_OP; omega)) _

theorem SameSlots.stageWord (i k : Nat) : t.stageWord n i k = s.stageWord n i k :=
  State.fld_congr (h _ (by unfold Reg.VX_CHAIN_STAGE; omega)) _

theorem SameSlots.programOps (i : Nat) : t.programOps n i = s.programOps n i := by
  simp only [State.programOps, h.programHead, funext (h.opWord i)]

theorem SameSlots.programConstants (i : Nat) : t.programConstants n i = s.programConstants n i := by
  have hconstant : ∀ k, t.rd (Reg.VX_PROGRAM_CONSTANT n i k) = s.rd (Reg.VX_PROGRAM_CONSTANT n i k) := fun k =>
    h _ (by unfold Reg.VX_PROGRAM_CONSTANT; omega)
  simp only [State.programConstants, hconstant]

theorem SameSlots.chainStages (i : Nat) : t.chainStages n i = s.chainStages n i := by
  have hconstant : ∀ k, t.rd (Reg.VX_CHAIN_CONSTANT n i k) = s.rd (Reg.VX_CHAIN_CONSTANT n i k) := fun k =>
    h _ (by unfold Reg.VX_CHAIN_CONSTANT; omega)
  simp only [State.chainStages, h.chainHead, h.stageWord, hconstant]

theorem SameSlots.slotReadsB (program : Bool) (i : Nat) : t.slotReadsB n program i = s.slotReadsB n program i := by
  simp only [State.slotReadsB, h.programHead, h.chainHead, h.opWord, h.stageWord]

theorem SameSlots.slotRegs (program : Bool) (i : Nat) : t.slotRegs n program i = s.slotRegs n program i := by
  simp only [State.slotRegs, h.programOps, h.chainHead]

theorem SameSlots.slotWrites (program : Bool) (i : Nat) : t.slotWrites n program i = s.slotWrites n program i := by
  simp only [State.slotWrites, h.programOps, h.chainStages]

end

/-- What an element of a block is computed from: memory, the slots and the element's place in each vector tile register. -/
theorem State.blockElement_congr {s t : State} {n r c : Nat} (hmem : t.mem = s.mem) (hslots : SameSlots n s t)
    (hvreg : ∀ v, t.vreg n v r c = s.vreg n v r c) (x : QEntry) (ta tb : Tile) (readsB : Bool) :
    t.blockElement n x ta tb readsB r c = s.blockElement n x ta tb readsB r c := by
  have helement : ∀ tile i j, t.element n tile i j = s.element n tile i j := fun tile i j => by
    simp only [State.element, State.bytesAt, funext (State.byteAt_congr hmem)]
  simp only [State.blockElement, helement, hvreg, hslots.head, hslots.programConstants, hslots.programOps,
    hslots.chainStages]

/-! ### Vector tile registers -/

/-- The key of an element names its register, row and column (R156). -/
theorem vregKey_inj {n v w i j r c : Nat} (hi : i < 16) (hj : j < 16) (hr : r < 16) (hc : c < 16) :
    vregKey n v i j = vregKey n w r c ↔ v = w ∧ i = r ∧ j = c := by
  unfold vregKey
  omega

theorem State.vreg_setVreg (s : State) {n v w i j r c : Nat} (x : W32) (hi : i < 16) (hj : j < 16) (hr : r < 16) (hc : c < 16) :
    (s.setVreg n w r c x).vreg n v i j = if v = w ∧ i = r ∧ j = c then x else s.vreg n v i j :=
  (Sparse.get_set _ _ _ _ _).trans (if_congr (vregKey_inj hi hj hr hc) rfl rfl)

theorem State.applyVregs_append (s : State) (n r c : Nat) (xs ys : List (Nat × W32)) :
    s.applyVregs n r c (xs ++ ys) = (s.applyVregs n r c xs).applyVregs n r c ys := by
  induction xs generalizing s with
  | nil => rfl
  | cons w rest ih => exact ih _

section
variable {s : State} {n r c : Nat} (hr : r < 16) (hc : c < 16)

include hr hc

/-- An element's place in each register holds what the element last wrote there (R166, R169). -/
theorem State.vreg_applyVregs (e : VElem) (v : Nat) :
    (s.applyVregs n r c e.writes.reverse).vreg n v r c = e.vreg (fun v => s.vreg n v r c) v := by
  unfold VElem.vreg
  induction e.writes with
  | nil => rfl
  | cons w rest ih =>
    rw [List.reverse_cons, State.applyVregs_append, State.applyVregs, State.applyVregs, State.vreg_setVreg _ _ hr hc hr hc, ih,
      List.find?_cons]
    by_cases hv : v = w.1
    · rw [if_pos ⟨hv, rfl, rfl⟩, beq_iff_eq.2 hv.symm]
    · rw [if_neg (fun h => hv h.1), beq_false_of_ne (Ne.symm hv)]

/-- No other element's place is written. -/
theorem State.vreg_applyVregs_ne (ws : List (Nat × W32)) (v : Nat) {i j : Nat} (hi : i < 16) (hj : j < 16)
    (hne : ¬(i = r ∧ j = c)) : (s.applyVregs n r c ws).vreg n v i j = s.vreg n v i j := by
  induction ws generalizing s with
  | nil => rfl
  | cons w rest ih => exact ih.trans ((s.vreg_setVreg _ hi hj hr hc).trans (if_neg fun h => hne h.2))

end

/-- From s to t the vector tile registers alone have changed, and `VX.FLAGS` of core n. -/
structure OnlyVregs (n : Nat) (s t : State) : Prop where
  state : t = { s with regs := t.regs, core := { s.core with vregs := t.core.vregs } }
  rd : ∀ off, off ≠ Reg.VX_FLAGS n → t.rd off = s.rd off

namespace OnlyVregs

variable {n : Nat} {s t u : State}

theorem refl (n : Nat) (s : State) : OnlyVregs n s s := ⟨rfl, fun _ _ => rfl⟩

theorem trans (h : OnlyVregs n s t) (g : OnlyVregs n t u) : OnlyVregs n s u :=
  ⟨by rw [g.state, h.state], fun off ho => (g.rd off ho).trans (h.rd off ho)⟩

theorem mem (h : OnlyVregs n s t) : t.mem = s.mem := by rw [h.state]

theorem core (h : OnlyVregs n s t) : t.core = { s.core with vregs := t.core.vregs } := by rw [h.state]

theorem sameSlots (h : OnlyVregs n s t) : SameSlots n s t := fun off ho => h.rd off (by unfold Reg.VX_FLAGS; omega)

theorem changes (h : OnlyVregs n s t) : Changes [.core] (· = Reg.VX_FLAGS n) s t := by
  refine ⟨fun p hp => ?_, fun off _ ho => h.rd off ho, fun _ _ _ => by rw [h.mem]⟩
  rw [h.state]
  cases p with
  | core => exact absurd (List.mem_singleton_self _) hp
  | config => exact fun _ => rfl
  | _ => rfl

theorem applyVregs (s : State) (n r c : Nat) (ws : List (Nat × W32)) : OnlyVregs n s (s.applyVregs n r c ws) := by
  induction ws generalizing s with
  | nil => exact .refl n s
  | cons w rest ih =>
    have hone : OnlyVregs n s (s.setVreg n w.1 r c w.2) := ⟨rfl, fun _ _ => rfl⟩
    exact hone.trans (ih _)

theorem vxFlags (s : State) (n : Nat) (f : Flags) : OnlyVregs n s (s.vxFlags n f) := ⟨rfl, fun _ ho => State.rd_wr_ne s _ ho⟩

end OnlyVregs

/-! ### The elements of a block -/

section
variable {n : Nat} {x : QEntry} {ta tb tc : Tile} {readsB out : Bool}

/-- From s to t the elements of a block that a test names were computed, each from what it read in s, and no other element of the
vector tile registers has changed. -/
structure ElementsTaken (s t : State) (n : Nat) (x : QEntry) (ta tb : Tile) (readsB : Bool) (on : Nat → Nat → Prop) : Prop where
  only : OnlyVregs n s t
  taken : ∀ r < 16, ∀ c < 16, on r c → ∀ v,
    t.vreg n v r c = (s.blockElement n x ta tb readsB r c).vreg (fun v => s.vreg n v r c) v
  same : ∀ r < 16, ∀ c < 16, ¬on r c → ∀ v, t.vreg n v r c = s.vreg n v r c

variable {s t u : State} {on on' : Nat → Nat → Prop}

theorem ElementsTaken.none (s : State) (h : ∀ r c, ¬on r c) : ElementsTaken s s n x ta tb readsB on :=
  ⟨.refl n s, fun r _ c _ hon => absurd hon (h r c), fun _ _ _ _ _ _ => rfl⟩

/-- An element that was not computed yet is computed from the same operands afterwards (R157, R173). -/
theorem ElementsTaken.blockElement (h : ElementsTaken s t n x ta tb readsB on) {r c : Nat} (hr : r < 16) (hc : c < 16)
    (hoff : ¬on r c) : t.blockElement n x ta tb readsB r c = s.blockElement n x ta tb readsB r c :=
  State.blockElement_congr h.only.mem h.only.sameSlots (h.same r hr c hc hoff) x ta tb readsB

theorem ElementsTaken.trans (h : ElementsTaken s t n x ta tb readsB on) (g : ElementsTaken t u n x ta tb readsB on')
    (hapart : ∀ r c, on r c → ¬on' r c) : ElementsTaken s u n x ta tb readsB fun r c => on r c ∨ on' r c where
  only := h.only.trans g.only
  taken r hr c hc hon v := by
    by_cases hfirst : on r c
    · rw [g.same r hr c hc (hapart r c hfirst), h.taken r hr c hc hfirst]
    · rw [g.taken r hr c hc (hon.resolve_left hfirst), h.blockElement hr hc hfirst, funext (h.same r hr c hc hfirst)]
  same r hr c hc hoff v := by
    rw [g.same r hr c hc fun hg => hoff (.inr hg), h.same r hr c hc fun hh => hoff (.inl hh)]

theorem ElementsTaken.of_iff (h : ElementsTaken s t n x ta tb readsB on) (hon : ∀ r c, on' r c ↔ on r c) :
    ElementsTaken s t n x ta tb readsB on' := by
  obtain rfl : on' = on := funext fun r => funext fun c => propext (hon r c)
  exact h

/-- One element is computed. -/
theorem ElementsTaken.one (s : State) {r c : Nat} (hr : r < 16) (hc : c < 16) (f : Flags) :
    ElementsTaken s ((s.applyVregs n r c (s.blockElement n x ta tb readsB r c).writes.reverse).vxFlags n f) n x ta tb readsB
      fun i j => i = r ∧ j = c := by
  refine ⟨(OnlyVregs.applyVregs ..).trans (.vxFlags ..), fun i _ j _ hon v => ?_, fun i hi j hj hoff v => ?_⟩
  · obtain ⟨rfl, rfl⟩ := hon
    exact State.vreg_applyVregs hr hc _ v
  · exact State.vreg_applyVregs_ne hr hc _ v hi hj hoff

/-- The encoding that element (r, c) of a block writes to its output tile (R164). -/
def State.blockCode (s : State) (n : Nat) (x : QEntry) (ta tb tc : Tile) (readsB out : Bool) (r c : Nat) : Nat :=
  (if out then vxWrite tc.format (s.blockElement n x ta tb readsB r c).x else { val := 0 } : Res Nat).val

theorem ElementsTaken.blockCode (h : ElementsTaken s t n x ta tb readsB on) {r c : Nat} (hr : r < 16) (hc : c < 16)
    (hoff : ¬on r c) : t.blockCode n x ta tb tc readsB out r c = s.blockCode n x ta tb tc readsB out r c := by
  rw [State.blockCode, h.blockElement hr hc hoff, State.blockCode]

theorem State.blockRow_succ (s : State) (r k c : Nat) : ∃ f, s.blockRow n x ta tb tc readsB out r (k + 1) c
    = let rest := State.blockRow ((s.applyVregs n r c (s.blockElement n x ta tb readsB r c).writes.reverse).vxFlags n f) n x ta tb
        tc readsB out r k (c + 1)
      (rest.1, s.blockCode n x ta tb tc readsB out r c :: rest.2) := ⟨_, rfl⟩

/-- The elements of row r, from column c up. -/
theorem State.blockRow_taken (s : State) {r c k : Nat} (hr : r < 16) (hc : c + k ≤ 16) :
    ElementsTaken s (s.blockRow n x ta tb tc readsB out r k c).1 n x ta tb readsB (fun i j => i = r ∧ c ≤ j ∧ j < c + k)
      ∧ (s.blockRow n x ta tb tc readsB out r k c).2 = (List.range' c k).map (s.blockCode n x ta tb tc readsB out r) := by
  induction k generalizing s c with
  | zero => exact ⟨.none s (by omega), rfl⟩
  | succ k ih =>
    obtain ⟨f, hrow⟩ := s.blockRow_succ (n := n) (x := x) (ta := ta) (tb := tb) (tc := tc) (readsB := readsB) (out := out) r k c
    rw [hrow, List.range'_succ, List.map_cons]
    have hone := ElementsTaken.one (n := n) (x := x) (ta := ta) (tb := tb) (readsB := readsB) s hr (show c < 16 by omega) f
    generalize (s.applyVregs n r c _).vxFlags n f = t at hone ⊢
    obtain ⟨hrest, hcodes⟩ := ih t (c := c + 1) (by omega)
    refine ⟨(hone.trans hrest (by omega)).of_iff (by omega), congrArg _ (hcodes.trans ?_)⟩
    refine List.map_congr_left fun j hj => ?_
    obtain ⟨hlo, hhi⟩ := List.mem_range'_1.1 hj
    exact hone.blockCode hr (by omega) (by omega)

/-- The elements of a block, from row r up. -/
theorem State.blockRows_taken (s : State) {r k cols : Nat} (hr : r + k ≤ 16) (hcols : cols ≤ 16) :
    ElementsTaken s (s.blockRows n x ta tb tc readsB out cols k r).1 n x ta tb readsB (fun i j => r ≤ i ∧ i < r + k ∧ j < cols)
      ∧ (s.blockRows n x ta tb tc readsB out cols k r).2
        = (List.range' r k).map fun i => (List.range cols).map (s.blockCode n x ta tb tc readsB out i) := by
  induction k generalizing s r with
  | zero => exact ⟨.none s (by omega), rfl⟩
  | succ k ih =>
    rw [List.range'_succ, List.map_cons, State.blockRows]
    obtain ⟨hrow, hcodes⟩ := s.blockRow_taken (n := n) (x := x) (ta := ta) (tb := tb) (tc := tc) (readsB := readsB) (out := out)
      (r := r) (c := 0) (k := cols) (by omega) (by omega)
    obtain ⟨hrest, hrows⟩ := ih (s.blockRow n x ta tb tc readsB out r cols 0).1 (r := r + 1) (by omega)
    refine ⟨(hrow.trans hrest (by omega)).of_iff (by omega), ?_⟩
    simp only [hcodes, hrows, List.range_eq_range']
    refine congrArg _ (List.map_congr_left fun i hi => List.map_congr_left fun j hj => ?_)
    obtain ⟨hlo, hhi⟩ := List.mem_range'_1.1 hi
    obtain ⟨-, hj⟩ := List.mem_range'_1.1 hj
    exact hrow.blockCode (by omega) (by omega) (by omega)

end

end Sys2Proof.Machine
end

section
/-! Blocks of the vector engine and VLEN (R156 to R174): one block of a command, the start of a command, VECTOR_SET_LENGTH. -/

namespace Sys2Proof.Proofs

open Machine Claims

/-! ### The frame of a vector command -/

section
variable {s r : State} {n : Fin 128} {parts : List Part}

theorem vectorRegs_not_record {n off : Nat} (h : VectorRegs n off) : ¬RecordBlock off := by
  refine not_recordBlock_core (n := n) ?_
  simp only [VectorRegs, Reg.QUEUE_STATUS, Reg.VX_FLAGS, Reg.VX_BLOCK_CYCLES, Reg.VX_HAZARD_CYCLES, Reg.VX_VLEN] at h
  omega

/-- The replacement of a command in the vector queue is in the frame of a vector command. -/
theorem vectorChanges_putEntryQ (h : Changes parts (VectorRegs n) s r) (hcore : .core ∈ parts) (y : QEntry) :
    Changes parts (VectorRegs n) s (r.putEntryQ n 1 y) :=
  h.trans ((State.changes_setQueue r n 1 _).mono (by simpa using hcore) fun _ => .inl)

end

/-! ### What a block needs -/

/-- TB of a vector command (R124). -/
abbrev tileB (x : QEntry) : Tile := x.tile (cmdField x.cmd 12 6)

/-- The HEAD register of a vector command's slot. -/
abbrev slotOf (n : Nat) (x : QEntry) : Nat := slotHead n (isOp 3 x) (slotIndex x)

/-- A vector command's slot reads B (R158). -/
abbrev readsB (s : State) (n : Nat) (x : QEntry) : Bool := s.slotReadsB n (isOp 3 x) (slotIndex x)

/-- The operands of a block, its shape, and what it reads hold no error (R157, R369). -/
structure BlockSound (s : State) (n : Nat) (x : QEntry) (ta tc : Tile) (rows cols : Nat) : Prop where
  source : stepTile (x.tile (cmdField x.cmd 6 6)) 0 (portAddress x.s0) = .ok ta
  target : stepTile (x.tile (cmdField x.cmd 18 6)) 1 (portAddress x.s1) = .ok tc
  shape : s.blockShape n tc = (rows, cols)
  rows_le : rows ≤ 16
  cols_le : cols ≤ 16
  cols_tile : cols ≤ tc.cols
  format : formatVx tc.format = true
  fit : tc.rowBytes ≤ tc.stride
  slot : ∀ off ∈ s.slotRegs n (isOp 3 x) (slotIndex x), s.arrayErrors off = []
  vregs : ∀ e ∈ s.mem.upsets, e.1 < pathBase
  clean : CleanSpans s (blockReads n ta (tileB x) (readsB s n x) (s.fld (slotOf n x) ⟨11, 2⟩) (s.fld (slotOf n x) ⟨13, 4⟩)
    rows cols)

/-- A block reads the same in two states: memory, the cores' tables and the slots are the same. -/
structure SameBlock (n : Nat) (s r : State) : Prop where
  core : r.core = s.core
  mem : r.mem = s.mem
  slots : SameSlots n s r

section
variable {s r t : State} {n : Fin 128} {x : QEntry} {ta tc : Tile} {rows cols : Nat}

theorem blockSound_of_ready (h : BlockReady s n x ta tc rows cols) : BlockSound s n x ta tc rows cols := by
  obtain ⟨-, -, hsource, htarget, hrows, hcols, hrows_le, hcols_le, hformat, hfit, hslot, hvregs, hclean⟩ := h
  exact ⟨hsource, htarget, by rw [hrows, hcols]; rfl, hrows_le, hcols_le, by omega, hformat, hfit, hslot, hvregs, hclean⟩

theorem BlockSound.congr (h : BlockSound s n x ta tc rows cols) (hsame : SameBlock n s r) : BlockSound r n x ta tc rows cols where
  source := h.source
  target := h.target
  shape := by simpa only [State.blockShape, State.vlenOf, hsame.core] using h.shape
  rows_le := h.rows_le
  cols_le := h.cols_le
  cols_tile := h.cols_tile
  format := h.format
  fit := h.fit
  slot := by simpa only [hsame.slots.slotRegs, State.arrayErrors, State.errorsIn, hsame.mem] using h.slot
  vregs := by simpa only [hsame.mem] using h.vregs
  clean := by
    simpa only [hsame.slots.slotReadsB, hsame.slots.head, CleanSpans, State.lineErrors, State.linePoisoned, State.readsDram,
      State.pageUnwritten, hsame.mem] using h.clean

/-- A block leaves of r what it leaves of a state that reads the same (R157). -/
theorem blockDone_congr (h : BlockDone r t n x ta tc rows cols) (hsame : SameBlock n s r) : BlockDone s t n x ta tc rows cols := by
  have hvreg : ∀ v i j, r.vreg n v i j = s.vreg n v i j := fun v i j => by simp only [State.vreg, hsame.core]
  have helement : ∀ tb reads i j, r.blockElement n x ta tb reads i j = s.blockElement n x ta tb reads i j :=
    fun tb reads i j => State.blockElement_congr hsame.mem hsame.slots (fun v => hvreg v i j) x ta tb reads
  have hqueue : ∀ m e, r.queue m e = s.queue m e := fun m e => by simp only [State.queue, hsame.core]
  have hvlen : r.vlenOf n = s.vlenOf n := by simp only [State.vlenOf, hsame.core]
  simpa only [BlockDone, BytesKept, Replaces, hsame.slots.head, hsame.slots.slotReadsB, hsame.slots.slotWrites, helement, hvreg,
    hqueue, hvlen, State.byteAt_congr hsame.mem] using h

theorem sameBlock_begin (s : State) (n : Nat) : SameBlock n s s.begin := ⟨rfl, rfl, fun _ _ => rfl⟩

/-- VX.HAZARD_CYCLES is no part of what a block reads. -/
theorem sameBlock_hazard (s : State) (n held : Nat) : SameBlock n s (s.begin.addWrap (Reg.VX_HAZARD_CYCLES n) held) :=
  ⟨rfl, rfl, fun _ ho => State.rd_wr_ne s.begin _ (by unfold Reg.VX_HAZARD_CYCLES; omega)⟩

/-! ### One block -/

/-- The slot of a vector command writes its output tile (R157). -/
def blockOut (s : State) (n : Nat) (x : QEntry) : Bool := s.flag (slotOf n x) ⟨17, 1⟩

/-- The elements of a block, computed: the state, and the rows of encodings for the output tile. -/
def computedBlock (s : State) (n : Nat) (x : QEntry) (ta tc : Tile) (rows cols : Nat) : State × List (List Nat) :=
  s.blockRows n x ta (tileB x) tc (readsB s n x) (blockOut s n x) cols rows 0

/-- A block with its output written, before the registers count it. -/
def writtenBlock (s : State) (n : Nat) (x : QEntry) (ta tc : Tile) (rows cols : Nat) : State :=
  (if blockOut s n x then (computedBlock s n x ta tc rows cols).1.writeRows n tc (computedBlock s n x ta tc rows cols).2 0
    else (computedBlock s n x ta tc rows cols).1).healVregs n rows cols (s.slotWrites n (isOp 3 x) (slotIndex x))

/-- VX.BLOCK_CYCLES and VX.VLEN after a block (R176, R179). -/
def countedBlock (s : State) (n cost : Nat) : State :=
  ((s.addWrap (Reg.VX_BLOCK_CYCLES n) cost).setFld (Reg.VX_VLEN n) Fl.VX_VLEN_ROWS ((s.vlenOf n).1 - 1)).setFld (Reg.VX_VLEN n)
    Fl.VX_VLEN_COLUMNS ((s.vlenOf n).2 - 1)

/-- The command after a block. -/
def entryAfterBlock (s : State) (n : Nat) (x : QEntry) (tc : Tile) (rows cols : Nat) : QEntry :=
  { x.stepPorts.1 with
    workDone := x.stepPorts.2, block := (rows, cols), vregs := s.slotWrites n (isOp 3 x) (slotIndex x),
    wrote := x.wrote ++ if s.fld (slotOf n x) ⟨17, 1⟩ = 1 then (List.range rows).map (fun r => tc.span n r 0 cols) else [] }

theorem blockReads_hoop {tb : Tile} {reads : Bool} {mode index : Nat} :
    ∀ p ∈ blockReads n ta tb reads mode index rows cols, hoopBase ≤ p.1 := by
  have hspan : ∀ (tile : Tile) r c k, hoopBase ≤ (tile.span n r c k).1 := fun tile r c k => hoopBase_le_hoopAddr ..
  intro p hp
  obtain hp | hp := List.mem_append.1 hp
  · obtain ⟨r, -, rfl⟩ := List.mem_map.1 hp
    exact hspan ..
  · cases reads with
    | false => exact absurd hp List.not_mem_nil
    | true =>
      obtain ⟨q, -, rfl⟩ := List.mem_map.1 hp
      exact hspan ..

/-- Vector tile registers without latent errors are read as they stand. -/
theorem readVregs_clean (h : ∀ e ∈ s.mem.upsets, e.1 < pathBase) (who : Option Nat) (vs : List Nat) :
    s.readVregs who n rows cols vs = (s, false) := by
  have hnone : s.mem.upsets.filter (fun e => pairInBlock n rows cols vs false e.1) = [] := by
    refine List.filter_eq_nil_iff.2 fun e he hin => ?_
    have hlow := h e he
    simp only [pairInBlock, Bool.and_eq_true, decide_eq_true_eq] at hin
    omega
  simp only [State.readVregs, hnone]
  rfl

/-- A block whose operands and slot hold no error computes its elements, writes them, and counts. -/
theorem vectorBlock_sound (h : BlockSound s n x ta tc rows cols) :
    ∃ cost, s.vectorBlock n x
      = (countedBlock (writtenBlock s n x ta tc rows cols) n cost).putEntryQ n 1 (entryAfterBlock s n x tc rows cols) := by
  have hslot := s.readArrays_sound (who := s.coreTenant n) h.slot
  have hload := State.loadSpans_clean (s.coreTenant n) .urgent blockReads_hoop h.clean
  have hvregs := readVregs_clean (n := n) (rows := rows) (cols := cols) h.vregs (s.coreTenant n)
    (s.slotVregs n (isOp 3 x) (slotIndex x))
  have hout : ∀ l : List (Nat × Nat), (if blockOut s n x = true then l else [])
      = if s.fld (slotOf n x) ⟨17, 1⟩ = 1 then l else [] := fun l =>
    if_congr beq_iff_eq rfl rfl
  unfold State.vectorBlock
  simp only [h.source, h.target, h.shape, hslot, hload, hvregs, Bool.or_self, Bool.false_eq_true, if_false]
  refine ⟨_, congrArg₂ (State.putEntryQ · n 1 ·) rfl ?_⟩
  rw [entryAfterBlock, ← hout]
  simp only [State.inBlock, Option.getD_some, h.shape]
  rfl

theorem computedBlock_taken (s : State) (x : QEntry) (ta tc : Tile) (hrows : rows ≤ 16) (hcols : cols ≤ 16) :
    ElementsTaken s (computedBlock s n x ta tc rows cols).1 n x ta (tileB x) (readsB s n x)
        (fun i j => 0 ≤ i ∧ i < 0 + rows ∧ j < cols)
      ∧ (computedBlock s n x ta tc rows cols).2 = (List.range' 0 rows).map fun i => (List.range cols).map
        (s.blockCode n x ta (tileB x) tc (readsB s n x) (blockOut s n x) i) :=
  s.blockRows_taken (by omega) hcols

/-- The formats of the vector engine fill whole bytes (R127). -/
theorem formatBits_vx {code : Nat} (h : formatVx code = true) : formatBits code = 8 * (formatBits code / 8) := by
  obtain h | h := Bool.or_eq_true_iff.1 h
  · exact formatBits_whole (of_decide_eq_true h)
  · rw [beq_iff_eq.1 h]
    rfl

/-- The bytes of a block in its output tile. -/
def InBlock (n : Nat) (tc : Tile) (rows cols a : Nat) : Prop :=
  ∃ r < rows, hoopAddr n (tc.base + r * tc.stride) ≤ a
    ∧ a < hoopAddr n (tc.base + r * tc.stride) + cols * (formatBits tc.format / 8)

/-- What a block has done before the registers count it: its elements stand in the vector tile registers, and the output tile
holds their encodings where the slot has an output (R157, R164). -/
structure BlockWritten (s u : State) (n : Nat) (x : QEntry) (ta tc : Tile) (rows cols : Nat) : Prop where
  changes : Changes [.core, .mem] (· = Reg.VX_FLAGS n) s u
  core : u.core = { s.core with vregs := u.core.vregs }
  output : blockOut s n x = true → ∀ r < rows, ∀ c < cols, u.element n tc r c
    = s.blockCode n x ta (tileB x) tc (readsB s n x) true r c
      % 2 ^ formatBits tc.format
  kept : BytesKept s u fun a => blockOut s n x = true ∧ InBlock n tc rows cols a
  taken : ∀ r < rows, ∀ c < cols, ∀ v, u.vreg n v r c =
    (s.blockElement n x ta (tileB x) (readsB s n x) r c).vreg (fun v => s.vreg n v r c) v
  same : ∀ r < 16, ∀ c < 16, ¬(r < rows ∧ c < cols) → ∀ v, u.vreg n v r c = s.vreg n v r c

/-- Rows of encodings in an output tile. -/
theorem blockRows_written (s : State) (h : formatVx tc.format = true) (hcols : cols ≤ tc.cols) (hfit : tc.rowBytes ≤ tc.stride)
    (v : Nat → Nat → Nat) :
    let u := s.writeRows n tc ((List.range' 0 rows).map fun i => (List.range cols).map (v i)) 0
    OnlyMem s u ∧ (∀ r < rows, ∀ c < cols, u.element n tc r c = v r c % 2 ^ formatBits tc.format)
      ∧ BytesKept s u (InBlock n tc rows cols) := by
  have hw := formatBits_vx h
  rw [Tile.rowBytes_of_whole hw] at hfit
  obtain ⟨honly, helement, hkept⟩ := s.writeRows_written (n := n) (t := tc) (cols := cols) rfl
    ((Nat.mul_le_mul_right _ hcols).trans hfit) v 0 rows
  refine ⟨honly, fun r hr c hc => ?_, fun a ha => hkept a fun r _ hr hin => ha ⟨r, by omega, ?_⟩⟩
  · rw [State.element_bytes _ hw, helement r (Nat.zero_le r) (by omega) c hc, natLE_bytesLE_mod, show 256 = 2 ^ 8 by rfl, ← pow_mul,
      ← hw]
  · simpa [Tile.elementAddr] using hin

theorem writtenBlock_written (h : BlockSound s n x ta tc rows cols) :
    BlockWritten s (writtenBlock s n x ta tc rows cols) n x ta tc rows cols := by
  obtain ⟨htaken, hcodes⟩ := computedBlock_taken (n := n) s x ta tc h.rows_le h.cols_le
  obtain ⟨honly, houtput, hkept⟩ := blockRows_written (n := n) (rows := rows) (computedBlock s n x ta tc rows cols).1 h.format
    h.cols_tile h.fit (s.blockCode n x ta (tileB x) tc (readsB s n x) (blockOut s n x))
  rw [← hcodes] at honly houtput hkept
  have hheal : ∀ u : State, OnlyMem u (u.healVregs n rows cols (s.slotWrites n (isOp 3 x) (slotIndex x))) := fun _ => rfl
  have hmem : OnlyMem (computedBlock s n x ta tc rows cols).1 (writtenBlock s n x ta tc rows cols) := by
    unfold writtenBlock
    split
    · exact honly.trans (hheal _)
    · exact hheal _
  have hvreg : ∀ v i j, (writtenBlock s n x ta tc rows cols).vreg n v i j = (computedBlock s n x ta tc rows cols).1.vreg n v i j :=
    fun v i j => by simp only [State.vreg, hmem.core]
  have hread : ∀ a, (computedBlock s n x ta tc rows cols).1.byteAt a = s.byteAt a := State.byteAt_congr htaken.only.mem
  refine ⟨(htaken.only.changes.mono (by simp) fun _ => id).trans (hmem.changes.mono (by simp) fun _ => False.elim),
    ?_, ?_, ?_, ?_, ?_⟩
  · rw [hmem.core]
    exact htaken.only.core
  · intro hout r hr c hc
    have hwritten := houtput r hr c hc
    rw [hout] at hwritten
    rw [← hwritten, writtenBlock, if_pos hout]
    rfl
  · intro a ha
    unfold writtenBlock
    split
    · next hout => exact (hkept a fun hin => ha ⟨hout, hin⟩).trans (hread a)
    · exact hread a
  · intro r hr c hc v
    have := h.rows_le
    have := h.cols_le
    rw [hvreg, htaken.taken r (by omega) c (by omega) (by omega)]
  · intro r hr c hc hoff v
    rw [hvreg, htaken.same r hr c hc (by omega)]

theorem countedBlock_changes (s : State) (n cost : Nat) :
    Changes [] (fun off => off = Reg.VX_BLOCK_CYCLES n ∨ off = Reg.VX_VLEN n) s (countedBlock s n cost) :=
  ((Changes.wr s _ _).mono (fun _ => id) fun _ => .inl).trans
    (((Changes.setFld _ _ _ _).trans (Changes.setFld _ _ _ _)).mono (fun _ => id) fun _ => .inr)

/-- What one block leaves, up to the records of the command (R157 to R174). -/
theorem vectorBlock_done (h : BlockSound s n x ta tc rows cols) :
    Changes [.core, .mem] (VectorRegs n) s (s.vectorBlock n x)
      ∧ (s.vectorBlock n x).rd (Reg.VX_HAZARD_CYCLES n) = s.rd (Reg.VX_HAZARD_CYCLES n)
      ∧ ∀ t, EventsOnly (s.vectorBlock n x) t → BlockDone s t n x ta tc rows cols := by
  obtain ⟨cost, hblock⟩ := vectorBlock_sound h
  have hwritten := writtenBlock_written h
  generalize writtenBlock s n x ta tc rows cols = u at hblock hwritten
  have hcounted := countedBlock_changes u n cost
  have hcore : (countedBlock u n cost).core = u.core := rfl
  have hmem : (countedBlock u n cost).mem = u.mem := rfl
  generalize countedBlock u n cost = r at hblock hcounted hcore hmem
  have hframe : Changes [.core, .mem] (VectorRegs n) s r :=
    (hwritten.changes.mono (fun _ => id) fun _ => .inr ∘ .inl).trans (hcounted.mono (by simp) fun _ => by unfold VectorRegs; tauto)
  rw [hblock]
  refine ⟨vectorChanges_putEntryQ hframe (by simp) _, ?_, fun t ht => ?_⟩
  · have hnot : ¬RecordBlock (Reg.VX_HAZARD_CYCLES n) := vectorRegs_not_record (n := n) (.inr (.inr (.inr (.inl rfl))))
    rw [State.putEntryQ, State.rd_setQueue_ne _ _ (by simp [Reg.VX_HAZARD_CYCLES, Reg.QUEUE_STATUS]),
      hcounted.2.1 _ hnot (by simp [Reg.VX_HAZARD_CYCLES, Reg.VX_BLOCK_CYCLES, Reg.VX_VLEN]),
      hwritten.changes.2.1 _ hnot (by simp [Reg.VX_HAZARD_CYCLES, Reg.VX_FLAGS])]
  · have hvreg : ∀ v i j, t.vreg n v i j = u.vreg n v i j := fun v i j => by
      rw [State.vreg, ht.core, State.vreg, ← hcore]
      rfl
    have hbyte : ∀ a, t.byteAt a = u.byteAt a := fun a => by
      rw [ht.byteAt, State.byteAt_putEntryQ, State.byteAt_congr hmem]
    have hqueues : r.core.queues = s.core.queues := by rw [hcore, hwritten.core]
    have hvlen : t.vlenOf n = s.vlenOf n := by
      have hput : t.core.vlen = r.core.vlen := congrArg (·.vlen) ht.core
      rw [State.vlenOf, hput, hcore, hwritten.core]
      rfl
    have hout : blockOut s n x = true ↔ s.fld (slotOf n x) ⟨17, 1⟩ = 1 := beq_iff_eq
    refine ⟨fun i hi j hj => ⟨fun hon => ?_, fun v _ => (hvreg v i j).trans (hwritten.taken i hi j hj v)⟩, ?_, ?_, hvlen, ?_⟩
    · have hw := formatBits_vx h.format
      rw [State.element_bytes t hw, State.bytesAt_congr fun k _ => hbyte _, ← State.element_bytes u hw]
      exact hwritten.output (hout.2 hon) i hi j hj
    · exact fun a ha => (hbyte a).trans (hwritten.kept a fun hin => ha ⟨hout.1 hin.1, hin.2⟩)
    · exact fun v _ i hi j hj hoff => (hvreg v i j).trans (hwritten.same i hi j hj hoff v)
    · exact replaces_of_putEntryQ ht.core hqueues rfl (by decide)

end

/-! ### The commands that take blocks -/

section
variable {s : State} {n : Fin 128} {x : QEntry} {ta tc : Tile} {rows cols : Nat}

theorem exec_vectorChain (k : Nat) (s : State) : exec (.vectorChain n k) s = execVectorChain n k s := rfl
theorem exec_vectorElement (k : Nat) (s : State) : exec (.vectorElement n k) s = execVectorElement n k s := rfl
theorem exec_vectorBlock (held : Nat) (s : State) : exec (.vectorBlock n held) s = execVectorBlock n held s := rfl
theorem exec_vectorSetLength (s : State) : exec (.vectorSetLength n) s = execVectorSetLength n s := rfl

/-- The oldest command at work of a block that is ready takes blocks (R173). -/
theorem running_of_ready (h : BlockReady s n x ta tc rows cols) :
    s.running n 1 (fun _ => true) = some x ∧ takesBlocks x = true := by
  obtain ⟨hrunning, hop, _⟩ := h
  refine ⟨hrunning, ?_⟩
  obtain hop | hop := hop <;> simp [takesBlocks, isOp, hop]

theorem nextBlocks_one (h : BlockReady s n x ta tc rows cols) : s.nextBlocks n 1 = s.vectorBlock n x := by
  obtain ⟨hrunning, htakes⟩ := running_of_ready h
  simp only [State.nextBlocks, State.nextBlock, hrunning, htakes, if_true]

/-- A command that ends in one block does what the block does. -/
theorem does_block {c : Instr} (hready : BlockReady s n x ta tc rows cols) (hc : exec c s = finish (s.begin.vectorBlock n x)) :
    Does s c [.core, .mem] (VectorRegs n) fun t => BlockDone s t n x ta tc rows cols := by
  have hsame := sameBlock_begin s n
  obtain ⟨hframe, -, hdone⟩ := vectorBlock_done ((blockSound_of_ready hready).congr hsame)
  exact does_of_finish hc hframe.of_begin fun t ht => blockDone_congr (hdone t ht) hsame

theorem startVector_none {op : Nat} (h : s.startable n 1 (isOp op) = none) : s.startVector n op = s := by
  simp only [State.startVector, h]

theorem vectorChain_takes (hready : BlockReady s n x ta tc rows cols) (hnone : s.startable n 1 (isOp 2) = none) :
    Does s (.vectorChain n 1) [.core, .mem] (VectorRegs n) fun t => BlockDone s t n x ta tc rows cols := by
  refine does_block hready ?_
  rw [exec_vectorChain, execVectorChain, startVector_none (s := s.begin) hnone, nextBlocks_one (s := s.begin) hready]

theorem vectorElement_takes (hready : BlockReady s n x ta tc rows cols) (hnone : s.startable n 1 (isOp 3) = none) :
    Does s (.vectorElement n 1) [.core, .mem] (VectorRegs n) fun t => BlockDone s t n x ta tc rows cols := by
  refine does_block hready ?_
  rw [exec_vectorElement, execVectorElement, startVector_none (s := s.begin) hnone, nextBlocks_one (s := s.begin) hready]

/-- The state from which a VECTOR_BLOCK takes its block: a hazard counts the cycles that the unit held it (R174). -/
def heldBlock (s : State) (n : Nat) (x : QEntry) (held : Nat) : State :=
  if s.hazard n x then s.begin.addWrap (Reg.VX_HAZARD_CYCLES n) held else s.begin

theorem sameBlock_heldBlock (s : State) (n : Nat) (x : QEntry) (held : Nat) : SameBlock n s (heldBlock s n x held) := by
  unfold heldBlock
  split
  · exact sameBlock_hazard s n held
  · exact sameBlock_begin s n

theorem heldBlock_changes (s : State) (n : Nat) (x : QEntry) (held : Nat) : Changes [] (VectorRegs n) s (heldBlock s n x held) := by
  unfold heldBlock
  split
  · exact (Changes.wr s.begin _ _).of_begin.mono (fun _ => id) fun _ => .inr ∘ .inr ∘ .inr ∘ .inl
  · exact (Changes.begin s).mono (fun _ => id) fun _ => False.elim

theorem hazardCycles_heldBlock (s : State) (n : Nat) (x : QEntry) (held : Nat) :
    ((heldBlock s n x held).rd (Reg.VX_HAZARD_CYCLES n)).toNat
      = ((s.rd (Reg.VX_HAZARD_CYCLES n)).toNat + if s.hazard n x = true then held else 0) % 2 ^ 64 := by
  unfold heldBlock
  split
  · rw [State.addWrap, State.rd_wr_same, BitVec.toNat_add, BitVec.toNat_ofNat, Nat.add_mod_mod]
    rfl
  · exact (Nat.mod_eq_of_lt (BitVec.isLt _)).symm

theorem vectorBlock_takes (held : Nat) (hready : BlockReady s n x ta tc rows cols) :
    Does s (.vectorBlock n held) [.core, .mem] (VectorRegs n) fun t => BlockDone s t n x ta tc rows cols
      ∧ (t.rd (Reg.VX_HAZARD_CYCLES n)).toNat = ((s.rd (Reg.VX_HAZARD_CYCLES n)).toNat
        + if s.hazard n x = true then held else 0) % 2 ^ 64 := by
  have hsame := sameBlock_heldBlock s n x held
  obtain ⟨hframe, hcycles, hdone⟩ := vectorBlock_done ((blockSound_of_ready hready).congr hsame)
  have hexec : exec (.vectorBlock n held) s = finish ((heldBlock s n x held).vectorBlock n x) := by
    obtain ⟨hrunning, htakes⟩ := running_of_ready (s := s.begin) hready
    rw [exec_vectorBlock]
    simp only [execVectorBlock, hrunning, htakes, if_true]
    rfl
  refine does_of_finish hexec (((heldBlock_changes s n x held).mono (by simp) fun _ => id).trans hframe) fun t ht =>
    ⟨blockDone_congr (hdone t ht) hsame, ?_⟩
  rw [ht.rd _ (vectorRegs_not_record (.inr (.inr (.inr (.inl rfl))))), hcycles, hazardCycles_heldBlock]

end

/-! ### The start of a command, and VLEN (R89, R160) -/

section
variable {s : State} {n : Fin 128} {x : QEntry}

/-- A command as it starts (R89). -/
def startedCmd (x : QEntry) : QEntry := { x with started := true, waitSince := none }

theorem startVector_mayStart {op : Nat} (h : MayStart s n 1 x op) : s.startVector n op = s.putEntryQ n 1 (startedCmd x) := by
  simp only [State.startVector, startable_of_mayStart h]
  rfl

/-- A command that ends as the front vector command starts does no more than start it. -/
theorem does_startVector {c : Instr} {op : Nat} (hmay : MayStart s n 1 x op) (hc : exec c s = finish (s.begin.startVector n op)) :
    Does s c [.core] (VectorRegs n) fun t => Replaces s t n 1 x (startedCmd x) := by
  rw [startVector_mayStart (s := s.begin) hmay] at hc
  refine does_of_finish hc (vectorChanges_putEntryQ ((Changes.begin s).mono (by simp) fun _ => False.elim) (by simp) _) fun t ht => ?_
  exact replaces_of_putEntryQ ht.core rfl rfl (by decide)

/-- A replacement of a replacement. -/
theorem replaces_trans {r t : State} {e : Nat} {y z : QEntry} (h : Replaces s r n e x y) (g : Replaces r t n e y z)
    (huid : y.uid = x.uid) : Replaces s t n e x z := by
  refine ⟨?_, fun m f hne => (g.2 m f hne).trans (h.2 m f hne)⟩
  rw [g.1, h.1, List.map_map]
  refine List.map_congr_left fun w _ => ?_
  by_cases hw : w.uid = x.uid
  · simp [hw, huid]
  · simp [hw, huid]

/-- A command at work: started, with steps left. -/
def atWork (z : QEntry) : Bool := z.started && !z.workDone && z.failed.isNone

/-- A queue's entry after every entry numbered like x was replaced by y. -/
def replacedBy (x y z : QEntry) : QEntry := if z.uid = x.uid then y else z

/-- A command that has just started while no other is at work is the one at work (R89, R173). -/
theorem running_of_started {r : State} {op : Nat} (hmay : MayStart s n 1 x op) (hwork : x.workDone = false) (hfailed : x.failed = none)
    (hidle : ∀ y ∈ s.queue n 1, y.started = true → y.workDone = true ∨ y.failed.isSome = true)
    (hstarted : Replaces s r n 1 x (startedCmd x)) (hruns : r.coresRun = true) :
    r.running n 1 (fun _ => true) = some (startedCmd x) := by
  obtain ⟨hfront, -⟩ := hmay
  have hat : atWork (replacedBy x (startedCmd x) x) = true := by simp [replacedBy, atWork, startedCmd, hwork, hfailed]
  have hother : ∀ z ∈ s.queue n 1, ¬z.uid = x.uid → ¬atWork (replacedBy x (startedCmd x) z) = true := fun z hz hne hon => by
    rw [replacedBy, if_neg hne] at hon
    simp only [atWork, Bool.and_eq_true, Bool.not_eq_true', Option.isNone_iff_eq_none] at hon
    obtain ⟨⟨hbegun, hleft⟩, hsound⟩ := hon
    simpa [hleft, hsound] using hidle z hz hbegun
  obtain ⟨z, hz⟩ := Option.isSome_iff_exists.1 (List.find?_isSome (p := atWork ∘ replacedBy x (startedCmd x)).2
    ⟨x, List.mem_of_find?_eq_some hfront, hat⟩)
  have hput : replacedBy x (startedCmd x) z = startedCmd x :=
    if_pos (by_contra fun hne => hother z (List.mem_of_find?_eq_some hz) hne (List.find?_some (p := atWork ∘ _) hz))
  have hqueue : r.queue n 1 = (s.queue n 1).map (replacedBy x (startedCmd x)) := hstarted.1
  simp only [State.running, hruns, if_true, Bool.and_true, hqueue, List.find?_map]
  exact (congrArg (Option.map _) hz).trans (congrArg some hput)

theorem coresRun_setQueue (s : State) (n : Fin 128) (q : List QEntry) : (s.setQueue n 1 q).coresRun = s.coresRun := by
  obtain ⟨hlo, hhi⟩ := coreBase_bounds n
  have hother : ∀ off, off < 0x1000000 ∨ 0x2000000 ≤ off → off ≠ Reg.QUEUE_STATUS n 1 := fun off ho => by
    unfold Reg.QUEUE_STATUS
    omega
  have htrip := State.fld_congr (s.rd_setQueue_ne q (hother Reg.THERMAL_TRIP (by decide)))
  have hready := State.fld_congr (s.rd_setQueue_ne q (hother Reg.SECURITY_BOOT_STATUS (by decide)))
  simp only [State.coresRun, State.clocked, State.ready, State.flag, htrip, hready]

/-- VECTOR_SET_LENGTH at the front, with every command before it done, starts and sets VLEN in one step (R160). -/
theorem exec_vectorSetLength_starts (hmay : MayStart s n 1 x 4) (hwork : x.workDone = false) (hfailed : x.failed = none)
    (hidle : ∀ y ∈ s.queue n 1, y.started = true → y.workDone = true ∨ y.failed.isSome = true) :
    exec (.vectorSetLength n) s = finish (((s.begin.putEntryQ n 1 (startedCmd x)).setVlen n (cmdField x.cmd 6 4 + 1)
      (cmdField x.cmd 10 4 + 1)).putEntryQ n 1 (madeOne (startedCmd x))) := by
  have hop : isOp 4 (startedCmd x) = true := by
    obtain ⟨-, -, -, -, -, -, hop⟩ := hmay
    exact beq_iff_eq.2 hop
  have hruns : (s.begin.putEntryQ n 1 (startedCmd x)).coresRun = true := by
    obtain ⟨-, hruns, -⟩ := hmay
    exact (coresRun_setQueue ..).trans hruns
  have hrunning := running_of_started hmay hwork hfailed hidle
    (replaces_of_putEntryQ (t := s.begin.putEntryQ n 1 (startedCmd x)) rfl rfl rfl (by decide)) hruns
  rw [exec_vectorSetLength, execVectorSetLength]
  simp only [startVector_mayStart (s := s.begin) hmay, hrunning, hop, if_true]
  rfl

theorem vectorSetLength_sets (hmay : MayStart s n 1 x 4) (hwork : x.workDone = false) (hfailed : x.failed = none)
    (hidle : ∀ y ∈ s.queue n 1, y.started = true → y.workDone = true ∨ y.failed.isSome = true) :
    Does s (.vectorSetLength n) [.core] (VectorRegs n) fun t =>
      t.vlenOf n = (cmdField x.cmd 6 4 + 1, cmdField x.cmd 10 4 + 1) ∧ Replaces s t n 1 x (madeOne (startedCmd x)) := by
  have hexec := exec_vectorSetLength_starts hmay hwork hfailed hidle
  have hstarted : Replaces s (s.begin.putEntryQ n 1 (startedCmd x)) n 1 x (startedCmd x) :=
    replaces_of_putEntryQ rfl rfl rfl (by decide)
  have hframe : Changes [.core] (VectorRegs n) s (s.begin.putEntryQ n 1 (startedCmd x)) :=
    vectorChanges_putEntryQ ((Changes.begin s).mono (by simp) fun _ => False.elim) (by simp) _
  generalize s.begin.putEntryQ n 1 (startedCmd x) = r at hexec hstarted hframe
  have hvlen : Changes [.core] (VectorRegs n) r (r.setVlen n (cmdField x.cmd 6 4 + 1) (cmdField x.cmd 10 4 + 1)) :=
    (Changes.setCore r _).mono (fun _ => id) fun _ => False.elim
  refine does_of_finish hexec (vectorChanges_putEntryQ (hframe.trans hvlen) (by simp) _) fun t ht => ⟨?_, ?_⟩
  · rw [State.vlenOf, ht.core]
    exact Sparse.get_set_same _ _ _ _
  · exact replaces_trans hstarted (replaces_of_putEntryQ ht.core rfl rfl (by decide)) rfl

end

/-- Settles O16: the elements of a block one after the other, each from what the block read. -/
theorem vectorBlocksComputeElements : Obligations.VectorBlocksComputeElements := by
  intro s n x
  refine ⟨fun ta tc rows cols => vectorChain_takes, fun ta tc rows cols => vectorElement_takes,
    fun ta tc rows cols held => vectorBlock_takes held, fun op blocks hmem hmay => ?_, vectorSetLength_sets⟩
  simp only [List.mem_cons, Prod.mk.injEq, List.not_mem_nil, or_false] at hmem
  obtain ⟨rfl, rfl⟩ | ⟨rfl, rfl⟩ := hmem
  · exact does_startVector hmay (exec_vectorChain 0 s)
  · exact does_startVector hmay (exec_vectorElement 0 s)

end Sys2Proof.Proofs
end
